-- ==== Sys2Proof/Word.lean ====
section
/-!
DEFINITION. The word types of the CM3224 lane, the exact quantities its control laws are written in,
and the operand records that the commands of `Syntax.lean` carry.
-/

namespace Sys2Proof

/-- A 32-bit word of a slot, a register, a frame payload or a parameter (R3). -/
abbrev Word := BitVec 32

/-- One byte, as SPI and the frame CRCs see it (R479). -/
abbrev Byte := BitVec 8

/-- A 24-bit data word of the loop instruction set, Q1.23 (R174). -/
abbrev W24 := BitVec 24

/-- A 56-bit accumulator, Q10.46 (R174). -/
abbrev W56 := BitVec 56

/-- An exact physical quantity. The manual writes its control laws over the reals and gives the
vendor programs no word length (log entry 3). -/
abbrev Q := Rat

/-- A time on the lane's own clock, or a global time, in whole nanoseconds (R367). -/
abbrev Ns := Nat

/-- Local axis number l, 0 to 7 (R11). -/
abbrev AxisNo := Fin 8

/-- Axis pair number k, 0 to 3 (R12). -/
abbrev PairNo := Fin 4

/-- Lane index i = L + 3 × ROLE, 0 to 5 (R272). -/
abbrev LaneNo := Fin 6

/-- Where a request came from (R397): the SPI port or one tunnel peer. -/
inductive Source where
  | spi
  | tunnel (ip : Word) (port : BitVec 16)
  deriving DecidableEq, Repr

/-- One mailbox request as the supervisor serves it: source, class and the header and payload words
of R401. The payload holds LEN / 4 words. -/
structure Req where
  src : Source
  cls : BitVec 4
  noseq : Bool
  tag : BitVec 16
  seq : BitVec 16
  arg0 : Word
  payload : List Word
  deriving DecidableEq, Repr

/-- A mailbox slot: sixteen words (R401). -/
abbrev Slot := List Word

/-- The engine an instruction of chapter 7 runs on (R173): the loop engine of one axis cell, or the
signal unit. -/
inductive EngineId where
  | loop (l : AxisNo)
  | su
  deriving DecidableEq, Repr

/-- The fields of a class 1h word below OP (R182). -/
structure MacOps where
  a : Bool
  bsrc : Bool
  ssrc : Bool
  ben : Bool
  bpt : BitVec 3
  bdst : Bool
  bst : Bool
  sm : BitVec 2
  spt : BitVec 3
  ssel : Bool
  sst : Bool
  deriving DecidableEq, Repr

/-- The levels of an axis cell's six bitstreams at one modulator clock (R47): bits 0 to 4 are DS0 to DS4, bit 5 is the
link-voltage input of the pair. -/
abbrev DsBits := BitVec 6

/-- What one current-loop sample finds at its inputs (R47, R52, R63): the bitstreams of the modulator clocks since the cell was last
told of them, oldest first and ending with the clock at which the comb gives the sample's output, and the times from the sample's
start to its duty write and to its HALT. -/
structure SampleIn where
  bits : List DsBits
  duty : Ns
  work : Ns
  deriving DecidableEq, Repr

/-- A two-axis vector in an electrical frame, A or V. -/
structure Vec2 where
  x : Q
  y : Q
  deriving DecidableEq, Repr

/-- A SENT frame as it stands on the line (R91): the times between successive falling edges, ns, in order. The first is the sync
pulse; then come the status nibble, the data nibbles, the CRC nibble and, where the sensor sends one, the pause pulse. -/
structure SentIn where
  pulses : List Ns
  deriving DecidableEq, Repr

/-- An SSI frame that ends (R92): the local time of its first clock edge as a listener sees it (R93), the data line's level before
the first clock, and the bits read, first bit most significant. -/
structure SsiIn where
  first : Ns
  lineBefore : Bool
  bits : List Bool
  deriving DecidableEq, Repr

/-- What a twin-link frame carries besides its TYPE and ID: SEQ, SUB and the payload words (R313). -/
structure TwinIn where
  seq : BitVec 16
  sub : BitVec 8
  payload : List Word
  deriving DecidableEq, Repr

/-- What the checks of R315 make of a received frame: discarded, discarded with the receiver's own ROLE as its one fault, or valid. -/
inductive TwinVerdict where
  | bad
  | ownRole
  | valid (type : Byte) (f : TwinIn)
  deriving DecidableEq, Repr

/-- A VTB channel (R339). -/
inductive Chan where
  | x
  | y
  deriving DecidableEq, Repr

/-- What a channel of the VTB receives (R341, R357): the local time of the first sample of VTB_RX at 0, and the samples from it on, one
every 4 ns, to the end of the frame. -/
structure VtbIn where
  first : Ns
  samples : List Bool
  deriving DecidableEq, Repr

/-- A CAN frame as received (R382, R385). -/
structure CanIn where
  id : BitVec 29
  ide : Bool
  fdf : Bool
  brs : Bool
  esi : Bool
  rtr : Bool
  dlc : BitVec 4
  data : List Byte
  ok : Bool
  deriving DecidableEq, Repr

/-- What an Ethernet frame that passed the MAC carries (R387, R390). -/
inductive EthKind where
  | udp (srcIp : Word) (srcPort dstPort : BitVec 16) (fragmented : Bool) (data : List Byte)
  | arp (ip : Word)
  | echo (ip : Word)
  | other
  deriving DecidableEq, Repr

/-- An Ethernet frame as received (R387): destination address, VLAN tag and content. -/
structure EthIn where
  ok : Bool
  dst : BitVec 48
  vid : Option (BitVec 12)
  kind : EthKind
  deriving DecidableEq, Repr

/-- A PMBus transaction of the regulator handshake (R423 to R425). -/
inductive PmbKind where
  | voutCommand
  | readVout
  | voutMode
  deriving DecidableEq, Repr

/-- How a PMBus transaction ended (R424). -/
inductive PmbResult where
  | ack (data : BitVec 16)
  | nack
  | pecError
  deriving DecidableEq, Repr

/-- The fault conditions of R425 that count over vehicle cycles. -/
inductive VoutFaultKind where
  | window
  | poll
  | pgood
  deriving DecidableEq, Repr

/-- The memories of R199's MEM field, with the axis of a loop-engine memory. -/
inductive MemId where
  | suProg
  | suOper
  | leProg (l : AxisNo)
  | leOper (l : AxisNo)
  deriving DecidableEq, Repr

/-- A memory the scrubber or a functional read meets (R300): supervisor SRAM, flash, or one of the
engine memories. -/
inductive EccMem where
  | sram
  | engine (m : MemId)
  | flash
  deriving DecidableEq, Repr

/-- What the ECC check of one word finds (R300). -/
inductive EccResult where
  | clean
  | corrected
  | uncorrectable
  deriving DecidableEq, Repr

/-- Who owns a configuration register with a parity fault (R297). -/
inductive ParityOwner where
  | cell (l : AxisNo)
  | pair (k : PairNo)
  | block (b : Fin 10)
  deriving DecidableEq, Repr

/-- Merge kinds of an exchange read (R284). -/
inductive MergeKind where
  | ordered
  | stable
  deriving DecidableEq, Repr

/-- The asynchronous sources of R284. -/
inductive ExClass where
  | globalTime
  | freeCounter
  | windowTag
  | resultTag
  | queuePointer
  | eventHead
  | status
  | flag
  | shadow
  | level
  | untagged
  deriving DecidableEq, Repr

/-- The fixed merge kind of a source (R284). -/
def ExClass.kind : ExClass → MergeKind
  | .globalTime | .freeCounter | .windowTag | .resultTag | .queuePointer | .eventHead => .ordered
  | .status | .flag | .shadow | .level | .untagged => .stable

/-- One step of an ORDERED source: global time advances by 8 ns with each LINK tick (R366), every other source by 1. -/
def ExClass.stepOf : ExClass → Nat
  | .globalTime => 8
  | _ => 1

/-- What the comparator checks of one core in a SUP cycle: 24 groups of 8 bits, group 0 in the lowest (R283). -/
abbrev CmpBits := BitVec 192

/-- What faults a split-mode core (R305). -/
inductive CoreFault where
  | watchdog
  | trap
  | ecc
  deriving DecidableEq, Repr

/-- A wake source of R427. -/
inductive WakeSrc where
  | si (n : Fin 6)
  | wake
  | key
  | vtbx
  | vtby
  | timer
  | spi
  | twin
  deriving DecidableEq, Repr

/-- What stops a self-test run (R475, R476), numbered as EV_SELFTEST_ABORTED numbers it (R503). -/
inductive StopCause where
  | request
  | safetyInput
  | twinClaim
  | wake
  | opAbort
  deriving DecidableEq, Repr

/-- The strap levels sampled at the release of reset (R35). -/
structure Straps where
  role : Bool
  split : Bool
  bootsrc : Bool
  compat : Bool
  deriving DecidableEq, Repr

/-- The levels an always-on tick samples (R255, R427): channel 1 and channel 2 of the six pairs, and the
WAKE and KEY pins. -/
structure AonIn where
  ch1 : BitVec 6
  ch2 : BitVec 6
  wake : Bool
  key : Bool
  deriving DecidableEq, Repr

end Sys2Proof
end

