-- ==== Sys2Proof/Syntax.lean ====
section
/-!
DEFINITION. The commands of the CM3224 lane: one constructor per row of `spec/opcode_table.json`, in the
table's order. A command that stands for an event carries `now`, the time on the lane's own clock at which it
occurs (log entry 4); the opcodes, the instructions and the register accesses happen at the clock's present time.
-/

namespace Sys2Proof

/-- A command of the block: a served mailbox request, a register access, an instruction of chapter 7 or an event at
the lane's inputs or timers. Each docstring names the rule of the row. -/
inductive Instr where
  /-- OP_NOP (R409). -/
  | opNop (r : Req)
  /-- OP_PAR_READ (R413). -/
  | opParRead (r : Req)
  /-- OP_PAR_WRITE (R414). -/
  | opParWrite (r : Req)
  /-- OP_PAR_INFO (R499). -/
  | opParInfo (r : Req)
  /-- OP_DIGEST_READ (R416). -/
  | opDigestRead (r : Req)
  /-- OP_AX_ENABLE (R409). -/
  | opAxEnable (r : Req)
  /-- OP_AX_DISABLE (R409). -/
  | opAxDisable (r : Req)
  /-- OP_AX_MOVE (R159). -/
  | opAxMove (r : Req)
  /-- OP_AX_ABORT (R161). -/
  | opAxAbort (r : Req)
  /-- OP_AX_RELEASE (R161). -/
  | opAxRelease (r : Req)
  /-- OP_AX_SETPOS (R83). -/
  | opAxSetpos (r : Req)
  /-- OP_AX_ARM_INDEX (R78). -/
  | opAxArmIndex (r : Req)
  /-- OP_AX_ARM_LATCH (R86). -/
  | opAxArmLatch (r : Req)
  /-- OP_AX_PRESET (R138). -/
  | opAxPreset (r : Req)
  /-- OP_AX_ALIGN (R106). -/
  | opAxAlign (r : Req)
  /-- OP_AX_CMP_WRITE (R164). -/
  | opAxCmpWrite (r : Req)
  /-- OP_AX_CMP_READ (R171). -/
  | opAxCmpRead (r : Req)
  /-- OP_AX_SETPOINT (R409). -/
  | opAxSetpoint (r : Req)
  /-- OP_AX_STATUS (R409). -/
  | opAxStatus (r : Req)
  /-- OP_SI_CLEAR (R258). -/
  | opSiClear (r : Req)
  /-- OP_SS_AXIS (R264). -/
  | opSsAxis (r : Req)
  /-- OP_SS_VEHICLE (R268). -/
  | opSsVehicle (r : Req)
  /-- OP_SS_RELEASE (R271). -/
  | opSsRelease (r : Req)
  /-- OP_PWR_LEVEL (R422). -/
  | opPwrLevel (r : Req)
  /-- OP_PWR_SLEEP (R429). -/
  | opPwrSleep (r : Req)
  /-- OP_PWR_SLEEP_DOZE (R429). -/
  | opPwrSleepDoze (r : Req)
  /-- OP_PWR_SHUTDOWN (R471). -/
  | opPwrShutdown (r : Req)
  /-- OP_PWR_STATUS (R526). -/
  | opPwrStatus (r : Req)
  /-- OP_CHOPF_CLEAR (R124). -/
  | opChopfClear (r : Req)
  /-- OP_ST_START (R473). -/
  | opStStart (r : Req)
  /-- OP_ST_STATUS (R526). -/
  | opStStatus (r : Req)
  /-- OP_TWIN_STATUS (R337). -/
  | opTwinStatus (r : Req)
  /-- OP_TWIN_CASTLE (R330). -/
  | opTwinCastle (r : Req)
  /-- OP_VF_STEER (R225). -/
  | opVfSteer (r : Req)
  /-- OP_VF_BRAKE (R251). -/
  | opVfBrake (r : Req)
  /-- OP_VF_PARK_REQUEST (R246). -/
  | opVfParkRequest (r : Req)
  /-- OP_VF_PARK_RELEASE (R246). -/
  | opVfParkRelease (r : Req)
  /-- OP_LEDGER_READ (R249). -/
  | opLedgerRead (r : Req)
  /-- OP_LEDGER_CLEAR (R250). -/
  | opLedgerClear (r : Req)
  /-- OP_SU_WRITE (R199). -/
  | opSuWrite (r : Req)
  /-- OP_SU_READ (R199). -/
  | opSuRead (r : Req)
  /-- OP_SU_COMMIT (R188). -/
  | opSuCommit (r : Req)
  /-- OP_SU_STATUS (R199). -/
  | opSuStatus (r : Req)
  /-- OP_VTB_STATUS (R379). -/
  | opVtbStatus (r : Req)
  /-- OP_CAN_STATUS (R383). -/
  | opCanStatus (r : Req)
  /-- OP_ETH_STATUS (R409). -/
  | opEthStatus (r : Req)
  /-- OP_MDIO_READ (R387). -/
  | opMdioRead (r : Req)
  /-- OP_MDIO_WRITE (R387). -/
  | opMdioWrite (r : Req)
  /-- OP_NOVMI_STATUS (R526). -/
  | opNovmiStatus (r : Req)
  /-- OP_DIAG_IDENT (R526). -/
  | opDiagIdent (r : Req)
  /-- OP_DIAG_COUNTERS (R508). -/
  | opDiagCounters (r : Req)
  /-- OP_LOG_READ (R417). -/
  | opLogRead (r : Req)
  /-- OP_EVENT_READ (R409). -/
  | opEventRead (r : Req)
  /-- OP_ABORT (R411). -/
  | opAbort (r : Req)
  /-- OP_NET_SEND (R409). -/
  | opNetSend (r : Req)
  /-- QUEUE_DOORBELL_PUSH (R493). -/
  | queueDoorbellPush (q : Fin 16) (ptr : BitVec 8)
  /-- QUEUE_DOORBELL_POP (R494). -/
  | queueDoorbellPop (q : Fin 16) (ptr : BitVec 8)
  /-- LANECTL_RESTART (R486). -/
  | lanectlRestart (key : Byte)
  /-- BOOTCTL_ERASE (R497). -/
  | bootctlErase (key : Byte)
  /-- BOOTCTL_PROGRAM (R497). -/
  | bootctlProgram (key : Byte)
  /-- BOOTCTL_CHECK_BOOT (R497). Valid: the signature check of R436 on the target bank. -/
  | bootctlCheckBoot (key : Byte) (valid : Bool)
  /-- AON_POSTED_WRITE (R490). Timer: PWRWTIMER, else PWRWAKE. -/
  | aonPostedWrite (timer : Bool) (value : Word)
  /-- INTSTAT_CLEAR (R495). -/
  | intstatClear (value : Word)
  /-- PARREC_CLEAR (R496). -/
  | parrecClear (value : Word)
  /-- GTIMEL_READ (R486). -/
  | gtimelRead (now : Ns)
  /-- REGISTER_WRITE (R481). The bytes of the frame, CMD first. -/
  | registerWrite (mosi : List Byte)
  /-- FSREQ (R290). -/
  | fsreq (reason : Byte)
  /-- TUNNEL_RESPONSE_SEND (R396). -/
  | tunnelResponseSend
  /-- NOP (R181). -/
  | nop (e : EngineId)
  /-- HALT (R181). -/
  | halt (e : EngineId)
  /-- JMP (R181). -/
  | jmp (e : EngineId) (target : BitVec 13)
  /-- JCC (R181). -/
  | jcc (e : EngineId) (cond : BitVec 4) (target : BitVec 13)
  /-- CALL (R181). -/
  | call (e : EngineId) (target : BitVec 13)
  /-- RET (R181). -/
  | ret (e : EngineId)
  /-- REPEAT (R186). -/
  | repeat (e : EngineId) (count : BitVec 12)
  /-- DECJ (R181). -/
  | decj (e : EngineId) (target : BitVec 13)
  /-- DLVR (R181). -/
  | dlvr (e : EngineId) (axis : AxisNo) (ptr : BitVec 3) (slot : BitVec 4)
  /-- PRD (R182). -/
  | prd (e : EngineId) (f : MacOps)
  /-- PRA (R182). -/
  | pra (e : EngineId) (f : MacOps)
  /-- PRS (R182). -/
  | prs (e : EngineId) (f : MacOps)
  /-- PRN (R182). -/
  | prn (e : EngineId) (f : MacOps)
  /-- PMV (R182). -/
  | pmv (e : EngineId) (f : MacOps)
  /-- ADD (R183). -/
  | add (e : EngineId) (d src : Bool)
  /-- SUB (R183). -/
  | sub (e : EngineId) (d src : Bool)
  /-- NEG (R183). -/
  | neg (e : EngineId) (d src : Bool)
  /-- ABS (R183). -/
  | absA (e : EngineId) (d src : Bool)
  /-- CLR (R183). -/
  | clr (e : EngineId) (d src : Bool)
  /-- ASL (R183). -/
  | asl (e : EngineId) (d src : Bool) (sh : BitVec 6)
  /-- ASR (R183). -/
  | asr (e : EngineId) (d src : Bool) (sh : BitVec 6)
  /-- SAT (R183). -/
  | sat (e : EngineId) (d src : Bool)
  /-- MAX (R183). -/
  | maxA (e : EngineId) (d src : Bool)
  /-- MIN (R183). -/
  | minA (e : EngineId) (d src : Bool)
  /-- ADDB (R183). -/
  | addb (e : EngineId) (d src : Bool)
  /-- TST (R183). -/
  | tst (e : EngineId) (d src : Bool)
  /-- RNDH (R183). -/
  | rndh (e : EngineId) (d src : Bool)
  /-- OPERAND_LOAD (R184). -/
  | operandLoad (e : EngineId) (reg : BitVec 4) (ptr : BitVec 3) (ps abs : Bool) (addr : BitVec 14)
  /-- OPERAND_STORE (R184). -/
  | operandStore (e : EngineId) (reg : BitVec 4) (ptr : BitVec 3) (ps abs : Bool) (addr : BitVec 14)
  /-- IMMEDIATE_LOAD (R184). -/
  | immediateLoad (e : EngineId) (reg : BitVec 4) (imm : BitVec 24)
  /-- POINTER_LOAD (R184). -/
  | pointerLoad (e : EngineId) (n : BitVec 3) (imm : BitVec 14)
  /-- POINTER_ADD (R179). -/
  | pointerAdd (e : EngineId) (n : BitVec 3) (imm : BitVec 14)
  /-- STEP_LOAD (R184). -/
  | stepLoad (e : EngineId) (n : BitVec 3) (imm : BitVec 14)
  /-- WRAP_LOAD (R179). -/
  | wrapLoad (e : EngineId) (n : BitVec 3) (imm : BitVec 14)
  /-- REGISTER_MOVE (R184). -/
  | registerMove (e : EngineId) (dst src : BitVec 4)
  /-- CURRENT_LOOP_SAMPLE (R52). -/
  | currentLoopSample (l : AxisNo) (x : SampleIn)
  /-- PWM_LOAD_POINT (R44): the carrier's next valley or peak. -/
  | pwmLoadPoint (l : AxisNo) (peak : Bool) (now : Ns)
  /-- DSM_STUCK (R49). Bits: the bitstreams of the modulator clocks up to now since the cell was last told of them. -/
  | dsmStuck (l : AxisNo) (bits : List DsBits) (now : Ns)
  /-- OVERCURRENT (R50). Bits: as for DSM_STUCK. -/
  | overcurrent (l : AxisNo) (bits : List DsBits) (now : Ns)
  /-- CURRENT_SUM (R48). -/
  | currentSum (l : AxisNo) (now : Ns)
  /-- CURRENT_OFFSET_CALIBRATION (R51). -/
  | currentOffsetCalibration (l : AxisNo) (now : Ns)
  /-- MODEL_RESIDUAL (R58). -/
  | modelResidual (l : AxisNo) (now : Ns)
  /-- MODEL_IMPLAUSIBLE (R58). -/
  | modelImplausible (l : AxisNo) (now : Ns)
  /-- FEEDBACK_STALE (R27). -/
  | feedbackStale (l : AxisNo) (now : Ns)
  /-- LINK_STAGE_CHANGE (R125). -/
  | linkStageChange (k : PairNo) (now : Ns)
  /-- LINK_VOLTAGE_KNOWN (R127). -/
  | linkVoltageKnown (k : PairNo) (now : Ns)
  /-- CHOPPER_FAULT (R123). Feedback: the level of CHFBk as sampled now. -/
  | chopperFault (k : PairNo) (feedback : Bool) (now : Ns)
  /-- ENCODER_TRANSITION (R73). Ba: the filtered levels after the transition, B then A. -/
  | encoderTransition (l : AxisNo) (ba : BitVec 2) (now : Ns)
  /-- ENCODER_ILLEGAL_BURST (R75). -/
  | encoderIllegalBurst (l : AxisNo) (now : Ns)
  /-- INDEX_EVENT (R77): the accepted Z edge. -/
  | indexEvent (l : AxisNo) (rising : Bool) (now : Ns)
  /-- REFERENCE_SWITCH_EDGE (R86). -/
  | referenceSwitchEdge (l : AxisNo) (rising : Bool) (now : Ns)
  /-- SPEED_WINDOW_END (R85). -/
  | speedWindowEnd (l : AxisNo) (now : Ns)
  /-- RESOLVER_MEASUREMENT (R88). Bits: as for DSM_STUCK; the last clock is the one at which the combs give their output. -/
  | resolverMeasurement (l : AxisNo) (bits : List DsBits) (now : Ns)
  /-- SENT_FRAME (R91). -/
  | sentFrame (p : Fin 3) (f : SentIn) (now : Ns)
  /-- SSI_TRIGGER (R92). -/
  | ssiTrigger (p : Fin 3) (now : Ns)
  /-- SSI_FRAME (R92). -/
  | ssiFrame (p : Fin 3) (f : SsiIn) (now : Ns)
  /-- SERIAL_TIMEOUT (R90). -/
  | serialTimeout (p : Fin 3) (now : Ns)
  /-- WHEEL_SPEED_EDGE (R94). -/
  | wheelSpeedEdge (w : Fin 8) (rising : Bool) (now : Ns)
  /-- WHEEL_SPEED_STILL (R94). -/
  | wheelSpeedStill (w : Fin 8) (now : Ns)
  /-- PULSE_DIVIDER_PULSE (R95). -/
  | pulseDividerPulse (d : Fin 2) (now : Ns)
  /-- SATURATION_PULSE_DONE (R117). -/
  | saturationPulseDone (l : AxisNo) (now : Ns)
  /-- IF_START_PHASE_END (R114). -/
  | ifStartPhaseEnd (l : AxisNo) (now : Ns)
  /-- IF_RETRY_WAIT_END (R115). -/
  | ifRetryWaitEnd (l : AxisNo) (now : Ns)
  /-- PROBE_DONE (R118). -/
  | probeDone (l : AxisNo) (now : Ns)
  /-- D_AXIS_BRAKING_TIMEOUT (R120). -/
  | dAxisBrakingTimeout (l : AxisNo) (now : Ns)
  /-- ALIGN_HOLD_END (R106). -/
  | alignHoldEnd (l : AxisNo) (now : Ns)
  /-- SPEED_IMPLAUSIBLE (R143). -/
  | speedImplausible (l : AxisNo) (now : Ns)
  /-- RACK_IMPLAUSIBLE (R144). -/
  | rackImplausible (l : AxisNo) (now : Ns)
  /-- FOLLOWING_ERROR (R145). -/
  | followingError (l : AxisNo) (now : Ns)
  /-- AXIS_SAFESTOP_REMOVAL (R266). -/
  | axisSafestopRemoval (l : AxisNo) (now : Ns)
  /-- SAFETY_INPUT_CHANGE (R259). -/
  | safetyInputChange (n : Fin 6) (now : Ns)
  /-- SI_DISCREPANCY (R257). -/
  | siDiscrepancy (n : Fin 6) (now : Ns)
  /-- AON_TICK (R491). -/
  | aonTick (x : AonIn) (now : Ns)
  /-- VEHICLE_CYCLE_START (R65). Work: the time the supervisor spends on the cycle. -/
  | vehicleCycleStart (work : Ns) (now : Ns)
  /-- VOTE_HELD_LIMIT (R32). -/
  | voteHeldLimit (now : Ns)
  /-- VOTE_NONE_LIMIT (R277). -/
  | voteNoneLimit (now : Ns)
  /-- VOTE_OUTLIER (R34). -/
  | voteOutlier (i : LaneNo) (now : Ns)
  /-- WINDING_LOST (R219). The winding on local axis l of lane group g. -/
  | windingLost (g : Fin 3) (l : AxisNo) (now : Ns)
  /-- HW_ANGLE_LOST (R205). -/
  | hwAngleLost (now : Ns)
  /-- CENTRE_SEARCH (R214). -/
  | centreSearch (n : Fin 3) (now : Ns)
  /-- FORCE_IMPLAUSIBLE (R232). -/
  | forceImplausible (l : AxisNo) (now : Ns)
  /-- REGEN_UNCONFIRMED (R240). -/
  | regenUnconfirmed (now : Ns)
  /-- REGEN_BLOCK_EXPIRY (R244). -/
  | regenBlockExpiry (now : Ns)
  /-- PARK_LATCH_TIMEOUT (R246). -/
  | parkLatchTimeout (now : Ns)
  /-- PARK_RETRY (R246). -/
  | parkRetry (now : Ns)
  /-- LEDGER_SAVE (R250). -/
  | ledgerSave (now : Ns)
  /-- SAFESTOP_STILL (R269). -/
  | safestopStill (now : Ns)
  /-- NOVMI_DEADLINE (R276). -/
  | novmiDeadline (c : Fin 16) (now : Ns)
  /-- ARBITER_GRANT (R448). -/
  | arbiterGrant (now : Ns)
  /-- GUARANTEE_RESTORED (R450). -/
  | guaranteeRestored (now : Ns)
  /-- LEVEL_RAISE_NO_BUDGET (R454). -/
  | levelRaiseNoBudget (now : Ns)
  /-- PL_CHANGE_START (R423). -/
  | plChangeStart (now : Ns)
  /-- PMBUS_TRANSACTION (R423). -/
  | pmbusTransaction (kind : PmbKind) (result : PmbResult) (now : Ns)
  /-- PL_ATTEMPT_TIMEOUT (R424). -/
  | plAttemptTimeout (now : Ns)
  /-- PGOOD_CHANGE (R425): an edge of PGOOD. -/
  | pgoodChange (high : Bool) (now : Ns)
  /-- VOUT_FAULT (R425). -/
  | voutFault (kind : VoutFaultKind) (now : Ns)
  /-- LOCKSTEP_MISMATCH (R289). C0, c1: the copies of the two cores at the comparator in one SUP cycle. -/
  | lockstepMismatch (c0 c1 : CmpBits) (now : Ns)
  /-- EXCHANGE_READ (R285). The source with its number; s0, s1: the raw samples of core 0 and core 1. -/
  | exchangeRead (cls : ExClass) (src : BitVec 8) (width : Fin 65) (s0 s1 : BitVec 64) (now : Ns)
  /-- INTERRUPT_WINDOW_END (R287). P0, p1: the interrupt requests as each core samples them. -/
  | interruptWindowEnd (p0 p1 : Word) (now : Ns)
  /-- CONFIG_PARITY_FAULT (R297). The register as its owner reads it, with the parity bit of each byte. -/
  | configParityFault (owner : ParityOwner) (word : BitVec 16) (value : Word) (par : BitVec 4) (now : Ns)
  /-- SCRUB_ACCESS (R302). -/
  | scrubAccess (m : EccMem) (bank : Byte) (addr : Nat) (r : EccResult) (now : Ns)
  /-- UNMAPPED_ACCESS (R299). -/
  | unmappedAccess (write : Bool)
  /-- SPLIT_WATCHDOG (R305). -/
  | splitWatchdog (core : Fin 2) (now : Ns)
  /-- SPLIT_CORE_FAULT (R305). -/
  | splitCoreFault (core : Fin 2) (cause : CoreFault) (now : Ns)
  /-- SU_ACTIVATION_RELEASE (R194). -/
  | suActivationRelease (a : Fin 40) (now : Ns)
  /-- SU_KERNEL_HALT (R195). -/
  | suKernelHalt (a : Fin 40) (now : Ns)
  /-- SU_DEADLINE (R195). -/
  | suDeadline (a : Fin 40) (now : Ns)
  /-- TWIN_CLAIM_EDGE (R308). -/
  | twinClaimEdge (now : Ns)
  /-- TWIN_CLAIM_ABSENT (R308). -/
  | twinClaimAbsent (now : Ns)
  /-- CLAIM_START (R311). -/
  | claimStart (now : Ns)
  /-- CLAIM_CONFIRMED (R326). -/
  | claimConfirmed (now : Ns)
  /-- CLAIM_RETRY (R311). -/
  | claimRetry (now : Ns)
  /-- CASTLING_SETTLE (R326). -/
  | castlingSettle (now : Ns)
  /-- CASTLING_GATE_ENABLE (R326). -/
  | castlingGateEnable (now : Ns)
  /-- PAIRING_TIMEOUT (R317). -/
  | pairingTimeout (now : Ns)
  /-- BLACK_CLAIM_TIMER (R320). -/
  | blackClaimTimer (now : Ns)
  /-- YIELD (R326). -/
  | yield (f : TwinIn) (now : Ns)
  /-- STATUS (R316). -/
  | status (f : TwinIn) (now : Ns)
  /-- AXIS (R322). -/
  | axis (f : TwinIn) (now : Ns)
  /-- COMPARE (R321). -/
  | compare (f : TwinIn) (now : Ns)
  /-- SUPER (R323). -/
  | super (f : TwinIn) (now : Ns)
  /-- TWIN_FRAME_DISCARD (R315): a frame as received. Coded: it came without a coding error and left the receive buffer without an ECC error
  (R300); bytes: those between SOF and EOF, TYPE to CRC (R313). -/
  | twinFrameDiscard (coded : Bool) (bytes : List Byte) (now : Ns)
  /-- TWIN_FRAME_TRANSMIT (R314). -/
  | twinFrameTransmit (now : Ns)
  /-- TWIN_LINK_LOST (R316). -/
  | twinLinkLost (now : Ns)
  /-- VTB_CYCLE_START (R366). Ticks: the RC ticks that the guardians of X and Y count over the cycle that ends (R360). -/
  | vtbCycleStart (ticks : Vector Nat 2) (now : Ns)
  /-- VTB_SLOT_TRANSMIT (R356). Echo: the bits received on X and Y while the frame is sent (R375). -/
  | vtbSlotTransmit (slot : BitVec 6) (echo : Vector (List Bool) 2) (now : Ns)
  /-- VTB_FRAME_RECEIVED (R357). -/
  | vtbFrameReceived (ch : Chan) (f : VtbIn) (now : Ns)
  /-- GUARDIAN_ATTEMPT (R362): the controller drives TXEN at this time. -/
  | guardianAttempt (ch : Chan) (now : Ns)
  /-- GUARDIAN_SCHEDULE_CRC (R361): the CRC that a guardian takes over its copy of the schedule. -/
  | guardianScheduleCrc (ch : Chan) (crc : Word) (now : Ns)
  /-- COLDSTART_TIMEOUT (R374). Echo as above. -/
  | coldstartTimeout (echo : Vector (List Bool) 2) (now : Ns)
  /-- VTB_SYNC_LOST (R371). -/
  | vtbSyncLost (now : Ns)
  /-- VTB_CHANNEL_DOWN (R363). -/
  | vtbChannelDown (ch : Chan) (now : Ns)
  /-- VTB_BUS_ACTIVITY_END (R374). -/
  | vtbBusActivityEnd (now : Ns)
  /-- CAN_FRAME_RECEIVED (R384). -/
  | canFrameReceived (n : Fin 2) (f : CanIn) (now : Ns)
  /-- CAN_FRAME_SENT (R386). -/
  | canFrameSent (n : Fin 2) (now : Ns)
  /-- CAN_TX_TIMEOUT (R386). -/
  | canTxTimeout (n : Fin 2) (now : Ns)
  /-- CAN_BUSOFF (R383). -/
  | canBusoff (n : Fin 2) (now : Ns)
  /-- CAN_RECOVERED (R382). -/
  | canRecovered (n : Fin 2) (now : Ns)
  /-- ETH_FRAME_RECEIVED (R390). -/
  | ethFrameReceived (f : EthIn) (now : Ns)
  /-- ETH_DATAGRAM_SENT (R390). -/
  | ethDatagramSent (now : Ns)
  /-- WAKE_SOURCE (R427). -/
  | wakeSource (w : WakeSrc) (now : Ns)
  /-- SLEEP_ENTRY_ABORT_POINT (R431). AP1 to AP4 as 0 to 3. -/
  | sleepEntryAbortPoint (ap : Fin 4) (now : Ns)
  /-- SLEEP_GRANT_TIMEOUT (R430). -/
  | sleepGrantTimeout (now : Ns)
  /-- WAKE_REPLAYED (R431). -/
  | wakeReplayed (now : Ns)
  /-- WAKE_TIMER (R427). -/
  | wakeTimer (now : Ns)
  /-- RESUME_SUPPLY_CONFIRMED (R435). Sigs: the 28 signatures that the lane computes again, banks 0 to 15 and groups 0 to 11; par: which
  stored signatures show a parity error (R433). -/
  | resumeSupplyConfirmed (sigs : Vector Word 28) (par : BitVec 28) (now : Ns)
  /-- NRST (R514). -/
  | nrst (released : Bool) (straps : Straps) (now : Ns)
  /-- VDD_AON_APPLIED (R512). Lane: the letter fixed by the substrate (R485). -/
  | vddAonApplied (crystal : Bool) (lane : BitVec 2)
  /-- VDD_AON_LOST (R515). -/
  | vddAonLost
  /-- VDDIO_PAD_RESET (R515). -/
  | vddioPadReset (low : Bool) (now : Ns)
  /-- VDD_FIX_DROP (R515). -/
  | vddFixDrop (now : Ns)
  /-- FIRMWARE_IMAGE_CHECK (R436). Header versions, whether each header can be read, and whether each bank is valid by R436. -/
  | firmwareImageCheck (verA verB : BitVec 16) (headA headB okA okB : Bool) (now : Ns)
  /-- CONFIGURATION_LOAD (R435). -/
  | configurationLoad (now : Ns)
  /-- COMPARATOR_INJECTION_TEST (R294). What the capture register shows: the injections of step 1 that were caught, by bit, for core 0 and
  core 1, whether those of steps 2 and 3 were, and whether step 4 flagged nothing. -/
  | comparatorInjectionTest (caught0 caught1 : CmpBits) (ordered stable clean : Bool) (now : Ns)
  /-- VERDICT_CHECK (R469). -/
  | verdictCheck (now : Ns)
  /-- START_CHECKS (R38). -/
  | startChecks (now : Ns)
  /-- DRIVE_READY (R438). -/
  | driveReady (now : Ns)
  /-- SELFTEST_DOMAIN_START (R465). -/
  | selftestDomainStart (d : Fin 7) (now : Ns)
  /-- SELFTEST_CHECKPOINT (R463). Ok: the MISR equals the golden value. -/
  | selftestCheckpoint (d : Fin 7) (ok : Bool) (now : Ns)
  /-- SELFTEST_DOMAIN_DONE (R465). -/
  | selftestDomainDone (d : Fin 7) (marchOk restoreOk : Bool) (now : Ns)
  /-- SELFTEST_STOP (R475). -/
  | selftestStop (cause : StopCause) (now : Ns)
  /-- ISOLATION_RELEASE (R418). -/
  | isolationRelease (d : Fin 7) (now : Ns)
  /-- PGOOD_WAIT_TIMEOUT (R514). -/
  | pgoodWaitTimeout (now : Ns)
  /-- D_AXIS_BRAKING_WAIT_END (R120). -/
  | dAxisBrakingWaitEnd (l : AxisNo) (now : Ns)
  /-- BOOT_COMMAND_COMPLETE (R497). -/
  | bootCommandComplete (now : Ns)
  /-- SPI_READ_FRAME (R481). -/
  | spiReadFrame (mosi : List Byte)
  deriving DecidableEq, Repr

end Sys2Proof
end

