-- ==== Sys2Proof/Decode.lean ====
section
/-!
DEFINITION. The command a table word spells. The opcode table of this block gives no row any bits: its rows are requests,
register accesses, instructions named without their words, and events.
-/

namespace Sys2Proof

/-- The command that `nbits` bits `w` spell by the table: none, since the table gives no row bits. -/
def decodeTableWord (_nbits _w : Nat) : Option Instr := none

end Sys2Proof
end

