-- ==== Sys2Proof/Config.lean ====
section
/-!
DEFINITION. The constants of one implementation and the free values: everything here is opaque, so that no proof can
see a value of it (log entries 2 and 5).
-/

namespace Sys2Proof.Config

/-- The back-EMF estimate of CMODE 6h over one sample: from the applied voltage, the current, its change per second, the
interval, the motor data (R, L, ψ) and the speed before, the step of the angle in revolutions and the electrical speed (R120
names the voltage equation and no estimator). -/
opaque bemf : Q × Q → Q × Q → Q × Q → Q → Q × Q × Q → Q → Q × Q
/-- One step of the resolver kernel's tracking loop that corrects on a new measurement: from its bandwidth res.bw in Hz, the step
in s, the predicted angle in revolutions, the speed in rad/s of the resolver and the measured sine and cosine, the corrected angle
and speed (R88 gives the loop's bandwidth and no law). -/
opaque resTrack : Q → Q → Q × Q → Q × Q → Q × Q
/-- First-order low-pass coefficient for a corner frequency and an interval (R134). -/
opaque lowPass : Q → Q → Q
/-- Whether a tie rounds up, where the manual writes `round` (R40, R111, R423). -/
opaque tieUp : Q → Bool

/-- A quotient by zero, where a parameter may be zero and the manual states no result (log entry 21). -/
opaque divZero : Q → Q

/-- γ1 and γ2, degrees, of a payload of sbw.artcid (R207 gives no layout). -/
opaque articOf : List Word → Q × Q
/-- The speed, m/s, that a wheel speed in rev/s stands for: no rolling circumference is stated (R94, R234). -/
opaque wheelMs : Fin 8 → Q → Q
/-- What OP_VF_PARK asks for: true releases (R246 gives no encoding). -/
opaque parkRelease : Word → List Word → Bool
/-- The reset value of an exchange source that has had no merged read (R284). -/
opaque exchangeReset : Nat → BitVec 64
/-- The payload that stands for the last accepted one in a connection that has accepted none (R276). -/
opaque noPayload : Fin 16 → List Word

/-- A free bit vector: a value the manual leaves open, drawn anew for each reading of the model's counter. -/
opaque freeWord : Nat → Word
/-- A free quantity: a value the manual leaves open, drawn anew for each reading of the model's counter. -/
opaque freeQ : Nat → Q
/-- A free choice between two outcomes the manual leaves open. -/
opaque freeBool : Nat → Bool

/-- What a vendor kernel computes for an activation from the inputs that the manual names (R198, R206, R234): the manual gives its
figures and not its program. -/
opaque kernelOut : Fin 40 → List Q → Nat → Q
/-- The vendor words of a program or operand memory (R187): part of the firmware image. -/
opaque vendorWord : Nat → Nat → Word
/-- The reading of ARG0 and the payload of OP_AX_ARM: true selects the reference latch (R409 gives no encoding). -/
opaque armSelectsLatch : Word → Bool
/-- The loops that the payload of OP_AX_PRESET names: 0 I_w, 1 I_p, 2 I_F, with its value (R138 gives no encoding). -/
opaque presetOf : List Word → Fin 3 × Q
/-- What OP_AX_SETPOS carries besides the 64-bit value: a POSCNT to load, if any (R83 gives no encoding). -/
opaque setposPoscnt : List Word → Option Word
/-- What OP_AX_CMP names: the register 0 to 3 (R409 gives no encoding). -/
opaque cmpRegister : Word → List Word → Fin 4
/-- The value OP_AX_CMP writes to CMPnVAL, if it writes it. -/
opaque cmpWriteVal : List Word → Option (BitVec 64)
/-- The value OP_AX_CMP writes to CMPnCTL, if it writes it. -/
opaque cmpWriteCtl : List Word → Option Word
/-- The pair that OP_SI_CLEAR names (R258 gives no encoding). -/
opaque siPair : Word → List Word → Fin 6
/-- The axis pair that OP_CHOPF_CLEAR names (R124 gives no encoding). -/
opaque chopPair : Word → List Word → PairNo
/-- The level that OP_PWR_LEVEL requests (R422 gives no encoding). -/
opaque levelOf : Word → List Word → BitVec 2
/-- The first record that OP_LEDGER_READ names (R249). -/
opaque ledgerFirst : Word → List Word → Fin 9
/-- The PHY and register of OP_MDIO (R387). -/
opaque mdioAddr : Word → List Word → BitVec 5 × BitVec 5
/-- Whether OP_MDIO writes (R387, R409 give no encoding). -/
opaque mdioWrites : Word → List Word → Bool
/-- The data that an OP_MDIO write carries. -/
opaque mdioValue : Word → List Word → BitVec 16
/-- Whether the lane sends its own FD frames with bit-rate switching (R394). -/
opaque netBrs : Bool
/-- The controller state in OP_CAN_STATUS, from its mode and bus-off (R409 gives no layout). -/
opaque canState : Nat → Bool → Word
/-- What an MDIO read returns: the PHY is outside the lane. -/
opaque mdioData : BitVec 5 → BitVec 5 → Nat → BitVec 16
/-- The bank class map of a firmware image is that of R434; this is the cycle count of a vendor run (R52). -/
opaque vendorWork : Nat → Nat
/-- The CRC-8 or header content of a firmware image the ROM reads is outside the lane; this is a bank's word. -/
opaque bankWord : Bool → Nat → Word

end Sys2Proof.Config
end

