-- ==== Sys2Proof/Machine/Crc.lean ====
section
/-!
DEFINITION. The check sequences of the manual, bit by bit: CRC-32 (R402, R199), CRC-32C (R313, R344), the Novmi safety
CRC (R272), the CRC-8 of R345, and the CRC-4 of SENT (R91).
-/

namespace Sys2Proof.Machine

/-- The four bytes of a word, least significant first (R3). -/
def wordBytes (w : Word) : List Byte :=
  [w.setWidth 8, (w >>> 8).setWidth 8, (w >>> 16).setWidth 8, (w >>> 24).setWidth 8]

/-- Words as little-endian bytes. -/
def bytesOf (ws : List Word) : List Byte := ws.flatMap wordBytes

/-- Four bytes as a word, least significant first. -/
def wordOf (a b c d : Byte) : Word := d ++ c ++ b ++ a

/-- Bytes as little-endian words; a short last word is filled with zeros. -/
def wordsOf : List Byte → List Word
  | a :: b :: c :: d :: r => wordOf a b c d :: wordsOf r
  | [a, b, c] => [wordOf a b c 0]
  | [a, b] => [wordOf a b 0 0]
  | [a] => [wordOf a 0 0 0]
  | [] => []

/-- One bit of a reflected 32-bit CRC; `poly` is the polynomial with its bits reversed. -/
def crcBit (poly c : Word) : Word :=
  if c.getLsbD 0 then (c >>> 1) ^^^ poly else c >>> 1

/-- `n` bits of a reflected CRC. -/
def crcBits (poly : Word) : Nat → Word → Word
  | 0, c => c
  | n + 1, c => crcBits poly n (crcBit poly c)

/-- A reflected CRC over bytes, from a running value. -/
def crcRun (poly c : Word) (bs : List Byte) : Word :=
  bs.foldl (fun c b => crcBits poly 8 (c ^^^ b.setWidth 32)) c

/-- CRC-32: 04C11DB7h reflected, initial value and final XOR FFFFFFFFh (R402). -/
def crc32 (bs : List Byte) : Word := ~~~ crcRun 0xEDB88320 0xFFFFFFFF bs

/-- CRC-32C: 1EDC6F41h reflected, initial value and final XOR FFFFFFFFh (R344). -/
def crc32c (bs : List Byte) : Word := ~~~ crcRun 0x82F63B78 0xFFFFFFFF bs

/-- The safety CRC: F4ACFB13h reflected, initial value and final XOR FFFFFFFFh (R272). -/
def crcNovmi (bs : List Byte) : Word := ~~~ crcRun 0xC8DF352F 0xFFFFFFFF bs

/-- One bit of the CRC-8 with polynomial 2Fh, not reflected. -/
def crc8Bit (c : Byte) : Byte :=
  if c.getLsbD 7 then (c <<< 1) ^^^ 0x2F else c <<< 1

/-- `n` bits of the CRC-8. -/
def crc8Bits : Nat → Byte → Byte
  | 0, c => c
  | n + 1, c => crc8Bits n (crc8Bit c)

/-- CRC-8 with polynomial 2Fh, initial value FFh and final XOR FFh (R345, R480). -/
def crc8 (bs : List Byte) : Byte := ~~~ bs.foldl (fun c b => crc8Bits 8 (c ^^^ b)) 0xFF

/-- One step of the SENT CRC-4, polynomial x^4 + x^3 + x^2 + 1: the table value of a nibble (R91). -/
def crc4Bits : Nat → BitVec 4 → BitVec 4
  | 0, c => c
  | n + 1, c => crc4Bits n (if c.getLsbD 3 then (c <<< 1) ^^^ 0xD else c <<< 1)

/-- The SENT CRC of the data nibbles: seed 0101b, with a further zero nibble in the recommended form (R91). -/
def crc4 (recommended : Bool) (ns : List (BitVec 4)) : BitVec 4 :=
  let step := fun (c n : BitVec 4) => crc4Bits 4 c ^^^ n
  let c := ns.foldl step 5
  if recommended then step c 0 else c

end Sys2Proof.Machine
end

