-- ==== Sys2Proof/Machine/Params.lean ====
section
/-!
DEFINITION. The parameter tables of chapters 1 to 18 (R412, R498): for each parameter its PIDs, format, range, default
and apply class, written row by row from the tables of the manual. Decimal limits are rounded into the range and
decimal defaults to the nearest value of the format (log entry 7).
-/

namespace Sys2Proof.Machine

/-- When a written value takes effect (R6); `ro` is the read-only class of R499. -/
inductive Apply where
  | now
  | cycle
  | start
  | ro
  deriving DecidableEq, Repr

/-- One row of a parameter table. An axis row has one instance per local axis, 100h PIDs apart (R412); `count` entries
lie `stride` apart. Range limits are the raw words, read as two's complement where `signed`. Bits outside `mask` are
reserved and their written value is ignored (R5). -/
structure PSpec where
  base : Nat
  axis : Bool := false
  count : Nat := 1
  stride : Nat := 1
  frac : Nat := 0
  signed : Bool := false
  field : Bool := false
  apply : Apply
  lo : Int
  hi : Int
  list : List Nat := []
  mask : Word := 0xFFFFFFFF
  dflt : List Nat := [0]
  deriving DecidableEq, Repr

namespace P

/-! Lane system (group 0h). -/

/-- `sys.alloc0 to sys.alloc23`. -/
def sysAlloc : PSpec :=
  { base := 0x0F20, count := 24, field := true, apply := .start, lo := 0, hi := 17150, mask := 0x0000F3FF }
/-! PWM and electrical (group 1h). -/

/-- `pwm.half`. -/
def pwmHalf : PSpec :=
  { base := 0x1000, axis := true, apply := .start, lo := 2500, hi := 12500, dflt := [5000] }
/-- `pwm.update`. -/
def pwmUpdate : PSpec :=
  { base := 0x1001, axis := true, apply := .start, lo := 1, hi := 2, list := [1, 2], dflt := [2] }
/-- `pwm.dead`. -/
def pwmDead : PSpec :=
  { base := 0x1002, axis := true, apply := .start, lo := 0, hi := 512, dflt := [40] }
/-- `pwm.minpulse`. -/
def pwmMinpulse : PSpec :=
  { base := 0x1003, axis := true, apply := .cycle, lo := 0, hi := 400, dflt := [60] }
/-- `pwm.phase`. -/
def pwmPhase : PSpec :=
  { base := 0x1004, axis := true, apply := .start, lo := 0, hi := 24999 }
/-- `dsm.dec`. -/
def dsmDec : PSpec :=
  { base := 0x1008, axis := true, apply := .start, lo := 32, hi := 256, list := [32, 64, 128, 256], dflt := [64] }
/-- `dsm.ich`. -/
def dsmIch : PSpec :=
  { base := 0x1009, axis := true, apply := .start, lo := 2, hi := 3, list := [2, 3], dflt := [3] }
/-- `elec.ifs`. -/
def elecIfs : PSpec :=
  { base := 0x100A, axis := true, frac := 16, apply := .start, lo := 65536, hi := 131072000, dflt := [16384000] }
/-- `elec.pp`. -/
def elecPp : PSpec :=
  { base := 0x1010, axis := true, apply := .start, lo := 1, hi := 32, dflt := [5] }
/-- `elec.r`. -/
def elecR : PSpec :=
  { base := 0x1011, axis := true, frac := 24, apply := .cycle, lo := 1678, hi := 167772160, dflt := [201327] }
/-- `elec.l`. -/
def elecL : PSpec :=
  { base := 0x1012, axis := true, frac := 16, apply := .cycle, lo := 65536, hi := 655360000, dflt := [5570560] }
/-- `elec.psi`. -/
def elecPsi : PSpec :=
  { base := 0x1013, axis := true, frac := 16, apply := .cycle, lo := 6554, hi := 65536000, dflt := [524288] }
/-- `link.vfs0 to link.vfs3`. -/
def linkVfs : PSpec :=
  { base := 0x1F20, count := 4, frac := 16, apply := .start, lo := 1310720, hi := 13107200, dflt := [5242880] }
/-- `chop.von`. -/
def chopVon : PSpec :=
  { base := 0x1F30, frac := 16, apply := .cycle, lo := 1310720, hi := 5242880, dflt := [3538944] }
/-- `chop.voff`. -/
def chopVoff : PSpec :=
  { base := 0x1F31, frac := 16, apply := .cycle, lo := 1310720, hi := 5242880, dflt := [3407872] }
/-- `chop.en`. -/
def chopEn : PSpec :=
  { base := 0x1F32, field := true, apply := .cycle, lo := 0, hi := 15, dflt := [15] }
/-- `ov.v1`. -/
def ovV1 : PSpec :=
  { base := 0x1F33, frac := 16, apply := .cycle, lo := 1310720, hi := 5242880, dflt := [3670016] }
/-- `ov.v2`. -/
def ovV2 : PSpec :=
  { base := 0x1F34, frac := 16, apply := .cycle, lo := 1310720, hi := 5242880, dflt := [3932160] }
/-- `ov.v3`. -/
def ovV3 : PSpec :=
  { base := 0x1F35, frac := 16, apply := .cycle, lo := 1310720, hi := 5242880, dflt := [4128768] }
/-- `ov.hyst`. -/
def ovHyst : PSpec :=
  { base := 0x1F36, frac := 16, apply := .cycle, lo := 6554, hi := 655360, dflt := [65536] }
/-- `ov.dred`. -/
def ovDred : PSpec :=
  { base := 0x1F37, frac := 31, apply := .cycle, lo := 107374183, hi := 2147483648, dflt := [536870912] }
/-! Current loop (group 2h). -/

/-- `cur.kp`. -/
def curKp : PSpec :=
  { base := 0x2000, axis := true, frac := 16, apply := .now, lo := 0, hi := 6553600, dflt := [32768] }
/-- `cur.ki`. -/
def curKi : PSpec :=
  { base := 0x2001, axis := true, frac := 8, apply := .now, lo := 0, hi := 256000000, dflt := [12800] }
/-- `cur.imax`. -/
def curImax : PSpec :=
  { base := 0x2002, axis := true, frac := 16, apply := .now, lo := 0, hi := 131072000, dflt := [655360] }
/-- `cur.idfw`. -/
def curIdfw : PSpec :=
  { base := 0x2003, axis := true, frac := 16, apply := .now, lo := 0, hi := 131072000 }
/-- `cur.mmax`. -/
def curMmax : PSpec :=
  { base := 0x2004, axis := true, frac := 31, apply := .now, lo := 1073741824, hi := 2147483648, dflt := [2040109466] }
/-- `cur.vdcmin`. -/
def curVdcmin : PSpec :=
  { base := 0x2005, axis := true, frac := 16, apply := .cycle, lo := 786432, hi := 3932160, dflt := [1572864] }
/-- `cur.dec`. -/
def curDec : PSpec :=
  { base := 0x2006, axis := true, apply := .now, lo := 0, hi := 1, dflt := [1] }
/-- `cur.delay`. -/
def curDelay : PSpec :=
  { base := 0x2007, axis := true, frac := 28, apply := .cycle, lo := 0, hi := 1073741824, dflt := [402653184] }
/-- `cur.sumtol`. -/
def curSumtol : PSpec :=
  { base := 0x2008, axis := true, frac := 31, apply := .cycle, lo := 21474837, hi := 1073741824, dflt := [107374182] }
/-- `cur.ioc`. -/
def curIoc : PSpec :=
  { base := 0x2009, axis := true, frac := 31, apply := .cycle, lo := 214748365, hi := 2126008811, dflt := [2040109466] }
/-- `cur.paf0 to cur.paf15`. -/
def curPaf : PSpec :=
  { base := 0x2010, axis := true, count := 16, frac := 16, apply := .cycle, lo := 0, hi := 327680000 }
/-- `cur.paa0 to cur.paa15`. -/
def curPaa : PSpec :=
  { base := 0x2020, axis := true, count := 16, frac := 16, apply := .cycle, lo := 0, hi := 5242880 }
/-! Cascade (group 3h). -/

/-- `cas.loop`. -/
def casLoop : PSpec :=
  { base := 0x3000, axis := true, apply := .cycle, lo := 0, hi := 3, dflt := [2] }
/-- `cas.n1`. -/
def casN1 : PSpec :=
  { base := 0x3001, axis := true, apply := .start, lo := 1, hi := 16, dflt := [5] }
/-- `cas.n2`. -/
def casN2 : PSpec :=
  { base := 0x3002, axis := true, apply := .start, lo := 1, hi := 64, dflt := [20] }
/-- `cas.j`. -/
def casJ : PSpec :=
  { base := 0x3003, axis := true, frac := 8, apply := .cycle, lo := 256, hi := 2560000000, dflt := [460800] }
/-- `cas.kps`. -/
def casKps : PSpec :=
  { base := 0x3004, axis := true, frac := 16, apply := .now, lo := 0, hi := 65536000, dflt := [65536] }
/-- `cas.kis`. -/
def casKis : PSpec :=
  { base := 0x3005, axis := true, frac := 8, apply := .now, lo := 0, hi := 256000000, dflt := [25600] }
/-- `cas.iwlim`. -/
def casIwlim : PSpec :=
  { base := 0x3006, axis := true, frac := 16, apply := .now, lo := 0, hi := 131072000, dflt := [655360] }
/-- `cas.wflt`. -/
def casWflt : PSpec :=
  { base := 0x3007, axis := true, frac := 16, apply := .cycle, lo := 0, hi := 262144000 }
/-- `cas.kaff`. -/
def casKaff : PSpec :=
  { base := 0x3008, axis := true, frac := 30, apply := .now, lo := 0, hi := 2147483648, dflt := [1073741824] }
/-- `cas.kvff`. -/
def casKvff : PSpec :=
  { base := 0x3009, axis := true, frac := 30, apply := .now, lo := 0, hi := 2147483648, dflt := [1073741824] }
/-- `cas.wmax`. -/
def casWmax : PSpec :=
  { base := 0x300A, axis := true, frac := 16, apply := .now, lo := 0, hi := 196608000, dflt := [32768000] }
/-- `cas.kpp`. -/
def casKpp : PSpec :=
  { base := 0x3010, axis := true, frac := 16, apply := .now, lo := 0, hi := 655360000, dflt := [3276800] }
/-- `cas.kip`. -/
def casKip : PSpec :=
  { base := 0x3011, axis := true, frac := 8, apply := .now, lo := 0, hi := 25600000 }
/-- `cas.iplim`. -/
def casIplim : PSpec :=
  { base := 0x3012, axis := true, frac := 16, apply := .now, lo := 0, hi := 196608000 }
/-- `cas.kpf`. -/
def casKpf : PSpec :=
  { base := 0x3018, axis := true, frac := 16, apply := .now, lo := 0, hi := 655360000, dflt := [655360] }
/-- `cas.kif`. -/
def casKif : PSpec :=
  { base := 0x3019, axis := true, frac := 8, apply := .now, lo := 0, hi := 256000000, dflt := [12800] }
/-- `cas.iflim`. -/
def casIflim : PSpec :=
  { base := 0x301A, axis := true, frac := 16, apply := .now, lo := 0, hi := 196608000, dflt := [6553600] }
/-- `cas.fslew`. -/
def casFslew : PSpec :=
  { base := 0x301B, axis := true, frac := 16, apply := .now, lo := 65536, hi := 655360000, dflt := [32768000] }
/-- `cas.pvtol`. -/
def casPvtol : PSpec :=
  { base := 0x3020, axis := true, frac := 16, apply := .cycle, lo := 6554, hi := 65536000, dflt := [327680] }
/-- `cas.pvn`. -/
def casPvn : PSpec :=
  { base := 0x3021, axis := true, apply := .cycle, lo := 1, hi := 64, dflt := [3] }
/-- `cas.ferr`. -/
def casFerr : PSpec :=
  { base := 0x3022, axis := true, frac := 16, apply := .cycle, lo := 0, hi := 65536000 }
/-- `cas.ferrn`. -/
def casFerrn : PSpec :=
  { base := 0x3023, axis := true, apply := .cycle, lo := 1, hi := 255, dflt := [10] }
/-- `cas.gear`. -/
def casGear : PSpec :=
  { base := 0x3028, axis := true, frac := 24, signed := true, apply := .cycle, lo := (-1677721600), hi := 1677721600 }
/-- `cas.roff`. -/
def casRoff : PSpec :=
  { base := 0x3029, axis := true, frac := 16, signed := true, apply := .cycle, lo := (-65536000), hi := 65536000 }
/-- `cas.rtol`. -/
def casRtol : PSpec :=
  { base := 0x302A, axis := true, frac := 16, apply := .cycle, lo := 6554, hi := 6553600, dflt := [131072] }
/-- `cas.rn`. -/
def casRn : PSpec :=
  { base := 0x302B, axis := true, apply := .cycle, lo := 1, hi := 100, dflt := [5] }
/-- `cas.rport`. -/
def casRport : PSpec :=
  { base := 0x302C, axis := true, apply := .start, lo := 0, hi := 3, dflt := [3] }
/-- `cas.rlsb`. -/
def casRlsb : PSpec :=
  { base := 0x302D, axis := true, frac := 24, signed := true, apply := .cycle, lo := (-167772160), hi := 167772160, dflt := [167772] }
/-! Profile (group 4h). -/

/-- `prof.vmax`. -/
def profVmax : PSpec :=
  { base := 0x4000, axis := true, frac := 16, apply := .now, lo := 6554, hi := 196608000, dflt := [6553600] }
/-- `prof.amax`. -/
def profAmax : PSpec :=
  { base := 0x4001, axis := true, frac := 8, apply := .now, lo := 256, hi := 256000000, dflt := [1280000] }
/-- `prof.dmax`. -/
def profDmax : PSpec :=
  { base := 0x4002, axis := true, frac := 8, apply := .now, lo := 256, hi := 256000000, dflt := [1280000] }
/-- `prof.jmax`. -/
def profJmax : PSpec :=
  { base := 0x4003, axis := true, apply := .now, lo := 100, hi := 1000000000, dflt := [500000] }
/-- `prof.otmax`. -/
def profOtmax : PSpec :=
  { base := 0x4004, axis := true, frac := 16, apply := .cycle, lo := 0, hi := 655360000 }
/-- `prof.inpos`. -/
def profInpos : PSpec :=
  { base := 0x4005, axis := true, frac := 16, apply := .cycle, lo := 66, hi := 6553600, dflt := [655] }
/-- `prof.inposn`. -/
def profInposn : PSpec :=
  { base := 0x4006, axis := true, apply := .cycle, lo := 1, hi := 255, dflt := [4] }
/-- `es.hyst`. -/
def esHyst : PSpec :=
  { base := 0x4008, axis := true, frac := 16, apply := .cycle, lo := 0, hi := 6553600, dflt := [3277] }
/-! Feedback (group 5h). -/

/-- `fb.src`. -/
def fbSrc : PSpec :=
  { base := 0x5000, axis := true, apply := .start, lo := 0, hi := 2, dflt := [1] }
/-- `fb.filt`. -/
def fbFilt : PSpec :=
  { base := 0x5001, axis := true, apply := .start, lo := 0, hi := 15, dflt := [3] }
/-- `fb.lines`. -/
def fbLines : PSpec :=
  { base := 0x5002, axis := true, apply := .start, lo := 1, hi := 65535, dflt := [2048] }
/-- `fb.dir`. -/
def fbDir : PSpec :=
  { base := 0x5003, axis := true, apply := .start, lo := 0, hi := 1 }
/-- `fb.zmode`. -/
def fbZmode : PSpec :=
  { base := 0x5004, axis := true, apply := .cycle, lo := 0, hi := 2, dflt := [1] }
/-- `fb.zqual`. -/
def fbZqual : PSpec :=
  { base := 0x5005, axis := true, apply := .cycle, lo := 0, hi := 4 }
/-- `fb.zval`. -/
def fbZval : PSpec :=
  { base := 0x5006, axis := true, signed := true, apply := .cycle, lo := (-2147483648), hi := 2147483647 }
/-- `fb.lcchk`. -/
def fbLcchk : PSpec :=
  { base := 0x5007, axis := true, apply := .cycle, lo := 0, hi := 1, dflt := [1] }
/-- `fb.lctol`. -/
def fbLctol : PSpec :=
  { base := 0x5008, axis := true, apply := .cycle, lo := 0, hi := 255, dflt := [4] }
/-- `fb.spd`. -/
def fbSpd : PSpec :=
  { base := 0x5009, axis := true, apply := .start, lo := 0, hi := 1, dflt := [1] }
/-- `fb.win`. -/
def fbWin : PSpec :=
  { base := 0x500A, axis := true, apply := .start, lo := 1, hi := 128, dflt := [8] }
/-- `ref.mode`. -/
def refMode : PSpec :=
  { base := 0x5010, axis := true, apply := .now, lo := 0, hi := 2 }
/-- `ref.edge`. -/
def refEdge : PSpec :=
  { base := 0x5011, axis := true, apply := .now, lo := 0, hi := 2 }
/-- `ref.filt`. -/
def refFilt : PSpec :=
  { base := 0x5012, axis := true, apply := .now, lo := 0, hi := 255, dflt := [200] }
/-- `res.exc`. -/
def resExc : PSpec :=
  { base := 0x5018, axis := true, apply := .start, lo := 0, hi := 1 }
/-- `res.pp`. -/
def resPp : PSpec :=
  { base := 0x5019, axis := true, apply := .start, lo := 1, hi := 16, dflt := [1] }
/-- `res.delay`. -/
def resDelay : PSpec :=
  { base := 0x501A, axis := true, apply := .cycle, lo := 0, hi := 10000 }
/-- `res.amin`. -/
def resAmin : PSpec :=
  { base := 0x501B, axis := true, frac := 31, apply := .cycle, lo := 107374183, hi := 2147483648, dflt := [644245094] }
/-- `res.amax`. -/
def resAmax : PSpec :=
  { base := 0x501C, axis := true, frac := 31, apply := .cycle, lo := 107374183, hi := 2147483648, dflt := [2040109466] }
/-- `res.bw`. -/
def resBw : PSpec :=
  { base := 0x501D, axis := true, frac := 16, apply := .cycle, lo := 3276800, hi := 327680000, dflt := [65536000] }
/-- `res.terr`. -/
def resTerr : PSpec :=
  { base := 0x501E, axis := true, frac := 16, apply := .cycle, lo := 32768, hi := 5898240, dflt := [655360] }
/-- `res.texc0, res.texc1`. -/
def resTexc : PSpec :=
  { base := 0x5F00, count := 2, apply := .start, lo := 1000, hi := 5000, dflt := [2000] }
/-- `spn.mode`. -/
def spMode : PSpec :=
  { base := 0x5F10, count := 3, stride := 0x10, apply := .start, lo := 0, hi := 2 }
/-- `spn.tick`. -/
def spTick : PSpec :=
  { base := 0x5F11, count := 3, stride := 0x10, frac := 24, apply := .start, lo := 50331648, hi := 1509949440, dflt := [50331648] }
/-- `spn.nib`. -/
def spNib : PSpec :=
  { base := 0x5F12, count := 3, stride := 0x10, apply := .start, lo := 1, hi := 6, dflt := [6] }
/-- `spn.crc`. -/
def spCrc : PSpec :=
  { base := 0x5F13, count := 3, stride := 0x10, apply := .start, lo := 0, hi := 1, dflt := [1] }
/-- `spn.ser`. -/
def spSer : PSpec :=
  { base := 0x5F14, count := 3, stride := 0x10, apply := .start, lo := 0, hi := 2 }
/-- `spn.pause`. -/
def spPause : PSpec :=
  { base := 0x5F15, count := 3, stride := 0x10, apply := .start, lo := 0, hi := 1 }
/-- `spn.tmo`. -/
def spTmo : PSpec :=
  { base := 0x5F16, count := 3, stride := 0x10, apply := .cycle, lo := 100, hi := 100000, dflt := [5000] }
/-- `spn.clk`. -/
def spClk : PSpec :=
  { base := 0x5F17, count := 3, stride := 0x10, apply := .start, lo := 100, hi := 2000, dflt := [1000] }
/-- `spn.bits`. -/
def spBits : PSpec :=
  { base := 0x5F18, count := 3, stride := 0x10, apply := .start, lo := 8, hi := 32, dflt := [25] }
/-- `spn.gray`. -/
def spGray : PSpec :=
  { base := 0x5F19, count := 3, stride := 0x10, apply := .start, lo := 0, hi := 1, dflt := [1] }
/-- `spn.ebit`. -/
def spEbit : PSpec :=
  { base := 0x5F1A, count := 3, stride := 0x10, apply := .start, lo := 0, hi := 32 }
/-- `spn.mono`. -/
def spMono : PSpec :=
  { base := 0x5F1B, count := 3, stride := 0x10, apply := .start, lo := 1, hi := 64, dflt := [20] }
/-- `spn.sdel`. -/
def spSdel : PSpec :=
  { base := 0x5F1C, count := 3, stride := 0x10, apply := .start, lo := 0, hi := 200 }
/-- `spn.trig`. -/
def spTrig : PSpec :=
  { base := 0x5F1D, count := 3, stride := 0x10, apply := .start, lo := 0, hi := 8 }
/-- `ws.teeth0 to ws.teeth7`. -/
def wsTeeth : PSpec :=
  { base := 0x5F40, count := 8, apply := .cycle, lo := 1, hi := 1000, dflt := [48] }
/-- `ws.edge`. -/
def wsEdge : PSpec :=
  { base := 0x5F48, apply := .start, lo := 0, hi := 1 }
/-- `ws.filt`. -/
def wsFilt : PSpec :=
  { base := 0x5F49, apply := .start, lo := 0, hi := 65535, dflt := [2000] }
/-- `ws.tmo`. -/
def wsTmo : PSpec :=
  { base := 0x5F4A, apply := .cycle, lo := 10, hi := 2000, dflt := [250] }
/-- `ws.fmax`. -/
def wsFmax : PSpec :=
  { base := 0x5F4B, apply := .cycle, lo := 100, hi := 100000, dflt := [5000] }
/-- `pdn.src`. -/
def pdSrc : PSpec :=
  { base := 0x5F50, count := 2, stride := 0x8, apply := .cycle, lo := 0, hi := 15 }
/-- `pdn.num`. -/
def pdNum : PSpec :=
  { base := 0x5F51, count := 2, stride := 0x8, apply := .now, lo := 1, hi := 65535, dflt := [1] }
/-- `pdn.den`. -/
def pdDen : PSpec :=
  { base := 0x5F52, count := 2, stride := 0x8, apply := .now, lo := 1, hi := 65535, dflt := [1] }
/-! Commutation (group 6h). -/

/-- `com.start`. -/
def comStart : PSpec :=
  { base := 0x6000, axis := true, apply := .start, lo := 0, hi := 1 }
/-- `com.off`. -/
def comOff : PSpec :=
  { base := 0x6001, axis := true, frac := 32, apply := .cycle, lo := 0, hi := 4294967295 }
/-- `com.ztol`. -/
def comZtol : PSpec :=
  { base := 0x6002, axis := true, frac := 16, apply := .cycle, lo := 327680, hi := 5898240, dflt := [2949120] }
/-- `com.ialign`. -/
def comIalign : PSpec :=
  { base := 0x6003, axis := true, frac := 16, apply := .now, lo := 0, hi := 131072000, dflt := [1310720] }
/-- `com.talign`. -/
def comTalign : PSpec :=
  { base := 0x6004, axis := true, apply := .now, lo := 10, hi := 5000, dflt := [500] }
/-- `com.iol`. -/
def comIol : PSpec :=
  { base := 0x6008, axis := true, frac := 16, apply := .cycle, lo := 0, hi := 131072000, dflt := [3276800] }
/-- `com.aol`. -/
def comAol : PSpec :=
  { base := 0x6009, axis := true, frac := 8, apply := .cycle, lo := 256, hi := 256000000, dflt := [512000] }
/-- `com.sb1 to com.sb4`. -/
def comSb : PSpec :=
  { base := 0x600A, axis := true, count := 4, frac := 16, apply := .cycle, lo := 0, hi := 327680000, dflt := [1310720, 3932160, 9830400, 19660800] }
/-- `com.iif`. -/
def comIif : PSpec :=
  { base := 0x6010, axis := true, frac := 16, apply := .cycle, lo := 0, hi := 131072000, dflt := [3276800] }
/-- `com.tifa`. -/
def comTifa : PSpec :=
  { base := 0x6011, axis := true, apply := .cycle, lo := 1, hi := 2000, dflt := [100] }
/-- `com.aif`. -/
def comAif : PSpec :=
  { base := 0x6012, axis := true, frac := 8, apply := .cycle, lo := 256, hi := 25600000, dflt := [51200] }
/-- `com.wif`. -/
def comWif : PSpec :=
  { base := 0x6013, axis := true, frac := 16, apply := .cycle, lo := 65536, hi := 65536000, dflt := [1638400] }
/-- `com.tifc`. -/
def comTifc : PSpec :=
  { base := 0x6014, axis := true, apply := .cycle, lo := 1, hi := 500, dflt := [20] }
/-- `com.etol`. -/
def comEtol : PSpec :=
  { base := 0x6015, axis := true, frac := 31, apply := .cycle, lo := 107374183, hi := 1932735283, dflt := [644245094] }
/-- `com.ifn`. -/
def comIfn : PSpec :=
  { base := 0x6016, axis := true, apply := .cycle, lo := 1, hi := 8, dflt := [3] }
/-- `com.ifang`. -/
def comIfang : PSpec :=
  { base := 0x6017, axis := true, frac := 16, apply := .cycle, lo := 0, hi := 23527424 }
/-- `com.tsp`. -/
def comTsp : PSpec :=
  { base := 0x6018, axis := true, apply := .cycle, lo := 2, hi := 200, dflt := [30] }
/-- `com.spp`. -/
def comSpp : PSpec :=
  { base := 0x6019, axis := true, apply := .cycle, lo := 2, hi := 64, dflt := [10] }
/-- `com.scont`. -/
def comScont : PSpec :=
  { base := 0x601A, axis := true, frac := 31, apply := .cycle, lo := 10737419, hi := 1073741824, dflt := [42949673] }
/-- `com.tzv`. -/
def comTzv : PSpec :=
  { base := 0x601C, axis := true, apply := .cycle, lo := 2, hi := 200, dflt := [40] }
/-- `com.tzp`. -/
def comTzp : PSpec :=
  { base := 0x601D, axis := true, apply := .cycle, lo := 1, hi := 16, dflt := [4] }
/-- `com.ecatch`. -/
def comEcatch : PSpec :=
  { base := 0x601E, axis := true, frac := 16, apply := .cycle, lo := 6554, hi := 6553600, dflt := [131072] }
/-- `com.idbrk`. -/
def comIdbrk : PSpec :=
  { base := 0x601F, axis := true, frac := 16, apply := .cycle, lo := 0, hi := 131072000, dflt := [3276800] }
/-- `com.tbrk`. -/
def comTbrk : PSpec :=
  { base := 0x6020, axis := true, apply := .cycle, lo := 10, hi := 10000, dflt := [2000] }
/-- `ov.idd`. -/
def ovIdd : PSpec :=
  { base := 0x6021, axis := true, frac := 16, apply := .cycle, lo := 0, hi := 131072000, dflt := [3276800] }
/-! Supervision (group 7h). -/

/-- `sup.res1`. -/
def supRes1 : PSpec :=
  { base := 0x7000, axis := true, frac := 16, apply := .cycle, lo := 6554, hi := 131072000, dflt := [983040] }
/-- `sup.res2`. -/
def supRes2 : PSpec :=
  { base := 0x7001, axis := true, frac := 16, apply := .cycle, lo := 6554, hi := 131072000, dflt := [2621440] }
/-- `sup.n1`. -/
def supN1 : PSpec :=
  { base := 0x7002, axis := true, apply := .cycle, lo := 1, hi := 1000, dflt := [40] }
/-- `sup.n2`. -/
def supN2 : PSpec :=
  { base := 0x7003, axis := true, apply := .cycle, lo := 1, hi := 64, dflt := [4] }
/-- `sup.settle`. -/
def supSettle : PSpec :=
  { base := 0x7004, axis := true, apply := .cycle, lo := 1, hi := 255, dflt := [8] }
/-! Steering (group 8h). -/

/-- `sbw.en`. -/
def sbwEn : PSpec :=
  { base := 0x8F00, field := true, apply := .start, lo := 0, hi := 15 }
/-- `sbw.hwmotor`. -/
def sbwHwmotor : PSpec :=
  { base := 0x8F01, apply := .start, lo := 1, hi := 254, dflt := [4] }
/-- `sbw.hwgear`. -/
def sbwHwgear : PSpec :=
  { base := 0x8F02, frac := 16, apply := .start, lo := 6554, hi := 3276800, dflt := [65536] }
/-- `sbw.hwportL`. -/
def sbwHwport : PSpec :=
  { base := 0x8F03, count := 3, apply := .start, lo := 0, hi := 3, dflt := [3] }
/-- `sbw.hwlsb`. -/
def sbwHwlsb : PSpec :=
  { base := 0x8F06, frac := 24, signed := true, apply := .cycle, lo := (-167772160), hi := 167772160, dflt := [1677722] }
/-- `sbw.hwtol`. -/
def sbwHwtol : PSpec :=
  { base := 0x8F07, frac := 16, apply := .cycle, lo := 6554, hi := 2949120, dflt := [196608] }
/-- `sbw.vtolang`. -/
def sbwVtolang : PSpec :=
  { base := 0x8F08, frac := 16, apply := .cycle, lo := 656, hi := 655360, dflt := [6554] }
/-- `sbw.vtoltq`. -/
def sbwVtoltq : PSpec :=
  { base := 0x8F09, frac := 16, apply := .cycle, lo := 656, hi := 655360, dflt := [13107] }
/-- `sbw.vtolbs`. -/
def sbwVtolbs : PSpec :=
  { base := 0x8F0A, frac := 16, apply := .cycle, lo := 656, hi := 3276800, dflt := [32768] }
/-- `sbw.rv0 to sbw.rv7`. -/
def sbwRv : PSpec :=
  { base := 0x8F10, count := 8, frac := 16, apply := .cycle, lo := 0, hi := 13107200 }
/-- `sbw.rr0 to sbw.rr7`. -/
def sbwRr : PSpec :=
  { base := 0x8F18, count := 8, frac := 16, apply := .cycle, lo := 327680, hi := 3276800, dflt := [1048576] }
/-- `sbw.motorn`. -/
def sbwMotor : PSpec :=
  { base := 0x8F20, count := 3, stride := 0x8, apply := .start, lo := 1, hi := 254, dflt := [1, 2, 3] }
/-- `sbw.kxn`. -/
def sbwKx : PSpec :=
  { base := 0x8F21, count := 3, stride := 0x8, frac := 24, signed := true, apply := .cycle, lo := (-838860800), hi := 838860800, dflt := [75497472] }
/-- `sbw.dmaxn`. -/
def sbwDmax : PSpec :=
  { base := 0x8F22, count := 3, stride := 0x8, frac := 16, apply := .cycle, lo := 0, hi := 3932160, dflt := [2949120] }
/-- `sbw.raten`. -/
def sbwRate : PSpec :=
  { base := 0x8F23, count := 3, stride := 0x8, frac := 16, apply := .cycle, lo := 65536, hi := 13107200, dflt := [1966080] }
/-- `sbw.rate1n`. -/
def sbwRate1 : PSpec :=
  { base := 0x8F24, count := 3, stride := 0x8, frac := 16, apply := .cycle, lo := 65536, hi := 13107200, dflt := [983040] }
/-- `sbw.xrefn`. -/
def sbwXref : PSpec :=
  { base := 0x8F25, count := 3, stride := 0x8, frac := 16, signed := true, apply := .cycle, lo := (-32768000), hi := 32768000 }
/-- `sbw.ctoln`. -/
def sbwCtol : PSpec :=
  { base := 0x8F26, count := 3, stride := 0x8, frac := 16, apply := .cycle, lo := 6554, hi := 1310720, dflt := [131072] }
/-- `sbw.esmargn`. -/
def sbwEsmarg : PSpec :=
  { base := 0x8F27, count := 3, stride := 0x8, frac := 16, apply := .start, lo := 0, hi := 655360, dflt := [65536] }
/-- `sbw.kart1, sbw.kart2`. -/
def sbwKart : PSpec :=
  { base := 0x8F40, count := 2, frac := 24, signed := true, apply := .cycle, lo := (-83886080), hi := 83886080 }
/-- `sbw.vrs1`. -/
def sbwVrs1 : PSpec :=
  { base := 0x8F42, frac := 16, apply := .cycle, lo := 0, hi := 13107200, dflt := [1966080] }
/-- `sbw.vrs2`. -/
def sbwVrs2 : PSpec :=
  { base := 0x8F43, frac := 16, apply := .cycle, lo := 0, hi := 13107200, dflt := [3276800] }
/-- `sbw.artcid`. -/
def sbwArtcid : PSpec :=
  { base := 0x8F44, apply := .start, lo := 0, hi := 65535 }
/-- `sbw.kfb`. -/
def sbwKfb : PSpec :=
  { base := 0x8F50, frac := 24, signed := true, apply := .now, lo := (-167772160), hi := 167772160, dflt := [4194304] }
/-- `sbw.kd`. -/
def sbwKd : PSpec :=
  { base := 0x8F51, frac := 16, apply := .now, lo := 0, hi := 655360, dflt := [131] }
/-- `sbw.tfric`. -/
def sbwTfric : PSpec :=
  { base := 0x8F52, frac := 16, apply := .now, lo := 0, hi := 655360, dflt := [19661] }
/-- `sbw.wfric`. -/
def sbwWfric : PSpec :=
  { base := 0x8F53, frac := 16, apply := .now, lo := 6554, hi := 6553600, dflt := [327680] }
/-- `sbw.kcen`. -/
def sbwKcen : PSpec :=
  { base := 0x8F54, frac := 16, apply := .now, lo := 0, hi := 65536 }
/-- `sbw.kes`. -/
def sbwKes : PSpec :=
  { base := 0x8F55, frac := 16, apply := .now, lo := 0, hi := 655360, dflt := [32768] }
/-- `sbw.tfmax`. -/
def sbwTfmax : PSpec :=
  { base := 0x8F56, frac := 16, apply := .now, lo := 0, hi := 3276800, dflt := [393216] }
/-- `sbw.tfmax1`. -/
def sbwTfmax1 : PSpec :=
  { base := 0x8F57, frac := 16, apply := .now, lo := 0, hi := 3276800, dflt := [262144] }
/-- `sbw.hwstop`. -/
def sbwHwstop : PSpec :=
  { base := 0x8F58, frac := 16, apply := .start, lo := 5898240, hi := 70778880, dflt := [47185920] }
/-- `sbw.aylim`. -/
def sbwAylim : PSpec :=
  { base := 0x8F60, frac := 16, apply := .cycle, lo := 32768, hi := 327680, dflt := [98304] }
/-- `sbw.wb`. -/
def sbwWb : PSpec :=
  { base := 0x8F61, frac := 16, apply := .cycle, lo := 131072, hi := 655360, dflt := [386662] }
/-- `sbw.kbs`. -/
def sbwKbs : PSpec :=
  { base := 0x8F62, frac := 16, apply := .cycle, lo := 0, hi := 6553600, dflt := [131072] }
/-- `sbw.dfmax`. -/
def sbwDfmax : PSpec :=
  { base := 0x8F63, frac := 16, apply := .cycle, lo := 0, hi := 6553600, dflt := [1310720] }
/-- `sbw.kbsa`. -/
def sbwKbsa : PSpec :=
  { base := 0x8F64, frac := 16, apply := .cycle, lo := 0, hi := 6553600, dflt := [65536] }
/-- `sbw.ferrt`. -/
def sbwFerrt : PSpec :=
  { base := 0x8F68, apply := .cycle, lo := 10, hi := 10000, dflt := [500] }
/-- `sbw.hvel`. -/
def sbwHvel : PSpec :=
  { base := 0x8F6A, frac := 16, apply := .cycle, lo := 65536, hi := 6553600, dflt := [655360] }
/-- `sbw.hsearch`. -/
def sbwHsearch : PSpec :=
  { base := 0x8F6B, frac := 16, apply := .cycle, lo := 65536, hi := 13107200, dflt := [3932160] }
/-! Braking (group 9h). -/

/-- `bw.en`. -/
def bwEn : PSpec :=
  { base := 0x9F00, field := true, apply := .start, lo := 0, hi := 1023 }
/-- `bw.mass`. -/
def bwMass : PSpec :=
  { base := 0x9F01, apply := .cycle, lo := 1000, hi := 60000, dflt := [29000] }
/-- `bw.amax`. -/
def bwAmax : PSpec :=
  { base := 0x9F02, frac := 16, apply := .cycle, lo := 32768, hi := 655360, dflt := [393216] }
/-- `bw.atrim`. -/
def bwAtrim : PSpec :=
  { base := 0x9F03, frac := 16, apply := .cycle, lo := 0, hi := 131072, dflt := [32768] }
/-- `bw.ktrim`. -/
def bwKtrim : PSpec :=
  { base := 0x9F04, frac := 16, apply := .cycle, lo := 0, hi := 655360, dflt := [65536] }
/-- `bw.pedportL`. -/
def bwPedport : PSpec :=
  { base := 0x9F05, count := 3, apply := .start, lo := 0, hi := 3, dflt := [3] }
/-- `bw.pedlsb`. -/
def bwPedlsb : PSpec :=
  { base := 0x9F08, frac := 24, signed := true, apply := .cycle, lo := (-167772160), hi := 167772160, dflt := [419430] }
/-- `bw.pedtol`. -/
def bwPedtol : PSpec :=
  { base := 0x9F09, frac := 16, apply := .cycle, lo := 32768, hi := 3276800, dflt := [327680] }
/-- `bw.pt0 to bw.pt3`. -/
def bwPt : PSpec :=
  { base := 0x9F10, count := 4, frac := 16, apply := .cycle, lo := 0, hi := 6553600, dflt := [0, 655360, 3932160, 6553600] }
/-- `bw.pa0 to bw.pa3`. -/
def bwPa : PSpec :=
  { base := 0x9F14, count := 4, frac := 16, apply := .cycle, lo := 0, hi := 655360, dflt := [0, 0, 196608, 393216] }
/-- `bw.extcid`. -/
def bwExtcid : PSpec :=
  { base := 0x9F18, apply := .start, lo := 0, hi := 65535 }
/-- `bw.invcid`. -/
def bwInvcid : PSpec :=
  { base := 0x9F19, apply := .start, lo := 0, hi := 65535 }
/-- `bw.reqcid`. -/
def bwReqcid : PSpec :=
  { base := 0x9F1A, apply := .start, lo := 0, hi := 65533 }
/-- `bw.latchcid`. -/
def bwLatchcid : PSpec :=
  { base := 0x9F1B, apply := .start, lo := 0, hi := 65535 }
/-- `bw.parkcid`. -/
def bwParkcid : PSpec :=
  { base := 0x9F1C, apply := .start, lo := 0, hi := 65535 }
/-- `bw.motorw`. -/
def bwMotor : PSpec :=
  { base := 0x9F20, count := 8, apply := .start, lo := 1, hi := 254, dflt := [17, 18, 19, 20, 21, 22, 23, 24] }
/-- `bw.sharea`. -/
def bwShare : PSpec :=
  { base := 0x9F28, count := 4, frac := 31, apply := .cycle, lo := 0, hi := 2147483648, dflt := [536870912] }
/-- `bw.kclaa`. -/
def bwKcla : PSpec :=
  { base := 0x9F2C, count := 4, frac := 16, apply := .cycle, lo := 32768, hi := 1310720, dflt := [217842] }
/-- `bw.drive`. -/
def bwDrive : PSpec :=
  { base := 0x9F30, field := true, apply := .cycle, lo := 0, hi := 15, dflt := [6] }
/-- `bw.vrmin`. -/
def bwVrmin : PSpec :=
  { base := 0x9F31, frac := 16, apply := .cycle, lo := 32768, hi := 655360, dflt := [131072] }
/-- `bw.invn`. -/
def bwInvn : PSpec :=
  { base := 0x9F32, apply := .cycle, lo := 1, hi := 20, dflt := [1] }
/-- `bw.lon`. -/
def bwLon : PSpec :=
  { base := 0x9F33, frac := 31, apply := .cycle, lo := 42949673, hi := 1073741824, dflt := [322122547] }
/-- `bw.ltgt`. -/
def bwLtgt : PSpec :=
  { base := 0x9F34, frac := 31, apply := .cycle, lo := 21474837, hi := 1073741824, dflt := [214748365] }
/-- `bw.kslip`. -/
def bwKslip : PSpec :=
  { base := 0x9F35, frac := 8, apply := .cycle, lo := 256, hi := 25600000, dflt := [512000] }
/-- `bw.vslip`. -/
def bwVslip : PSpec :=
  { base := 0x9F36, frac := 16, apply := .cycle, lo := 65536, hi := 1310720, dflt := [327680] }
/-- `bw.trre`. -/
def bwTrre : PSpec :=
  { base := 0x9F37, apply := .cycle, lo := 0, hi := 10000, dflt := [500] }
/-- `bw.fmax`. -/
def bwFmax : PSpec :=
  { base := 0x9F38, frac := 16, apply := .cycle, lo := 65536, hi := 32768000, dflt := [6553600] }
/-- `bw.fmax1`. -/
def bwFmax1 : PSpec :=
  { base := 0x9F39, frac := 16, apply := .cycle, lo := 65536, hi := 32768000, dflt := [3276800] }
/-- `bw.fasym`. -/
def bwFasym : PSpec :=
  { base := 0x9F3A, frac := 16, apply := .cycle, lo := 0, hi := 32768000, dflt := [655360] }
/-- `bw.gap`. -/
def bwGap : PSpec :=
  { base := 0x9F40, frac := 16, apply := .cycle, lo := 3277, hi := 131072, dflt := [19661] }
/-- `bw.kvirt`. -/
def bwKvirt : PSpec :=
  { base := 0x9F41, frac := 16, apply := .cycle, lo := 65536, hi := 6553600, dflt := [655360] }
/-- `bw.lead`. -/
def bwLead : PSpec :=
  { base := 0x9F42, frac := 24, apply := .start, lo := 167773, hi := 335544320, dflt := [4194304] }
/-- `bw.eta`. -/
def bwEta : PSpec :=
  { base := 0x9F43, frac := 31, apply := .cycle, lo := 644245095, hi := 2147483648, dflt := [1825361101] }
/-- `bw.fcont`. -/
def bwFcont : PSpec :=
  { base := 0x9F44, frac := 16, apply := .cycle, lo := 6554, hi := 655360, dflt := [65536] }
/-- `bw.cstep`. -/
def bwCstep : PSpec :=
  { base := 0x9F45, frac := 16, apply := .cycle, lo := 66, hi := 65536, dflt := [3277] }
/-- `bw.ftol`. -/
def bwFtol : PSpec :=
  { base := 0x9F46, frac := 16, apply := .cycle, lo := 32768, hi := 3276800, dflt := [327680] }
/-- `bw.fn`. -/
def bwFn : PSpec :=
  { base := 0x9F47, apply := .cycle, lo := 1, hi := 1000, dflt := [10] }
/-- `bw.wplaus`. -/
def bwWplaus : PSpec :=
  { base := 0x9F48, frac := 16, apply := .cycle, lo := 65536, hi := 65536000, dflt := [1310720] }
/-- `bw.sx0 to bw.sx7`. -/
def bwSx : PSpec :=
  { base := 0x9F50, count := 8, frac := 16, apply := .cycle, lo := 0, hi := 655360, dflt := [0, 3277, 6554, 13107, 19661, 26214, 32768, 39322] }
/-- `bw.sf0 to bw.sf7`. -/
def bwSf : PSpec :=
  { base := 0x9F58, count := 8, frac := 16, apply := .cycle, lo := 0, hi := 32768000, dflt := [0, 327680, 786432, 1966080, 3407872, 5111808, 6946816, 8912896] }
/-- `bw.fpark`. -/
def bwFpark : PSpec :=
  { base := 0x9F60, frac := 16, apply := .cycle, lo := 65536, hi := 32768000, dflt := [3932160] }
/-- `bw.fover`. -/
def bwFover : PSpec :=
  { base := 0x9F61, frac := 16, apply := .cycle, lo := 0, hi := 3276800, dflt := [327680] }
/-- `bw.tlatch`. -/
def bwTlatch : PSpec :=
  { base := 0x9F62, apply := .cycle, lo := 10, hi := 5000, dflt := [200] }
/-- `bw.parkmask`. -/
def bwParkmask : PSpec :=
  { base := 0x9F63, field := true, apply := .cycle, lo := 0, hi := 255, dflt := [60] }
/-- `bw.wsmaskL`. -/
def bwWsmask : PSpec :=
  { base := 0x9F64, count := 3, field := true, apply := .start, lo := 0, hi := 255, dflt := [255] }
/-- `bw.vtolf`. -/
def bwVtolf : PSpec :=
  { base := 0x9F68, frac := 16, apply := .cycle, lo := 656, hi := 3276800, dflt := [32768] }
/-- `bw.vtolr`. -/
def bwVtolr : PSpec :=
  { base := 0x9F69, frac := 16, apply := .cycle, lo := 656, hi := 3276800, dflt := [32768] }
/-- `bw.ledsave`. -/
def bwLedsave : PSpec :=
  { base := 0x9F6A, apply := .cycle, lo := 10, hi := 3600, dflt := [60] }
/-! Safety (group Ah). -/

/-- `ss.kind`. -/
def ssKind : PSpec :=
  { base := 0xA000, axis := true, apply := .cycle, lo := 0, hi := 1 }
/-- `ss.dec`. -/
def ssDec : PSpec :=
  { base := 0xA001, axis := true, frac := 8, apply := .cycle, lo := 256, hi := 256000000, dflt := [512000] }
/-- `ss.dmon`. -/
def ssDmon : PSpec :=
  { base := 0xA002, axis := true, frac := 8, apply := .cycle, lo := 256, hi := 256000000, dflt := [256000] }
/-- `ss.wtol`. -/
def ssWtol : PSpec :=
  { base := 0xA003, axis := true, frac := 16, apply := .cycle, lo := 6554, hi := 65536000, dflt := [1310720] }
/-- `ss.wstop`. -/
def ssWstop : PSpec :=
  { base := 0xA004, axis := true, frac := 16, apply := .cycle, lo := 6554, hi := 6553600, dflt := [131072] }
/-- `ss.tmax`. -/
def ssTmax : PSpec :=
  { base := 0xA005, axis := true, apply := .cycle, lo := 10, hi := 30000, dflt := [2000] }
/-- `si.moden`. -/
def siMode : PSpec :=
  { base := 0xAF00, count := 6, stride := 0x8, apply := .start, lo := 0, hi := 2 }
/-- `si.dtn`. -/
def siDt : PSpec :=
  { base := 0xAF01, count := 6, stride := 0x8, apply := .start, lo := 1, hi := 500, dflt := [50] }
/-- `si.funcn`. -/
def siFunc : PSpec :=
  { base := 0xAF02, count := 6, stride := 0x8, apply := .start, lo := 0, hi := 3 }
/-- `si.maskn`. -/
def siMask : PSpec :=
  { base := 0xAF03, count := 6, stride := 0x8, field := true, apply := .start, lo := 0, hi := 255 }
/-- `si.waken`. -/
def siWake : PSpec :=
  { base := 0xAF04, count := 6, stride := 0x8, apply := .start, lo := 0, hi := 1 }
/-- `ss.vdec`. -/
def ssVdec : PSpec :=
  { base := 0xAF40, frac := 16, apply := .cycle, lo := 32768, hi := 393216, dflt := [196608] }
/-- `ss.vmon`. -/
def ssVmon : PSpec :=
  { base := 0xAF41, frac := 16, apply := .cycle, lo := 13108, hi := 393216, dflt := [98304] }
/-- `ss.vdel`. -/
def ssVdel : PSpec :=
  { base := 0xAF42, apply := .cycle, lo := 100, hi := 2000, dflt := [500] }
/-- `ss.vtol`. -/
def ssVtol : PSpec :=
  { base := 0xAF43, frac := 16, apply := .cycle, lo := 6554, hi := 327680, dflt := [32768] }
/-- `ss.tstill`. -/
def ssTstill : PSpec :=
  { base := 0xAF44, apply := .cycle, lo := 100, hi := 10000, dflt := [1000] }
/-- `nv.pubcid`. -/
def nvPubcid : PSpec :=
  { base := 0xAF48, apply := .start, lo := 1, hi := 65530, dflt := [61440] }
/-- `nv.cidc`. -/
def nvCid : PSpec :=
  { base := 0xAF80, count := 16, stride := 0x8, apply := .start, lo := 0, hi := 65535 }
/-- `nv.cfgc`. -/
def nvCfg : PSpec :=
  { base := 0xAF81, count := 16, stride := 0x8, field := true, apply := .start, lo := 4096, hi := 3604227, mask := 0x003FFF03, dflt := [4864] }
/-- `nv.dlc`. -/
def nvDl : PSpec :=
  { base := 0xAF82, count := 16, stride := 0x8, apply := .cycle, lo := 250, hi := 1000000, dflt := [3000] }
/-- `nv.agec`. -/
def nvAge : PSpec :=
  { base := 0xAF83, count := 16, stride := 0x8, apply := .cycle, lo := 10, hi := 1000000, dflt := [2000] }
/-- `nv.skewc`. -/
def nvSkew : PSpec :=
  { base := 0xAF84, count := 16, stride := 0x8, apply := .cycle, lo := 0, hi := 1000, dflt := [5] }
/-- `nv.dvalc`. -/
def nvDval : PSpec :=
  { base := 0xAF85, count := 16, stride := 0x8, apply := .cycle, lo := 0, hi := 4294967295 }
/-! VTB (group Bh). -/

/-- `vtb.cycle`. -/
def vtbCycle : PSpec :=
  { base := 0xBF00, apply := .start, lo := 250, hi := 5000, list := [250, 500, 1000, 2000, 3000, 4000, 5000], dflt := [1000] }
/-- `vtb.tss`. -/
def vtbTss : PSpec :=
  { base := 0xBF01, apply := .start, lo := 3, hi := 15, dflt := [5] }
/-- `vtb.delay`. -/
def vtbDelay : PSpec :=
  { base := 0xBF02, apply := .start, lo := 0, hi := 2000, dflt := [200] }
/-- `vtb.cold`. -/
def vtbCold : PSpec :=
  { base := 0xBF03, field := true, apply := .start, lo := 0, hi := 63, dflt := [11] }
/-- `vtb.csoffi`. -/
def vtbCsoff : PSpec :=
  { base := 0xBF04, count := 6, apply := .start, lo := 0, hi := 5000, dflt := [0, 100, 200, 300, 400, 500] }
/-- `vtb.gdn`. -/
def vtbGdn : PSpec :=
  { base := 0xBF0A, apply := .cycle, lo := 1, hi := 64, dflt := [4] }
/-- `vtb.slots`. -/
def vtbSlot : PSpec :=
  { base := 0xBF40, count := 64, field := true, apply := .start, lo := 0, hi := 267878176, mask := 0x0FFFFFFF }
/-! Networks (group Ch). -/

/-- `cann.mode`. -/
def canMode : PSpec :=
  { base := 0xCF00, count := 2, stride := 0x8, apply := .start, lo := 0, hi := 2, dflt := [2] }
/-- `cann.nbr`. -/
def canNbr : PSpec :=
  { base := 0xCF01, count := 2, stride := 0x8, apply := .start, lo := 125, hi := 1000, list := [125, 250, 500, 1000], dflt := [500] }
/-- `cann.dbr`. -/
def canDbr : PSpec :=
  { base := 0xCF02, count := 2, stride := 0x8, apply := .start, lo := 1000, hi := 8000, list := [1000, 2000, 4000, 5000, 8000], dflt := [2000] }
/-- `cann.tdco`. -/
def canTdco : PSpec :=
  { base := 0xCF03, count := 2, stride := 0x8, apply := .start, lo := 0, hi := 127, dflt := [10] }
/-- `cann.txtmo`. -/
def canTxtmo : PSpec :=
  { base := 0xCF04, count := 2, stride := 0x8, apply := .cycle, lo := 1, hi := 1000, dflt := [10] }
/-- `cann.fidf`. -/
def canFid : PSpec :=
  { base := 0xCF20, count := 32, stride := 0x2, field := true, apply := .start, lo := 0, hi := 4294967295 }
/-- `cann.fmskf`. -/
def canFmsk : PSpec :=
  { base := 0xCF21, count := 32, stride := 0x2, field := true, apply := .start, lo := 0, hi := 536870911, dflt := [536870911] }
/-- `eth.mac hi`. A write with any of bits 31 to 16 set is refused with ST_RANGE (DESIGN CHOICE, log entry 7). -/
def ethMacHi : PSpec :=
  { base := 0xCF80, field := true, apply := .start, lo := 0, hi := 65279, dflt := [672] }
/-- `eth.mac lo`. -/
def ethMacLo : PSpec :=
  { base := 0xCF81, field := true, apply := .start, lo := 0, hi := 4294967295, dflt := [3003121664] }
/-- `eth.ip`. -/
def ethIp : PSpec :=
  { base := 0xCF82, apply := .start, lo := 0, hi := 4294967295, dflt := [3232238096] }
/-- `eth.netmask`. -/
def ethNetmask : PSpec :=
  { base := 0xCF83, apply := .start, lo := 0, hi := 4294967295, dflt := [4294967040] }
/-- `eth.gw`. -/
def ethGw : PSpec :=
  { base := 0xCF84, apply := .start, lo := 0, hi := 4294967295 }
/-- `eth.vlan`. -/
def ethVlan : PSpec :=
  { base := 0xCF85, field := true, apply := .start, lo := 0, hi := 65535 }
/-- `eth.vidf`. -/
def ethVid : PSpec :=
  { base := 0xCF88, count := 8, field := true, apply := .start, lo := 0, hi := 36863, mask := 0xFFFF8FFF }
/-- `eth.tport`. -/
def ethTport : PSpec :=
  { base := 0xCF98, apply := .start, lo := 1024, hi := 65535, dflt := [49320] }
/-- `eth.nport`. -/
def ethNport : PSpec :=
  { base := 0xCF99, apply := .start, lo := 1024, hi := 65535, dflt := [49321] }
/-- `eth.dport`. -/
def ethDport : PSpec :=
  { base := 0xCF9A, apply := .start, lo := 1024, hi := 65535, dflt := [49322] }
/-- `net.txcidj`. -/
def netTxcid : PSpec :=
  { base := 0xCFA0, count := 8, stride := 0x2, field := true, apply := .start, lo := 0, hi := 327679, mask := 0x0007FFFF }
/-- `net.txaddrj`. -/
def netTxaddr : PSpec :=
  { base := 0xCFA1, count := 8, stride := 0x2, field := true, apply := .start, lo := 0, hi := 4294967295 }
/-! Power and arbiter (group Dh). -/

/-- `arb.class`. -/
def arbClass : PSpec :=
  { base := 0xD000, axis := true, apply := .cycle, lo := 0, hi := 4, dflt := [4] }
/-- `arb.floor`. -/
def arbFloor : PSpec :=
  { base := 0xD001, axis := true, apply := .cycle, lo := 0, hi := 20000 }
/-- `arb.ceil`. -/
def arbCeil : PSpec :=
  { base := 0xD002, axis := true, apply := .cycle, lo := 0, hi := 20000, dflt := [20000] }
/-- `pwr.pl`. -/
def pwrPl : PSpec :=
  { base := 0xDF00, apply := .start, lo := 0, hi := 3, dflt := [3] }
/-- `pwr.plmin`. -/
def pwrPlmin : PSpec :=
  { base := 0xDF01, apply := .cycle, lo := 0, hi := 3, dflt := [1] }
/-- `pwr.wake`. -/
def pwrWake : PSpec :=
  { base := 0xDF02, field := true, apply := .now, lo := 0, hi := 127, dflt := [99] }
/-- `pwr.wtimer`. -/
def pwrWtimer : PSpec :=
  { base := 0xDF03, apply := .now, lo := 0, hi := 604800 }
/-- `pmb.addr`. -/
def pmbAddr : PSpec :=
  { base := 0xDF08, apply := .start, lo := 8, hi := 119, dflt := [64] }
/-- `pmb.conf`. -/
def pmbConf : PSpec :=
  { base := 0xDF09, apply := .start, lo := 0, hi := 1 }
/-- `pmb.win`. -/
def pmbWin : PSpec :=
  { base := 0xDF0A, frac := 16, apply := .cycle, lo := 327680, hi := 3276800, dflt := [1310720] }
/-- `pmb.tpg`. -/
def pmbTpg : PSpec :=
  { base := 0xDF0B, apply := .cycle, lo := 10, hi := 400, dflt := [50] }
/-- `arb.bdrive`. -/
def arbBdrive : PSpec :=
  { base := 0xDF10, apply := .cycle, lo := 0, hi := 100000, dflt := [6000] }
/-- `arb.vsag`. -/
def arbVsag : PSpec :=
  { base := 0xDF11, frac := 16, apply := .cycle, lo := 1310720, hi := 3932160, dflt := [2621440] }
/-- `arb.vcut`. -/
def arbVcut : PSpec :=
  { base := 0xDF12, frac := 16, apply := .cycle, lo := 786432, hi := 3932160, dflt := [1966080] }
/-- `arb.supcid`. -/
def arbSupcid : PSpec :=
  { base := 0xDF13, apply := .start, lo := 0, hi := 65535 }
/-- `arb.bdie`. -/
def arbBdie : PSpec :=
  { base := 0xDF14, frac := 16, apply := .cycle, lo := 65536, hi := 252314, dflt := [252314] }
/-! Self-test and twin (group Eh). -/

/-- `st.npat`. -/
def stNpat : PSpec :=
  { base := 0xEF00, apply := .cycle, lo := 1024, hi := 65536, dflt := [16384] }
/-- `st.maxage`. -/
def stMaxage : PSpec :=
  { base := 0xEF01, apply := .cycle, lo := 1, hi := 720, dflt := [72] }
/-- `tw.pairtmo`. -/
def twPairtmo : PSpec :=
  { base := 0xEF40, apply := .start, lo := 1, hi := 100, dflt := [10] }
/-- `tw.vlimp`. -/
def twVlimp : PSpec :=
  { base := 0xEF41, frac := 16, apply := .cycle, lo := 327680, hi := 5242880, dflt := [1638400] }
/-- `tw.gradecid`. -/
def twGradecid : PSpec :=
  { base := 0xEF42, apply := .start, lo := 0, hi := 65533 }
/-! Signal unit (group Fh). -/

/-- `le.attach`. -/
def leAttach : PSpec :=
  { base := 0xF000, axis := true, apply := .cycle, lo := 0, hi := 3 }
/-- `le.entry`. -/
def leEntry : PSpec :=
  { base := 0xF001, axis := true, apply := .cycle, lo := 1280, hi := 2047, dflt := [1280] }
/-- `le.cmax`. -/
def leCmax : PSpec :=
  { base := 0xF002, axis := true, apply := .cycle, lo := 16, hi := 20000, dflt := [2000] }
/-- `sig.obsbw`. -/
def sigObsbw : PSpec :=
  { base := 0xF008, axis := true, frac := 16, apply := .cycle, lo := 1310720, hi := 131072000, dflt := [26214400] }
/-- `sig.vdl`. -/
def sigVdl : PSpec :=
  { base := 0xFF00, apply := .cycle, lo := 100, hi := 900, dflt := [500] }
/-- `sig.util`. -/
def sigUtil : PSpec :=
  { base := 0xFF01, frac := 31, apply := .cycle, lo := 1073741824, hi := 2147483648, dflt := [1932735283] }
/-- `sig.uentryn`. -/
def sigUentry : PSpec :=
  { base := 0xFF10, count := 8, stride := 0x4, apply := .cycle, lo := 5120, hi := 8191, dflt := [5120] }
/-- `sig.utrign`. -/
def sigUtrig : PSpec :=
  { base := 0xFF11, count := 8, stride := 0x4, apply := .cycle, lo := 0, hi := 17 }
/-- `sig.ucmaxn`. -/
def sigUcmax : PSpec :=
  { base := 0xFF12, count := 8, stride := 0x4, apply := .cycle, lo := 16, hi := 100000, dflt := [3000] }

/-- sys.fwver, sys.digest, sys.role, sys.lane: read-only (R412). -/
def sysRo : PSpec :=
  { base := 0x0F00, count := 4, apply := .ro, lo := 0, hi := 4294967295 }

/-- The rows of group 0h. -/
def group0 : List PSpec :=
  [sysRo, sysAlloc]

/-- The rows of group 1h. -/
def group1 : List PSpec :=
  [pwmHalf, pwmUpdate, pwmDead, pwmMinpulse, pwmPhase, dsmDec, dsmIch, elecIfs, elecPp, elecR, elecL,
   elecPsi, linkVfs, chopVon, chopVoff, chopEn, ovV1, ovV2, ovV3, ovHyst, ovDred]

/-- The rows of group 2h. -/
def group2 : List PSpec :=
  [curKp, curKi, curImax, curIdfw, curMmax, curVdcmin, curDec, curDelay, curSumtol, curIoc, curPaf, curPaa]

/-- The rows of group 3h. -/
def group3 : List PSpec :=
  [casLoop, casN1, casN2, casJ, casKps, casKis, casIwlim, casWflt, casKaff, casKvff, casWmax, casKpp, casKip,
   casIplim, casKpf, casKif, casIflim, casFslew, casPvtol, casPvn, casFerr, casFerrn, casGear, casRoff,
   casRtol, casRn, casRport, casRlsb]

/-- The rows of group 4h. -/
def group4 : List PSpec :=
  [profVmax, profAmax, profDmax, profJmax, profOtmax, profInpos, profInposn, esHyst]

/-- The rows of group 5h. -/
def group5 : List PSpec :=
  [fbSrc, fbFilt, fbLines, fbDir, fbZmode, fbZqual, fbZval, fbLcchk, fbLctol, fbSpd, fbWin, refMode, refEdge,
   refFilt, resExc, resPp, resDelay, resAmin, resAmax, resBw, resTerr, resTexc, spMode, spTick, spNib, spCrc,
   spSer, spPause, spTmo, spClk, spBits, spGray, spEbit, spMono, spSdel, spTrig, wsTeeth, wsEdge, wsFilt,
   wsTmo, wsFmax, pdSrc, pdNum, pdDen]

/-- The rows of group 6h. -/
def group6 : List PSpec :=
  [comStart, comOff, comZtol, comIalign, comTalign, comIol, comAol, comSb, comIif, comTifa, comAif, comWif,
   comTifc, comEtol, comIfn, comIfang, comTsp, comSpp, comScont, comTzv, comTzp, comEcatch, comIdbrk,
   comTbrk, ovIdd]

/-- The rows of group 7h. -/
def group7 : List PSpec :=
  [supRes1, supRes2, supN1, supN2, supSettle]

/-- The rows of group 8h. -/
def group8 : List PSpec :=
  [sbwEn, sbwHwmotor, sbwHwgear, sbwHwport, sbwHwlsb, sbwHwtol, sbwVtolang, sbwVtoltq, sbwVtolbs, sbwRv,
   sbwRr, sbwMotor, sbwKx, sbwDmax, sbwRate, sbwRate1, sbwXref, sbwCtol, sbwEsmarg, sbwKart, sbwVrs1,
   sbwVrs2, sbwArtcid, sbwKfb, sbwKd, sbwTfric, sbwWfric, sbwKcen, sbwKes, sbwTfmax, sbwTfmax1, sbwHwstop,
   sbwAylim, sbwWb, sbwKbs, sbwDfmax, sbwKbsa, sbwFerrt, sbwHvel, sbwHsearch]

/-- The rows of group 9h. -/
def group9 : List PSpec :=
  [bwEn, bwMass, bwAmax, bwAtrim, bwKtrim, bwPedport, bwPedlsb, bwPedtol, bwPt, bwPa, bwExtcid, bwInvcid,
   bwReqcid, bwLatchcid, bwParkcid, bwMotor, bwShare, bwKcla, bwDrive, bwVrmin, bwInvn, bwLon, bwLtgt,
   bwKslip, bwVslip, bwTrre, bwFmax, bwFmax1, bwFasym, bwGap, bwKvirt, bwLead, bwEta, bwFcont, bwCstep,
   bwFtol, bwFn, bwWplaus, bwSx, bwSf, bwFpark, bwFover, bwTlatch, bwParkmask, bwWsmask, bwVtolf, bwVtolr,
   bwLedsave]

/-- The rows of group Ah. -/
def groupA : List PSpec :=
  [ssKind, ssDec, ssDmon, ssWtol, ssWstop, ssTmax, siMode, siDt, siFunc, siMask, siWake, ssVdec, ssVmon,
   ssVdel, ssVtol, ssTstill, nvPubcid, nvCid, nvCfg, nvDl, nvAge, nvSkew, nvDval]

/-- The rows of group Bh. -/
def groupB : List PSpec :=
  [vtbCycle, vtbTss, vtbDelay, vtbCold, vtbCsoff, vtbGdn, vtbSlot]

/-- The rows of group Ch. -/
def groupC : List PSpec :=
  [canMode, canNbr, canDbr, canTdco, canTxtmo, canFid, canFmsk, ethMacHi, ethMacLo, ethIp, ethNetmask, ethGw,
   ethVlan, ethVid, ethTport, ethNport, ethDport, netTxcid, netTxaddr]

/-- The rows of group Dh. -/
def groupD : List PSpec :=
  [arbClass, arbFloor, arbCeil, pwrPl, pwrPlmin, pwrWake, pwrWtimer, pmbAddr, pmbConf, pmbWin, pmbTpg,
   arbBdrive, arbVsag, arbVcut, arbSupcid, arbBdie]

/-- The rows of group Eh. -/
def groupE : List PSpec :=
  [stNpat, stMaxage, twPairtmo, twVlimp, twGradecid]

/-- The rows of group Fh. -/
def groupF : List PSpec :=
  [leAttach, leEntry, leCmax, sigObsbw, sigVdl, sigUtil, sigUentry, sigUtrig, sigUcmax]

end P

/-- The parameter tables as one list (R498). -/
def paramTable : List PSpec :=
  P.group0 ++ P.group1 ++ P.group2 ++ P.group3 ++ P.group4 ++ P.group5 ++ P.group6 ++ P.group7 ++ P.group8 ++ P.group9 ++ P.groupA ++ P.groupB ++ P.groupC ++ P.groupD ++ P.groupE ++ P.groupF

/-- The PID of entry `i` of a row, for local axis `l` where the row is an axis row (R412). -/
def PSpec.pid (p : PSpec) (l i : Nat) : Nat :=
  p.base + (if p.axis then 0x100 * l else 0) + i * p.stride

/-- The axis and entry of a row that a PID names, if it names one. -/
def PSpec.find (p : PSpec) (pid : Nat) : Option (Nat × Nat) :=
  let l := if p.axis then (pid - p.base) / 0x100 else 0
  let off := pid - p.base - (if p.axis then 0x100 * l else 0)
  if p.base ≤ pid ∧ l < 8 ∧ off % p.stride = 0 ∧ off / p.stride < p.count then
    some (l, off / p.stride)
  else none

/-- The row that defines a PID, with the axis and entry it names; none where the PID is not implemented (R498). -/
def lookupPid (pid : Nat) : Option (PSpec × Nat × Nat) :=
  paramTable.findSome? fun p => (p.find pid).map fun (l, i) => (p, l, i)

/-- The default of an entry of a row. -/
def PSpec.default (p : PSpec) (i : Nat) : Word :=
  match p.dflt with
  | [d] => BitVec.ofNat 32 d
  | ds => BitVec.ofNat 32 (ds.getD i 0)

/-- A raw word read as the number that `signed` gives it. -/
def PSpec.rawInt (p : PSpec) (w : Word) : Int :=
  if p.signed then w.toInt else (w.toNat : Int)

/-- A raw word as the physical value of the row's format (R3). -/
def PSpec.toQ (p : PSpec) (w : Word) : Q :=
  (p.rawInt w : Q) / ((2 ^ p.frac : Nat) : Q)

/-- Whether a written word lies in the row's own range (R6): between the limits, and one of the listed values. -/
def PSpec.inRange (p : PSpec) (w : Word) : Bool :=
  let v := p.rawInt w
  decide (p.lo ≤ v ∧ v ≤ p.hi) && (p.list.isEmpty || p.list.contains w.toNat)

end Sys2Proof.Machine
end

