-- ==== Sys2Proof/Machine/Real.lean ====
section
/-!
DEFINITION. The irrational functions of the control laws, computed over exact rationals. The manual writes them over the reals and
gives no word length; each is computed here to better than 2^(−36) of its value (log entry 3).
-/

namespace Sys2Proof.Machine

/-- 2π to thirty decimals. -/
def twoPi : Q := 6283185307179586476925286766559 / 1000000000000000000000000000000

/-- A quantity cut to 48 fractional bits, the grid of the series below. -/
def gridQ (x : Q) : Q := ((x * 281474976710656).floor : Q) / 281474976710656

/-- The integer square root, bit by bit from bit `k - 1` down. -/
def isqrtGo (n : Nat) : Nat → Nat → Nat
  | 0, r => r
  | k + 1, r => if (r + 2 ^ k) * (r + 2 ^ k) ≤ n then isqrtGo n k (r + 2 ^ k) else isqrtGo n k r

/-- The square root of a quantity, cut to 40 fractional bits; 0 for a negative one. -/
def sqrtQ (x : Q) : Q := (isqrtGo ((x * 1208925819614629174706176).floor.toNat) 128 0 : Q) / 1099511627776

/-- The fractional part, as the manual's frac. -/
def fracQ (x : Q) : Q := x - x.floor

/-- The sine series at an angle in radians between −π/2 and π/2. -/
def sinSeries (t : Q) : Q :=
  gridQ (t * [6, 20, 42, 72, 110, 156, 210, 272, 342, 420].foldr (fun d acc => gridQ (1 - t * t / d * acc)) 1)

/-- The sine of an angle in revolutions. -/
def sinRev (x : Q) : Q :=
  let f := fracQ x
  sinSeries (gridQ (twoPi * (if f ≤ 1 / 4 then f else if f ≤ 3 / 4 then 1 / 2 - f else f - 1)))

/-- The cosine of an angle in revolutions. -/
def cosRev (x : Q) : Q := sinRev (x + 1 / 4)

/-- The tangent of an angle in degrees (R55, R208, R212). -/
def tanDeg (x : Q) : Q := sinRev (x / 360) / cosRev (x / 360)

/-- The arc tangent series at a ratio between 0 and 1/5, in radians. -/
def atanSeries (z : Q) : Q :=
  gridQ (z * [1, 3, 5, 7, 9, 11, 13, 15, 17, 19, 21, 23].foldr (fun d acc => gridQ (1 / d - z * z * acc)) 0)

/-- Half the arc tangent, as a ratio. -/
def atanHalf (z : Q) : Q := gridQ (z / (1 + sqrtQ (1 + z * z)))

/-- The arc tangent of a ratio between 0 and 1, in revolutions. -/
def atanUnit (z : Q) : Q := gridQ (4 * atanSeries (atanHalf (atanHalf (gridQ z))) / twoPi)

/-- The direction of a vector, in revolutions from −1/2 (excluded) to 1/2; 0 for the zero vector. -/
def atan2Rev (y x : Q) : Q :=
  let q := if x = 0 ∧ y = 0 then 0 else if |y| ≤ |x| then atanUnit (|y| / |x|) else 1 / 4 - atanUnit (|x| / |y|)
  let h := if x < 0 then 1 / 2 - q else q
  if y < 0 then -h else h

/-- The hyperbolic tangent doubled in its argument, `n` times. -/
def tanhDouble : Nat → Q → Q
  | 0, t => t
  | n + 1, t => tanhDouble n (gridQ (2 * t / (1 + t * t)))

/-- The hyperbolic tangent (R217): the series at x / 1,024, doubled ten times; ±1 beyond ±20. -/
def tanhQ (x : Q) : Q :=
  if 20 < x then 1 else if x < -20 then -1
  else
    let a := x / 1024
    tanhDouble 10 (a - a ^ 3 / 3 + 2 * a ^ 5 / 15 - 17 * a ^ 7 / 315)

end Sys2Proof.Machine
end

