-- ==== Sys2Proof/Machine/State.lean ====
section
/-!
DEFINITION. The state of one lane die: every register, counter, flag, queue, buffer and mode the manual gives it, with the
value each holds after reset as its default. Docstrings give the width where a field is a register, and the rule that
names it. Fields without a rule of their own for reset hold zero, false or empty (log entry 2).
-/

namespace Sys2Proof.Machine

/-- A sparse store of words: addresses strictly rising, no entry equal to what an unlisted address reads as. -/
abbrev Cells := List (Nat × Word)

/-! ## Lane-wide modes -/

/-- Lane states (R335). -/
inductive LaneSt where
  | off | boot | selftest | configured | pairing | standby | active | drive | safeStop | failSilent | sleep
  deriving DecidableEq, Repr

/-- Power states (R426, R486). -/
inductive PState where
  | run | idle | doze | sleep | shutdown
  deriving DecidableEq, Repr

/-- Commutation modes (R67, R101). -/
inductive CMode where
  | off | sensored | stepped | ifStart | satStart | catching | braking
  deriving DecidableEq, Repr

/-- Event severities (R7). -/
inductive Sev where
  | grey | amber | crimson
  deriving DecidableEq, Repr

/-- What a sleep or shut-down request asks for (R429, R471). -/
inductive SleepKind where
  | doze | sleep | shutdown
  deriving DecidableEq, Repr

/-! ## Faults and refusals of the model -/

/-- Why a step stops. -/
inductive Fault where
  /-- An instruction word with a reserved field value reached an engine: the commit check of R188 refuses such a word,
  so the manual gives it no effect. Raised by the chapter 7 meanings. Safe: no commit lets such a word run. -/
  | reservedEncoding
  deriving DecidableEq, Repr

/-- Why a command has no meaning. -/
inductive Refusal where
  /-- The command named has no meaning in this model yet. Safe. -/
  | notModelled (mnemonic : String)
  deriving DecidableEq, Repr

/-! ## Identity and clocks -/

/-- What the straps, the substrate and the boot fix (R35, R436, R485). -/
structure Ident where
  /-- LANE, 2 bits: 00b A, 01b B, 10b C (R485). -/
  lane : BitVec 2 := 0
  /-- ROLE, SPLIT, BOOTSRC, COMPAT, 1 bit each, as sampled at the release of reset (R35). -/
  straps : Straps := ⟨false, false, false, false⟩
  /-- The always-on clock comes from the crystal, not the internal RC (R22, R512). -/
  crystal : Bool := true
  /-- FWVER FALLBACK, 1 bit (R485). -/
  fallback : Bool := false
  /-- FWVER BANK, 1 bit (R485). -/
  bank : Bool := false
  /-- FWVER VERSION, 16 bits; 0000h while no firmware runs (R485). -/
  version : BitVec 16 := 0
  deriving DecidableEq, Repr

/-- The lane's clocks (R22, R367). -/
structure Clk where
  /-- Time on the lane's own clock, ns, as the last event carried it. -/
  lclk : Ns := 0
  /-- Local time at which the global-time line was last set. -/
  lbase : Ns := 0
  /-- Global time at that moment, 64 bits, ns (R504). -/
  gbase : Int := 0
  /-- Rate correction in force, as a fraction (R367, R369). -/
  rate : Q := 0
  deriving DecidableEq, Repr

/-! ## Queues, slots and sequence numbers (chapter 15) -/

/-- A queue entry: the slot, and for a request queue the source it came from. -/
structure QEntry where
  src : Source
  slot : Slot
  deriving DecidableEq, Repr

/-- One of the sixteen queues (R398, R492): entries oldest first, RPTR, and whether a drop has occurred since it was
last empty (R399). WPTR and COUNT follow. -/
structure Queue where
  entries : List QEntry := []
  /-- RPTR, 8 bits (R492). -/
  rptr : Nat := 0
  /-- A drop has occurred since the queue was last empty (R399). -/
  dropped : Bool := false
  deriving DecidableEq, Repr

/-- The sequence state of one source on one request queue (R403). -/
structure SeqState where
  /-- The SEQ expected next, 16 bits. -/
  next : BitVec 16
  /-- The SEQ of the last request executed. -/
  last : Option (BitVec 16)
  /-- Its stored response, one slot or more. -/
  resp : List Slot
  deriving DecidableEq, Repr

/-- The sequence state of one source (R397). -/
structure Peer where
  src : Source
  /-- The order in which the source was last heard. -/
  heard : Nat
  /-- Its state on each of the four request queues, none before the first request (R403). -/
  qs : Vector (Option SeqState) 4
  deriving DecidableEq, Repr

/-- An operation answered ST_ACCEPTED (R408, R411). -/
structure AccOp where
  opc : BitVec 16
  req : Req
  /-- The operation has sent its completion response. -/
  done : Bool := false
  /-- Its commit point has passed. -/
  committed : Bool := false
  deriving DecidableEq, Repr

/-- The mailbox (chapter 15). -/
structure Mailbox where
  /-- The sixteen queues (R398). -/
  queues : Vector Queue 16 := Vector.replicate 16 {}
  /-- Staging slots of the host-to-lane windows, 16 words each (R493). -/
  staging : Vector Slot 16 := Vector.replicate 16 (List.replicate 16 0)
  /-- Sequence state of the SPI source and of up to 8 tunnel peers (R397). -/
  peers : List Peer := []
  heardCount : Nat := 0
  /-- The tunnel's buffer of 32 response slots, oldest first, with the peer each goes to (R396). -/
  tunnel : List QEntry := []
  /-- The last tunnel response sent: the datagram's slot and peer. -/
  tunnelSent : Option QEntry := none
  /-- The last 16 operations answered ST_ACCEPTED, newest first (R411). -/
  accepted : List AccOp := []
  /-- The change-log ring, newest first, at most 4,096 entries of ten words (R417). -/
  log : List (List Word) := []
  /-- The number of the next change-log entry, 32-bit application count (R417). -/
  logNext : Nat := 0
  /-- Refusal codes already reported since the start (R406). -/
  reported : List Nat := []
  /-- ESEQ, 16 bits (R502). -/
  eseq : BitVec 16 := 0
  /-- Local times at which the entries of queue 12 were placed, oldest first (R386). -/
  canAt : List Ns := []
  /-- CONFIG and DIAG alternation: the DIAG queue is served next (R400). -/
  diagNext : Bool := false
  deriving DecidableEq, Repr

/-- Parameters (R412 to R416): the stored values and the values in effect, over the defaults. -/
structure Params where
  /-- Stored values, 32 bits each (R413). -/
  stored : Cells := []
  /-- Values in effect (R6). -/
  eff : Cells := []
  /-- CYCLE-class PIDs written and not yet in effect. -/
  written : List Nat := []
  /-- NOW-class PIDs of axes whose carrier runs, written since the axis's last sample began (R66, R414). -/
  posted : List Nat := []
  deriving DecidableEq, Repr

/-- Diagnostic counters by index (R507): SAT in bit 16 and VALUE in bits 15 to 0. -/
abbrev Counters := Cells

/-! ## Registers of the host map (chapter 19) -/

/-- A boot command in progress (R497). -/
inductive BootCmd where
  | erase
  | program (page : BitVec 13)
  deriving DecidableEq, Repr

/-- The registers of chapter 19 that no other block holds. -/
structure Regs where
  /-- SCRATCH, 32 bits (R485). -/
  scratch : Word := 0
  /-- INTSTAT bits 22 to 16, the W1C bits; START is set after reset (R495). -/
  intstat : Word := 0x00400000
  /-- INTEN, 24 defined bits (R495). -/
  inten : Word := 0
  /-- GTIMEH as last latched, 32 bits (R486). -/
  gtimeh : Word := 0
  /-- PARREC, 32 bits (R496). -/
  parrec : Word := 0
  /-- CNTIDX, 16 bits (R496). -/
  cntidx : BitVec 16 := 0
  /-- PREVRES, 8 bits (R482). -/
  prevres : Byte := 0
  /-- The bytes the last frame drove on MISO (R479). -/
  miso : List Byte := []
  /-- BSTATE, 4 bits (R497). -/
  bstate : BitVec 4 := 0
  /-- TBANK, 1 bit (R497). -/
  tbank : Bool := false
  /-- PAGE, 13 bits: the last page programmed (R497). -/
  page : BitVec 13 := 0
  /-- BOOTPAGE, 13 bits (R497). -/
  bootpage : BitVec 13 := 0
  /-- BOOTWIN, 64 words (R497). -/
  bootwin : Cells := []
  /-- The boot command in progress. -/
  bootcmd : Option BootCmd := none
  /-- Flash words of the target bank as programmed over SPI, by page × 64 + word (R497). -/
  flash : Cells := []
  deriving DecidableEq, Repr

/-! ## The always-on domain (chapters 10, 16, 18, 19) -/

/-- One safety-input pair (R255 to R260). -/
structure SiPair where
  /-- FLT, 1 bit (R257). -/
  flt : Bool := false
  /-- DEM, 1 bit; set after reset (R260). -/
  dem : Bool := true
  /-- CH1 and CH2 as last sampled (R260). -/
  ch1 : Bool := false
  ch2 : Bool := false
  /-- Consecutive discrepant ticks (R257). -/
  count : Nat := 0
  /-- The count in progress has reached its limit and raised its event (R257). -/
  rep : Bool := false
  /-- Clear requests waiting for the next tick (R258). -/
  clear : List Req := []
  /-- A transition into DEMAND that the supervisor has not yet taken (R259). -/
  taken : Bool := true
  deriving DecidableEq, Repr

/-- An event that arises while no firmware runs, and waits for the next start (R506). -/
structure LateEv where
  time : Int
  code : Nat
  sev : Sev
  ax : Option (Fin 8)
  args : List Word
  deriving DecidableEq, Repr

/-- The always-on domain. -/
structure Aon where
  /-- VDD_AON is present (R513, R515). -/
  powered : Bool := true
  si : Vector SiPair 6 := Vector.replicate 6 {}
  /-- WAKESRC, 14 bits (R428). -/
  wakesrc : Word := 0
  /-- The wake latch is armed (R430). -/
  armed : Bool := false
  /-- Global time of the last captured source (R431). -/
  capture : Nat := 0
  /-- A source captured after AP4, to be replayed at wake: its bit and time (R431). -/
  replay : Option (Nat × Nat) := none
  /-- FAILREC, 32 bits without FSCNT and SAT, which are the counter 0F09h (R293). -/
  failrec : Word := 0
  /-- FAILTIME, 64 bits (R293). -/
  failtime : Nat := 0
  /-- TESTREC, 32 bits (R468). -/
  testrec : Word := 0
  /-- TESTAGE in ticks of the always-on clock; the register shows whole seconds (R468). -/
  testage : Nat := 0
  /-- AONPAR: TESTERR, FAILERR, SIGERR (R489). -/
  testerr : Bool := false
  failerr : Bool := false
  sigerr : Bool := false
  /-- PWRWAKE posted and not yet in effect (R491). -/
  postWake : Option Word := none
  /-- PWRWTIMER posted and not yet in effect (R491). -/
  postTimer : Option Word := none
  /-- Ticks since the sleep request was accepted, for the always-on timer (R427). -/
  timer : Option Nat := none
  /-- Ticks counted since VDD_AON was applied. -/
  ticks : Nat := 0
  /-- CONTROL output to the regulator (R430). -/
  control : Bool := true
  /-- Local time at which CONTROL last changed. -/
  controlAt : Ns := 0
  /-- Retention signatures, 32 bits each, of banks 0 to 15 and groups 0 to 11 (R24, R433); whether they are those of a sleep. -/
  sigs : Vector Word 28 := Vector.replicate 28 0
  sigValid : Bool := false
  /-- The banks and groups whose signatures did not match at the last wake (R433). -/
  lost : BitVec 28 := 0
  /-- TAG, SEQ, class and source of a request that passed its commit point before sleep (R432). -/
  keptOp : Option AccOp := none
  /-- Events of the time in which no firmware runs, oldest first (R506). -/
  late : List LateEv := []
  deriving DecidableEq, Repr

/-! ## Lifecycle and power (chapter 16) -/

/-- A sleep or shut-down entry in progress (R430, R431). -/
structure Entry where
  kind : SleepKind
  op : AccOp
  /-- State to return to when entry is abandoned. -/
  from_ : LaneSt
  /-- The level in force at the acceptance, to return to when entry is abandoned. -/
  pl : BitVec 2
  /-- Abort points passed, 0 to 4. -/
  passed : Nat := 0
  /-- Local time at which E1 began to wait for a level grant (R430). -/
  since : Ns := 0
  /-- OP_ABORT asked for the entry to be abandoned (R431). -/
  abort : Bool := false
  /-- Arming of the latch waits for an always-on tick (R430). -/
  arming : Bool := true
  /-- The domains powered at the acceptance. -/
  doms : BitVec 7 := 0
  deriving DecidableEq, Repr

/-- A level change (R423, R424). -/
structure PlChange where
  target : BitVec 2
  old : BitVec 2
  /-- The request to complete, if a host asked. -/
  op : Option AccOp := none
  /-- Started at a vehicle-cycle boundary; before that it waits. -/
  started : Bool := false
  /-- Attempts begun, 0 to 4 (R424). -/
  attempts : Nat := 0
  /-- Local time of the ACK of VOUT_COMMAND, none before it. -/
  ack : Option Ns := none
  /-- The change waits for its DIE grant (R454). -/
  waiting : Bool := false
  /-- Local time at which the change began. -/
  since : Ns := 0
  deriving DecidableEq, Repr

/-- The lifecycle of the lane (R421 to R440). -/
structure Life where
  /-- STATE of LANESTAT, 4 bits, 1h after reset (R486). -/
  st : LaneSt := .boot
  /-- PSTATE of LANESTAT, 3 bits (R486). -/
  ps : PState := .run
  /-- PL of LANESTAT, 2 bits, 01b after reset (R486). -/
  pl : BitVec 2 := 1
  /-- The divider in force, as a level (R421); it lags PL while the old voltage is restored (R424). -/
  divider : BitVec 2 := 1
  /-- DRDY of LANESTAT (R438). -/
  drdy : Bool := false
  /-- The boot step of R435 in progress, 1 to 8; 0 while the lane waits for its supply (R514). -/
  step : Nat := 1
  /-- The start is a full start (R437). -/
  full : Bool := false
  /-- Reason mask of EV_DRIVE_READY, 7 bits (R438). -/
  reason : BitVec 7 := 0
  /-- Local time of the wake event or power-up (R438). -/
  wakeAt : Ns := 0
  /-- SUP, SIG or LINK failed the full-start test: the lane stays in CONFIGURED (R472). -/
  testFail : Bool := false
  /-- The start checks have passed (R438). -/
  checksOk : Bool := false
  /-- Supply domains powered, bit 0 SUP to bit 6 LINK (R526). -/
  domains : BitVec 7 := 1
  /-- Domains whose isolation is still held (R418). -/
  isolated : BitVec 7 := 0
  /-- Memory or clock configuration: nRST is low (R514). -/
  nrstLow : Bool := false
  /-- PGOOD as last seen (R425). -/
  pgood : Bool := true
  /-- Local time at which PGOOD fell, while it is low (R425). -/
  pgoodLow : Option Ns := none
  /-- Local time of the last rise of PGOOD. -/
  pgoodAt : Ns := 0
  /-- VOUT_MODE as read at boot, 8 bits: linear with N in bits 4 to 0 (R423). -/
  voutMode : BitVec 8 := 0x17
  voutLinear : Bool := true
  /-- Last READ_VOUT, mV (R526). -/
  vout : Nat := 0
  /-- Consecutive failed polls, and consecutive polls outside the window (R425). -/
  pollFails : Nat := 0
  pollOut : Nat := 0
  /-- Level requests answer ST_WRONG_STATE until a poll succeeds (R425). -/
  pollBad : Bool := false
  /-- The last VOUT_COMMAND sent, in units of 2^N V. -/
  voutCmd : Word := 0
  /-- A level change in progress (R423, R424). -/
  plc : Option PlChange := none
  /-- A lower frequency is kept until the old voltage is confirmed (R424). -/
  restore : Bool := false
  /-- A sleep entry in progress (R430). -/
  entry : Option Entry := none
  /-- Shut-down self-test requested: what follows it (R471). -/
  shutdown : Option Entry := none
  /-- Vehicle cycles: start and end of the last one on the local clock, and the boundary index of the next (R65). -/
  cycStart : Ns := 0
  cycEnd : Ns := 0
  cycles : Nat := 0
  /-- Cycles that wait for the end of a level change: work and boundary, oldest first (R423). -/
  cycWait : List (Ns × Ns) := []
  /-- Local time at which the last level change ended: no waiting cycle begins before it (R65, R423). -/
  plEnd : Ns := 0
  /-- Measured dt of the present vehicle cycle, s (R65). -/
  cycDt : Q := 1 / 1000
  /-- Vehicle-cycle lag, ns, and whether EV_DEADLINE_LAG stands reported. -/
  cycLag : Nat := 0
  lagRep : Bool := false
  /-- A fail-silent entry that the next start reports (R292). -/
  failPend : Bool := false
  /-- Local time of the last fail-silent entry (R293). -/
  failAt : Ns := 0
  /-- The next start is full whatever the record says (R292). -/
  mustFull : Bool := false
  /-- Local time of entry to PAIRING (R317). -/
  pairAt : Ns := 0
  deriving DecidableEq, Repr

/-! ## The axis cell (chapters 2 to 7) -/

/-- A written set of duties: the local time at which its write ended, the load point it is due at, and the compare values (R44,
R46, R63). -/
structure Duty where
  at_ : Ns
  due : Nat
  cmp : Vector Nat 3
  deriving DecidableEq, Repr

/-- The PWM generator of an axis (R39 to R46). -/
structure Pwm where
  /-- The carrier runs: local time of its last extreme, which starts a half-period, and whether the counter counts up from it, so
  that it was a valley (R39, R41, R43). The counter follows from the local time (`Axis.carrierAt`). -/
  run : Bool := false
  ext : Q := 0
  up : Bool := true
  /-- Correction of the half-period in progress, ns (R42). -/
  corr : Q := 0
  /-- Load points so far (R44). -/
  pts : Nat := 0
  /-- GATES of AXMODE: the six gate outputs switch (R46, R67). -/
  gates : Bool := false
  /-- A gate enable or disable that waits for a load point (R46). -/
  gateReq : Option Bool := none
  /-- The three phase compare values in force, 19 bits each (R40). -/
  cmp : Vector Nat 3 := Vector.replicate 3 0
  /-- The compare values loaded at the last load points with their local times, newest first, for the model check (R57). -/
  loads : List (Ns × Vector Nat 3) := []
  /-- Written sets of duties that wait for a load point, oldest first (R44). -/
  next : List Duty := []
  /-- The sample of the last load point owes duties at the next one (R63). -/
  owed : Bool := false
  /-- LOCK of AXMODE (R42). -/
  lock : Bool := false
  /-- EV_PWM_UNLOCKED stands reported (R42). -/
  unlocked : Bool := false
  /-- Local time since which the phase error has stayed below 100 ns (R42). -/
  lockSince : Option Ns := none
  deriving DecidableEq, Repr

/-- A sinc3 filter (R47): its three integrators modulo 2^25, and the third one's values at the last modulator clocks, newest first,
as the comb reads them: at most 769, for the longest decimation. -/
structure Sinc where
  a : Nat := 0
  b : Nat := 0
  c : Nat := 0
  hist : List Nat := []
  deriving DecidableEq, Repr

/-- The bitstream inputs of an axis cell (R47 to R50). -/
structure Dsm where
  /-- The filters of DS0 to DS4 and of the link-voltage input. -/
  ch : Vector Sinc 6 := Vector.replicate 6 {}
  /-- Modulator clocks since the last output of the fast filters, 0 to 15 (R50). -/
  phase : Nat := 0
  /-- Levels at the last modulator clock, and for how many clocks each has held (R49). -/
  lvl : DsBits := 0
  held : Vector Nat 6 := Vector.replicate 6 0
  /-- The last fast outputs of the phase currents, of full scale, and their consecutive outputs beyond cur.ioc (R50). -/
  fast : Vector Q 3 := Vector.replicate 3 0
  oc : Vector Nat 3 := Vector.replicate 3 0
  deriving DecidableEq, Repr

/-- The current loop of an axis (R47 to R60). -/
structure Cur where
  /-- Phase currents less offsets, A (R53). -/
  iu : Q := 0
  iv : Q := 0
  iw : Q := 0
  /-- Zero offsets in use, A (R51). -/
  off : Vector Q 3 := Vector.replicate 3 0
  /-- Offsets stored in the configuration area of flash, A (R51). -/
  offStored : Vector Q 3 := Vector.replicate 3 0
  /-- A calibration is due; calibration complete since the start (R51, R438). -/
  calDue : Bool := false
  calDone : Bool := false
  /-- The calibration in progress: samples taken, the sum of each channel, and the sums of magnitudes of the first 16 (R51). -/
  calN : Nat := 0
  calSum : Vector Q 3 := Vector.replicate 3 0
  calMag : Vector Q 3 := Vector.replicate 3 0
  /-- i_d and i_q, A, of this sample and the one before (R53, R57). -/
  id : Q := 0
  iq : Q := 0
  idPrev : Q := 0
  iqPrev : Q := 0
  /-- References in use, A, as limited (R56). -/
  idRef : Q := 0
  iqRef : Q := 0
  /-- The q-axis set-point held from the last speed tick, A (R134). -/
  iqHeld : Q := 0
  /-- Integrators I_d and I_q, V (R53). -/
  intD : Q := 0
  intQ : Q := 0
  /-- v_d and v_q, V, as limited (R56). -/
  vd : Q := 0
  vq : Q := 0
  /-- V_dc of this sample and of the one before (R54, R57). -/
  vdc : Q := 63
  vdcPrev : Q := 63
  /-- θ_s, revolutions electrical, of this sample and the one before. -/
  theta : Q := 0
  thetaPrev : Q := 0
  /-- w_e, rad/s electrical, of this sample and the one before. -/
  we : Q := 0
  wePrev : Q := 0
  /-- ILIM, VLIM, FW of AXMODE (R67). -/
  ilim : Bool := false
  vlim : Bool := false
  fw : Bool := false
  /-- ILIM, VLIM or GLIM in any sample since the previous speed tick (R134). -/
  limSince : Bool := false
  /-- Consecutive samples with the current sum beyond its tolerance (R48). -/
  sumCount : Nat := 0
  /-- The sum of the last sample, A. -/
  sum : Q := 0
  /-- Warning and failure counts, RES1, MODELF (R58). -/
  warn : Nat := 0
  fail : Nat := 0
  res1 : Bool := false
  modelf : Bool := false
  /-- The present failure count has reached sup.n2 and acted (R58). -/
  failRep : Bool := false
  /-- Samples since the last gate enable or change of commutation mode, up to sup.settle (R60). -/
  settled : Nat := 0
  /-- Residual of the last check, A (R57). -/
  resid : Q := 0
  /-- The largest P_x of the samples since the last grant boundary, W (R444). -/
  reqMax : Q := 0
  /-- Sums of i_d, i_q over the present speed period, samples in it, and the means of the last complete one (R139). -/
  sumD : Q := 0
  sumQ : Q := 0
  sumN : Nat := 0
  meanD : Option Q := none
  meanQ : Option Q := none
  deriving DecidableEq, Repr

/-- The sample schedule of an axis (R61 to R64, R141). -/
structure Sched where
  /-- Index of the last sample (R41). -/
  index : Nat := 0
  /-- Load points whose samples have not run, oldest first: number and sampling instant, local ns (R44, R61). -/
  due : List (Nat × Ns) := []
  /-- The load point of the last sample. -/
  point : Nat := 0
  /-- End of the duty write of the last sample, local ns (R63). -/
  written : Ns := 0
  /-- A sample has run since the start. -/
  started : Bool := false
  /-- Actual start and HALT of the last sample, local ns (R61). -/
  start : Ns := 0
  halt : Ns := 0
  /-- Its actual sampling instant, local ns. -/
  inst : Ns := 0
  /-- Its measured dt, s (R53). -/
  dt : Q := 0
  /-- Its lag, ns (R61). -/
  lagNs : Nat := 0
  /-- LATE and LAG of AXMODE (R67). -/
  late : Bool := false
  lag : Bool := false
  /-- Sampling instants of the last speed and position ticks; none before the first since enable (R141). -/
  lastS : Option Ns := none
  lastP : Option Ns := none
  deriving DecidableEq, Repr

/-- A latched position: POSCNT, MOVCNT and global time (R77, R86). -/
structure Latch where
  pos : Word := 0
  mov : Word := 0
  time : Int := 0
  deriving DecidableEq, Repr

/-- One entry of the tick record (R105). -/
structure TickRec where
  time : Int
  comcnt : Nat
  mov : Word
  deriving DecidableEq, Repr

/-- The feedback interface of an axis (chapter 3). -/
structure Fb where
  /-- POSCNT and MOVCNT, 32 bits each (R73). -/
  pos : Word := 0
  mov : Word := 0
  /-- Filtered B and A levels (R73). -/
  ba : BitVec 2 := 0
  /-- The last counted transition was a forward one (R77). -/
  fwd : Bool := true
  /-- The count history: local ns of each change, with POSCNT and MOVCNT as they stood before it, newest first (R76). -/
  hist : List (Ns × Word × Word) := []
  /-- Local times of the last eight illegal transitions, newest first (R75). -/
  illegal : List Ns := []
  /-- The present burst of illegal transitions has been taken as a failure (R75). -/
  illBurst : Bool := false
  /-- EV_ENCODER_ILLEGAL is not owed: it has been raised since the last enable, or the axis has not been enabled (R74). -/
  illRep : Bool := true
  /-- PUNC and ARMED of AXMODE (R67). -/
  punc : Bool := false
  armed : Bool := false
  /-- Local times of the last arming and of the last index load (R78). -/
  armAt : Option Ns := none
  loadAt : Option Ns := none
  /-- ZLATCH (R77). -/
  zlatch : Latch := {}
  /-- The last index events, newest first, for a mirrored load (R79). -/
  zrec : List Latch := []
  /-- ZSEEN and LCPASS of FBSTAT (R98). -/
  zseen : Bool := false
  lcpass : Bool := false
  /-- COMCNT and MOVCNT at the last speed ticks, by sampling instant in global ns, newest first (R105). -/
  tickRec : List TickRec := []
  /-- MOVCNT at the last index event, none before the first since enable (R80, R81). -/
  zref : Option Word := none
  /-- Global time of the last index load (R79). -/
  lastLoad : Option Int := none
  /-- LOSS of FBSTAT, 4 bits (R98). -/
  loss : BitVec 4 := 0
  /-- A sensor loss of the commutation source stands until the next enable; it waits for the next sample to act (R97, R109). -/
  lost : Bool := false
  lossAct : Bool := false
  /-- COMCNT, its MOVCNT, CVAL and the provisional angle as they stood before the last index event since the last sample: a sensor
  loss of the same sample restores them (R112). -/
  idxSave : Option (Nat × Word × Bool × Q × Bool) := none
  /-- POS64, 64 bits signed, and the fraction carried by the estimate of R112 (R82). -/
  pos64 : Int := 0
  frac : Q := 0
  /-- POS64 at the sample before (R162). -/
  posPrev : Int := 0
  /-- MOVCNT at the last sample (R82). -/
  movPrev : Word := 0
  /-- A host position set that waits for the next sample (R83). -/
  setpos : Option Int := none
  /-- The MOVCNT from which a waiting set counts the own movement, for a reference taken from a mirror (R214). -/
  setRel : Option Word := none
  /-- The host has set POS64 since the axis was last enabled (R144). -/
  posSet : Bool := false
  /-- The reference latch, RLATCH and ROVR (R86). -/
  ref : Latch := {}
  rlatch : Bool := false
  rovr : Bool := false
  refArmed : Bool := false
  /-- Window speed measurement: the number of the last window end in global time, MOVCNT and POS64 at the window start, the end of a
  window whose speed check waits (local ns, and its speed where it was complete), the sum and the number of the w_act in it, its result in
  rad/s, WINV (R85, R143). -/
  winK : Option Int := none
  winMov : Option Word := none
  winPos : Option Int := none
  winEnd : Option (Ns × Option Q) := none
  winSum : Q := 0
  winN : Nat := 0
  winSpeed : Q := 0
  winv : Bool := false
  /-- Resolver: last measurement, a new one exists, amplitude and tracking failures in a row, RAMPL (R88, R89). -/
  resS : W24 := 0
  resC : W24 := 0
  resNew : Bool := false
  /-- The number of the last excitation period whose peak was measured (R87, R88). -/
  resK : Option Int := none
  /-- The state of the resolver kernel's tracking loop: the angle of the resolver, revolutions, and the speed of the shaft, rad/s
  (R88). -/
  trkTheta : Q := 0
  trkSpeed : Q := 0
  ampBad : Nat := 0
  trkBad : Nat := 0
  rampl : Bool := false
  deriving DecidableEq, Repr

/-- One delivery of the signal unit to an axis: the angle, the speed and F_act with the global time of their sample window, or four
words for a slot with that of the release (R27, R181, R198). -/
inductive Delivery where
  | angle (theta speed : Q) (stamp : Int)
  | speed (speed : Q) (stamp : Int)
  | force (force : Q) (stamp : Int)
  | user (k : Fin 4) (w : List W24) (stamp : Int)
  | vend (k : Fin 12) (w : List W24) (stamp : Int)
  deriving DecidableEq, Repr

/-- Results the signal unit delivers to an axis (R27). -/
structure Deliv where
  /-- θ_r, revolutions of the resolver; speed, rad/s of the motor shaft; F_act, kN. -/
  theta : Q := 0
  speed : Q := 0
  force : Q := 0
  /-- θ_r at the sample before, for POS64 (R82). -/
  thetaPrev : Q := 0
  /-- A result delivered since the last sample that looked for one: the angle or speed, and the clamp force. -/
  fresh : Bool := false
  fFresh : Bool := false
  /-- Any result delivered since the start, of each. -/
  valid : Bool := false
  fValid : Bool := false
  /-- Global time of the sample window it was computed from, ns. -/
  stamp : Int := 0
  /-- Consecutive stale samples of each result, and STALE of AXMODE (R27). -/
  stale : Nat := 0
  fStale : Nat := 0
  staleF : Bool := false
  /-- The count at which the last reaction was taken, of each result: 0, 3 or 5. -/
  staleRep : Nat := 0
  fStaleRep : Nat := 0
  /-- User slots U0 to U3, four words each, as delivered and as taken at the sample start (R181, R191). -/
  user : Vector (List W24) 4 := Vector.replicate 4 [0, 0, 0, 0]
  userTaken : Vector (List W24) 4 := Vector.replicate 4 [0, 0, 0, 0]
  /-- Global time of the release each user slot was delivered for, ns (R181). -/
  userStamp : Vector Int 4 := Vector.replicate 4 0
  /-- Deliveries that completed in or after the AXIS cycle in which a sample starts that has not run: the next one takes them
  (R195). -/
  wait : List Delivery := []
  /-- The slots 4h to Fh that vendor kernels use, four words each, with the time of the release (R181). -/
  vend : Vector (List W24) 12 := Vector.replicate 12 [0, 0, 0, 0]
  vendStamp : Vector Int 12 := Vector.replicate 12 0
  deriving DecidableEq, Repr

/-- The I/f start phases (R114). -/
inductive IfPhase where
  | align | ramp | check | wait
  deriving DecidableEq, Repr

/-- The alignment run of R106. -/
inductive AlignRun where
  | turning (turned : Q) | hold
  deriving DecidableEq, Repr

/-- A change of the commutation mode that waits for the start of a sample (R101): a start on enable; a start from rest; the end
of an I/f start; a rotor found at an angle and a speed, at a local time; braking from such a rotor. -/
inductive ModeReq where
  | start
  | rest
  | stepped
  | found (theta speed off : Q) (at_ : Ns)
  | braking (theta speed : Q) (at_ : Ns)
  deriving DecidableEq, Repr

/-- A pulse that the generator drives with the gates under the hand of commutation (R116, R118): its number; the local time of its
load point; the phases whose high side, and whose low side, is on; the local time at which the on-time ends; the current at the last
fast output within it; whether the current has returned to zero after it. -/
structure Pulse where
  num : Nat
  at_ : Ns
  hi : BitVec 3
  lo : BitVec 3
  until_ : Ns
  i : Vec2
  off : Bool := false
  deriving DecidableEq, Repr

/-- Commutation of an axis (chapter 4). -/
structure Com where
  /-- A mode change that waits for a sample (R101). -/
  want : Option ModeReq := none
  /-- CMODE of AXMODE (R67). -/
  mode : CMode := .off
  /-- COMCNT, modulo 4 × fb.lines (R102). -/
  count : Nat := 0
  /-- MOVCNT that COMCNT accounts for. -/
  ref : Word := 0
  /-- CVAL (R103). -/
  cval : Bool := false
  /-- θ_prov, revolutions; a provisional angle has been formed (R104). -/
  prov : Q := 0
  provOk : Bool := false
  /-- θ_ol, revolutions, and ω_ol, rad/s electrical (R109). -/
  olTheta : Q := 0
  olSpeed : Q := 0
  /-- I_ol, A (R109). -/
  olI : Q := 0
  /-- Band in force, 1 to 5 (R111). -/
  band : Nat := 1
  /-- EST of AXMODE (R109). -/
  est : Bool := false
  /-- Start attempt j and phase of the I/f start (R114). -/
  attempt : Nat := 0
  phase : IfPhase := .align
  /-- Local time at which the present phase, wait, hold or braking began. -/
  since : Ns := 0
  /-- Mean back-EMF over the Check phase: sum and samples (R115). -/
  emfSum : Q := 0
  emfN : Nat := 0
  /-- Saturation sequences run, and the pulse index (R116, R117). -/
  satRuns : Nat := 0
  satPulse : Nat := 0
  /-- The pulse that runs or whose current decays, and the end vectors of the pulses so far with their local times, newest first
  (R116, R118). -/
  pulse : Option Pulse := none
  ends : List (Ns × Vec2) := []
  /-- The load point at which the sequence of pulses began (R116, R118). -/
  pulse0 : Option Nat := none
  /-- Back-EMF estimate of CMODE 6h: angle and speed (R120). -/
  bemfTheta : Q := 0
  bemfSpeed : Q := 0
  /-- Braking ended: the current falls to 0 in 1 ms and 10 ms pass (R120). -/
  brkWait : Bool := false
  /-- Local time of the entry to CMODE 6h (R120). -/
  brkAt : Ns := 0
  /-- Commanded direction, −1, 0 or 1. -/
  dir : Int := 0
  /-- The alignment run in progress and the request it answers (R106). -/
  align : Option AlignRun := none
  alignOp : Option AccOp := none
  deriving DecidableEq, Repr

/-- The cascade of an axis (chapter 5). -/
structure Cas where
  /-- LOOP in force, 0 to 3 (R67, R130). -/
  loop : Nat := 0
  /-- Integrators I_w (A), I_p and I_F (rad/s). -/
  intW : Q := 0
  intP : Q := 0
  intF : Q := 0
  /-- Position error, rad; w_pos, w_ref, w_act, rad/s; previous w_act input of the filter. -/
  ep : Q := 0
  wPos : Q := 0
  wRef : Q := 0
  wAct : Q := 0
  /-- e_w and i_ff of the last speed tick. -/
  ew : Q := 0
  iff : Q := 0
  /-- F_ref, kN (R133). -/
  fRef : Q := 0
  /-- w_win as slewed by an axis-level safe stop (R264). -/
  wWin : Q := 0
  /-- Loops that preset their integrator at their next tick: current, speed, position, force (R136). -/
  enterC : Bool := false
  enterS : Bool := false
  enterP : Bool := false
  enterF : Bool := false
  /-- w_ref starts at the measured speed at the next speed tick (R137). -/
  enterW : Bool := false
  /-- Host presets waiting for their loop's tick, with the local time of their write (R138). -/
  preW : Option (Q × Ns) := none
  preP : Option (Q × Ns) := none
  preF : Option (Q × Ns) := none
  /-- CASSTAT flags (R146). -/
  spdf : Bool := false
  rackf : Bool := false
  ferr : Bool := false
  wlim : Bool := false
  iwf : Bool := false
  /-- The position or clamp-force loop clamped its integrator at its last tick (R134, R136). -/
  iwfP : Bool := false
  /-- PRESET, by loop: the current loop, the speed loop, the position or clamp-force loop (R146). -/
  psC : Bool := false
  psS : Bool := false
  psP : Bool := false
  /-- The lower loop keeps the set-point it last received until the window supplies a new one (R137). -/
  hold : Bool := false
  /-- PMEAS and SPAGE of CASSTAT (R146). -/
  pmeas : Bool := false
  spage : Bool := false
  /-- Consecutive mismatches of the speed check, of the rack check, and ticks of following error or within it
  (R143 to R145). -/
  spdN : Nat := 0
  spdDiff : Q := 0
  rackN : Nat := 0
  rackOk : Nat := 0
  rackDiff : Q := 0
  ferrN : Nat := 0
  ferrOk : Nat := 0
  /-- POS64 at the last two speed ticks, for the fallback speed and the direction of motion (R143, R164). -/
  posLast : Int := 0
  posLast2 : Int := 0
  deriving DecidableEq, Repr

/-- One phase of a plan: jerk and duration (R149). -/
structure Phase where
  jerk : Q
  dur : Q
  /-- PHASE code that PRSTAT shows in it (R170). -/
  code : BitVec 4
  deriving DecidableEq, Repr

/-- The profile generator of an axis (chapter 6). -/
structure Prof where
  /-- State at the last step: p counts, v rad/s, a rad/s² (R149). -/
  p : Q := 0
  v : Q := 0
  a : Q := 0
  /-- The plan: its phases, and the state and local time it starts from (R149, R150). -/
  plan : List Phase := []
  /-- Where the plan came from a mirror: the index of the phase it begins in and the time already spent in that phase, s (R158, R322). -/
  ph0 : Nat × Q := (0, 0)
  p0 : Q := 0
  v0 : Q := 0
  a0 : Q := 0
  t0 : Ns := 0
  /-- Where the plan ends, counts. -/
  stop : Q := 0
  /-- The plan ends at rest at a target; otherwise at a stop point (R153, R161). -/
  toTarget : Bool := false
  /-- The plan time, s, at which the reversal point is passed, while one is ahead (R154). -/
  revAt : Option Q := none
  /-- DLOW: the state is being brought within a lowered limit (R156). -/
  dlow : Bool := false
  /-- The target in use, counts (R155). -/
  target : Int := 0
  /-- A host request whose completion the move in force carries (R159). -/
  tag : Option (BitVec 16) := none
  /-- EV_MOVE_DONE is owed at the next step for a request that found DONE set (R159). -/
  tagOwed : Bool := false
  /-- PRSTAT flags (R170). -/
  busy : Bool := false
  done : Bool := false
  inpos : Bool := false
  tclamp : Bool := false
  eslo : Bool := false
  eshi : Bool := false
  abort : Bool := false
  /-- The plan is an end-stop stop (R170). -/
  esStop : Bool := false
  /-- Consecutive position ticks in position (R160). -/
  inposN : Nat := 0
  /-- Abort requests that wait for the next step (R161). -/
  abortReq : List Req := []
  /-- An end-stop firing and an entry wait for the next step (R155). -/
  esFired : Bool := false
  enter : Bool := false
  /-- Limits of the last step, to see one lowered by a write: vmax, amax, d_eff, jmax (R156). -/
  limV : Q := 0
  limA : Q := 0
  limD : Q := 0
  limJ : Q := 0
  deriving DecidableEq, Repr

/-- A compare register (R162 to R171). -/
structure Cmp where
  /-- CMPnVAL, 64 bits signed. -/
  val : Int := 0
  /-- CMPnCTL: FUNC, EVT, MODE, QUAL as written. -/
  func : BitVec 2 := 0
  evt : Bool := false
  repeat_ : Bool := false
  qual : BitVec 2 := 0
  /-- FIRED, MISSED, EST, ARMED (R171). -/
  fired : Bool := false
  missed : Bool := false
  est : Bool := false
  armed : Bool := false
  /-- CMPnPOS and CMPnTIME, 64 bits each, 0 after reset (R171). -/
  pos : Int := 0
  time : Int := 0
  /-- Firings not yet covered by a mirror: time, position and whether it was estimated, oldest first (R166). -/
  fires : List (Int × Int × Bool) := []
  /-- A write waits for the next sample: value and control word (R164). -/
  write : Option (Int × Word) := none
  /-- The last mirror showed the register armed (R166). -/
  mirArmed : Bool := false
  deriving DecidableEq, Repr

/-- The axis-level safe stop (R264 to R267). -/
structure SafeStop where
  /-- SSA, SSK, SSV, SSOFF of SSSTAT. -/
  ssa : Bool := false
  ssk : Bool := false
  ssv : Bool := false
  ssoff : Bool := false
  /-- w_0, rad/s, and the local time of the start (R265). -/
  w0 : Q := 0
  t0 : Ns := 0
  /-- Consecutive speed ticks at or below ss.wstop (R266). -/
  still : Nat := 0
  /-- A removal condition holds (R266). -/
  due : Bool := false
  deriving DecidableEq, Repr

/-- A set-point buffer of the axis window (R25): 64-bit target, i_q, speed or force, and the host tag. -/
structure SetPt where
  target : Int := 0
  value : Q := 0
  tag : Option (BitVec 16) := none
  deriving DecidableEq, Repr

/-- The axis window (R25 to R27). -/
structure Win where
  back : SetPt := {}
  front : SetPt := {}
  /-- The back buffer holds data the swap has not yet carried. -/
  fresh : Bool := false
  /-- The window has been written since the start. -/
  written : Bool := false
  /-- Global time of the last swap that carried new data (R142). -/
  swapAt : Int := 0
  /-- Actual values as last written: AXMODE, FBSTAT, CASSTAT, PRSTAT, SSSTAT, i_d, i_q, w_act, POS64 (two words)
  (R26, R409). -/
  act : List Word := List.replicate 10 0
  /-- User actual values FF0h to FFFh as last copied (R191). -/
  user : List Word := List.replicate 16 0
  /-- Tag of the set: speed ticks written (R26, R284). -/
  tag : Nat := 0
  deriving DecidableEq, Repr

/-- The register file of an engine (R176). A loop engine uses slice 0 only. -/
structure Ctx where
  /-- B0, B1, 24 bits each. -/
  b : Vector W24 2 := Vector.replicate 2 0
  /-- S0, S1, 24 bits, one copy per slice. -/
  s : Vector (Vector W24 4) 2 := Vector.replicate 2 (Vector.replicate 4 0)
  /-- AC0, AC1, 56 bits, one copy per slice. -/
  ac : Vector (Vector W56 4) 2 := Vector.replicate 2 (Vector.replicate 4 0)
  /-- LC, 16 bits. -/
  lc : BitVec 16 := 0
  /-- STAT flags SAT, V, N, Z (R177). -/
  sat : Bool := false
  v : Bool := false
  n : Bool := false
  z : Bool := false
  /-- The call stack, innermost return address first (R173). -/
  stack : List (BitVec 13) := []
  /-- P0 to P7, D0 to D7, W0 to W7, G0 to G7, 14 bits each. -/
  p : Vector (BitVec 14) 8 := Vector.replicate 8 0
  d : Vector (BitVec 14) 8 := Vector.replicate 8 0
  w : Vector (BitVec 14) 8 := Vector.replicate 8 0
  g : Vector (BitVec 14) 8 := Vector.replicate 8 0
  /-- Address of the next instruction, 13 bits. -/
  pc : BitVec 13 := 0
  /-- Runs that a REPEAT still asks of the instruction that follows it (R186). -/
  rep : Option Nat := none
  /-- Cycles of the present run. -/
  cycles : Nat := 0
  /-- The accumulator the last instruction wrote by class 1h, and the pointer it set by class 5h or 6h (R185). -/
  lastAc : Option Bool := none
  lastPtr : Option (Fin 8) := none
  /-- The cause of a trap that ended the run: 0 write, 1 stack, 2 cycle limit (R189). -/
  trap : Option Nat := none
  /-- The run has ended by HALT, RET or a trap. -/
  halted : Bool := false
  /-- The activation that runs (R525), none in a loop engine. -/
  act : Option (Fin 40) := none
  /-- Global time of its release (R181). -/
  release : Int := 0
  deriving DecidableEq, Repr

/-- An engine: its registers and its memories (R173, R187). -/
structure Engine where
  ctx : Ctx := {}
  /-- A run is in progress. -/
  running : Bool := false
  /-- The code that runs is the integrator's (R189). -/
  integ : Bool := true
  /-- Program words, 32 bits, and operand words, 24 bits, of the integrator regions; the vendor regions come from the
  firmware image. -/
  prog : Cells := []
  oper : Cells := []
  /-- The CRC-32 of each integrator region as committed, none while uncommitted (R200). -/
  progCrc : Option Word := none
  operCrc : Option Word := none
  /-- Committed copies in the configuration area of flash (R200). -/
  progFlash : Cells := []
  operFlash : Cells := []
  progFlashCrc : Option Word := none
  operFlashCrc : Option Word := none
  /-- A trap holds the attachment off (R189). -/
  off : Bool := false
  /-- An uncorrectable error waits for a reload at enable (R300). -/
  reload : Bool := false
  /-- Local time at which the reload of lost memories began (R434). -/
  reloadAt : Option Ns := none
  deriving DecidableEq, Repr

/-- The last AXIS and COMPARE frames of one axis (R321, R322). -/
structure AxMirror where
  /-- The 24 words of the last AXIS frame, none before the first. -/
  words : Option (List Word) := none
  /-- TS extended to 64 bits, ns (R325). -/
  ts : Int := 0
  /-- Each loop takes its integrators at its next tick (R139). -/
  loadC : Bool := false
  loadS : Bool := false
  loadP : Bool := false
  loadG : Bool := false
  /-- The takeover preset of R140 is due in the first sample that drives. -/
  take : Bool := false
  /-- An AXIS frame has left since a planned castling was requested (R330). -/
  sentNew : Bool := false
  /-- AXIS and COMPARE frames waiting to leave (R321). -/
  due : Option (List Word) := none
  cmpDue : Option (List Word) := none
  cmpChanged : Bool := false
  /-- Speed ticks counted, for every 64th COMPARE frame (R321). -/
  ticks : Nat := 0
  deriving DecidableEq, Repr

/-- One axis cell. -/
structure Axis where
  /-- The axis is enabled (R46, R409). -/
  en : Bool := false
  /-- It has been enabled since a source last demanded torque-off on its pair (R263). -/
  perm : Bool := false
  /-- FAULT of AXMODE, 4 bits (R67). -/
  fault : BitVec 4 := 0
  /-- Held off in STANDBY by OP_AX_DISABLE (R410). -/
  heldOff : Bool := false
  /-- The parts of the cell. -/
  pwm : Pwm := {}
  dsm : Dsm := {}
  cur : Cur := {}
  sch : Sched := {}
  fb : Fb := {}
  del : Deliv := {}
  com : Com := {}
  cas : Cas := {}
  prof : Prof := {}
  cmp : Vector Cmp 4 := Vector.replicate 4 {}
  ss : SafeStop := {}
  win : Win := {}
  eng : Engine := {}
  mir : AxMirror := {}
  deriving DecidableEq, Repr

/-- What the two axes of a pair share (R12, R122 to R127). -/
structure Pair where
  /-- V_link as last measured, V (R47). -/
  vlink : Q := 0
  /-- VUNK of AXMODE (R49, R127). -/
  vunk : Bool := false
  /-- Local time at which the link-voltage input was last seen stuck. -/
  stuckAt : Ns := 0
  /-- The chopper command, CHOP of AXMODE (R122). -/
  chop : Bool := false
  /-- CHOPF (R124). -/
  chopf : Bool := false
  /-- CHFB as last sampled, and the local time since which it has disagreed with the command without a break (R123). -/
  chfb : Bool := false
  chBad : Option Ns := none
  /-- OV1 to OV3 in force; consecutive samples above each threshold and below each leaving threshold (R125). -/
  ov : Vector Bool 3 := Vector.replicate 3 false
  above : Vector Nat 3 := Vector.replicate 3 0
  below : Vector Nat 3 := Vector.replicate 3 0
  /-- Supervisor demand for torque-off (R262). -/
  toDemand : Bool := false
  /-- The pair failed the self-test (R472). -/
  stFail : Bool := false
  deriving DecidableEq, Repr

/-! ## Shared sensors of a lane (chapter 3) -/

/-- A serial sensor port (R90 to R93). -/
structure Port where
  /-- The data of the last valid frame, its validity and its receive time, global ns. -/
  data : Nat := 0
  valid : Bool := false
  time : Int := 0
  /-- Local time of the last valid frame, for spn.tmo. -/
  lastAt : Ns := 0
  /-- Length of the last SENT sync pulse, ns (R91). -/
  sync : Option Ns := none
  /-- SENT status nibble and slow-channel nibbles collected, oldest first (R91). -/
  status : BitVec 4 := 0
  slow : List (BitVec 4) := []
  /-- The last slow-channel message received whole: its identifier, 8 bits, and its data, 16 bits. -/
  slowId : Byte := 0
  slowData : BitVec 16 := 0
  /-- The data has become invalid by spn.tmo since the last valid frame or the start (R90). -/
  timedOut : Bool := false
  /-- An SSI frame or its monoflop wait runs until this local time (R92). -/
  busy : Bool := false
  busyUntil : Ns := 0
  /-- First clock edge of the frame in progress, global ns. -/
  trigAt : Int := 0
  /-- A trigger of spn.trig at this local time has not been taken (R92). -/
  trigDue : Option Ns := none
  /-- The SSI clock output is driven (R93). -/
  driven : Bool := false
  deriving DecidableEq, Repr

/-- A wheel-speed input (R94). -/
structure Wheel where
  /-- Edges since the previous result. -/
  n : Nat := 0
  /-- Times of the newest edge and of the last edge used, global ns. -/
  tLast : Option Int := none
  tRef : Option Int := none
  /-- Result, Hz. -/
  freq : Q := 0
  /-- STILL flag. -/
  still : Bool := true
  /-- The input is in the noise state. -/
  noise : Bool := false
  deriving DecidableEq, Repr

/-- A pulse divider (R95, R96). The pending count is counter 5F20h or 5F21h. -/
structure Divider where
  /-- The 17-bit accumulator. -/
  acc : Nat := 0
  /-- The output drives a pulse. -/
  pulses : Nat := 0
  /-- Local time before which the output may not rise again. -/
  nextAt : Ns := 0
  deriving DecidableEq, Repr

/-! ## The signal unit (chapter 7) -/

/-- An activation (R193 to R196). -/
structure Act where
  /-- A release waits to run, with its time and deadline, local ns. -/
  pend : Bool := false
  release : Ns := 0
  deadline : Ns := 0
  pendAt : Int := 0
  /-- A release that waits for the end of an unfinished run: its local time, its deadline and its global time (R195). -/
  wait : Option (Ns × Ns × Int) := none
  /-- A run is in progress or preempted. -/
  active : Bool := false
  /-- The deadline of the present run has been judged (R195). -/
  judged : Bool := false
  /-- Deadline of the run in progress. -/
  runDl : Ns := 0
  /-- Cycles of the last run and of the longest run (R199). -/
  last : Nat := 0
  longest : Nat := 0
  /-- A trap holds the activation off until its trigger is written (R189). -/
  off : Bool := false
  /-- The supervisor uses the previous result in this cycle (R195). -/
  missed : Bool := false
  deriving DecidableEq, Repr

/-- The signal unit. -/
structure Su where
  eng : Engine := {}
  acts : Vector Act 40 := Vector.replicate 40 {}
  /-- Preempted runs, most recent first, at most 8 (R194). -/
  saved : List Ctx := []
  /-- Results delivered to the supervisor by vehicle-cycle kernels, by activation 24 to 31 (R198). -/
  results : Vector Q 8 := Vector.replicate 8 0
  /-- Results that missed sig.vdl and serve from the cycle after (R195). -/
  lateRes : Vector (Option Q) 8 := Vector.replicate 8 none
  /-- The activations in force: a change that raises U waits for its DIE grant (R454). -/
  enabled : BitVec 40 := 0
  /-- The schedule check is due at the next vehicle-cycle boundary (R196). -/
  check : Bool := true
  /-- Held in reset by FAIL (R289). -/
  reset : Bool := false
  deriving DecidableEq, Repr

/-! ## Safety and Novmi (chapter 10) -/

/-- The phases of the vehicle-level safe stop (R269). -/
inductive VPhase where
  | none | decel | hold | steeroff
  deriving DecidableEq, Repr

/-- The vehicle-level safe stop (R268 to R271). -/
structure Safe where
  /-- VPHASE. -/
  phase : VPhase := .none
  /-- Local time and v, m/s, at entry (R270). -/
  at_ : Ns := 0
  v0 : Q := 0
  /-- Local time since which v < 0.5 km/h (R269). -/
  stillSince : Option Ns := none
  /-- EV_SAFESTOP_DECEL raised; a_ss is bw.amax (R270). -/
  decelBad : Bool := false
  /-- Causes that wait for the next vehicle cycle, oldest first, 0 to 4 in the order of R268. -/
  causes : List Nat := []
  /-- The held votes and the VSS of other lanes have asked, for as long as they last (R268, R271). -/
  askHeld : Bool := false
  askVss : Bool := false
  /-- A publication of another lane showed VSS in the last cycle (R268). -/
  pubVss : Bool := false
  /-- VSS, as published (R268, R272). -/
  vss : Bool := false
  /-- The lane entered SAFE_STOP from STANDBY, to return there (R271). -/
  fromStandby : Bool := false
  /-- The requests of the vehicle functions: angle lost, axle lost, pedal lost, wheel lost (R268, R271). -/
  lostAxle : Bool := false
  lostWheel : Bool := false
  deriving DecidableEq, Repr

/-- States of a Novmi connection (R276). -/
inductive NvState where
  | init | valid | subst | default
  deriving DecidableEq, Repr

/-- A receive connection or a publication connection (R274 to R276). -/
structure Conn where
  st : NvState := .init
  /-- SEQ_last, 16 bits. -/
  seq : BitVec 16 := 0
  /-- The next message skips check 6 (R275). -/
  skip : Bool := true
  /-- SEQ of the last sequence failure, if the last message failed check 6 (R275). -/
  bad : Option (BitVec 16) := none
  /-- Consecutive accepted messages. -/
  run : Nat := 0
  /-- Last accepted payload. -/
  payload : List Word := []
  /-- Local time of the last accepted message; vehicle cycles spent in SUBST. -/
  at_ : Ns := 0
  subN : Nat := 0
  /-- A message was accepted since the last deadline check. -/
  got : Bool := false
  deriving DecidableEq, Repr

/-- A connection the lane produces (R273, R394). -/
structure TxConn where
  seq : BitVec 16 := 0
  /-- The message last formed, bytes. -/
  msg : List Byte := []
  deriving DecidableEq, Repr

/-- A publication block received in the present cycle: the payload words of B0, B1 or B2 (R30, R31). -/
structure PubIn where
  b0 : Option (List Word) := none
  b1 : Option (List Word) := none
  b2 : Option (List Word) := none
  deriving DecidableEq, Repr

/-- The Novmi receive and send state. -/
structure Nov where
  rx : Vector Conn 16 := Vector.replicate 16 {}
  pub : Vector Conn 6 := Vector.replicate 6 {}
  /-- Blocks of the present cycle, by lane index (R31). -/
  pubIn : Vector PubIn 6 := Vector.replicate 6 {}
  /-- The lane's own publication, and the messages it produces under R394 by function: request, park, grade and the
  eight network connections. -/
  own : TxConn := {}
  tx : Vector TxConn 8 := Vector.replicate 8 {}
  deriving DecidableEq, Repr

/-! ## Twin operation (chapter 12) -/

/-- The twin link, the claims and the mirrors. -/
structure Twin where
  /-- The lane claims authority (R307), since this local time. -/
  claim : Bool := false
  claimAt : Ns := 0
  /-- The claim has lasted 20 µs without a collision (R311, R326). -/
  confirmed : Bool := false
  /-- Local time of the last edge seen on AUTH_SEEN; SEEN of TWINSTAT (R308). -/
  edgeAt : Ns := 0
  seen : Bool := false
  /-- Local time at which the twin's claim last became absent. -/
  absentAt : Ns := 0
  /-- Consecutive collisions; the lane waits for its retry time (R311). -/
  collisions : Nat := 0
  retry : Bool := false
  /-- CLASH, ARMD, DIGM, FWM, LINKUP, TREADY of TWINSTAT (R336). -/
  clash : Bool := false
  armd : Bool := false
  digm : Bool := false
  fwm : Bool := false
  linkup : Bool := false
  tready : Bool := false
  /-- CCAUSE, 2 bits. -/
  ccause : BitVec 2 := 0
  /-- Twin state code, digest and version from its last STATUS (R336, R526). -/
  tstate : BitVec 4 := 0xF
  tdigest : Option Word := none
  tversion : Word := 0
  /-- Local time of the last valid frame (R316). -/
  frameAt : Ns := 0
  /-- SEQ of the last frame received and of the next sent (R313). -/
  rxSeq : Option (BitVec 16) := none
  txSeq : BitVec 16 := 0
  /-- The last frame sent: TYPE, SEQ, SUB and payload (R313). -/
  sent : Option (BitVec 8 × TwinIn) := none
  /-- The link is muted (R289). -/
  muted : Bool := false
  /-- EV_ROLE_MISMATCH raised; the lane never claims again before its next start (R35). -/
  roleClash : Bool := false
  /-- Castling under way: cause and its local time (R326). -/
  castling : Option (BitVec 2) := none
  castAt : Ns := 0
  /-- Gates wait for step 5 of R326. -/
  gateWait : Bool := false
  /-- Castling count, 32-bit application count (R337). -/
  count : Nat := 0
  /-- Planned castling under way: its request (R330). -/
  planned : Option AccOp := none
  plannedAt : Int := 0
  /-- What follows a planned castling made for a self-test (R36). -/
  forTest : Bool := false
  /-- Local time of the exit from PAIRING and of the first STATUS of STANDBY or later from WHITE (R320). -/
  pairExit : Ns := 0
  firstStatus : Option Ns := none
  /-- The BLACK count of R320 may still end in a claim. -/
  blackWait : Bool := false
  /-- SUPER fragments of the newest stamp, by fragment; the last set applied: its stamp (R323, R325). -/
  supStamp : Int := 0
  supFrag : Vector (Option (List Word)) 6 := Vector.replicate 6 none
  supReady : Bool := false
  supAt : Option Int := none
  /-- Frames waiting to leave: YIELD, STATUS, and the fragments of SUPER (R314). -/
  dueYield : Bool := false
  dueStatus : Option (List Word) := none
  dueSuper : List (BitVec 8 × List Word) := []
  /-- Service grade, 2 bits (R332). -/
  grade : BitVec 2 := 0
  deriving DecidableEq, Repr

/-! ## Lane integrity (chapter 11) -/

/-- The exchange history of one source (R284, R288). -/
structure ExSrc where
  source : Nat
  prev : BitVec 64 := 0
  run : Nat := 0
  deriving DecidableEq, Repr

/-- Lockstep, ECC and split-mode state. -/
structure Integ where
  /-- Supervisor SRAM, 262,144 words of 32 bits in 16 banks (R24); the firmware's contents. -/
  sram : Cells := []
  /-- The copy of core 0 that waits in the comparator for its release, and the one released to the crossbar last (R282). -/
  held : Option CmpBits := none
  released : Option CmpBits := none
  /-- Exchange sources read so far. -/
  ex : List ExSrc := []
  /-- The last merged value delivered (R286). -/
  merged : BitVec 64 := 0
  /-- Interrupts the last window shows pending (R287). -/
  irq : Word := 0
  irqRun : Vector Nat 32 := Vector.replicate 32 0
  /-- Banks and memories whose first correction since the start has been reported; addresses corrected within the
  present scrub pass (R301). -/
  eccSeen : List Nat := []
  eccPass : List Nat := []
  /-- Local times at which the split-mode watchdogs were last served (R305). -/
  wdog : Vector Ns 2 := Vector.replicate 2 0
  /-- Core 1 is held in reset (R305). -/
  core1Off : Bool := false
  deriving DecidableEq, Repr

/-! ## Votes, steering and braking (chapters 1, 8, 9) -/

/-- The sixteen set-points of a publication in the order of R352: δ 0 to 2 (degrees), T_H (N·m), ΔF 0 to 2, F_req, F_w 0 to 7
(kN). -/
abbrev SetPts := List Q

/-- The vote (R30 to R34). -/
structure Vote where
  /-- Set-points the lane computed last, and those it publishes in this cycle (R209). -/
  own : SetPts := List.replicate 16 0
  /-- Voted values of the last cycle and those applied in this one (R33). -/
  voted : SetPts := List.replicate 16 0
  applied : SetPts := List.replicate 16 0
  /-- Valid publications in the last vote, and the single source (R32). -/
  count : Nat := 3
  single : Option LaneNo := none
  /-- Consecutive held cycles, consecutive cycles with none (R32). -/
  held : Nat := 0
  none_ : Nat := 0
  /-- The safe defaults of R277 are in force. -/
  safe : Bool := false
  /-- Consecutive outlier cycles by lane, the set-point of the last, and whether reported (R34). -/
  out : Vector Nat 6 := Vector.replicate 6 0
  outSp : Vector Nat 6 := Vector.replicate 6 0
  /-- Blocks committed for the present vehicle cycle, B0 to B2 (R351). -/
  commit : Vector (Option (List Word)) 3 := Vector.replicate 3 none
  /-- The newest B1 and B2 payloads of each lane, as inputs of the next cycle (R204). -/
  in1 : Vector (Option (List Word)) 6 := Vector.replicate 6 none
  in2 : Vector (Option (List Word)) 6 := Vector.replicate 6 none
  /-- The vehicle cycle, in whole milliseconds of global time, that the committed blocks are for (R351). -/
  commitFor : Int := 0
  deriving DecidableEq, Repr

/-- A winding as R219 counts it. -/
structure Winding where
  lost : Bool := false
  /-- Consecutive cycles without, and with, the availability bit. -/
  clear : Nat := 0
  set : Nat := 0
  deriving DecidableEq, Repr

/-- A centre search in progress (R214): the rack position at its start, its present direction, the way from its start, mm, and
whether it has turned. -/
structure Search where
  base : Q
  dir : Int
  off : Q
  second : Bool
  deriving DecidableEq, Repr

/-- The steering function (chapter 8). -/
structure Steer where
  /-- δ_H, degrees; ω_H, degrees per second; number of valid sources (R205). -/
  hw : Q := 0
  hwSpeed : Q := 0
  hwSrc : Nat := 0
  hwSplit : Bool := false
  /-- Consecutive cycles with no hand-wheel source. -/
  hwLost : Nat := 0
  /-- δ_n,cmd of each axle, degrees (R212). -/
  cmd : Vector Q 3 := Vector.replicate 3 0
  /-- REF per local axis; CENT, HALF, LOST per axle; HHALF, NOFEEL, ARTV, RLOCK, BS (R225). -/
  ref : Vector Bool 8 := Vector.replicate 8 false
  cent : Vector Bool 3 := Vector.replicate 3 false
  half : Vector Bool 3 := Vector.replicate 3 false
  lost : Vector Bool 3 := Vector.replicate 3 false
  hhalf : Bool := false
  nofeel : Bool := false
  artv : Bool := false
  rlock : Bool := false
  bs : Vector Bool 3 := Vector.replicate 3 false
  /-- Centre corrections e_n, mm, taken and waiting for the next cycle (R215). -/
  corr : Vector Q 3 := Vector.replicate 3 0
  corrNext : Vector (Option Q) 3 := Vector.replicate 3 none
  /-- The centre latch has been armed in this start; it is armed and has not fired (R215). -/
  armed : Vector Bool 8 := Vector.replicate 8 false
  centWait : Vector Bool 8 := Vector.replicate 8 false
  /-- The first enable since the start has been seen, per local axis (R213). -/
  enSeen : Vector Bool 8 := Vector.replicate 8 false
  /-- A SUPER mirror has shown REF for the axle since the start (R214). -/
  mirRef : Vector Bool 3 := Vector.replicate 3 false
  /-- The centre search of each axle, while one runs (R214). -/
  search : Vector (Option Search) 3 := Vector.replicate 3 none
  /-- Consecutive cycles in which both windings of an axle show FERR (R221). -/
  ferr : Vector Nat 3 := Vector.replicate 3 0
  /-- Articulation angles of the last cycle, degrees (R223). -/
  gam : Vector Q 2 := Vector.replicate 2 0
  deriving DecidableEq, Repr

/-- The parking states (R246). -/
inductive Park where
  | off | clamp | latch | hold | holdact | release
  deriving DecidableEq, Repr

/-- One ledger record: energies in joules with their fractions, count and SATM (R249). -/
structure LedRec where
  fric : Q := 0
  req : Q := 0
  conf : Q := 0
  count : Nat := 0
  satm : BitVec 4 := 0
  deriving DecidableEq, Repr

/-- The braking function (chapter 9). -/
structure Brake where
  /-- Pedal travel, percent, valid sources, split flag, cycles without a source (R235). -/
  ped : Q := 0
  pedSrc : Nat := 0
  pedSplit : Bool := false
  pedLost : Nat := 0
  /-- Wheel speeds m/s and their validity, and the reference speed v, m/s (R234). -/
  v : Q := 0
  vPrev : Q := 0
  vw : Vector Q 8 := Vector.replicate 8 0
  vwOk : Vector Bool 8 := Vector.replicate 8 false
  slipQ : Vector Q 8 := Vector.replicate 8 0
  /-- Trim τ, m/s²; F_x, F_req of the last cycle, F_c, kN (R236 to R240). -/
  trim : Q := 0
  fx : Q := 0
  freq : Q := 0
  fc : Q := 0
  /-- A fresh inverter message in this cycle; cycles unconfirmed; cycles with fresh messages (R240). -/
  invf : Bool := false
  unconf : Nat := 0
  freshN : Nat := 0
  /-- REGBLK, by cause: unconfirmed, slip (R240, R244). -/
  regUnconf : Bool := false
  regSlip : Bool := false
  /-- Local time since which no driven wheel has had SLIP (R244). -/
  slipFree : Ns := 0
  /-- S_w, kN, SLIP, HALF, LOST per wheel (R244, R252). -/
  sw : Vector Q 8 := Vector.replicate 8 0
  slip : Vector Bool 8 := Vector.replicate 8 false
  half : Vector Bool 8 := Vector.replicate 8 false
  lost : Vector Bool 8 := Vector.replicate 8 false
  /-- DEFICIT (R251). -/
  deficit : Bool := false
  /-- Confirmed and requested regeneration of each wheel in the last cycle, kN (R241). -/
  confW : Vector Q 8 := Vector.replicate 8 0
  reqW : Vector Q 8 := Vector.replicate 8 0
  /-- Contact points p_c by local axis and CREF; the application under way has been measured; a contact search runs
  (R230). -/
  pc : Vector Q 8 := Vector.replicate 8 0
  cref : Vector Bool 8 := Vector.replicate 8 false
  applying : Vector Bool 8 := Vector.replicate 8 false
  csearch : Vector Bool 8 := Vector.replicate 8 false
  /-- FIMP, consecutive mismatches, and the cycle sums of table force and F_cur with samples and the speed check, by
  local axis (R232). -/
  fimp : Vector Bool 8 := Vector.replicate 8 false
  fimpN : Vector Nat 8 := Vector.replicate 8 0
  sumTab : Vector Q 8 := Vector.replicate 8 0
  sumCur : Vector Q 8 := Vector.replicate 8 0
  sumN : Vector Nat 8 := Vector.replicate 8 0
  slow : Vector Bool 8 := Vector.replicate 8 true
  /-- Cycle sums of i_q and F_act with samples, by local axis (R204, R233). -/
  sumIq : Vector Q 8 := Vector.replicate 8 0
  sumF : Vector Q 8 := Vector.replicate 8 0
  /-- PARK, the local time of entry to its state, a release asked for during LATCH, unlatch sent (R246). -/
  park : Park := .off
  parkAt : Ns := 0
  parkRel : Bool := false
  /-- Park requests to complete (R246, R411). -/
  parkOps : List AccOp := []
  /-- Release requests to complete, and the state that the last accepted request left (R246, R411). -/
  relOps : List AccOp := []
  parkFrom : Park := .off
  unlatch : Bool := false
  /-- Latched state per wheel, as the latch driver reports it (R237). -/
  latched : BitVec 8 := 0
  /-- The nine ledger records (R249), the copy saved in flash and the local time of the save (R250). -/
  led : Vector LedRec 9 := Vector.replicate 9 {}
  ledSaved : Vector LedRec 9 := Vector.replicate 9 {}
  ledAt : Ns := 0
  /-- Wheels whose command was above 0 in the last cycle (R248). -/
  applied : BitVec 8 := 0
  /-- The windings by lane group and local axis (R219, R242). -/
  wind : Vector (Vector Winding 8) 3 := Vector.replicate 3 (Vector.replicate 8 {})
  deriving DecidableEq, Repr

/-! ## Networks (chapters 13 and 14) -/

/-- The VTB states (R370). -/
inductive VtbSt where
  | off | listen | coldstart | integrate | sync | passive
  deriving DecidableEq, Repr

/-- One channel of the VTB with its guardian (R359 to R363). -/
structure VChan where
  up : Bool := false
  /-- GDX or GDY: the guardian has disabled the channel; until the next start of the lane. -/
  gd : Bool := false
  gdHard : Bool := false
  /-- RC ticks over the cycle of the last accepted mark, which give the scale; consecutive rejected and accepted marks (R360). -/
  scale : Option Nat := none
  rejected : Nat := 0
  accepted : Nat := 0
  /-- Attempts in the present round (R362). -/
  attempts : Nat := 0
  /-- A valid frame from another node in this cycle; cycles without one (R363). -/
  heard : Bool := false
  silent : Nat := 0
  deriving DecidableEq, Repr

/-- The VTB controller (chapter 13). -/
structure Vtb where
  st : VtbSt := .off
  /-- CYC, 6 bits, and the cycle start time (R347). -/
  cyc : BitVec 6 := 0
  cst : Int := 0
  /-- Start of the NIT after the cycle start, ns (R347). -/
  nitStart : Nat := 0
  chan : Vector VChan 2 := Vector.replicate 2 {}
  /-- The cycle of a cold start's announcement, or of an adoption: no sync frame of it counts (R371, R374). -/
  first : Bool := false
  /-- Deviations of the present cycle by sync node, ns (R364). -/
  dev : List (Nat × Int) := []
  /-- Values per sync node of the last cycle (R364, R366). -/
  vals : List (Nat × Q) := []
  /-- The lane has sent its sync frame in this cycle. -/
  sentSync : Bool := false
  /-- NSYNC, o before its clamp, o applied (R365, R380). -/
  nsync : Nat := 0
  offs : Q := 0
  applied : Q := 0
  /-- A cycle of this round exceeded; the last complete round was an exceeding one, and the one before (R368). -/
  exceed : Bool := false
  exceedRound : Bool := false
  exceedRuns : Nat := 0
  /-- Consecutive cycles: with another node's sync frame accepted, without one, within the limits (R371). -/
  okRun : Nat := 0
  syncLost : Nat := 0
  passRun : Nat := 0
  otherSync : Bool := false
  /-- CSATT and CSABORT (R375, R376). -/
  csatt : BitVec 4 := 0
  csabort : Bool := false
  /-- Local time at which the listen timeout last restarted (R374). -/
  listenAt : Ns := 0
  /-- The last frame sent: slot and bytes. -/
  sent : Option (BitVec 6 × List Byte) := none
  /-- A block of each kind has been sent in this vehicle cycle (R351). -/
  sentBlk : Vector Bool 3 := Vector.replicate 3 false
  /-- The vehicle cycle in which a slot of each kind last started (R351). -/
  slotSeen : Vector (Option Int) 3 := Vector.replicate 3 none
  /-- The copy queued from the present slot, with its channel and bytes, to compare with the other channel's (R407). -/
  rxCopy : Option (BitVec 6 × Chan × List Byte) := none
  deriving DecidableEq, Repr

/-- A CAN controller (R382, R386). -/
structure Can where
  busoff : Bool := false
  /-- The last frame sent (R386). -/
  sent : Option CanIn := none
  deriving DecidableEq, Repr

/-- The Ethernet MAC and the tunnel (R387 to R391). -/
structure Eth where
  /-- FAIL has stopped the MAC (R289). -/
  stopped : Bool := false
  /-- The last datagram sent: local port, remote IPv4, remote port and data. -/
  sent : Option (BitVec 16 × Word × BitVec 16 × List Byte) := none
  /-- The VLAN tag of the last datagram sent, and the host on the lane's own network that it was sent to (R387, R395). -/
  sentTag : Option (BitVec 16) := none
  sentHop : Word := 0
  /-- Timestamps of the last frame sent and received: global time, to 8 ns (R387). -/
  sentAt : Int := 0
  recvAt : Int := 0
  /-- ARP and ICMP echo answers sent (R387). -/
  answered : Nat := 0
  /-- The last MDIO write (R387). -/
  mdio : Option (BitVec 5 × BitVec 5 × BitVec 16) := none
  deriving DecidableEq, Repr

/-! ## Arbiter and self-test (chapters 17 and 18) -/

/-- The budget arbiter (chapter 17). -/
structure Arb where
  /-- Requests R_x (W), grants G_x (W) (R444, R448). -/
  req : Vector Q 8 := Vector.replicate 8 0
  grant : Vector Q 8 := Vector.replicate 8 0
  /-- The factor on the floors of each class, as last scaled (R449). -/
  scale : Vector Q 4 := Vector.replicate 4 1
  /-- A grant has been published since the start (R446). -/
  published : Bool := false
  /-- The last grant boundary served, in periods of 100 µs of global time, and the local time of its grant (R443, R444). -/
  last : Option Int := none
  lastAt : Ns := 0
  /-- B and the sum of floors, W (R457). -/
  b : Q := 0
  floors : Q := 0
  /-- Lowest link voltage of each pair in the present grant period (R447). -/
  vmin : Vector (Option Q) 4 := Vector.replicate 4 none
  vehlim : Bool := false
  saglim : Bool := false
  /-- BRKCLS, BRKMASK and consecutive grants with F ≤ B (R450). -/
  brkcls : BitVec 4 := 0
  brkmask : BitVec 8 := 0
  brkset : Vector (BitVec 8) 4 := Vector.replicate 4 0
  okN : Nat := 0
  /-- The first grant since the claim began has run (R455). -/
  firstDone : Bool := true
  /-- DIE: domains whose wake was granted in the present period, and domains that wait for their wake (R452, R453). -/
  waking : BitVec 7 := 0
  wait : BitVec 7 := 0
  /-- U: the load of the signal unit as granted (R452). -/
  u : Q := 0
  /-- Activations that run until a load raise is granted (R454). -/
  loadWait : Bool := false
  deriving DecidableEq, Repr

/-- Results of a domain test (R467). -/
inductive DomRes where
  | fail | aborted | incomplete | pass
  deriving DecidableEq, Repr

/-- Why a run was started, as ORIGIN numbers it (R468). -/
inductive Origin where
  | shutdown | fullStart | demand
  deriving DecidableEq, Repr

/-- A self-test run (R465 to R475). -/
structure Run where
  origin : Origin
  /-- Domains of the run, those started, those under test and those ended. -/
  doms : BitVec 7
  started : BitVec 7 := 0
  under : BitVec 7 := 0
  ended : BitVec 7 := 0
  /-- Patterns per domain, units of 1,024, and whether the March test is included. -/
  npat : Nat
  mem : Bool
  /-- Checkpoints passed by each domain. -/
  pats : Vector Nat 7 := Vector.replicate 7 0
  res : Vector (Option DomRes) 7 := Vector.replicate 7 none
  /-- The state to return to, and the request to complete. -/
  from_ : LaneSt
  op : Option AccOp := none
  /-- The lane held authority and claims again at the end. -/
  again : Bool := false
  /-- Domains powered for the test only (R473). -/
  tmp : BitVec 7 := 0
  /-- A start has been granted (R453). -/
  granted : Option (Fin 7) := none
  /-- The run has been stopped: its cause. -/
  stop : Option StopCause := none
  deriving DecidableEq, Repr

/-- Self-test state. -/
structure SelfTest where
  run : Option Run := none
  /-- A SAFETY or CONTROL doorbell latched while SUP or LINK is under test (R476). -/
  latched : Bool := false
  /-- Requests that stopped the run and wait to be served, oldest first: opcode and request (R475). -/
  held : List (BitVec 16 × Req) := []
  /-- An accepted on-demand test that waits for its castling or for standstill: its request (R473). -/
  waiting : Option AccOp := none
  deriving DecidableEq, Repr

/-! ## The lane -/

/-- The state of the block: one lane die and the queue of commands that wait for it. -/
structure State where
  ident : Ident := {}
  clk : Clk := {}
  life : Life := {}
  mb : Mailbox := {}
  par : Params := {}
  /-- Diagnostic counters, 16 bits and SAT each (R504 to R507). -/
  cnt : Counters := []
  regs : Regs := {}
  aon : Aon := {}
  ax : Vector Axis 8 := Vector.replicate 8 {}
  pair : Vector Pair 4 := Vector.replicate 4 {}
  ports : Vector Port 3 := Vector.replicate 3 {}
  wheels : Vector Wheel 8 := Vector.replicate 8 {}
  divs : Vector Divider 2 := Vector.replicate 2 {}
  su : Su := {}
  safe : Safe := {}
  nov : Nov := {}
  twin : Twin := {}
  integ : Integ := {}
  vote : Vote := {}
  steer : Steer := {}
  brake : Brake := {}
  vtb : Vtb := {}
  can : Vector Can 2 := Vector.replicate 2 {}
  eth : Eth := {}
  arb : Arb := {}
  st : SelfTest := {}
  /-- VDDIO stands below its reset threshold (R515). -/
  padReset : Bool := false
  /-- The model's own: how many free values have been read (log entry 5). -/
  free : Nat := 0
  /-- The model's own: the commands that wait, first in, first out. -/
  pending : List Instr := []
  deriving DecidableEq, Repr

/-- The lane right after reset: every field at the value its declaration gives. -/
def State.reset : State := {}

end Sys2Proof.Machine
end

