-- ==== Sys2Proof/Machine/Ops.lean ====
section
/-!
DEFINITION. The named operations over the state: sparse stores, clocks, parameters, counters, queues, events, axis faults
and gates. Every meaning is written over these.
-/

namespace Sys2Proof.Machine

/-! ## Vectors and small arithmetic -/

/-- A vector with one entry replaced. -/
def vset {α : Type} {n : Nat} (v : Vector α n) (i : Fin n) (x : α) : Vector α n := v.set i.val x i.isLt

/-- A vector with one entry changed. -/
def vmod {α : Type} {n : Nat} (v : Vector α n) (i : Fin n) (f : α → α) : Vector α n := vset v i (f v[i])

/-- All indices below `n`. -/
abbrev fins (n : Nat) : List (Fin n) := List.finRange n

/-- A fold over all indices. -/
def forFin {σ : Type} (n : Nat) (f : Fin n → σ → σ) (s : σ) : σ := (fins n).foldl (fun s i => f i s) s

/-- The value limited to a range, as the manual's clamp. -/
def clampQ (x lo hi : Q) : Q := max lo (min x hi)

/-- A quotient; the manual states no result for a divisor of zero, and it is free (log entry 21). -/
def divF (x y : Q) : Q := if y = 0 then Config.divZero x else x / y

/-- The sign of a quantity: −1, 0 or 1. -/
def sgn (x : Q) : Q := if x < 0 then -1 else if x = 0 then 0 else 1

/-- The sign as an integer. -/
def sgnI (x : Q) : Int := if x < 0 then -1 else if x = 0 then 0 else 1

/-- Rounding to the nearest integer; a tie goes as the implementation decides (log entry 6). -/
def roundQ (x : Q) : Int :=
  let f := x.floor
  if x - f < 1 / 2 then f else if 1 / 2 < x - f then f + 1 else if Config.tieUp x then f + 1 else f

/-- A fraction of a revolution wrapped to −1/2 to 1/2. -/
def wrapRev (x : Q) : Q := let f := fracQ x; if 1 / 2 < f then f - 1 else f

/-- A quantity in a signed or unsigned fixed-point word with `n` fractional bits, rounded, taken modulo 2^32. -/
def toFix (n : Nat) (x : Q) : Word := BitVec.ofInt 32 (roundQ (x * ((2 ^ n : Nat) : Q)))

/-- A word as a signed quantity with `n` fractional bits. -/
def ofFixS (n : Nat) (w : Word) : Q := (w.toInt : Q) / ((2 ^ n : Nat) : Q)

/-- A word as an unsigned quantity with `n` fractional bits. -/
def ofFixU (n : Nat) (w : Word) : Q := (w.toNat : Q) / ((2 ^ n : Nat) : Q)

/-- A Q1.23 word as a quantity (R174). -/
def ofQ23 (w : W24) : Q := (w.toInt : Q) / 8388608

/-- A quantity as Q1.23, saturated and truncated (R175, R191). -/
def toQ23 (x : Q) : W24 := BitVec.ofInt 24 (max (-8388608) (min 8388607 (x * 8388608).floor))

/-- A Boolean as a bit at a position of a word. -/
def bitAt (b : Bool) (n : Nat) : Word := if b then (1 : Word) <<< n else 0

/-- Low and high words of a 64-bit two's-complement value. -/
def loW (x : Int) : Word := BitVec.ofInt 32 x
/-- The high word. -/
def hiW (x : Int) : Word := BitVec.ofInt 32 (x / 4294967296)

/-- A signed 64-bit value from its two words. -/
def int64 (lo hi : Word) : Int := (hi ++ lo : BitVec 64).toInt

/-! ## Sparse stores -/

/-- What a store holds at an address, over what an unlisted address reads as. -/
def Cells.read (d : Nat → Word) : Cells → Nat → Word
  | [], a => d a
  | (b, w) :: r, a => if a = b then w else if a < b then d a else Cells.read d r a

/-- A store with one address written. The canonical form is kept: rising addresses, no entry equal to what an unlisted
address reads as. -/
def Cells.write (d : Nat → Word) : Cells → Nat → Word → Cells
  | [], a, v => if v = d a then [] else [(a, v)]
  | (b, w) :: r, a, v =>
    if a = b then (if v = d a then r else (a, v) :: r)
    else if a < b then (if v = d a then (b, w) :: r else (a, v) :: (b, w) :: r)
    else (b, w) :: Cells.write d r a v

/-- The canonical form of a store, from a lower bound on its addresses. -/
def Cells.wfFrom (d : Nat → Word) : Nat → Cells → Bool
  | _, [] => true
  | lo, (a, w) :: r => decide (lo ≤ a) && decide (w ≠ d a) && Cells.wfFrom d (a + 1) r

/-- The canonical form of a store (R24). -/
def Cells.wf (d : Nat → Word) (c : Cells) : Bool := Cells.wfFrom d 0 c

/-- An unlisted counter or memory word reads as zero. -/
def zeroD : Nat → Word := fun _ => 0

/-! ## Changing parts of the state -/

/-- The state with one axis changed. -/
def State.modAx (s : State) (l : AxisNo) (f : Axis → Axis) : State := { s with ax := vmod s.ax l f }

/-- The state with every axis changed. -/
def State.mapAx (s : State) (f : Axis → Axis) : State := { s with ax := s.ax.map f }

/-- The state with one pair changed. -/
def State.modPair (s : State) (k : PairNo) (f : Pair → Pair) : State := { s with pair := vmod s.pair k f }

/-- The state with `clk` changed. -/
def State.modClk (s : State) (f : Clk → Clk) : State := { s with clk := f s.clk }
/-- The state with `life` changed. -/
def State.modLife (s : State) (f : Life → Life) : State := { s with life := f s.life }
/-- The state with `mb` changed. -/
def State.modMb (s : State) (f : Mailbox → Mailbox) : State := { s with mb := f s.mb }
/-- The state with `par` changed. -/
def State.modPar (s : State) (f : Params → Params) : State := { s with par := f s.par }
/-- The state with `regs` changed. -/
def State.modRegs (s : State) (f : Regs → Regs) : State := { s with regs := f s.regs }
/-- The state with `aon` changed. -/
def State.modAon (s : State) (f : Aon → Aon) : State := { s with aon := f s.aon }
/-- The state with `su` changed. -/
def State.modSu (s : State) (f : Su → Su) : State := { s with su := f s.su }
/-- The state with `safe` changed. -/
def State.modSafe (s : State) (f : Safe → Safe) : State := { s with safe := f s.safe }
/-- The state with `nov` changed. -/
def State.modNov (s : State) (f : Nov → Nov) : State := { s with nov := f s.nov }
/-- The state with `twin` changed. -/
def State.modTwin (s : State) (f : Twin → Twin) : State := { s with twin := f s.twin }
/-- The state with `integ` changed. -/
def State.modInteg (s : State) (f : Integ → Integ) : State := { s with integ := f s.integ }
/-- The state with `vote` changed. -/
def State.modVote (s : State) (f : Vote → Vote) : State := { s with vote := f s.vote }
/-- The state with `steer` changed. -/
def State.modSteer (s : State) (f : Steer → Steer) : State := { s with steer := f s.steer }
/-- The state with `brake` changed. -/
def State.modBrake (s : State) (f : Brake → Brake) : State := { s with brake := f s.brake }
/-- The state with `vtb` changed. -/
def State.modVtb (s : State) (f : Vtb → Vtb) : State := { s with vtb := f s.vtb }
/-- The state with `eth` changed. -/
def State.modEth (s : State) (f : Eth → Eth) : State := { s with eth := f s.eth }
/-- The state with `arb` changed. -/
def State.modArb (s : State) (f : Arb → Arb) : State := { s with arb := f s.arb }
/-- The state with `st` changed. -/
def State.modSt (s : State) (f : SelfTest → SelfTest) : State := { s with st := f s.st }

/-- The pair of a local axis (R12). -/
def pairOf (l : AxisNo) : PairNo := ⟨l.val / 2, by omega⟩

/-- The lower axis of a pair (R12). -/
def loAx (k : PairNo) : AxisNo := ⟨2 * k.val, by omega⟩

/-- The upper axis of a pair. -/
def hiAx (k : PairNo) : AxisNo := ⟨2 * k.val + 1, by omega⟩

/-! ## Free values -/

/-- The state with one more free value read. -/
def State.tickFree (s : State) : State := { s with free := s.free + 1 }

/-! ## Clocks -/

/-- The state at a time on the lane's own clock. The clock never runs backward. -/
def State.at (s : State) (now : Ns) : State := { s with clk := { s.clk with lclk := max s.clk.lclk now } }

/-- Milliseconds as local ns. -/
def ms (n : Nat) : Ns := n * 1000000
/-- Microseconds as local ns. -/
def us (n : Nat) : Ns := n * 1000

/-- Whether `d` ns have passed since a local time. -/
def State.since (s : State) (t0 : Ns) (d : Ns) : Bool := decide (t0 + d ≤ s.clk.lclk)

/-! ## Identity -/

/-- ROLE is BLACK (R35). -/
def State.black (s : State) : Bool := s.ident.straps.role

/-- The lane runs in split mode (R35, R303). -/
def State.split (s : State) : Bool := s.ident.straps.split

/-- L, the lane group, 0 to 2 (R11, R13). -/
def State.grp (s : State) : Fin 3 := ⟨s.ident.lane.toNat % 3, Nat.mod_lt _ (by decide)⟩

/-- The lane index i = L + 3 × ROLE (R272). -/
def State.idx (s : State) : LaneNo :=
  ⟨s.grp.val + 3 * s.black.toNat, by have := s.grp.isLt; cases s.black <;> simp <;> omega⟩

/-- The lane holds authority: from the first edge of its claim until its claim ends (R309). -/
def State.auth (s : State) : Bool := s.twin.claim

/-- The state code of R335. -/
def LaneSt.code : LaneSt → BitVec 4
  | .off => 0 | .boot => 1 | .selftest => 2 | .configured => 3 | .pairing => 4 | .standby => 5 | .active => 6
  | .drive => 7 | .safeStop => 8 | .failSilent => 9 | .sleep => 10

/-- The operating states of R29. -/
def LaneSt.operating : LaneSt → Bool
  | .active | .drive | .standby | .safeStop => true
  | _ => false

/-- The lane is in STANDBY and computes its axes in shadow (R139); so does one that entered SAFE_STOP from STANDBY (R271, log
entry 26). -/
def State.standby (s : State) : Bool :=
  (s.life.st == LaneSt.standby || (s.life.st == LaneSt.safeStop && s.safe.fromStandby)) && !s.auth

/-! ## Parameters -/

/-- What an unlisted stored parameter reads as: the row's default; com.start unwritten reads as all ones, which no write
can leave there, and stands for the COMPAT strap (R35). -/
def storeD (pid : Nat) : Word :=
  match lookupPid pid with
  | some (p, _, i) => if p.base = P.comStart.base then 0xFFFFFFFF else p.default i
  | none => 0

/-- The value a cell of the parameter store stands for. -/
def State.parVal (s : State) (w : Word) (pid : Nat) : Word :=
  if w = 0xFFFFFFFF ∧ (P.comStart.find pid).isSome then (if s.ident.straps.compat then 1 else 0) else w

/-- The stored value of a PID (R413). -/
def State.stored (s : State) (pid : Nat) : Word := s.parVal (Cells.read storeD s.par.stored pid) pid

/-- The value of a PID in effect (R6). -/
def State.eff (s : State) (pid : Nat) : Word := s.parVal (Cells.read storeD s.par.eff pid) pid

/-- NOW-class values of an axis that were written while its carrier runs take effect together, at the start of its next sample (R66,
R414). -/
def State.takeNow (s : State) (l : AxisNo) : State :=
  let mine := s.par.posted.filter fun p => (p / 256) % 16 == l.val
  if mine.isEmpty then s
  else s.modPar fun q =>
    { q with eff := mine.foldl (fun c p => Cells.write storeD c p (Cells.read storeD q.stored p)) q.eff,
             posted := q.posted.filter fun p => (p / 256) % 16 != l.val }

/-- The word in effect of an entry of a row, for local axis `l` where it is an axis row. -/
def State.pw (s : State) (p : PSpec) (l i : Nat := 0) : Word := s.eff (p.pid l i)

/-- The number in effect. -/
def State.pn (s : State) (p : PSpec) (l i : Nat := 0) : Nat := (s.pw p l i).toNat

/-- The quantity in effect, in the unit of the row. -/
def State.pq (s : State) (p : PSpec) (l i : Nat := 0) : Q := p.toQ (s.pw p l i)

/-- The stored quantity. -/
def State.sq (s : State) (p : PSpec) (l i : Nat := 0) : Q := p.toQ (s.stored (p.pid l i))

/-! ## Global time (R364 to R367) -/

/-- The mean of a list, zero without a value. -/
def meanQ (xs : List Q) : Q := if xs.isEmpty then 0 else xs.foldl (· + ·) 0 / xs.length

/-- The mean of the values without the k largest and the k smallest (R365). -/
def trimmed (xs : List Q) : Q :=
  let k := if xs.length < 3 then 0 else if xs.length < 7 then 1 else 2
  meanQ (((xs.insertionSort (· ≤ ·)).drop k).take (xs.length - 2 * k))

/-- The values of the present cycle: one for each sync node heard, and the node's own (R364). -/
def Vtb.syncVals (v : Vtb) : List (Nat × Q) :=
  let keys := (v.dev.map Prod.fst).eraseDups
  let own := v.sentSync && (v.st == VtbSt.sync || v.st == VtbSt.coldstart)
  (if own then [(0xFF, (0 : Q))] else []) ++
    keys.map fun k => (k, meanQ ((v.dev.filter fun (d : Nat × Int) => d.1 == k).map fun (d : Nat × Int) => (d.2 : Q)))

/-- The node follows a grid beyond its first, partial cycle (R370, R371). -/
def Vtb.follows (v : Vtb) : Bool :=
  !v.first && (match v.st with | .coldstart | .integrate | .sync | .passive => true | _ => false)

/-- The needed offset of the present cycle, ns (R365). -/
def Vtb.needed (v : Vtb) : Q := trimmed (v.syncVals.map Prod.snd)

/-- The cycle length, ns (R347). -/
def State.vtbCycleNs (s : State) : Nat := 1000 * s.pn P.vtbCycle

/-- The nominal NIT, ns (R347). -/
def State.nitNs (s : State) : Nat := s.vtbCycleNs - s.vtb.nitStart

/-- The offset that the NIT of the present cycle applies, ns (R365, R370). -/
def State.nitOffset (s : State) : Q :=
  let lim : Q := if s.vtb.st = .passive then (s.nitNs : Q) / 2 else 2000
  clampQ s.vtb.needed (-lim) lim

/-- Global time at a local time, ns. In the NIT of a grid the counter advances by the nominal NIT while the local time runs for the
nominal NIT plus the applied offset (R366, R367); a line that starts at the end of the NIT has it behind. -/
def State.gtAt (s : State) (t : Ns) : Int :=
  let c := s.clk
  let r : Q := 1 + c.rate
  let g := c.gbase + (((t : Int) - c.lbase : Int) * r : Q).floor
  let v := s.vtb
  let n := v.cst + v.nitStart
  if !v.follows ∨ g < n ∨ n + s.nitNs ≤ c.gbase then g
  else
    let nit : Q := (s.nitNs : Q)
    let long := nit + s.nitOffset
    let e : Q := (((t : Int) - c.lbase : Int) : Q) - divF ((n - c.gbase : Int) : Q) r
    if e ≤ long then n + (divF (e * nit) long).floor else n + s.nitNs + ((e - long) * r).floor

/-- The present global time, ns. -/
def State.gt (s : State) : Int := s.gtAt s.clk.lclk

/-- The local time of a global time outside a NIT. -/
def State.localOf (s : State) (g : Int) : Ns := ((s.clk.lbase : Int) + (divF ((g - s.clk.gbase : Int) : Q) (1 + s.clk.rate)).floor).toNat

/-- The lower 32 bits of global time in µs (R272). -/
def State.gtUs (s : State) : Word := BitVec.ofInt 32 (s.gt / 1000)

/-! ## Allocation -/

/-- The KIND of a package axis (R16). -/
def State.kindP (s : State) (p : Nat) : Nat := (s.pn P.sysAlloc 0 p >>> 12) % 16
/-- The MOTOR of a package axis. -/
def State.motorP (s : State) (p : Nat) : Nat := s.pn P.sysAlloc 0 p % 256
/-- The WDG of a package axis. -/
def State.wdgP (s : State) (p : Nat) : Nat := (s.pn P.sysAlloc 0 p >>> 8) % 4
/-- The package axis of a local axis (R11). -/
def State.pkg (s : State) (l : AxisNo) : Nat := 8 * s.grp.val + l.val
/-- The KIND of a local axis. -/
def State.kind (s : State) (l : AxisNo) : Nat := s.kindP (s.pkg l)
/-- The MOTOR of a local axis. -/
def State.motor (s : State) (l : AxisNo) : Nat := s.motorP (s.pkg l)
/-- The axis is allocated. -/
def State.allocated (s : State) (l : AxisNo) : Bool := s.kind l ≠ 0
/-- A pair that R419 powers. -/
def State.pairAlloc (s : State) (k : PairNo) : Bool := s.allocated (loAx k) || s.allocated (hiAx k)
/-- The clocks of AXIS, SIGNAL and LINK run: they stop in E2 of a sleep entry (R426, R430). -/
def State.clocksOn (s : State) : Bool :=
  s.life.st != LaneSt.sleep && (match s.life.entry with | some e => e.passed == 0 | none => true)

/-- The domain of a pair is powered and not isolated (R418, bits 1 to 4 of R460). -/
def State.pairOn (s : State) (k : PairNo) : Bool :=
  s.life.domains.getLsbD (k.val + 1) && !s.life.isolated.getLsbD (k.val + 1)

/-! ## Counters, queues and events -/

/-- Depths of the queues (R398). -/
def qDepth (q : Fin 16) : Nat :=
  if q.val = 8 then 128 else if q.val = 9 ∨ q.val = 11 ∨ q.val = 13 ∨ q.val = 15 then 64 else 32

/-- The lane-to-host queues (R398). -/
def qToHost (q : Fin 16) : Bool := (4 ≤ q.val && q.val ≤ 9) || q.val = 11 || q.val = 13 || q.val = 15

/-- The index of the drop or overflow counter of a queue (R507). -/
def qCnt (q : Fin 16) : Nat := 0x0F10 + q.val

/-- The counter word of an index: SAT in bit 16, VALUE below (R508). -/
def State.counter (s : State) (i : Nat) : Word := Cells.read zeroD s.cnt i

/-- A slot: header words 0 to 2 and payload, with its CRC in word 3 (R401, R402). -/
def mkSlot (w0 w1 w2 : Word) (pl : List Word) : Slot :=
  let p := (pl ++ List.replicate 12 0).take 12
  w0 :: w1 :: w2 :: crc32 (bytesOf (w0 :: w1 :: w2 :: 0 :: p)) :: p

/-- A lane-written slot of class Fh with a payload of `len` bytes (R401). -/
def mkLaneSlot (len : Nat) (w2 : Word) (pl : List Word) : Slot :=
  mkSlot (0x040F0000 ||| (BitVec.ofNat 32 len <<< 20)) 0 w2 pl

/-- A counter one higher, sticking at FFFFh with SAT; whether it has just saturated (R504). -/
def Counters.bump (c : Counters) (i : Nat) : Counters × Bool :=
  let w := Cells.read zeroD c i
  if w.getLsbD 16 then (c, false)
  else
    let v := w + 1
    if v = 0xFFFF then (Cells.write zeroD c i 0x1FFFF, true) else (Cells.write zeroD c i v, false)

/-- The place of an event slot among those of its TIME: CODE, then AXIS (R502). -/
def evKey (w : Slot) : Nat := (w.getD 6 0).toNat % 65536 * 256 + (w.getD 6 0).toNat / 2 ^ 24

/-- Two event slots of one TIME. -/
def evTogether (a b : Slot) : Bool := a.getD 4 0 == b.getD 4 0 && a.getD 5 0 == b.getD 5 0

/-- An event slot with the ESEQ of another. -/
def evNumbered (a b : Slot) : Slot := mkLaneSlot 32 0 (((a.drop 4).take 8).set 3 (b.getD 7 0))

/-- A new event slot before those of its TIME with a greater CODE or AXIS; the list is newest first, and ESEQ follows the order of the
queue (R502). -/
def sinkEvent (e : Slot) : List QEntry → List QEntry
  | [] => [⟨.spi, e⟩]
  | x :: r =>
    if evTogether x.slot e && decide (evKey e < evKey x.slot) then ⟨x.src, evNumbered x.slot e⟩ :: sinkEvent (evNumbered e x.slot) r
    else ⟨.spi, e⟩ :: x :: r

/-- Place an event slot in queue 8; a full queue drops it and counts (R399, R502). The event queue raises no event for its
own overflow but for the saturation of its counter, which is dropped with it. -/
def State.pushEvent (s : State) (slot : Slot) : State :=
  let q := s.mb.queues[(8 : Fin 16)]
  let m := { s.mb with eseq := s.mb.eseq + 1 }
  if q.entries.length < 128 then
    { s with mb := { m with queues := vset s.mb.queues 8 { q with entries := (sinkEvent slot q.entries.reverse).reverse } } }
  else
    let (c, sat) := Counters.bump s.cnt (qCnt 8)
    let m := if sat then { m with eseq := m.eseq + 1 } else m
    let r := if sat then { s.regs with intstat := s.regs.intstat ||| 0x00020000 } else s.regs
    { s with mb := m, cnt := c, regs := r }

/-- The severity field (R500). -/
def Sev.code : Sev → Word
  | .grey => 0 | .amber => 1 | .crimson => 2

/-- The event record of R500, in an event slot (R406). -/
def State.eventSlot (s : State) (time : Int) (code : Nat) (sev : Sev) (ax : Option AxisNo) (core : Bool)
    (args : List Word) : Slot :=
  let b := sev.code ||| (s.ident.lane.setWidth 32 <<< 2) ||| bitAt s.black 4 ||| bitAt core 5
  let a : Word := match ax with | some l => BitVec.ofNat 32 l.val | none => 0xFF
  mkLaneSlot 32 0 ([loW time, hiW time, BitVec.ofNat 32 code ||| (b <<< 16) ||| (a <<< 24), s.mb.eseq.setWidth 32]
    ++ (args ++ [0, 0, 0, 0]).take 4)

/-- Firmware runs on the supervisor. -/
def State.fwOn (s : State) : Bool :=
  match s.life.st with
  | .off | .sleep | .failSilent => false
  | .boot => decide (3 ≤ s.life.step)
  | _ => true

/-- Queue the record of an event of a time. In split mode an event of axes 4 to 7 is core 1's (R500). -/
def State.queueEvent (s : State) (e : LateEv) : State :=
  let core := s.split && (match e.ax with | some l => decide (4 ≤ l.val) | none => false)
  s.pushEvent (s.eventSlot e.time e.code e.sev e.ax core e.args)

/-- Raise an event (R500 to R503). What arises while no firmware runs is raised at the next start, with its own time (R506). -/
def State.raise (s : State) (code : Nat) (sev : Sev) (ax : Option AxisNo) (args : List Word) : State :=
  let e : LateEv := ⟨s.gt, code, sev, ax, args⟩
  if s.fwOn then s.queueEvent e else { s with aon := { s.aon with late := s.aon.late ++ [e] } }

/-- A diagnostic counter one higher; at its first saturation EV_COUNTER_SATURATED and INTSTAT.SAT (R504, R506). -/
def State.bump (s : State) (i : Nat) : State :=
  let (c, sat) := Counters.bump s.cnt i
  let s := { s with cnt := c }
  if sat then
    ({ s with regs := { s.regs with intstat := s.regs.intstat ||| 0x00020000 } }).raise 0x0030 .grey none
      [BitVec.ofNat 32 i]
  else s

/-- A counter raised `n` times. -/
def State.bumpN (s : State) (i : Nat) : Nat → State
  | 0 => s
  | n + 1 => State.bumpN (s.bump i) i n

/-- Place one entry in a lane-to-host queue other than the event queue. A full queue drops it, counts, and raises
EV_QUEUE_OVERFLOW at the first drop since it was last empty (R399). -/
def State.push (s : State) (q : Fin 16) (e : QEntry) : State :=
  let qu := s.mb.queues[q]
  if qu.entries.length < qDepth q then
    { s with mb := { s.mb with queues := vset s.mb.queues q { qu with entries := qu.entries ++ [e] } } }
  else
    let s := s.bump (qCnt q)
    if qu.dropped then s
    else
      ({ s with mb := { s.mb with queues := vmod s.mb.queues q (fun x => { x with dropped := true }) } }).raise
        0x0021 .amber none [BitVec.ofNat 32 q.val]

/-- Remove the oldest entry of a queue: RPTR advances (R494). -/
def Queue.pop (depth : Nat) (q : Queue) : Queue :=
  match q.entries with
  | [] => q
  | _ :: r => { entries := r, rptr := (q.rptr + 1) % depth, dropped := q.dropped && !r.isEmpty }

/-- The state with the oldest entry of a queue removed. -/
def State.pop (s : State) (q : Fin 16) : State :=
  { s with mb := { s.mb with queues := vmod s.mb.queues q (Queue.pop (qDepth q)) } }

/-- Place an entry in a host-to-lane queue that has room; a CAN entry takes the time of its placement (R386). -/
def State.place (s : State) (q : Fin 16) (e : QEntry) : State :=
  { s with mb := { s.mb with queues := vmod s.mb.queues q (fun x => { x with entries := x.entries ++ [e] }),
                             canAt := if q = 12 then s.mb.canAt ++ [s.clk.lclk] else s.mb.canAt } }

/-- Free room in a queue. -/
def State.room (s : State) (q : Fin 16) : Nat := qDepth q - s.mb.queues[q].entries.length

/-- WPTR of a queue (R492). -/
def Queue.wptr (q : Queue) (depth : Nat) : Nat := (q.rptr + q.entries.length) % depth

/-- Set INTSTAT bits (R495). -/
def State.intr (s : State) (m : Word) : State := { s with regs := { s.regs with intstat := s.regs.intstat ||| m } }

/-! ## Lane state -/

/-- Change the lane state; STATE of INTSTAT sets, and DRDY clears when the lane leaves ACTIVE, STANDBY, DRIVE and
SAFE_STOP (R486, R495). -/
def State.setSt (s : State) (t : LaneSt) : State :=
  if s.life.st = t then s
  else
    let s := { s with life := { s.life with st := t, drdy := s.life.drdy && t.operating } }
    s.intr 0x00200000

/-! ## Gates, torque-off and axis faults -/

/-- Take the six gate outputs low at once (R46). -/
def Axis.gatesLow (a : Axis) : Axis :=
  { a with pwm := { a.pwm with gates := false, gateReq := none, next := [], owed := false } }

/-- The counts of the motor-model check start again, as at each gate enable and each change of commutation mode; MODELF stays
(R60). -/
def Cur.resettle (c : Cur) : Cur := { c with settled := 0, warn := 0, fail := 0, failRep := false, res1 := false }

/-- The axis with its commutation mode changed (R60, R101). -/
def Axis.setMode (a : Axis) (m : CMode) : Axis :=
  if a.com.mode = m then a else { a with com := { a.com with mode := m }, cur := a.cur.resettle }

/-- Stop the loops of an axis and leave its commutation mode (R66, R101). -/
def Axis.stopLoops (a : Axis) : Axis :=
  let a := a.setMode .off
  { a with
    com := { a.com with est := false, brkWait := false, align := none, provOk := false, want := none, pulse := none },
    cur := { a.cur with ilim := false, vlim := false, limSince := false, iqHeld := 0 },
    sch := { a.sch with lastS := none, lastP := none },
    prof := { a.prof with plan := [], busy := false } }

/-- Disable an axis: it leaves its mode, and its gates go low at the next load point (R46, R409). -/
def Axis.disable (a : Axis) : Axis :=
  let a := { a.stopLoops with en := false }
  if a.pwm.gates then { a with pwm := { a.pwm with gateReq := some false } }
  else { a with pwm := { a.pwm with gateReq := none } }

/-- Disable an axis with its gates low at once, as a torque-off demand or FAIL does; FAULT is unchanged (R46, R263). -/
def Axis.cut (a : Axis) : Axis := { (a.stopLoops.gatesLow) with en := false, perm := false }

/-- Some axis of the lane is enabled (R440). -/
def State.anyEn (s : State) : Bool := (fins 8).any fun l => s.ax[l].en

/-- ACTIVE and DRIVE follow the enables of the lane's axes (R440). -/
def State.syncDrive (s : State) : State :=
  match s.life.st with
  | .active => if s.anyEn then s.setSt .drive else s
  | .drive => if s.anyEn then s else s.setSt .active
  | _ => s

/-- An axis fault: gates low, duties discarded, loops stopped, the first cause recorded; the axis is no longer enabled, and the
torque-off outputs of its pair are not driven by it (R66, R440). -/
def State.axisFault (s : State) (l : AxisNo) (cause : BitVec 4) : State :=
  (s.modAx l fun a => { a.cut with fault := if a.fault = 0 then cause else a.fault, perm := a.perm }).syncDrive

/-- Safety inputs whose torque-off action demands on a pair: si.func = 1 in DEMAND, mode not off (R259, R262). -/
def State.siTorqueOff (s : State) (k : PairNo) : Bool :=
  (fins 6).any fun n => s.aon.si[n].dem && (s.pn P.siMode 0 n != 0) && s.pn P.siFunc 0 n == 1 &&
    (s.pw P.siMask 0 n).getLsbD k.val

/-- A source of R262 demands torque-off on a pair. In split mode no lane claims, and the claim source counts as
inactive (log entry 11). -/
def State.toDemanded (s : State) (k : PairNo) : Bool :=
  s.life.st = .failSilent || s.siTorqueOff k || s.life.nrstLow || s.padReset ||
    (!s.auth && !s.split) || s.pair[k].toDemand || (s.split && s.integ.core1Off && decide (2 ≤ k.val)) ||
    !s.pairOn k

/-- TO_P high and TO_N low: no source demands and an axis of the pair has been enabled since one did (R66, R261, R263). -/
def State.toPermit (s : State) (k : PairNo) : Bool :=
  !s.toDemanded k && (s.ax[loAx k].perm || s.ax[hiAx k].perm)

/-- A torque-off demand on a pair: gates low on both axes, both disabled, FAULT unchanged (R263). -/
def State.torqueOff (s : State) (k : PairNo) : State :=
  ((s.modAx (loAx k) Axis.cut).modAx (hiAx k) Axis.cut).syncDrive

/-! ## Rates -/

/-- T_c in ns: 10 × pwm.half for single update, half of it for double update (R41). -/
def State.tc (s : State) (l : AxisNo) : Nat :=
  if s.pn P.pwmUpdate l = 2 then 5 * s.pn P.pwmHalf l else 10 * s.pn P.pwmHalf l

/-- T_c in seconds. -/
def State.tcQ (s : State) (l : AxisNo) : Q := (s.tc l : Q) / 1000000000

/-- Group delay of R47 in ns: 1.5 × D clocks of 50 ns. -/
def State.groupDelay (s : State) (l : AxisNo) : Nat := 75 * s.pn P.dsmDec l

/-- A difference of local times in seconds. -/
def secs (t1 t0 : Ns) : Q := ((t1 : Int) - t0 : Int) / 1000000000

/-- Counts per mechanical revolution C_m (R131). -/
def State.cm (s : State) (l : AxisNo) : Q := if s.pn P.fbSrc l = 2 then 65536 else 4 * (s.pn P.fbLines l : Q)

/-- Torque constant k_t, N·m/A; elec.psi is in mWb (R131). -/
def State.kt (s : State) (l : AxisNo) : Q := 3 / 2 * s.pn P.elecPp l * (s.pq P.elecPsi l / 1000)

end Sys2Proof.Machine
end

