-- ==== Sys2Proof/Machine/Feedback.lean ====
section
/-!
DEFINITION. The feedback interface of chapter 3: encoder counting, index, reference switch, window speed, resolver
measurements, serial ports, wheel-speed inputs and pulse dividers.
-/

namespace Sys2Proof.Machine

/-- The axis cell of a local axis is powered: its interface runs (R321, R418). -/
def State.axOn (s : State) (l : AxisNo) : Bool := s.pairOn (pairOf l) && s.clocksOn

/-- The LINK domain is powered and not isolated (R418). -/
def State.linkOn (s : State) : Bool := s.life.domains.getLsbD 6 && !s.life.isolated.getLsbD 6 && s.clocksOn

/-- A change of a signed 32-bit counter, as a two's-complement difference (R82). -/
def diff32 (a b : Word) : Int := (a - b).toInt

/-! ## Sensor loss -/

/-- A cause of LOSS: the first is recorded, and where it concerns the commutation source it is a sensor loss, with which CVAL and an
encoder-commutated caliper's CREF clear (R97, R103, R230). It wins over an index event of the same sample (R112). -/
def State.noteLoss (s : State) (l : AxisNo) (cause : BitVec 4) (source : Bool) : State :=
  let was := s.ax[l].fb.lost
  let s := s.modAx l fun a => { a with fb := { a.fb with loss := if a.fb.loss = 0 then cause else a.fb.loss } }
  if !source then s
  else
    let s := if s.pn P.fbSrc l = 1 then s.modBrake fun b => { b with cref := vset b.cref l false } else s
    let s := s.modAx l fun a =>
      let c := match a.fb.idxSave with
        | some (n, r, _, θ, ok) => { a.com with count := n, ref := r, prov := θ, provOk := ok }
        | none => a.com
      { a with fb := { a.fb with lost := true, lossAct := a.fb.lossAct || !was, punc := true, idxSave := none }
               com := { c with cval := false } }
    if was then s else s.raise 0x5004 .crimson (some l) [cause.setWidth 32]

/-- A cause of LOSS that an encoder shows; with fb.src = 2 the encoder is an auxiliary one, and no loss rule acts on it (R70, R75,
R80, R81). -/
def State.encoderLoss (s : State) (l : AxisNo) (cause : BitVec 4) : State :=
  if s.pn P.fbSrc l = 2 then s else s.noteLoss l cause (s.pn P.fbSrc l = 1)

/-- fb.src of an axis (R70). -/
def State.src (s : State) (l : AxisNo) : Nat := s.pn P.fbSrc l

/-- Four counts per line: C of R102. -/
def State.countsPerRev (s : State) (l : AxisNo) : Nat := 4 * s.pn P.fbLines l

/-! ## Count history -/

/-- Counters changed at a local time: the values before are kept for 40 µs, beyond the longest group delay (R47, R76). -/
def Fb.setCount (f : Fb) (t : Ns) (pos mov : Word) : Fb :=
  { f with hist := ((t, f.pos, f.mov) :: f.hist).filter (fun h => decide (t ≤ h.1 + 40000)), pos := pos, mov := mov }

/-- POSCNT and MOVCNT as they stood at a local time (R76). -/
def Fb.countsAt (f : Fb) (t : Ns) : Word × Word :=
  match (f.hist.filter fun h => decide (t < h.1)).getLast? with
  | some (_, p, m) => (p, m)
  | none => (f.pos, f.mov)

/-! ## Pulse dividers -/

/-- One more pending pulse; at FFFFh the count sticks and SAT sets (R96). -/
def State.pendPulse (s : State) (d : Nat) : State :=
  let i := 0x5F20 + d
  let w := s.counter i
  if w.toNat % 65536 = 65535 then s
  else if w.toNat % 65536 = 65534 ∧ w.getLsbD 16 then { s with cnt := Cells.write zeroD s.cnt i 0x1FFFF }
  else if w.getLsbD 16 then { s with cnt := Cells.write zeroD s.cnt i (w + 1) }
  else s.bump i

/-- Several pending pulses. -/
def State.pendPulses (s : State) (d : Nat) : Nat → State
  | 0 => s
  | n + 1 => State.pendPulses (s.pendPulse d) d n

/-- One edge of a divider's source (R95). -/
def State.dividerEdge (s : State) (d : Fin 2) : State :=
  let num := s.pn P.pdNum 0 d.val
  let den := s.pn P.pdDen 0 d.val
  let a := s.divs[d].acc + num
  let s := { s with divs := vmod s.divs d fun x => { x with acc := a % den } }
  s.pendPulses d.val (a / den)

/-- An edge of source number `src` of pdn.src: every divider that takes it counts (R95). -/
def State.sourceEdge (s : State) (src : Nat) : State :=
  forFin 2 (fun d s => if s.pn P.pdSrc 0 d.val = src then s.dividerEdge d else s) s

/-- A pulse starts when a count is pending and the last pulse with its pause has passed: 250 ns high and 250 ns low (R95). -/
def execPulseDividerPulse (d : Fin 2) (now : Ns) (s : State) : Host.Outcome State Fault Refusal :=
  let s := s.at now
  let w := s.counter (0x5F20 + d.val)
  .next (if w.toNat % 65536 ≠ 0 ∧ s.divs[d].nextAt ≤ s.clk.lclk then
    { s with
      cnt := Cells.write zeroD s.cnt (0x5F20 + d.val) (w - 1)
      divs := vmod s.divs d fun x => { x with pulses := x.pulses + 1, nextAt := s.clk.lclk + 500 } }
  else s)

/-! ## Encoder -/

/-- The place of a BA pair in the forward sequence (R73). -/
def baPlace (ba : BitVec 2) : Nat := if ba = 0 then 0 else if ba = 1 then 1 else if ba = 3 then 2 else 3

/-- The index is missing: R81, from the first index event since enable. -/
def State.indexMissing (s : State) (l : AxisNo) : State :=
  let f := s.ax[l].fb
  match f.zref with
  | none => s
  | some z =>
    if s.pn P.fbLcchk l = 1 ∧ (s.countsPerRev l + s.pn P.fbLctol l : Nat) < (diff32 f.mov z).natAbs then
      s.encoderLoss l 3
    else s

/-- The newest of eight recorded times lies within 1 ms of the oldest (R75). -/
def burstOf : List Ns → Bool
  | [a, _, _, _, _, _, _, b] => decide (a ≤ b + 1000000)
  | _ => false

/-- An illegal transition; the event is owed from each enable on (R74, R75). -/
def State.illegalTransition (s : State) (l : AxisNo) (ba : BitVec 2) : State :=
  let first := !s.ax[l].fb.illRep
  let s := s.bump (0x5000 + 256 * l.val)
  let ts := (s.clk.lclk :: s.ax[l].fb.illegal).take 8
  let s := s.modAx l fun a =>
    { a with fb := { a.fb with ba := ba, punc := true, illRep := true, illegal := ts, illBurst := a.fb.illBurst || burstOf ts } }
  if first then s.raise 0x5002 .amber (some l) [] else s

/-- Two local times lie in one cycle of the AXIS clock (R71). -/
def sameCycle (t u : Ns) : Bool := t / 5 == u / 5

/-- The counters after one legal transition; in the sample of an index load the transition is not added to POSCNT (R73, R78). -/
def Fb.count (f : Fb) (t : Ns) (ba : BitVec 2) (up : Bool) : Fb :=
  let x : Word := if up then 1 else 0xFFFFFFFF
  let loaded := match f.loadAt with | some u => sameCycle t u | none => false
  { f.setCount t (if loaded then f.pos else f.pos + x) (f.mov + x) with ba := ba, fwd := up }

/-- A filtered A/B transition counts, or is judged illegal (R73, R74). -/
def execEncoderTransition (l : AxisNo) (ba : BitVec 2) (now : Ns) (s : State) : Host.Outcome State Fault Refusal :=
  let s := s.at now
  if !s.axOn l then .next s
  else
    let d := (baPlace ba + 4 - baPlace s.ax[l].fb.ba) % 4
    if d = 0 then .next s
    else if d = 2 then .next (s.illegalTransition l ba)
    else
      let up := decide ((d = 1) ≠ (s.pn P.fbDir l = 1))
      let s := s.modAx l fun a => { a with fb := a.fb.count s.clk.lclk ba up }
      .next ((s.sourceEdge (8 + l.val)).indexMissing l)

/-- The encoder has failed: LOSS = 1h (R75). -/
def State.encoderFailed (s : State) (l : AxisNo) : State :=
  if s.ax[l].fb.illBurst then (s.modAx l fun a => { a with fb := { a.fb with illBurst := false } }).encoderLoss l 1 else s

/-- ENCODER_ILLEGAL_BURST (R75). -/
def execEncoderIllegalBurst (l : AxisNo) (now : Ns) (s : State) : Host.Outcome State Fault Refusal :=
  let s := s.at now
  .next (if s.axOn l then s.encoderFailed l else s)

/-! ## Index -/

/-- The A and B levels that fb.zqual asks for (R77). -/
def zQualified (q : Nat) (ba : BitVec 2) : Bool :=
  let a := ba.getLsbD 0
  let b := ba.getLsbD 1
  if q = 0 then true
  else if q = 1 then !a && !b
  else if q = 2 then a && !b
  else if q = 3 then !a && b
  else a && b

/-- The line-count check passes (R80). -/
def State.lineOk (s : State) (l : AxisNo) (d : Int) : Bool :=
  let c : Int := s.countsPerRev l
  let t := s.pn P.fbLctol l
  decide ((d - c).natAbs ≤ t) || decide ((d + c).natAbs ≤ t) || decide (d.natAbs ≤ t)

/-- The line-count check against the index before: its result, and the state it leaves (R80). -/
def State.lineCheck (s : State) (l : AxisNo) : Bool × State :=
  match s.ax[l].fb.zref with
  | none => (true, s)
  | some z =>
    if s.pn P.fbLcchk l ≠ 1 then (true, s)
    else if s.lineOk l (diff32 s.ax[l].fb.mov z) then
      (true, s.modAx l fun a => { a with fb := { a.fb with lcpass := true } })
    else
      let s := (s.modAx l fun a => { a with fb := { a.fb with lcpass := false } }).bump (0x5001 + 256 * l.val)
      (false, s.encoderLoss l 2)

/-- COMCNT as it stands for a MOVCNT value (R102). -/
def State.comAt (s : State) (l : AxisNo) (mov : Word) : Nat :=
  let c := s.ax[l].com
  ((c.count + diff32 mov c.ref) % (s.countsPerRev l : Int)).toNat

/-- An index event zeroes COMCNT and sets CVAL; a provisional angle is replaced and its difference judged (R103, R104). A
sensor loss of the same sample wins, and what it undoes is kept until the next sample (R112). -/
def State.indexCommutation (s : State) (l : AxisNo) : State :=
  let a := s.ax[l]
  if a.fb.lossAct then s
  else
    let d := wrapRev (s.pq P.comOff l - (s.pn P.elecPp l * (s.comAt l a.fb.mov : Q) / s.countsPerRev l + a.com.prov))
    let judge := !a.com.cval && a.com.provOk && decide (s.src l = 1)
    let s := s.modAx l fun a =>
      let turning := match a.com.align with | some (.turning _) => true | _ => false
      { a with fb := { a.fb with idxSave := some (a.fb.idxSave.getD (a.com.count, a.com.ref, a.com.cval, a.com.prov, a.com.provOk)) }
               com := { a.com with count := 0, ref := a.fb.mov, cval := true, provOk := false,
                                   align := if turning then some .hold else a.com.align,
                                   since := if turning then s.clk.lclk else a.com.since } }
    if judge && decide (s.pq P.comZtol l < 360 * |d|) then
      (s.axisFault l 9).raise 0x6001 .crimson (some l) [toFix 16 (360 * d)]
    else s

/-- The filter lag of the encoder lines, ns (R71). -/
def State.fbLag (s : State) (l : AxisNo) : Int := 5 * s.pn P.fbFilt l

/-- The load of POSCNT that fb.zmode gives an index event. An arming of the same cycle is for the next event (R78). -/
def State.indexLoad (s : State) (l : AxisNo) : State :=
  let z := s.pn P.fbZmode l
  let f := s.ax[l].fb
  let fresh := match f.armAt with | some t => sameCycle t s.clk.lclk | none => false
  if z = 1 ∨ (z = 2 ∧ f.armed ∧ !fresh) then
    let s' := s.modAx l fun a =>
      { a with fb := { a.fb.setCount s.clk.lclk (s.pw P.fbZval l) a.fb.mov with
                       punc := false, armed := false, lastLoad := some (s.gt - s.fbLag l), loadAt := some s.clk.lclk } }
    if z = 2 then s'.raise 0x5003 .grey (some l) [f.pos] else s'
  else s

/-- An index event: ZLATCH, the line-count check, COMCNT and the load, which comes last and clears PUNC (R77 to R80, R103, R104, log
entry 43). -/
def State.indexEvent (s : State) (l : AxisNo) : State :=
  let s := s.modAx l fun a =>
    let z : Latch := ⟨a.fb.pos, a.fb.mov, s.gt - s.fbLag l⟩
    { a with fb := { a.fb with zlatch := z, zrec := (z :: a.fb.zrec).take 16, zseen := true } }
  let (good, s) := s.lineCheck l
  let s := s.modAx l fun a => { a with fb := { a.fb with zref := some a.fb.mov } }
  let s := if good then s.indexCommutation l else s
  s.indexLoad l

/-- INDEX_EVENT: the rising Z edge forward or the falling edge in reverse, with A and B as fb.zqual asks (R77). -/
def execIndexEvent (l : AxisNo) (rising : Bool) (now : Ns) (s : State) : Host.Outcome State Fault Refusal :=
  let s := s.at now
  .next (if s.axOn l && (rising == s.ax[l].fb.fwd) && zQualified (s.pn P.fbZqual l) s.ax[l].fb.ba then s.indexEvent l else s)

/-! ## Reference switch and window speed -/

/-- An accepted edge of the reference switch: whether it latches, and the state with the latch (R86). -/
def State.referenceEdge (s : State) (l : AxisNo) (rising : Bool) : Bool × State :=
  let e := s.pn P.refEdge l
  let m := s.pn P.refMode l
  let sel := e = 2 ∨ (e = 0 ∧ rising) ∨ (e = 1 ∧ !rising)
  if s.axOn l ∧ sel ∧ (m = 1 ∨ (m = 2 ∧ s.ax[l].fb.refArmed)) then
    (true, s.modAx l fun a =>
      { a with fb := { a.fb with ref := ⟨a.fb.pos, a.fb.mov, s.gt - 5 * (s.pn P.refFilt l : Int)⟩, rlatch := true,
                                 rovr := a.fb.rovr || a.fb.rlatch, refArmed := false } })
  else (false, s)

/-- The window length T_w of R85, ns. -/
def State.winNs (s : State) (l : AxisNo) : Int := 125000 * s.pn P.fbWin l

/-- The window length T_w of R85, s. -/
def State.winLen (s : State) (l : AxisNo) : Q := (s.pn P.fbWin l : Q) * 125 / 1000000

/-! ## Delta-sigma filters -/

/-- One modulator clock of a filter: three integrators modulo 2^25, and the comb's history (R47). -/
def Sinc.step (f : Sinc) (bit : Bool) : Sinc :=
  let a := (f.a + bit.toNat) % 33554432
  let b := (f.b + a) % 33554432
  let c := (f.c + b) % 33554432
  { a := a, b := b, c := c, hist := c :: f.hist }

/-- The comb of decimation D on the values of the third integrator, newest first: the count of ones the window weighs, 0 to D³
(R47). -/
def comb (d : Nat) (h : List Nat) : Nat :=
  let x := fun n => h.getD n 0
  (x 0 + 3 * x (2 * d) + 100663296 - 3 * x d + 33554432 - x (3 * d)) % 33554432

/-- A filter output in Q1.23: +1, just beyond the format, for a ones density of 100 %, and −1 for 0 %; the 25 bits of D = 256 are
truncated to 24 (R47, log entry 44). -/
def Sinc.out (f : Sinc) (d : Nat) : W24 :=
  let y := comb d f.hist
  let y := if d = 256 then 2 * (y / 2) else y
  BitVec.ofInt 24 (min 8388607 ((y * 16777216 / d ^ 3 : Nat) - 8388608 : Int))

/-- The decimation of the filter of an input: the link-voltage input takes that of the lower axis of the pair (R47). -/
def State.decOf (s : State) (l : AxisNo) (i : Nat) : Nat := s.pn P.dsmDec (if i = 5 then loAx (pairOf l) else l)

/-- The output of a filter of an axis, on demand (R47). -/
def State.filterOut (s : State) (l : AxisNo) (i : Fin 6) : Q := ofQ23 (s.ax[l].dsm.ch[i].out (s.decOf l i))

/-- One modulator clock of a cell: every filter, the runs of equal levels, and every sixteenth clock the fast filters with the count of
R50. The fast filters have the integrators of the others: their inputs are the same. -/
def Dsm.step (d : Dsm) (ioc : Q) (x : DsBits) : Dsm :=
  let d := { d with ch := Vector.ofFn fun i => (d.ch[i]).step (x.getLsbD i)
                    held := Vector.ofFn fun i => if x.getLsbD i == d.lvl.getLsbD i then d.held[i] + 1 else 1
                    lvl := x }
  if d.phase + 1 < 16 then { d with phase := d.phase + 1 }
  else
    let f : Vector Q 3 := Vector.ofFn fun i => (comb 16 (d.ch[i.val]).hist : Q) / 2048 - 1
    { d with phase := 0, fast := f, oc := Vector.ofFn fun i => if ioc < |f[i]| then d.oc[i] + 1 else 0 }

/-! ## Resolver -/

/-- The excitation output an axis's resolver uses, and its period, ns (R87). -/
def State.excPeriod (s : State) (e : Nat) : Nat := 50 * s.pn P.resTexc 0 e

/-- The excitation of an output at a global time, of full scale: a sine with a rising zero crossing at each multiple of its period
(R87). The pin carries it pulse-density modulated on the modulator clock. -/
def State.excitation (s : State) (e : Nat) (g : Int) : Q := sinRev ((g : Q) / s.excPeriod e)

/-- The number of the last excitation period whose measurement is complete at a global time: the filters are centred at the positive
peak, a quarter of the period in, plus res.delay, and give their outputs a group delay later (R47, R88). -/
def State.excPeak (s : State) (l : AxisNo) (g : Int) : Int :=
  let e : Int := s.excPeriod (s.pn P.resExc l)
  (g - s.groupDelay l - 5 * s.pn P.resDelay l - e / 4) / e

/-- A pair of values for the kernel, with the kernel's checks, which run with fb.src = 2 (R88, R89, R198). -/
def State.resolverTake (s : State) (l : AxisNo) : State :=
  let x := s.ax[l].dsm.ch[(3 : Fin 6)].out (s.decOf l 3)
  let y := s.ax[l].dsm.ch[(4 : Fin 6)].out (s.decOf l 4)
  let s := s.modAx l fun a => { a with fb := { a.fb with resS := x, resC := y, resNew := true } }
  if s.src l ≠ 2 then s
  else
    let m := ofQ23 x * ofQ23 x + ofQ23 y * ofQ23 y
    let lo := s.pq P.resAmin l
    let hi := s.pq P.resAmax l
    let bad := decide (m < lo * lo ∨ hi * hi < m)
    let a := s.ax[l]
    let e := 360 * |wrapRev (atan2Rev (ofQ23 x) (ofQ23 y) - a.del.theta)|
    let trk := a.del.valid && decide (s.pq P.resTerr l < e)
    let s := s.modAx l fun a =>
      { a with fb := { a.fb with rampl := bad, ampBad := if bad then a.fb.ampBad + 1 else 0, trkBad := if trk then a.fb.trkBad + 1 else 0 } }
    let s := if 4 ≤ s.ax[l].fb.ampBad then s.noteLoss l 4 true else s
    if 4 ≤ s.ax[l].fb.trkBad then s.noteLoss l 5 true else s

/-! ## Serial ports -/

/-- The nibbles of a frame as one number, the first most significant (log entry 13). -/
def nibbles (ns : List (BitVec 4)) : Nat := ns.foldl (fun n d => 16 * n + d.toNat) 0

/-- The port with a frame's data delivered (R90). -/
def Port.take (p : Port) (data : Nat) (time : Int) (at_ : Ns) : Port :=
  { p with data := data, valid := true, time := time, lastAt := at_, timedOut := false }

/-- Bits of nibbles at one place, the first most significant. -/
def nibbleBits (n : Nat) (ns : List (BitVec 4)) : Nat := ns.foldl (fun x d => 2 * x + (d.getLsbD n).toNat) 0

/-- The bits 3 of eighteen status nibbles frame an enhanced message (R91, log entry 13). -/
def enhancedFrame (c : List (BitVec 4)) : Bool :=
  c.length = 18 && (c.take 6).all (·.getLsbD 3) && ([6, 12, 17] : List Nat).all fun i => !(c.getD i 0).getLsbD 3

/-- The slow channel with one more status nibble: a short message takes 16 frames from a set bit 3, with a 4-bit identifier and 8 data
bits; an enhanced one takes 18, with a configuration bit that selects 12 data bits and an 8-bit identifier or 16 data bits and a
4-bit one (R91, log entry 13). -/
def Port.slowStep (p : Port) (ser : Nat) (st : BitVec 4) : Port :=
  let p := { p with status := st }
  if ser = 1 then
    let c := if st.getLsbD 3 then [st] else p.slow ++ [st]
    if c.length = 16 ∧ (c.headD 0).getLsbD 3 then
      { p with slow := [], slowId := BitVec.ofNat 8 (nibbleBits 2 (c.take 4)), slowData := BitVec.ofNat 16 (nibbleBits 2 ((c.drop 4).take 8)) }
    else { p with slow := c.drop (c.length - 16) }
  else if ser = 2 then
    let c := (p.slow ++ [st]).drop (p.slow.length + 1 - 18)
    if enhancedFrame c then
      let hi := nibbleBits 3 ((c.drop 8).take 4)
      let lo := nibbleBits 3 ((c.drop 13).take 4)
      let d := nibbleBits 2 (c.drop 6)
      let wide := (c.getD 7 0).getLsbD 3
      { p with slow := [], slowId := BitVec.ofNat 8 (if wide then hi else 16 * hi + lo)
               slowData := BitVec.ofNat 16 (if wide then 4096 * lo + d else d) }
    else { p with slow := c }
  else p

/-- The length of a pulse in ticks of a frame whose sync pulse, 56 ticks, lasts `sync` ns, rounded (R91). -/
def sentTicks (sync p : Ns) : Nat := (112 * p + sync) / (2 * sync)

/-- The value of a nibble pulse of 12 to 27 ticks (R91). -/
def sentNibble (sync p : Ns) : Option (BitVec 4) :=
  let n := sentTicks sync p
  if 12 ≤ n ∧ n ≤ 27 then some (BitVec.ofNat 4 (n - 12)) else none

/-- The nibbles of a frame after its sync pulse, without a pause pulse (R91). -/
def sentNibbles (sync : Ns) (ps : List Ns) : Option (List (BitVec 4)) := ps.mapM (sentNibble sync)

/-- The sync pulse of a frame lies within 25 % of spn.tick and within 1/64 of the one before (R91). -/
def State.syncOk (s : State) (p : Fin 3) (sync : Ns) : Bool :=
  let t := s.pq P.spTick 0 p.val * 56000
  decide (0 < sync ∧ t * 3 / 4 ≤ sync ∧ (sync : Q) ≤ t * 5 / 4) &&
    (match s.ports[p].sync with | some q => decide (64 * ((sync : Int) - q).natAbs ≤ q) | none => true)

/-- The status nibble and the data nibbles of a frame that passes the checks (R91). -/
def State.sentData (s : State) (p : Fin 3) (f : SentIn) : Option (BitVec 4 × List (BitVec 4)) :=
  match f.pulses with
  | [] => none
  | sync :: r =>
    let n := s.pn P.spNib 0 p.val + 2
    if s.syncOk p sync && r.length == n + s.pn P.spPause 0 p.val then
      match sentNibbles sync (r.take n) with
      | some (st :: ds) =>
        if ds.getLast? = some (crc4 (s.pn P.spCrc 0 p.val = 1) ds.dropLast) then some (st, ds.dropLast) else none
      | _ => none
    else none

/-- SENT_FRAME: a frame that passes the checks is delivered with the time of the falling edge that ends its sync pulse; another counts
(R90, R91). -/
def execSentFrame (p : Fin 3) (f : SentIn) (now : Ns) (s : State) : Host.Outcome State Fault Refusal :=
  let s := s.at now
  if !s.linkOn ∨ s.pn P.spMode 0 p.val ≠ 1 then .next s
  else
    let d := s.sentData p f
    let s := { s with ports := vmod s.ports p fun x => { x with sync := f.pulses.head?.orElse fun _ => x.sync } }
    match d with
    | some (st, ds) =>
      .next { s with ports := vmod s.ports p fun x =>
        (x.take (nibbles ds) (s.gtAt (s.clk.lclk - (f.pulses.drop 1).sum)) s.clk.lclk).slowStep (s.pn P.spSer 0 p.val) st }
    | none => .next (s.bump (0x5F00 + p.val))

/-- The clocks of an SSI frame: the data bits and the error bit (R92, log entry 13). -/
def State.ssiClocks (s : State) (p : Fin 3) : Nat := s.pn P.spBits 0 p.val + if s.pn P.spEbit 0 p.val = 0 then 0 else 1

/-- The time an SSI frame takes, its last bit sampled spn.sdel after its clock edge, with the monoflop wait, ns (R92). -/
def State.ssiTime (s : State) (p : Fin 3) : Ns :=
  s.ssiClocks p * 1000000 / s.pn P.spClk 0 p.val + 5 * s.pn P.spSdel 0 p.val + us (s.pn P.spMono 0 p.val)

/-- A trigger of a port at a local time: a frame starts, or the trigger is skipped and counted (R92). -/
def State.ssiTrigger (s : State) (p : Fin 3) (t : Ns) : State :=
  let s := { s with ports := vmod s.ports p fun x => { x with trigDue := none } }
  if t < s.ports[p].busyUntil then s.bump (0x5F00 + p.val)
  else
    { s with ports := vmod s.ports p fun x =>
      { x with busy := true, busyUntil := t + s.ssiTime p, trigAt := s.gtAt t, driven := true } }

/-- The trigger that spn.trig selects has come: 0 the vehicle cycle, 1 to 8 a local axis's position tick; only the lane with authority
drives the clock (R92, R93). One that still waits is taken first. -/
def State.ssiDue (s : State) (trig : Nat) (t : Ns) : State :=
  forFin 3 (fun p s =>
    if s.linkOn && s.auth && s.pn P.spMode 0 p.val == 2 && s.pn P.spTrig 0 p.val == trig then
      let s := match s.ports[p].trigDue with | some u => s.ssiTrigger p u | none => s
      { s with ports := vmod s.ports p fun x => { x with trigDue := some t } }
    else s) s

/-- SSI_TRIGGER: the trigger that has come is taken (R92, R93). -/
def execSsiTrigger (p : Fin 3) (now : Ns) (s : State) : Host.Outcome State Fault Refusal :=
  let s := s.at now
  .next (match s.ports[p].trigDue with
    | some t => if s.linkOn && s.auth then s.ssiTrigger p t else { s with ports := vmod s.ports p fun x => { x with trigDue := none } }
    | none => s)

/-- Gray-coded bits as binary, most significant first. -/
def grayDecode : Bool → List Bool → List Bool
  | _, [] => []
  | a, b :: r => let x := xor a b; x :: grayDecode x r

/-- Bits as a number, most significant first. -/
def bitsVal (bs : List Bool) : Nat := bs.foldl (fun n b => 2 * n + b.toNat) 0

/-- The data bits of an SSI frame, without its error bit, which stands at its place among the bits (R92, log entry 13). -/
def State.ssiData (s : State) (p : Fin 3) (bits : List Bool) : Nat :=
  let e := s.pn P.spEbit 0 p.val
  let b := if e = 0 then bits else bits.eraseIdx (e - 1)
  bitsVal (if s.pn P.spGray 0 p.val = 1 then grayDecode false b else b)

/-- SSI_FRAME: a completed frame is delivered, or rejected for a line fault or a set error bit; one that the release of authority cut
off is discarded (R90, R92, R93). -/
def execSsiFrame (p : Fin 3) (f : SsiIn) (now : Ns) (s : State) : Host.Outcome State Fault Refusal :=
  let s := s.at now
  if !s.linkOn ∨ s.pn P.spMode 0 p.val ≠ 2 then .next s
  else
    let e := s.pn P.spEbit 0 p.val
    let err := e != 0 && f.bits.getD (e - 1) false
    let x := s.ports[p]
    let s := { s with ports := vmod s.ports p fun x => { x with busy := false, driven := false } }
    if !f.lineBefore || err || f.bits.length != s.ssiClocks p || (s.auth && !x.busy) then .next s
    else
      .next { s with ports := vmod s.ports p fun y =>
        (y.take (s.ssiData p f.bits) (if x.busy then x.trigAt else s.gtAt f.first) s.clk.lclk) }

/-- SERIAL_TIMEOUT: no valid frame for spn.tmo, since the last one or since the start (R90). -/
def execSerialTimeout (p : Fin 3) (now : Ns) (s : State) : Host.Outcome State Fault Refusal :=
  let s := s.at now
  .next (if s.linkOn && s.pn P.spMode 0 p.val != 0 && !s.ports[p].timedOut &&
      s.since s.ports[p].lastAt (us (s.pn P.spTmo 0 p.val)) then
    ({ s with ports := vmod s.ports p fun x => { x with valid := false, timedOut := true } }).raise 0x5005 .amber none
      [BitVec.ofNat 32 p.val]
  else s)

/-! ## Wheel-speed inputs -/

/-- WHEEL_SPEED_EDGE: a filtered edge that ws.edge counts, with the time at which the line changed (R71, R94, R95). -/
def execWheelSpeedEdge (w : Fin 8) (rising : Bool) (now : Ns) (s : State) : Host.Outcome State Fault Refusal :=
  let s := s.at now
  if !s.linkOn ∨ (s.pn P.wsEdge = 0 ∧ !rising) then .next s
  else
    let t := s.gt - 5 * s.pn P.wsFilt
    let s := { s with wheels := vmod s.wheels w fun x => { x with n := x.n + 1, tLast := some t, still := false } }
    .next (s.sourceEdge w.val)

/-- No edge of an input for ws.tmo (R94). -/
def State.noEdge (s : State) (w : Fin 8) : Bool :=
  match s.wheels[w].tLast with
  | some t => decide (t + ms (s.pn P.wsTmo) ≤ s.gt)
  | none => true

/-- WHEEL_SPEED_STILL: ws.tmo without an edge (R94). -/
def execWheelSpeedStill (w : Fin 8) (now : Ns) (s : State) : Host.Outcome State Fault Refusal :=
  let s := s.at now
  .next (if s.noEdge w then { s with wheels := vmod s.wheels w fun x => { x with freq := 0, still := true } } else s)

/-- The result that the edges of a cycle give: n edges since the last edge used, none before the first edge used; the second
component tells whether they come faster than ws.fmax (R94, log entry 13). -/
def Wheel.result (x : Wheel) (fmax : Q) : Q × Bool :=
  match x.tLast, x.tRef with
  | some t, some r =>
    let f := divF (x.n : Q) (((t - r : Int) : Q) / 1000000000)
    if fmax < f then (x.freq, true) else (f, false)
  | _, _ => (x.freq, false)

/-- The result of a wheel-speed input at a vehicle-cycle start (R94). -/
def State.wheelCycle (s : State) (w : Fin 8) : State :=
  let x := s.wheels[w]
  let set := fun (s : State) (f : Wheel → Wheel) => { s with wheels := vmod s.wheels w f }
  if s.noEdge w then set s fun x => { x with freq := 0, still := true, noise := false }
  else if x.n = 0 then
    let f := match x.tLast with
      | some t => min x.freq (divF 1000000000 ((s.gt - t : Int) : Q))
      | none => x.freq
    set s fun x => { x with freq := f, noise := false }
  else
    let (f, noisy) := x.result (s.pn P.wsFmax)
    let s := set s fun x => { x with freq := f, n := 0, tRef := x.tLast, noise := noisy }
    if noisy then
      let s := s.bump (0x5F10 + w.val)
      if x.noise then s else s.raise 0x5006 .amber none [BitVec.ofNat 32 w.val]
    else s

end Sys2Proof.Machine
end

