-- ==== Sys2Proof/Machine/Mailbox.lean ====
section
/-!
DEFINITION. The mailbox of chapter 15: responses, sequence numbers, checks, accepted operations, and the domains that a
request names. Every opcode is served through `serve`.
-/

namespace Sys2Proof.Machine

/-- The outcome of a command. -/
abbrev Out := Host.Outcome State Fault Refusal

/-! ## Responses -/

/-- Header word 0 of a response (R401). NOSEQ is ignored there and written as zero (log entry 12). -/
def respHead (opc : BitVec 16) (cls : BitVec 4) (len : Nat) (async more : Bool) : Word :=
  opc.setWidth 32 ||| (cls.setWidth 32 <<< 16) ||| (BitVec.ofNat 32 len <<< 20) ||| bitAt true 26 |||
    bitAt async 27 ||| bitAt more 28

/-- STATUS (R402). -/
def statusWord (code index : Nat) : Word := BitVec.ofNat 32 (index % 256) <<< 16 ||| BitVec.ofNat 32 (code % 65536)

/-- A response slot with a payload of whole words (R401, R402). -/
def respSlot (r : Req) (opc : BitVec 16) (code index : Nat) (async more : Bool) (pl : List Word) : Slot :=
  mkSlot (respHead opc r.cls (4 * pl.length) async more) (r.tag.setWidth 32 ||| (r.seq.setWidth 32 <<< 16))
    (statusWord code index) pl

/-- The response queue of a class (R398). -/
def respQ (cls : BitVec 4) : Fin 16 := ⟨4 + cls.toNat % 4, by omega⟩

/-- Send a response slot to where its request came from; a full tunnel buffer drops it and counts (R396). -/
def State.deliver (s : State) (src : Source) (cls : BitVec 4) (slot : Slot) : State :=
  match src with
  | .spi => s.push (respQ cls) ⟨.spi, slot⟩
  | .tunnel .. =>
    if s.mb.tunnel.length < 32 then { s with mb := { s.mb with tunnel := s.mb.tunnel ++ [⟨src, slot⟩] } }
    else s.bump 0x0F08

/-- Send several slots in order. -/
def State.deliverAll (s : State) (src : Source) (cls : BitVec 4) (slots : List Slot) : State :=
  slots.foldl (fun s x => s.deliver src cls x) s

/-! ## Refusals -/

/-- The place of a refusal code among the counters 0F30h to 0F3Dh (R507). -/
def refusalIndex (code : Nat) : Option Nat :=
  ([0x10, 0x11, 0x20, 0x21, 0x22, 0x23, 0x24, 0x25, 0x30, 0x31, 0x32, 0x33, 0x40, 0x50] : List Nat).findIdx? (· = code)

/-- Count a refusal; the first of its code since the start raises EV_MAILBOX_REFUSED (R406). -/
def State.countRefusal (s : State) (code : Nat) (opc : BitVec 16) (src : Source) : State :=
  match refusalIndex code with
  | none => s
  | some i =>
    let s := s.bump (0x0F30 + i)
    if s.mb.reported.contains code then s
    else
      let a : List Word := match src with
        | .spi => [BitVec.ofNat 32 code, opc.setWidth 32, 1, 0]
        | .tunnel ip _ => [BitVec.ofNat 32 code, opc.setWidth 32, 2, ip]
      ({ s with mb := { s.mb with reported := code :: s.mb.reported } }).raise 0x0020 .grey none a

/-! ## Sources and sequence state -/

/-- The peer state of a source, if the lane holds it. -/
def State.peer (s : State) (src : Source) : Option Peer := s.mb.peers.find? (·.src = src)

/-- Whether a source is a tunnel peer. -/
def isTunnel : Source → Bool
  | .spi => false
  | .tunnel .. => true

/-- The tunnel peers with the one silent longest removed when there are 8 (R397). -/
def evict (ps : List Peer) : List Peer :=
  let ts := ps.filter fun p => isTunnel p.src
  if ts.length < 8 then ps
  else
    let m := ts.foldl (fun m p => min m p.heard) (ts.headD ⟨.spi, 0, Vector.replicate 4 none⟩).heard
    ps.filter fun p => !(isTunnel p.src && p.heard = m)

/-- Note that a source has been heard; a ninth tunnel peer displaces another (R397). -/
def State.touch (s : State) (src : Source) : State :=
  let n := s.mb.heardCount + 1
  match s.peer src with
  | some _ =>
    let ps := s.mb.peers.map fun p => if p.src = src then { p with heard := n } else p
    { s with mb := { s.mb with heardCount := n, peers := ps } }
  | none =>
    let ps := if isTunnel src then evict s.mb.peers else s.mb.peers
    { s with mb := { s.mb with heardCount := n, peers := ⟨src, n, Vector.replicate 4 none⟩ :: ps } }

/-- The sequence state of a source on the request queue of a class. -/
def State.seqOf (s : State) (src : Source) (c : Fin 4) : Option SeqState := (s.peer src).bind fun p => p.qs[c]

/-- Store the sequence state of a source on a queue. -/
def State.setSeq (s : State) (src : Source) (c : Fin 4) (q : SeqState) : State :=
  { s with mb := { s.mb with peers := s.mb.peers.map fun p =>
      if p.src = src then { p with qs := vset p.qs c (some q) } else p } }

/-- How R403 judges a sequence number. -/
inductive SeqVerdict where
  | execute | replay (resp : List Slot) | gap
  deriving DecidableEq, Repr

/-- The judgement of R403. A request whose answer is still due has no stored response yet, and its repeat sends nothing (log entry 12). -/
def judgeSeq (q : Option SeqState) (seq : BitVec 16) : SeqVerdict :=
  match q with
  | none => .execute
  | some q =>
    if seq = q.next then .execute
    else if q.last = some seq then .replay q.resp
    else .gap

/-! ## Domains under test (R474) -/

/-- The pair domain of a local axis: bits 1 to 4 of R460. -/
def domPair (l : AxisNo) : BitVec 7 := (1 : BitVec 7) <<< (1 + l.val / 2)

/-- The local axis that ARG0 names on this lane, if it names one (R409). -/
def State.argAxis (s : State) (w : Word) : Option AxisNo :=
  let p := w.toNat % 32
  if h : p / 8 = s.grp.val ∧ p < 24 then some ⟨p % 8, Nat.mod_lt _ (by decide)⟩ else none

/-- The domain that the group and instance of a PID name (R474). -/
def pidDomain (pid : Nat) : BitVec 7 :=
  let g := (pid / 0x1000) % 16
  let n := (pid / 0x100) % 16
  if (1 ≤ g ∧ g ≤ 7 ∨ g = 15) ∧ n < 8 then (1 : BitVec 7) <<< (1 + n / 2)
  else if g = 15 then 0x20
  else if g = 11 ∨ g = 12 then 0x40
  else 0

/-- The PIDs a parameter request names. -/
def reqPids (opc : BitVec 16) (r : Req) : List Nat :=
  let w := fun (x : Word) => x.toNat % 65536
  if opc = 0x0101 then (r.payload.take (r.arg0.toNat % 16)).map w
  else if opc = 0x0102 then
    ((List.range (r.arg0.toNat % 16)).filterMap fun i => r.payload[2 * i]?).map w
  else if opc = 0x0103 then [w r.arg0]
  else []

/-- The domains a request names (R474). -/
def State.domains (s : State) (opc : BitVec 16) (r : Req) : BitVec 7 :=
  let g := opc.toNat / 256
  let ax := match s.argAxis r.arg0 with | some l => domPair l | none => 0
  1 ||| (if g = 2 ∨ opc = 0x0302 then ax
    else if g = 8 then
      (if r.arg0.getLsbD 31 then domPair ⟨(r.arg0.toNat / 2 ^ 27) % 8, Nat.mod_lt _ (by decide)⟩ else 0x20)
    else if g = 7 then 0x20
    else if g = 6 ∨ g = 9 ∨ opc = 0x0F06 then 0x40
    else if g = 1 then (reqPids opc r).foldl (fun m p => m ||| pidDomain p) 0
    else 0)

/-- A self-test run is stopped, under the first cause (R475). A full start's run cannot be stopped (R472). -/
def State.stopRun (s : State) (c : StopCause) : State :=
  s.modSt fun t => { t with run := t.run.map fun r =>
    if r.origin = .fullStart then r else { r with stop := some (r.stop.getD c) } }

/-- The domains under test. -/
def State.underTest (s : State) : BitVec 7 := match s.st.run with | some u => u.under | none => 0

/-! ## Accepted operations (R408, R411) -/

/-- Answered ST_ACCEPTED: the record of the last sixteen (R411). -/
def State.accept (s : State) (o : AccOp) : State :=
  { s with mb := { s.mb with accepted := (o :: s.mb.accepted).take 16 } }

/-- Whether two records are one operation. -/
def AccOp.same (a b : AccOp) : Bool :=
  a.opc = b.opc && a.req.tag = b.req.tag && a.req.seq = b.req.seq && a.req.cls = b.req.cls && a.req.src = b.req.src

/-- The record of an operation changed. -/
def State.modOp (s : State) (o : AccOp) (f : AccOp → AccOp) : State :=
  { s with mb := { s.mb with accepted := s.mb.accepted.map fun a => if a.same o then f a else a } }

/-- The commit point of an operation has passed (R411). -/
def State.commitOp (s : State) (o : AccOp) : State := s.modOp o fun a => { a with committed := true }

/-- The one completion response of an operation (R408). -/
def State.complete (s : State) (o : AccOp) (code : Nat) (words : List Word) : State :=
  (s.modOp o fun a => { a with done := true, committed := true }).deliver o.req.src o.req.cls
    (respSlot o.req o.opc code 0xFF true false words)

/-- Complete an operation if there is one. -/
def State.completeIf (s : State) (o : Option AccOp) (code : Nat) (words : List Word) : State :=
  match o with
  | some o => s.complete o code words
  | none => s

/-! ## Serving a request -/

/-- What the opcode table of R409 says of an opcode, and the range its LEN has. -/
structure OpSpec where
  opc : BitVec 16
  /-- Classes that admit the opcode. -/
  classes : List Nat
  /-- Least and greatest payload length in words. -/
  lo : Nat := 0
  hi : Nat := 12
  /-- Not available in split mode (R36). -/
  splitNa : Bool := false
  /-- ARG0 names a package axis. -/
  axis : Bool := false
  /-- No rule defines the opcode: check 4 fails (R404). -/
  unknown : Bool := false

/-- The answer of an opcode's body: final status, INDEX, the payload of each response slot, the operation it leaves
running, and the state it leaves. -/
structure Ans where
  st : State
  code : Nat := 0
  index : Nat := 0xFF
  slots : List (List Word) := [[]]
  op : Bool := false

/-- An answer that refuses with a code and leaves the state. -/
def Ans.refuse (s : State) (code : Nat) (index : Nat := 0xFF) : Ans := { st := s, code := code, index := index }

/-- An answer ST_OK with one slot. -/
def Ans.ok (s : State) (pl : List Word := []) : Ans := { st := s, slots := [pl] }

/-- An answer ST_ACCEPTED. -/
def Ans.accepted (s : State) : Ans := { st := s, code := 1, op := true }

/-- The body of an opcode. -/
abbrev Body := Req → State → Ans

/-- Whether a code is a refusal. -/
def isRefusal (code : Nat) : Bool := (refusalIndex code).isSome

/-- Checks 4 to 9 of R404, and the two general states of checks 10 and 11: a full start's test, and FAIL_SILENT. -/
def State.precheck (s : State) (o : OpSpec) (r : Req) : Option Nat :=
  if o.unknown then some 0x23
  else if !o.classes.contains r.cls.toNat then some 0x24
  else if r.payload.length < o.lo ∨ o.hi < r.payload.length then some 0x22
  else if o.splitNa && s.split then some 0x50
  else if o.axis && 24 ≤ r.arg0.toNat % 32 then some 0x31
  else if o.axis && (s.argAxis r.arg0).isNone then some 0x33
  else if decide (2 ≤ r.cls.toNat) && (s.domains o.opc r &&& s.underTest) != 0 &&
      (match s.st.run with | some u => u.origin != Origin.fullStart | none => false) then some 0x10
  else if (match s.st.run with | some u => u.origin == Origin.fullStart | none => false) then some 0x11
  else if s.life.st == LaneSt.failSilent then some 0x30
  else none

/-- An answer leaves: its response slots, the refusal count and the record of an accepted operation (R401 to R408). The slots are
those a repeated request gets again. -/
def Ans.send (a : Ans) (o : OpSpec) (r : Req) : State × List Slot :=
  let n := a.slots.length
  let slots := a.slots.zipIdx.map fun (pl, i) => respSlot r o.opc a.code a.index false (i + 1 < n) pl
  let s := a.st
  let s := if a.op then s.accept { opc := o.opc, req := r } else s
  let s := if isRefusal a.code then s.countRefusal a.code o.opc r.src else s
  (s.deliverAll r.src r.cls slots, slots)

/-- Execute a request whose SEQ follows: the body when the checks pass, then its answer (R403, R404). -/
def State.execute (s : State) (o : OpSpec) (body : Body) (r : Req) : State × List Slot :=
  (match s.precheck o r with
    | some c => Ans.refuse s c
    | none => body r s).send o r

/-- Whether the supervisor serves requests: firmware runs and the lane is not asleep; in FAIL_SILENT every request is
answered (R292, R435). -/
def State.serving (s : State) : Bool :=
  match s.life.st with
  | .off | .boot | .sleep => false
  | _ => true

/-- The class of a request as a queue number, for classes 0 to 3. -/
def clsFin (c : BitVec 4) : Option (Fin 4) := if h : c.toNat < 4 then some ⟨c.toNat, h⟩ else none

/-- A refusal answered before the request is executed: its response and its count (R404, R406). -/
def State.turnAway (s : State) (r : Req) (opc : BitVec 16) (code : Nat) : State :=
  (s.countRefusal code opc r.src).deliver r.src r.cls (respSlot r opc code 0xFF false false [])

/-- A run that a request can stop is in progress: any but a full start's (R472). -/
def State.runStops (s : State) : Bool := match s.st.run with | some u => u.origin != Origin.fullStart | none => false

/-- A request that meets a test. With SUP or LINK under test its slot is discarded: a SAFETY or CONTROL request stops the run, another
counts as a drop. Otherwise a SAFETY or CONTROL request that names a domain under test stops the run and waits for its end (R475,
R476). -/
def State.meetTest (s : State) (opc : BitVec 16) (r : Req) : Option State :=
  if !s.runStops then none
  else if s.underTest &&& 0x41 ≠ 0 then
    some (if r.cls.toNat < 2 then (s.stopRun .request).modSt fun t => { t with latched := true }
      else match clsFin r.cls with | some c => s.bump (0x0F10 + c.val) | none => s)
  else if r.cls.toNat < 2 ∧ s.domains opc r &&& s.underTest ≠ 0 then some ((s.stopRun .request).modSt fun t => { t with held := t.held ++ [(opc, r)] })
  else none

/-- Serve one request (R403, R404). A class outside 0 to 3 fails check 2. -/
def State.serve (s : State) (o : OpSpec) (body : Body) (r : Req) : State :=
  match s.meetTest o.opc r with
  | some s => s
  | none =>
    if !s.serving then s
    else match clsFin r.cls with
    | none => s.turnAway r o.opc 0x24
    | some c =>
      if r.noseq then ((if (s.peer r.src).isSome then s.touch r.src else s).execute o body r).1
      else
        let s := s.touch r.src
        match judgeSeq (s.seqOf r.src c) r.seq with
        | .replay resp => s.deliverAll r.src r.cls resp
        | .gap =>
          let q : SeqState := match s.seqOf r.src c with
            | some q => { q with next := r.seq }
            | none => ⟨r.seq, none, []⟩
          (s.setSeq r.src c q).turnAway r o.opc 0x25
        | .execute =>
          let (s, resp) := s.execute o body r
          s.setSeq r.src c ⟨r.seq + 1, some r.seq, resp⟩

/-- Words in slots of twelve (R508). -/
def chunk12 (fuel : Nat) (ws : List Word) : List (List Word) :=
  match fuel with
  | 0 => []
  | n + 1 => if ws.length ≤ 12 then [ws] else ws.take 12 :: chunk12 n (ws.drop 12)

end Sys2Proof.Machine
end

