-- ==== Sys2Proof/Machine/Profile.lean ====
section
/-!
DEFINITION. The profile generator (R149 to R161, R168 to R170): plans of constant jerk, planning toward a target, triggers and
completion. Speeds and accelerations are of the motor shaft, distances inside a plan in radians.
-/

namespace Sys2Proof.Machine

/-- A point of a path: p in radians from its start, v, a. -/
structure PVA where
  p : Q
  v : Q
  a : Q
  deriving DecidableEq, Repr

/-- The point a time after another at a constant jerk (R149). -/
def PVA.run (x : PVA) (j t : Q) : PVA :=
  { p := x.p + x.v * t + x.a * t * t / 2 + j * t * t * t / 6
    v := x.v + x.a * t + j * t * t / 2
    a := x.a + j * t }

/-- The point at the end of a list of phases. -/
def PVA.runAll (x : PVA) (ph : List Phase) : PVA := ph.foldl (fun x f => x.run f.jerk f.dur) x

/-- The length of a plan, s. -/
def planDur (ph : List Phase) : Q := ph.foldl (fun t f => t + f.dur) 0

/-- The point of a plan at a time, the PHASE code there, and whether motion is left (R150). -/
def evalPlan (x : PVA) (t : Q) : List Phase → PVA × BitVec 4 × Bool
  | [] => (x, 0, false)
  | f :: r => if t < f.dur then (x.run f.jerk t, f.code, true) else evalPlan (x.run f.jerk f.dur) (t - f.dur) r

/-- The duration until v reaches 0 at jerk +j from v0 ≥ 0 and a0 < 0 (R152). -/
def untilZero (v0 a0 j : Q) : Q := (-a0 - sqrtQ (a0 * a0 - 2 * j * v0)) / j

/-- stop_plan of R152, for v0 ≥ 0: jerks and durations. -/
def stopPlan (v0 a0 d j : Q) : List (Q × Q) :=
  if a0 < -d then
    let r := v0 - a0 * a0 / (2 * j)
    if r < 0 then [(j, untilZero v0 a0 j)] else [(j, (-d - a0) / j), (0, r / d), (j, d / j)]
  else
    let ap := max (-d) (-sqrtQ (j * v0 + a0 * a0 / 2))
    if a0 < ap then [(j, untilZero v0 a0 j)]
    else [(-j, (a0 - ap) / j), (0, (v0 + a0 * a0 / (2 * j) - ap * ap / j) / (-ap)), (j, -ap / j)]

/-- The phases of a list of jerks, signed for a direction, with a PHASE code. -/
def phases (sg : Q) (code : BitVec 4) (xs : List (Q × Q)) : List Phase := xs.map fun (j, t) => ⟨sg * j, t, code⟩

/-- The direction that mirrors a stop: negative for v0 < 0, or at rest with a0 < 0 (R152). -/
def stopSign (v0 a0 : Q) : Q := if v0 < 0 ∨ (v0 = 0 ∧ a0 < 0) then -1 else 1

/-- The stopping sequence S from a state (R152). -/
def stopSeq (code : BitVec 4) (v0 a0 d j : Q) : List Phase :=
  let g := stopSign v0 a0
  phases g code (stopPlan (g * v0) (g * a0) d j)

/-- The first part of a forward plan: from (v0, a0) to (vp, 0), the acceleration governed by R151 (log entry 14). -/
def changePlan (v0 a0 vp am d j : Q) : List Phase :=
  if v0 + a0 * |a0| / (2 * j) ≤ vp then
    if am < a0 then
      phases 1 1 [(-j, (a0 - am) / j), (0, max 0 ((vp - v0 - a0 * a0 / (2 * j)) / am)), (-j, am / j)]
    else
      let ap := min am (sqrtQ (j * (vp - v0) + a0 * a0 / 2))
      phases 1 1 [(j, (ap - a0) / j), (0, (vp - v0 + a0 * a0 / (2 * j) - ap * ap / j) / ap), (-j, ap / j)]
  else if a0 < -d then
    phases 1 3 [(j, (-d - a0) / j), (0, max 0 ((v0 - a0 * a0 / (2 * j) - vp) / d)), (j, d / j)]
  else
    let ap := -min d (sqrtQ (j * (v0 - vp) + a0 * a0 / 2))
    phases 1 3 [(-j, (a0 - ap) / j), (0, (v0 - vp + a0 * a0 / (2 * j) - ap * ap / j) / (-ap)), (j, -ap / j)]

/-- The limits of a plan: speed, acceleration, deceleration, jerk (R151). -/
structure Lims where
  vm : Q
  am : Q
  d : Q
  j : Q
  deriving DecidableEq, Repr

/-- The three parts of a forward plan for a peak speed, without the cruise's length: before and after it. -/
def forwardParts (x : Lims) (v0 a0 vp : Q) : List Phase × List Phase :=
  (changePlan v0 a0 vp x.am x.d x.j, phases 1 3 (stopPlan vp 0 x.d x.j))

/-- The distance a peak speed needs without cruise, rad. -/
def forwardDist (x : Lims) (v0 a0 vp : Q) : Q :=
  let (f, l) := forwardParts x v0 a0 vp
  ((PVA.mk 0 v0 a0).runAll f).p + ((PVA.mk 0 vp 0).runAll l).p

/-- The peak speed by bisection, in the given number of steps (R153). -/
def bisect (x : Lims) (v0 a0 dist : Q) : Nat → Q → Q → Q
  | 0, lo, _ => lo
  | n + 1, lo, hi =>
    let m := (lo + hi) / 2
    if forwardDist x v0 a0 m ≤ dist then bisect x v0 a0 dist n m hi else bisect x v0 a0 dist n lo m

/-- The forward plan over a distance from v0 in the positive direction (R153). -/
def forwardPlan (x : Lims) (v0 a0 dist : Q) : List Phase :=
  let vp := if forwardDist x v0 a0 x.vm ≤ dist then x.vm else bisect x v0 a0 dist 32 0 x.vm
  let (f, l) := forwardParts x v0 a0 vp
  f ++ [⟨0, if vp = 0 then 0 else max 0 ((dist - forwardDist x v0 a0 vp) / vp), 2⟩] ++ l

/-- A plan with all signs mirrored. -/
def mirrorPlan (g : Q) (ph : List Phase) : List Phase := ph.map fun f => { f with jerk := g * f.jerk }

/-- The sign of R153. -/
def planSign (v0 a0 dist : Q) : Q := if v0 ≠ 0 then sgn v0 else if a0 ≠ 0 then sgn a0 else sgn dist

/-- A plan toward a target `dist` rad away from (v0, a0), and the times at which its reversal points are passed with their places, in
order (R153). A stop that ends with a ≠ 0 is followed by a plan from that instant (R152). -/
def planTo (x : Lims) : Nat → Q → Q → Q → List Phase × List (Q × Q)
  | 0, _, _, _ => ([], [])
  | n + 1, v0, a0, dist =>
    let g := planSign v0 a0 dist
    let st := stopSeq 4 v0 a0 x.d x.j
    let e := (PVA.mk 0 v0 a0).runAll st
    let early := st.length = 1
    let ahead := 0 ≤ g * (dist - e.p)
    if ahead ∧ ¬early then (mirrorPlan g (forwardPlan x (g * v0) (g * a0) (g * dist)), [])
    else
      let (r, rv) := planTo x n 0 (if early then e.a else 0) (dist - e.p)
      let t := planDur st
      let rv := rv.map fun (u, p) => (u + t, p + e.p)
      (st ++ r, if ahead then rv else (t, e.p) :: rv)

/-! ## The generator in an axis -/

/-- Counts per radian (R131). -/
def State.perRad (s : State) (l : AxisNo) : Q := s.cm l / twoPi

/-- The OV1 reactions hold: OV1 or OV2 stands, or the link voltage is unknown (R125, R127). -/
def State.ov1Acts (s : State) (k : PairNo) : Bool := s.pair[k].ov[(0 : Fin 3)] || s.pair[k].ov[(1 : Fin 3)] || s.pair[k].vunk

/-- d_eff (R151). -/
def State.dEff (s : State) (l : AxisNo) : Q :=
  if s.ov1Acts (pairOf l) then s.pq P.profDmax l * s.pq P.ovDred else s.pq P.profDmax l

/-- The limits in force (R151). -/
def State.lims (s : State) (l : AxisNo) : Lims := ⟨s.pq P.profVmax l, s.pq P.profAmax l, s.dEff l, s.pq P.profJmax l⟩

/-- The lower and upper end-stop values (R167). -/
def Axis.stops (a : Axis) : Option Int × Option Int :=
  let f := fun (w : BitVec 2) => (a.cmp.toList.find? fun c => c.func = w && c.armed).map (·.val)
  (f 1, f 2)

/-- A target clamped to the end stops, and the side that clamps it (R168). -/
def Axis.clampTarget (a : Axis) (t : Int) : Int × Option Bool :=
  match a.stops with
  | (lo, hi) =>
    match lo.filter (fun v => decide (t < v)), hi.filter (fun v => decide (v < t)) with
    | some v, _ => (v, some false)
    | _, some v => (v, some true)
    | none, none => (t, none)

/-- A position cut to the 32 fractional bits of p (R149). -/
def cutP (x : Q) : Q := ((x * 4294967296).floor : Q) / 4294967296

/-- The words of a 64-bit count. -/
def w64 (x : Int) : List Word := [loW x, hiW x]

/-- Counts rounded to a 32-bit word, clamped. -/
def satWord (x : Q) : Word := BitVec.ofInt 32 (min 4294967295 (roundQ x))

/-- The plan in force evaluated at a local time: the point in counts, rad/s and rad/s², its PHASE code, whether motion is left,
and the time spent in the plan (R150, R153). -/
def State.profAt (s : State) (l : AxisNo) (t : Ns) : PVA × BitVec 4 × Bool × Q :=
  let f := s.ax[l].prof
  let u := secs t f.t0
  let (x, c, m) := evalPlan ⟨0, f.v0, f.a0⟩ u f.plan
  if m then (⟨cutP (f.p0 + x.p * s.perRad l), x.v, x.a⟩, c, true, u)
  else (⟨f.stop, 0, 0⟩, 0, false, u)

/-- The state of the step lies beyond a limit that governs it: |a| above a_max or the deceleration limit, or |v| above prof.vmax (R151,
R156). -/
def State.beyond (s : State) (l : AxisNo) : Bool :=
  let f := s.ax[l].prof
  let x := s.lims l
  decide ((if f.a * f.v < 0 then x.d else x.am) < |f.a| ∨ x.vm < |f.v|)

/-- The completion of a plan that has ended (R153, R159). -/
def State.profDone (s : State) (l : AxisNo) : State :=
  let f := s.ax[l].prof
  let s := s.modAx l fun a =>
    { a with prof := { a.prof with busy := false, done := a.prof.done || a.prof.toTarget, tag := none, revAt := none, dlow := false } }
  match f.tag with
  | some t => if f.toTarget then s.raise 0x4003 .grey (some l) [t.setWidth 32] else s
  | none => s

/-- A plan made at a time from the state of the step (R153, R154). One without motion completes at once (R159). -/
def State.adoptPlan (s : State) (l : AxisNo) (t : Ns) (target : Int) : State :=
  let f := s.ax[l].prof
  let (ph, rv) := planTo (s.lims l) 4 f.v f.a (((target : Q) - f.p) / s.perRad l)
  let busy := decide (0 < planDur ph)
  let s := s.modAx l fun a =>
    { a with prof := { a.prof with plan := ph, ph0 := (0, 0), p0 := f.p, v0 := f.v, a0 := f.a, t0 := t, stop := target, toTarget := true,
                                   target := target, busy := busy, done := f.done && !busy, esStop := false,
                                   revAt := rv.getLast?.map Prod.fst } }
  if !busy then s.profDone l
  else
    match rv.head? with
    | none => s
    | some (_, ps) =>
      let pc := f.p + ps * s.perRad l
      let o := |pc - target|
      let args := w64 (roundQ pc) ++ [satWord o]
      let s := s.raise 0x4001 .grey (some l) args
      if s.pq P.profOtmax l ≠ 0 ∧ s.pq P.profOtmax l * s.perRad l < o then s.raise 0x4002 .amber (some l) args else s

/-- The plan replaced by S, to rest at its stop point, which it gives in whole counts (R161, R264). -/
def State.stopAxis (s : State) (l : AxisNo) (t : Ns) (d : Q) (code : BitVec 4) : State × Int :=
  let f := s.ax[l].prof
  let ph := stopSeq code f.v f.a d (s.pq P.profJmax l)
  let e := (PVA.mk 0 f.v f.a).runAll ph
  let pe := cutP (f.p + e.p * s.perRad l)
  let pc := roundQ pe
  (s.modAx l fun a =>
    { a with prof := { a.prof with plan := ph, ph0 := (0, 0), p0 := f.p, v0 := f.v, a0 := f.a, t0 := t, stop := pe, toTarget := false,
                                   target := pc, busy := decide (0 < planDur ph), abort := true, revAt := none, tag := none } }, pc)

/-- The deceleration of a stop: d_eff, within ss.dec while an axis-level safe stop runs (R161, R264). -/
def State.stopDec (s : State) (l : AxisNo) : Q := if s.ax[l].ss.ssa then min (s.dEff l) (s.pq P.ssDec l) else s.dEff l

/-- A late answer to a request whose step has come: the response, which also becomes the stored response (R161, R403). -/
def State.answerLate (s : State) (r : Req) (opc : BitVec 16) (code : Nat) : State :=
  let slot := respSlot r opc code 0xFF false false []
  let s := match clsFin r.cls with
    | some c => (match s.seqOf r.src c with
      | some q => if q.last = some r.seq && !r.noseq then s.setSeq r.src c { q with resp := [slot] } else s
      | none => s)
    | none => s
  s.deliver r.src r.cls slot

/-- A limit has fallen since the last step (R156). -/
def State.limLowered (s : State) (l : AxisNo) : Bool :=
  let f := s.ax[l].prof
  let x := s.lims l
  decide (x.vm < f.limV ∨ x.am < f.limA ∨ x.d < f.limD ∨ x.j < f.limJ)

/-- The clamp of R168: TCLAMP and its event on each change into it. -/
def State.judgeClamp (s : State) (l : AxisNo) (side : Option Bool) : State :=
  match side with
  | none => s.modAx l fun a => { a with prof := { a.prof with tclamp := false } }
  | some up =>
    let was := s.ax[l].prof.tclamp
    let s := s.modAx l fun a => { a with prof := { a.prof with tclamp := true } }
    if was then s else s.raise 0x4007 .grey (some l) [bitAt up 0]

/-- The host's tag in the window, taken by the move it names (R159). -/
def State.takeTag (s : State) (l : AxisNo) (replan : Bool) : State :=
  match s.ax[l].win.front.tag with
  | none => if replan then s.modAx l fun a => { a with prof := { a.prof with tag := none } } else s
  | some t =>
    let ended := !replan && s.ax[l].prof.done && !s.ax[l].prof.busy
    s.modAx l fun a =>
      { a with win := { a.win with front := { a.win.front with tag := none } }
               prof := { a.prof with tag := some t, tagOwed := ended } }

/-- The reference of a sample: at entry the measured state, else the plan in force (R150, R158). -/
def State.profRef (s : State) (l : AxisNo) (t : Ns) (wAct : Q) : PVA :=
  if s.ax[l].prof.enter then ⟨s.ax[l].fb.pos64, wAct, 0⟩ else (s.profAt l t).1

/-- The target of a step: the window's, clamped; an axis whose window no target has reached keeps the target in use, and at entry its
position (R168, log entry 41). -/
def State.wanted (s : State) (l : AxisNo) : Int :=
  if s.ax[l].win.written then s.ax[l].win.front.target
  else if s.ax[l].prof.enter then s.ax[l].fb.pos64
  else s.ax[l].prof.target

/-- Step 1: the plan evaluated, its completion, and an event of R159 that is owed. -/
def State.profEval (s : State) (l : AxisNo) (t : Ns) (wAct : Q) : State :=
  let (_, _, moving, u) := s.profAt l t
  let x := s.profRef l t wAct
  let s := s.modAx l fun a =>
    { a with prof := { a.prof with p := x.p, v := x.v, a := x.a, revAt := a.prof.revAt.filter fun r => decide (u < r) } }
  let s := match s.ax[l].prof.tagOwed, s.ax[l].prof.tag with
    | true, some g =>
      (s.modAx l fun a => { a with prof := { a.prof with tagOwed := false, tag := none } }).raise 0x4003 .grey (some l)
        [g.setWidth 32]
    | _, _ => s
  if moving || !s.ax[l].prof.busy then s else s.profDone l

/-- The abort requests of a step: answered at once when the completion has won, else with a stop from the present state (R161). -/
def State.profAbort (s : State) (l : AxisNo) (t : Ns) (reqs : List Req) : State :=
  if reqs.isEmpty then s
  else if s.ax[l].prof.done && !s.ax[l].prof.busy then reqs.foldl (fun s r => s.answerLate r 0x0204 2) s
  else
    let (s, pc) := s.stopAxis l t (s.stopDec l) 5
    reqs.foldl (fun s r => s.answerLate r 0x0204 0) (s.raise 0x4004 .grey (some l) (w64 pc))

/-- One profile step at a sampling instant with the measured speed: evaluate, complete, replan, output (R150, R155 to R161, R169). An
end stop that fires loads the state (POS64, 0, 0), under ABORT too, where the axis then holds there (log entry 41). -/
def State.profStep (s : State) (l : AxisNo) (t : Ns) (wAct : Q) : State :=
  let s := s.profEval l t wAct
  let f := s.ax[l].prof
  let low := s.limLowered l
  let n := s.lims l
  let pos : Q := s.ax[l].fb.pos64
  let want := s.wanted l
  let s := s.modAx l fun a =>
    let g := { a.prof with limV := n.vm, limA := n.am, limD := n.d, limJ := n.j, abortReq := [], esFired := false, enter := false }
    { a with prof := if f.esFired then { g with p := pos, v := 0, a := 0 } else g }
  let s := s.profAbort l t f.abortReq
  let s :=
    if s.ax[l].prof.abort then
      if (low && s.ax[l].prof.busy) || f.esFired || f.enter then (s.stopAxis l t (s.stopDec l) 5).1 else s
    else
      let (tgt, side) := s.ax[l].clampTarget want
      let s := s.judgeClamp l side
      let newTgt := decide (tgt ≠ f.target)
      let s := s.takeTag l newTgt
      if newTgt || (low && f.busy) || f.esFired || f.enter then
        let s := s.adoptPlan l t tgt
        if f.esFired then s.modAx l fun a => { a with prof := { a.prof with esStop := true } } else s
      else s
  let far := s.beyond l && s.ax[l].prof.busy
  s.modAx l fun a => { a with prof := { a.prof with dlow := (a.prof.dlow || low) && far } }

/-- PRSTAT (R170). -/
def State.prstat (s : State) (l : AxisNo) : Word :=
  let f := s.ax[l].prof
  let (_, c, _, _) := s.profAt l s.ax[l].sch.inst
  let c : BitVec 4 := if f.busy then (if f.esStop then 6 else c) else 0
  (c.setWidth 32 <<< 28) ||| bitAt f.busy 15 ||| bitAt f.done 14 ||| bitAt f.inpos 13 ||| bitAt f.revAt.isSome 12 |||
    bitAt f.dlow 11 ||| bitAt (s.ov1Acts (pairOf l)) 10 ||| bitAt f.tclamp 9 ||| bitAt f.eslo 8 ||| bitAt f.eshi 7 |||
    bitAt f.abort 6 ||| bitAt s.ax[l].com.est 5

end Sys2Proof.Machine
end

