-- ==== Sys2Proof/Machine/Compare.lean ====
section
/-!
DEFINITION. The compare unit and the soft end stops (R162 to R169, R171).
-/

namespace Sys2Proof.Machine

/-- A register that serves as an end stop (R167). -/
def Cmp.isStop (c : Cmp) : Bool := c.func = 1 || c.func = 2

/-- QUAL in force: an end stop takes its own, whatever is written (R167). -/
def Cmp.quals (c : Cmp) : BitVec 2 := if c.func = 1 then 2 else if c.func = 2 then 1 else c.qual

/-- A crossing from P(k−1) to P(k) (R162). -/
def Cmp.crosses (c : Cmp) (p0 p1 : Int) : Bool :=
  (c.quals.getLsbD 0 && decide (p0 < c.val ∧ c.val ≤ p1)) || (c.quals.getLsbD 1 && decide (p0 > c.val ∧ c.val ≥ p1))

/-- The missed check with the direction of travel δ (R164). -/
def Cmp.behind (c : Cmp) (dir p : Int) : Bool :=
  ((dir = 1 && c.quals.getLsbD 0) || (dir = -1 && c.quals.getLsbD 1)) && decide (dir * (c.val - p) ≤ 0)

/-- CMPnCTL (R171). -/
def Cmp.ctl (c : Cmp) : Word :=
  bitAt c.fired 15 ||| bitAt c.missed 14 ||| bitAt c.est 13 ||| bitAt c.armed 12 ||| (c.func.setWidth 32 <<< 6) |||
    bitAt c.evt 5 ||| bitAt c.repeat_ 4 ||| c.qual.setWidth 32

/-- A register as a write leaves it: FUNC, EVT, MODE, QUAL; W1C of FIRED and MISSED is subsumed, since a write clears both; it
arms when its QUAL is not off (R164, R167, R171). -/
def Cmp.load (c : Cmp) (v : Int) (w : Word) : Cmp :=
  let c := { c with val := v, func := (w >>> 6).setWidth 2, evt := w.getLsbD 5, repeat_ := w.getLsbD 4, qual := w.setWidth 2,
                    fired := false, missed := false, write := none }
  { c with armed := decide (c.quals ≠ 0) }

/-- One compare register of an axis changed. -/
def State.modCmp (s : State) (l : AxisNo) (n : Fin 4) (f : Cmp → Cmp) : State :=
  s.modAx l fun a => { a with cmp := vmod a.cmp n f }

/-- The missed check of one register; a lane in STANDBY raises no compare event (R164, R166). -/
def State.missedCheck (s : State) (l : AxisNo) (n : Fin 4) (dir p : Int) : State :=
  if s.ax[l].cmp[n].behind dir p then
    let s := s.modCmp l n fun c => { c with missed := true, armed := false }
    if !s.standby then s.raise 0x4006 .amber (some l) [BitVec.ofNat 32 n.val] else s
  else s

/-- The flag of an end stop set (R169). -/
def State.endFlag (s : State) (l : AxisNo) (up : Bool) : State :=
  s.modAx l fun a => { a with prof := { a.prof with eslo := a.prof.eslo || !up, eshi := a.prof.eshi || up } }

/-- An end stop fires: its flag, its event, and with cas.loop 2 a replan at the next profile step (R169). -/
def State.endStop (s : State) (l : AxisNo) (up : Bool) : State :=
  ((s.endFlag l up).modAx l fun a =>
    { a with prof := { a.prof with esFired := a.prof.esFired || (decide (a.cas.loop = 2) && a.com.mode != CMode.off) } }).raise 0x4008
    .amber (some l) [bitAt up 0]

/-- A register fires (R163, R169). The crossing time lies on the line between two sampling instants. A lane in STANDBY keeps the
firing for R166. -/
def State.fireCmp (s : State) (l : AxisNo) (n : Fin 4) (p0 p1 : Int) (t0 t1 : Ns) : State :=
  let c := s.ax[l].cmp[n]
  let time := s.gtAt t0 + roundQ (((c.val - p0 : Int) : Q) / ((p1 - p0 : Int) : Q) * ((t1 : Int) - t0 : Int))
  let est := s.ax[l].com.est
  let sb := s.standby
  let s := s.modCmp l n fun c =>
    { c with fired := true, pos := p1, time := time, est := est, armed := c.repeat_ || c.isStop
             fires := if sb && c.evt then c.fires ++ [(time, p1, est)] else c.fires }
  let s := if c.evt && !sb then
      s.raise 0x4005 .grey (some l) [BitVec.ofNat 32 n.val, loW p1, hiW p1, bitAt est 0]
    else s
  if c.isStop then s.endStop l (c.func = 2) else s

/-- The compare unit in one sample: crossings against the values as they stood, then the writes that wait, with their missed
check, and the clearing of the end-stop flags (R162 to R165, R169). `dir` is the direction of travel over the last speed
period; `set`: a host position set took effect in this sample. -/
def State.compareSample (s : State) (l : AxisNo) (p0 p1 : Int) (t0 t1 : Ns) (dir : Int) (set : Bool) : State :=
  let s := forFin 4 (fun n s =>
    let c := s.ax[l].cmp[n]
    let s := if !set && c.armed && c.crosses p0 p1 then s.fireCmp l n p0 p1 t0 t1 else s
    let s := if set && c.armed && !c.repeat_ && !c.isStop then s.missedCheck l n dir p1 else s
    match c.write with
    | none => s
    | some (v, w) =>
      let s := s.modCmp l n fun c => c.load v w
      let c := s.ax[l].cmp[n]
      if !c.isStop then (if c.armed then s.missedCheck l n dir p1 else s)
      else if (c.func = 1 && decide (p1 < c.val)) || (c.func = 2 && decide (c.val < p1)) then s.endFlag l (c.func = 2)
      else s) s
  let h := s.pq P.esHyst l * s.perRad l
  let (lo, hi) := s.ax[l].stops
  let clr := fun (v : Option Int) (g : Q) => match v with | some v => decide (h < g * ((p1 - v : Int) : Q)) | none => true
  s.modAx l fun a =>
    { a with prof := { a.prof with eslo := a.prof.eslo && !clr lo 1, eshi := a.prof.eshi && !clr hi (-1) } }

/-- A write of a compare register against the settings that it and the writes before it leave: FUNC 11b, a second register of
one FUNC, and the order of the two stops are refused (R167, R171). -/
def Axis.cmpWriteOk (a : Axis) (n : Fin 4) (v : Int) (w : Word) : Bool :=
  let f : BitVec 2 := (w >>> 6).setWidth 2
  let others := (fins 4).filter fun m => m ≠ n
  let cfg := fun (m : Fin 4) => match a.cmp[m].write with
    | some (v, w) => ((w >>> 6).setWidth 2, v)
    | none => (a.cmp[m].func, a.cmp[m].val)
  f ≠ 3 && !(f ≠ 0 && others.any fun m => (cfg m).1 = f) &&
    !(f = 1 && others.any fun m => (cfg m).1 = 2 && decide ((cfg m).2 ≤ v)) &&
    !(f = 2 && others.any fun m => (cfg m).1 = 1 && decide (v ≤ (cfg m).2))

end Sys2Proof.Machine
end

