-- ==== Sys2Proof/Machine/LinkWatch.lean ====
section
/-!
DEFINITION. The actuator-link watch of a pair, the fast over-current path and the stuck-bitstream rule (R47 to R50, R122 to
R127).
-/

namespace Sys2Proof.Machine

/-- An axis fault with its event; an axis that already stands faulted keeps its first cause and raises nothing more (R66). -/
def State.faultWith (s : State) (l : AxisNo) (cause : BitVec 4) (code : Nat) (args : List Word) : State :=
  if s.ax[l].fault = 0 then (s.axisFault l cause).raise code .crimson (some l) args else s

/-- Thresholds of the three stages, V (R125). -/
def State.ovThr (s : State) (i : Fin 3) : Q := if i = 0 then s.pq P.ovV1 else if i = 1 then s.pq P.ovV2 else s.pq P.ovV3

/-- The chopper command of R122; it stays off with CHOPF, with the voltage unknown, or with its bit of chop.en clear (R124,
R127). -/
def State.chopCmd (s : State) (k : PairNo) (v : Q) : Bool :=
  let p := s.pair[k]
  (s.pw P.chopEn).getLsbD k.val && !p.chopf && !p.vunk &&
    (if s.pq P.chopVon ≤ v then true else if v ≤ s.pq P.chopVoff then false else p.chop)

/-- Command and feedback of a chopper disagree in a way that counts: a lane without authority judges only outside the band (R123, R124,
R127). -/
def State.chopBad (s : State) (k : PairNo) : Bool :=
  let p := s.pair[k]
  let outside := decide (s.pq P.chopVon + 1 / 2 ≤ p.vlink ∨ p.vlink ≤ s.pq P.chopVoff - 1 / 2)
  s.pairOn k && !p.vunk && !p.chopf && (p.chop != p.chfb) && (s.auth || outside)

/-- The disagreement begins, goes on or ends (R123). -/
def State.chopCount (s : State) (k : PairNo) : State :=
  let b := s.chopBad k
  s.modPair k fun p => { p with chBad := if b then some (p.chBad.getD s.clk.lclk) else none }

/-- A disagreement that has lasted without a break for more than 5 µs, or 1 ms in a lane without authority, is a fault: chopper off,
CHOPF and its event (R123, R124). -/
def State.chopFault (s : State) (k : PairNo) : State :=
  let p := s.pair[k]
  let long := match p.chBad with
    | some t => if s.auth then decide (t + us 5 < s.clk.lclk) else s.since t (ms 1)
    | none => false
  if long && s.chopBad k then
    (s.modPair k fun p => { p with chop := false, chopf := true, chBad := none }).raise 0x1010 .amber (some (loAx k))
      [BitVec.ofNat 32 k.val, bitAt p.chfb 0]
  else s

/-- The link watch at one sample of the pair's lower axis (R122, R125, R127); the lowest voltage serves the arbiter (R447). -/
def State.linkSample (s : State) (k : PairNo) (v : Q) : State :=
  let s := s.chopFault k
  let c := s.chopCmd k v
  let known := !s.pair[k].vunk
  let s := s.modArb fun b => if known then { b with vmin := vset b.vmin k (some (match b.vmin[k] with | some m => min m v | none => v)) } else b
  (s.modPair k fun p =>
    if p.vunk then { p with chop := false, above := Vector.replicate 3 0, below := Vector.replicate 3 0 }
    else
      { p with
        vlink := v
        chop := c
        above := Vector.ofFn fun i => if s.ovThr i < v then p.above[i] + 1 else 0
        below := Vector.ofFn fun i => if v < s.ovThr i - s.pq P.ovHyst then p.below[i] + 1 else 0 }).chopCount k

/-- One stage of a pair entered or left (R125). -/
def State.stageStep (s : State) (k : PairNo) (i : Fin 3) : State :=
  let p := s.pair[k]
  if p.vunk then s
  else if !p.ov[i] ∧ 2 ≤ p.above[i] then
    let s := s.modPair k fun p => { p with ov := vset p.ov i true }
    let s := if i = 2 then (s.axisFault (loAx k) 8).axisFault (hiAx k) 8 else s
    s.raise (0x1011 + i.val) (if i = 2 then .crimson else .amber) (some (loAx k)) [BitVec.ofNat 32 k.val, toFix 16 p.vlink]
  else if p.ov[i] ∧ 2 ≤ p.below[i] then s.modPair k fun p => { p with ov := vset p.ov i false }
  else s

/-- Every stage that two consecutive samples call for is entered or left (R125). -/
def State.stages (s : State) (k : PairNo) : State := forFin 3 (fun i s => s.stageStep k i) s

/-- LINK_STAGE_CHANGE (R125). -/
def execLinkStageChange (k : PairNo) (now : Ns) (s : State) : Host.Outcome State Fault Refusal := .next ((s.at now).stages k)

/-- LINK_VOLTAGE_KNOWN: the input has not been stuck for 3 × dsm.dec modulator clocks of 50 ns (R127). -/
def execLinkVoltageKnown (k : PairNo) (now : Ns) (s : State) : Host.Outcome State Fault Refusal :=
  let s := s.at now
  .next (if s.pair[k].vunk && s.since s.pair[k].stuckAt (150 * s.pn P.dsmDec (loAx k)) then
    s.modPair k fun p => { p with vunk := false }
  else s)

/-- CHOPPER_FAULT: the level of CHFB at a time, sampled until then as it was last told; a disagreement that has lasted long enough is a
fault (R123, R124, R127). -/
def execChopperFault (k : PairNo) (feedback : Bool) (now : Ns) (s : State) : Host.Outcome State Fault Refusal :=
  let s := (s.at now).chopFault k
  .next (((s.modPair k fun p => { p with chfb := feedback }).chopCount k).chopFault k)

/-! ## Bitstreams -/

/-- An input has held one level for 64 modulator clocks (R49, R89, R127). With dsm.ich = 2 the third input carries no phase current (log
entry 15). -/
def State.stuckInput (s : State) (l : AxisNo) (i : Fin 6) : State :=
  let k := pairOf l
  if i.val < 3 then
    if i.val = 2 ∧ s.pn P.dsmIch l = 2 then s else s.faultWith l 3 0x1003 [BitVec.ofNat 32 i.val]
  else if i.val < 5 then s.noteLoss l 6 (s.src l = 2)
  else
    let was := s.pair[k].vunk
    let s := s.modPair k fun p => { p with vunk := true, chop := false, chBad := none }
    if was then s else s.raise 0x1014 .amber (some (loAx k)) [BitVec.ofNat 32 k.val]

/-- The current vector of the fast outputs in the stator frame, A (R50, R116, R118). -/
def State.fastVec (s : State) (l : AxisNo) : Vec2 :=
  let f := s.ax[l].dsm.fast
  let g := s.pq P.elecIfs l
  let u := f[(0 : Fin 3)] * g
  let v := f[(1 : Fin 3)] * g
  let w := if s.pn P.dsmIch l = 3 then f[(2 : Fin 3)] * g else -u - v
  ⟨(2 * u - v - w) / 3, (v - w) / sqrtQ 3⟩

/-- The current that the opposite of a pulse has still to drive down, from the fast outputs: into the phases whose high side was on, out
of the others (R116). -/
def Axis.pulseRest (a : Axis) (p : Pulse) : Q :=
  (fins 3).foldl (fun x (i : Fin 3) => if p.hi.getLsbD i then x + a.dsm.fast[i] else if p.lo.getLsbD i then x - a.dsm.fast[i] else x) 0

/-- The end current of a pulse is the last fast output within its on-time; afterwards its current has returned to zero at the first fast
output that shows none left (R116, R118, log entry 45). -/
def State.pulseCurrent (s : State) (l : AxisNo) (t : Ns) : State :=
  match s.ax[l].com.pulse with
  | some p =>
    let v := s.fastVec l
    let p := if t ≤ p.until_ then { p with i := v } else { p with off := p.off || decide (s.ax[l].pulseRest p ≤ 0) }
    s.modAx l fun a => { a with com := { a.com with pulse := some p } }
  | none => s

/-- One modulator clock of an axis cell, with the reactions of the stuck rule and of the fast path (R47, R49, R50). -/
def State.dsmClock (s : State) (l : AxisNo) (t : Ns) (x : DsBits) : State :=
  let ioc := s.pq P.curIoc l
  let s := s.modAx l fun a => { a with dsm := a.dsm.step ioc x }
  let d := s.ax[l].dsm
  let s := if 64 ≤ d.held[(5 : Fin 6)] then s.modPair (pairOf l) fun p => { p with stuckAt := t } else s
  let s := forFin 6 (fun i s => if d.held[i] = 64 then s.stuckInput l i else s) s
  if d.phase = 0 then
    let s := s.pulseCurrent l t
    forFin 3 (fun i s => if d.oc[i] = 2 then s.faultWith l 5 0x1004 [BitVec.ofNat 32 i.val] else s) s
  else s

/-- The modulator clocks of a list of levels, the last one at a local time; a filter keeps what the longest comb reads (R47). -/
def State.feed (s : State) (l : AxisNo) (bits : List DsBits) (now : Ns) : State :=
  let n := bits.length
  let s := bits.zipIdx.foldl (fun s (x, i) => s.dsmClock l (now - 50 * (n - 1 - i)) x) s
  s.modAx l fun a => { a with dsm := { a.dsm with ch := a.dsm.ch.map fun f => { f with hist := f.hist.take 769 } } }

/-- DSM_STUCK: the bitstreams up to a time (R49). -/
def execDsmStuck (l : AxisNo) (bits : List DsBits) (now : Ns) (s : State) : Host.Outcome State Fault Refusal :=
  let s := s.at now
  .next (if s.axOn l then s.feed l bits s.clk.lclk else s)

/-- OVERCURRENT: the bitstreams up to a time; two consecutive fast outputs beyond cur.ioc × elec.ifs take the gates low and fault the
axis (R50). -/
def execOvercurrent (l : AxisNo) (bits : List DsBits) (now : Ns) (s : State) : Host.Outcome State Fault Refusal :=
  let s := s.at now
  .next (if s.axOn l then s.feed l bits s.clk.lclk else s)

/-- RESOLVER_MEASUREMENT: the bitstreams up to the clock at which the combs give the outputs of an excitation peak, and the
measurement, once for each peak (R87, R88). -/
def execResolverMeasurement (l : AxisNo) (bits : List DsBits) (now : Ns) (s : State) : Host.Outcome State Fault Refusal :=
  let s := s.at now
  if !s.axOn l then .next s
  else
    let s := s.feed l bits s.clk.lclk
    let k := s.excPeak l s.gt
    .next (if s.ax[l].fb.resK = some k then s
      else (s.modAx l fun a => { a with fb := { a.fb with resK := some k } }).resolverTake l)

/-! ## Current sum -/

/-- The current sum has passed its tolerance in four consecutive samples (R48). -/
def State.sumFault (s : State) (l : AxisNo) : State :=
  if 4 ≤ s.ax[l].cur.sumCount then
    (s.modAx l fun a => { a with cur := { a.cur with sumCount := 0 } }).faultWith l 4 0x1002 [toFix 16 s.ax[l].cur.sum]
  else s

/-- CURRENT_SUM (R48). -/
def execCurrentSum (l : AxisNo) (now : Ns) (s : State) : Host.Outcome State Fault Refusal := .next ((s.at now).sumFault l)

end Sys2Proof.Machine
end

