-- ==== Sys2Proof/Machine/ParamOps.lean ====
section
/-!
DEFINITION. Parameter access, the digest, the change log and the identification requests (R412 to R417, R499, R508, R526).
-/

namespace Sys2Proof.Machine

/-! ## Digest -/

/-- Every implemented PID but the read-only four, ascending (R416). -/
def digestPids : List Nat := (List.range 0x10000).filter fun p => 0x0F03 < p && (lookupPid p).isSome

/-- The committed CRC-32 of each integrator region, zero while uncommitted, in the order of R416. -/
def State.regionCrcs (s : State) : List Word :=
  [s.su.eng.progCrc.getD 0, s.su.eng.operCrc.getD 0] ++
    (fins 8).flatMap fun l => [s.ax[l].eng.progCrc.getD 0, s.ax[l].eng.operCrc.getD 0]

/-- The configuration digest (R416). -/
def State.digest (s : State) : Word :=
  crc32 (bytesOf ((digestPids.flatMap fun p => [BitVec.ofNat 32 p, s.stored p]) ++ s.regionCrcs))

/-- The value a read of a PID shows: the four read-only parameters show the lane's own facts (R412). -/
def State.shown (s : State) (f : Nat → Word) (pid : Nat) : Word :=
  if pid = 0x0F00 then s.ident.version.setWidth 32
  else if pid = 0x0F01 then s.digest
  else if pid = 0x0F02 then bitAt s.black 0
  else if pid = 0x0F03 then BitVec.ofNat 32 s.grp.val
  else f pid

/-! ## Change log -/

/-- SOURCE of a log entry, peer address and port (R417). -/
def sourceWords : Source → Word × Word × Word
  | .spi => (1, 0, 0)
  | .tunnel ip port => (2, ip, port.setWidth 32)

/-- Append one change-log entry with a copy in queue 9 (R417). -/
def State.logEntry (s : State) (src : Source) (tag : BitVec 16) (id kind : Nat) (old new : Word) : State :=
  let (sc, ip, port) := sourceWords src
  let w : List Word := [BitVec.ofNat 32 s.mb.logNext, loW s.gt, hiW s.gt,
    BitVec.ofNat 32 id ||| (BitVec.ofNat 32 kind <<< 16) ||| (sc <<< 20), old, new, ip,
    port ||| (tag.setWidth 32 <<< 16), s.digest, 0]
  let ring := if s.mb.logNext = 0xFFFFFFFF then s.mb.log.filter (fun e => e.head? ≠ some 0xFFFFFFFF) else s.mb.log
  let s := s.modMb fun m => { m with log := (w :: ring).take 4096, logNext := min 0xFFFFFFFF (m.logNext + 1) }
  s.push 9 ⟨.spi, mkLaneSlot 40 0 w⟩

/-! ## Writing a parameter -/

/-- Field checks of single words: those that the range words of a row cannot say (R16, R147, R200, R201, R278, R348, R381,
R395, R477). Zero accepts; otherwise the status. -/
def State.fieldCheck (s : State) (p : PSpec) (l i : Nat) (v : Word) : Nat :=
  let n := v.toNat
  if p.base = P.sysAlloc.base then
    let k := (n >>> 12) % 16
    let w := (n >>> 8) % 4
    let m := n % 256
    if k = 0 ∨ (k ≤ 4 ∧ (w = 1 ∨ w = 2) ∧ 1 ≤ m ∧ m ≤ 254) then 0 else 0x31
  else if p.base = P.casWflt.base then if n = 0 ∨ 655360 ≤ n then 0 else 0x31
  else if p.base = P.stNpat.base then if n % 1024 = 0 then 0 else 0x31
  else if p.base = P.nvCfg.base then
    if (n >>> 18) % 16 ≤ 13 ∧ (n >>> 16) % 4 ≤ 2 ∧ 1 ≤ (n >>> 12) % 16 then 0 else 0x31
  else if p.base = P.vtbSlot.base then
    let len := n % 1024
    if (n >>> 19) % 8 ≠ 7 ∧ (n >>> 12) % 16 ≤ 7 ∧ ((n >>> 10) % 4 ≠ 0 ∨ len = 0) ∧ (len = 0 ∨ (100 ≤ len ∧ len ≤ 800)) then 0
    else 0x31
  else if p.base = P.vtbCold.base then
    if ((List.range 6).filter fun b => v.getLsbD b).length ≤ 3 then 0 else 0x31
  else if p.base = P.ethMacHi.base then if v.getLsbD 8 then 0x31 else 0
  else if p.base = P.ethNetmask.base then
    if (List.range 33).any fun k => n + 2 ^ k = 2 ^ 32 then 0 else if n = 0 then 0 else 0x31
  else if p.base = P.netTxcid.base then if (n >>> 16) % 8 ≤ 4 then 0 else 0x31
  else if p.base = P.sigUtrig.base then if n ≠ 0 ∧ s.su.eng.progCrc.isNone then 0x30 else 0
  else if p.base = P.leAttach.base then
    if n ≠ 0 ∧ (s.ax[(⟨l % 8, Nat.mod_lt _ (by decide)⟩ : AxisNo)]).eng.progCrc.isNone then 0x30 else 0
  else if p.base = P.sigUentry.base then
    if s.split ∧ (if i < 4 then 0x1A00 ≤ n else n < 0x1A00) then 0x31 else 0
  else if p.base = P.sbwEn.base ∨ p.base = P.bwEn.base then if s.split ∧ n ≠ 0 then 0x50 else 0
  else 0

/-- Whether a list of quantities never falls. -/
def nonDecreasing : List Q → Bool
  | a :: b :: r => decide (a ≤ b) && nonDecreasing (b :: r)
  | _ => true

/-- The sum of the stored floors of the axes allocated in this lane, W (R459). -/
def State.floorSum (s : State) : Q :=
  ((fins 8).filter fun l => s.allocated l).foldl (fun a l => a + s.sq P.arbFloor l.val) 0

/-- What SUP books at a level, W (R452). -/
def supBook (pl : Nat) : Q := if pl = 0 then 1 / 4 else if pl = 1 then 9 / 20 else if pl = 2 then 13 / 20 else 9 / 10

/-- The DIE floors of R452 with the stored pwr.pl, W. -/
def State.dieFloor (s : State) : Q :=
  supBook (s.stored P.pwrPl.base).toNat + 3 / 10 * (((fins 4).filter fun k => s.pairAlloc k).length : Q) + 3 / 5 + 7 / 20

/-- The order and pairing checks of a write, over the stored values it would leave (R69, R100, R129, R227, R254, R280,
R395, R441, R459). -/
def State.crossCheck (s : State) (p : PSpec) (l : Nat) : Bool :=
  let q := fun (x : PSpec) => s.sq x l
  let is := fun (ps : List PSpec) => ps.any fun x => x.base = p.base
  if is [P.supRes1, P.supRes2] then decide (q P.supRes1 ≤ q P.supRes2)
  else if is [P.resAmin, P.resAmax] then decide (q P.resAmin ≤ q P.resAmax)
  else if is [P.chopVoff, P.chopVon, P.ovV1, P.ovV2, P.ovV3] then
    decide (q P.chopVoff < q P.chopVon ∧ q P.chopVon < q P.ovV1 ∧ q P.ovV1 < q P.ovV2 ∧ q P.ovV2 < q P.ovV3)
  else if is [P.comSb] then nonDecreasing ((List.range 4).map fun i => s.sq P.comSb l i)
  else if is [P.sbwVrs1, P.sbwVrs2] then decide (q P.sbwVrs1 < q P.sbwVrs2)
  else if is [P.sbwTfmax, P.sbwTfmax1] then decide (q P.sbwTfmax1 ≤ q P.sbwTfmax)
  else if is [P.bwFmax, P.bwFmax1] then decide (q P.bwFmax1 ≤ q P.bwFmax)
  else if is [P.bwLtgt, P.bwLon] then decide (q P.bwLtgt < q P.bwLon)
  else if is [P.bwSf] then nonDecreasing ((List.range 8).map fun i => s.sq P.bwSf 0 i)
  else if is [P.ssDmon, P.ssDec] then decide (q P.ssDmon ≤ q P.ssDec)
  else if is [P.pwrPl, P.pwrPlmin] then decide (q P.pwrPlmin ≤ q P.pwrPl)
  else if is [P.ethTport, P.ethNport, P.ethDport] then
    decide (q P.ethTport ≠ q P.ethNport ∧ q P.ethTport ≠ q P.ethDport ∧ q P.ethNport ≠ q P.ethDport)
  else if is [P.arbFloor] then decide (q P.arbFloor ≤ q P.arbCeil ∧ s.floorSum ≤ s.sq P.arbBdrive)
  else if is [P.arbCeil] then decide (q P.arbFloor ≤ q P.arbCeil)
  else if is [P.arbVcut, P.arbVsag] then decide (q P.arbVcut < q P.arbVsag)
  else if is [P.arbBdrive] then decide (s.floorSum ≤ s.sq P.arbBdrive)
  else if is [P.arbBdie] then decide (s.dieFloor ≤ s.sq P.arbBdie ∧ s.floorSum ≤ s.sq P.arbBdrive)
  else true

/-- The state with one stored value set. -/
def State.setStored (s : State) (pid : Nat) (v : Word) : State :=
  s.modPar fun p => { p with stored := Cells.write storeD p.stored pid v }

/-- The state with one value put in effect. -/
def State.setEff (s : State) (pid : Nat) (v : Word) : State :=
  s.modPar fun p => { p with eff := Cells.write storeD p.eff pid v }

/-- The check of one entry against the stored values before it: the status, 0 when it passes, and the word as stored, with
reserved bits zero (R5, R404, R414). -/
def State.checkWrite (s : State) (pid : Nat) (v : Word) : Nat × Word :=
  match lookupPid pid with
  | none => (0x31, v)
  | some (p, l, i) =>
    let v := v &&& p.mask
    if p.apply = .ro then (0x32, v)
    else
      let c := s.fieldCheck p l i v
      if c ≠ 0 then (c, v)
      else if !p.inRange v then (0x31, v)
      else if !(s.setStored pid v).crossCheck p l then (0x31, v)
      else (0, v)

/-- The local axis of an axis parameter whose carrier runs: a NOW-class write of it waits for that axis's next sample (R66). -/
def State.sampledAxis (s : State) (pid : Nat) : Bool :=
  (fins 8).any fun l => (pid / 256) % 16 == l.val && s.ax[l].pwm.run

/-- Apply one checked entry: stored, logged, and put in effect, posted or kept for its boundary by its class (R6, R66, R414,
R491). -/
def State.applyWrite (s : State) (src : Source) (tag : BitVec 16) (pid : Nat) (v : Word) : State :=
  let old := s.stored pid
  let s := s.setStored pid v
  let s := match lookupPid pid with
    | some (p, _, _) =>
      if p.base = P.pwrWake.base then s.modAon fun a => { a with postWake := some v }
      else if p.base = P.pwrWtimer.base then s.modAon fun a => { a with postTimer := some v }
      else match p.apply with
        | .now =>
          if s.sampledAxis pid then s.modPar fun q => { q with posted := pid :: q.posted.filter (· ≠ pid) } else s.setEff pid v
        | .cycle => s.modPar fun q => { q with written := pid :: q.written.filter (· ≠ pid) }
        | _ => s
    | none => s
  s.logEntry src tag pid 0 old v

/-- The entries of OP_PAR_WRITE: PID and value (R414). -/
def writeEntries : Nat → List Word → List (Nat × Word)
  | n + 1, p :: v :: r => (p.toNat % 65536, v) :: writeEntries n r
  | _, _ => []

/-- Check the entries in order, each against what those before it leave: the first failure with its index, or the entries as
stored. -/
def State.checkEntries (s : State) (i : Nat) : List (Nat × Word) → Nat × Nat × List (Nat × Word)
  | [] => (0, 0xFF, [])
  | (pid, v) :: r =>
    let (c, v) := s.checkWrite pid v
    if c ≠ 0 then (c, i, [])
    else
      let (c, j, es) := (s.setStored pid v).checkEntries (i + 1) r
      (c, j, (pid, v) :: es)

/-! ## Opcodes -/

/-- OP_NOP echoes its payload in any class (R409). -/
def specNop : OpSpec := { opc := 0x0100, classes := [0, 1, 2, 3] }
/-- OP_NOP. -/
def bodyNop : Body := fun r s => Ans.ok s r.payload
/-- OP_NOP. -/
def execOpNop (r : Req) (s : State) : Out := .next (s.serve specNop bodyNop r)

/-- OP_PAR_READ (R413). -/
def specParRead : OpSpec := { opc := 0x0101, classes := [2, 3], lo := 1 }
/-- The stored value of each PID in order; the first PID not implemented is named (R413). -/
def bodyParRead : Body := fun r s =>
  let n := r.arg0.toNat % 16
  if n = 0 ∨ 12 < n then Ans.refuse s 0x31
  else if r.payload.length < n then Ans.refuse s 0x22
  else
    let ps := reqPids 0x0101 r
    match ps.findIdx? (fun p => (lookupPid p).isNone) with
    | some i => Ans.refuse s 0x31 i
    | none => Ans.ok s (ps.map (s.shown s.stored))
/-- OP_PAR_READ. -/
def execOpParRead (r : Req) (s : State) : Out := .next (s.serve specParRead bodyParRead r)

/-- OP_PAR_WRITE (R414). -/
def specParWrite : OpSpec := { opc := 0x0102, classes := [2], lo := 2 }
/-- All entries or none; the answer holds the count and the new digest (R414). -/
def bodyParWrite : Body := fun r s =>
  let n := r.arg0.toNat % 16
  if n = 0 ∨ 6 < n then Ans.refuse s 0x31
  else if r.payload.length < 2 * n then Ans.refuse s 0x22
  else
    let (c, i, es) := s.checkEntries 0 (writeEntries n r.payload)
    if c ≠ 0 then Ans.refuse s c i
    else
      let s := es.foldl (fun s e => s.applyWrite r.src r.tag e.1 e.2) s
      Ans.ok s [BitVec.ofNat 32 n, s.digest]
/-- OP_PAR_WRITE. -/
def execOpParWrite (r : Req) (s : State) : Out := .next (s.serve specParWrite bodyParWrite r)

/-- APPLY of OP_PAR_INFO (R499). -/
def applyCode : Apply → Word
  | .now => 0
  | .cycle => 1
  | .start => 2
  | .ro => 3

/-- Word 1 of OP_PAR_INFO (R499); the steps of st.npat count as a list of values. -/
def infoFlags (p : PSpec) : Word :=
  BitVec.ofNat 32 p.frac ||| bitAt p.signed 6 ||| bitAt p.field 7 |||
    (applyCode p.apply <<< 8) ||| bitAt (!p.list.isEmpty || p.base == P.stNpat.base) 10

/-- OP_PAR_INFO (R499). -/
def specParInfo : OpSpec := { opc := 0x0103, classes := [2, 3] }
/-- Format, range, default, stored value and value in effect of one PID (R499). -/
def bodyParInfo : Body := fun r s =>
  let pid := r.arg0.toNat % 65536
  match lookupPid pid with
  | none => Ans.refuse s 0x31
  | some (p, _, i) =>
    let d := if p.base = P.comStart.base then bitAt s.ident.straps.compat 0 else p.default i
    Ans.ok s [BitVec.ofNat 32 pid, infoFlags p, BitVec.ofInt 32 p.lo, BitVec.ofInt 32 p.hi, d, s.shown s.stored pid,
      s.shown s.eff pid]
/-- OP_PAR_INFO. -/
def execOpParInfo (r : Req) (s : State) : Out := .next (s.serve specParInfo bodyParInfo r)

/-- OP_DIGEST_READ (R409). -/
def specDigestRead : OpSpec := { opc := 0x0104, classes := [2, 3] }
/-- The number of the newest change-log entry; zero while there is none (log entry 12). -/
def State.newestLog (s : State) : Word := match s.mb.log with | e :: _ => e.headD 0 | [] => 0
/-- The digest, the change-log entry count and the newest entry number (R409). -/
def bodyDigestRead : Body := fun _ s => Ans.ok s [s.digest, BitVec.ofNat 32 s.mb.log.length, s.newestLog]
/-- OP_DIGEST_READ. -/
def execOpDigestRead (r : Req) (s : State) : Out := .next (s.serve specDigestRead bodyDigestRead r)

/-- OP_LOG_READ (R417). -/
def specLogRead : OpSpec := { opc := 0x0F03, classes := [3] }
/-- The ring's entry of a number. -/
def State.logAt (s : State) (n : Nat) : Option (List Word) := s.mb.log.find? fun e => e.head? = some (BitVec.ofNat 32 n)
/-- The entry named and the one after it, one entry to a slot, MORE while further entries exist (R417, log entry 12). -/
def bodyLogRead : Body := fun r s =>
  let n := r.arg0.toNat
  match s.logAt n with
  | none => Ans.refuse s 0x31
  | some e => { st := s, slots := e :: (s.logAt (n + 1)).toList }
/-- OP_LOG_READ. -/
def execOpLogRead (r : Req) (s : State) : Out := .next (s.serve specLogRead bodyLogRead r)

/-! ## Identification, counters, events -/

/-- IDENT, STRAPS and FWVER (R485). -/
def identWord : Word := 0x3224C101
/-- STRAPS. -/
def State.strapsWord (s : State) : Word :=
  bitAt s.ident.straps.compat 5 ||| bitAt s.ident.straps.bootsrc 4 ||| bitAt s.ident.straps.split 3 |||
    bitAt s.ident.straps.role 2 ||| s.ident.lane.setWidth 32
/-- FWVER. -/
def State.fwverWord (s : State) : Word :=
  bitAt s.ident.fallback 17 ||| bitAt s.ident.bank 16 ||| s.ident.version.setWidth 32

/-- OP_DIAG_IDENT (R526). -/
def specDiagIdent : OpSpec := { opc := 0x0F01, classes := [3] }
/-- The three identification words (R526). -/
def bodyDiagIdent : Body := fun _ s => Ans.ok s [identWord, s.strapsWord, s.fwverWord]
/-- OP_DIAG_IDENT. -/
def execOpDiagIdent (r : Req) (s : State) : Out := .next (s.serve specDiagIdent bodyDiagIdent r)

/-- The counter numbers of a block, ascending (R507). -/
def counterNums (g inst : Nat) : List Nat :=
  if inst = 15 then
    if g = 0 then
      List.range 10 ++ (List.range 16).map (0x10 + ·) ++ (List.range 6).map (0x20 + ·) ++ (List.range 14).map (0x30 + ·)
    else if g = 5 then [0, 1, 2] ++ (List.range 8).map (0x10 + ·) ++ [0x20, 0x21]
    else if g = 10 then
      List.range 6 ++ (List.range 64).map (0x40 + ·) ++ (List.range 24).map (0x80 + ·) ++ [0xA0, 0xA1, 0xA2]
    else if g = 11 then [0]
    else if g = 13 then [0, 1]
    else if g = 14 then [0, 1, 2]
    else if g = 15 then List.range 80
    else []
  else if (g = 2 ∨ g = 5) ∧ inst < 8 then [0, 1]
  else if g = 11 ∧ inst < 2 then [0, 1, 2, 3]
  else if g = 12 ∧ inst < 2 then [0, 1, 2]
  else if g = 12 ∧ inst = 2 then [0, 1]
  else []

/-- Whether an index names a counter (R507). -/
def isCounter (i : Nat) : Bool := (counterNums ((i / 4096) % 16) ((i / 256) % 16)).contains (i % 256)

/-- The word of a counter as R508 shows it. -/
def State.counterWord (s : State) (i : Nat) : Word := (BitVec.ofNat 32 (i % 256) <<< 24) ||| s.counter i

/-- OP_DIAG_COUNTERS (R508). -/
def specDiagCounters : OpSpec := { opc := 0x0F02, classes := [3] }
/-- Every counter of the block, twelve to a slot (R508). -/
def bodyDiagCounters : Body := fun r s =>
  let b := (r.arg0.toNat / 256) % 256
  match counterNums (b / 16) (b % 16) with
  | [] => Ans.refuse s 0x31
  | ns => { st := s, slots := chunk12 8 (ns.map fun n => s.counterWord (256 * b + n)) }
/-- OP_DIAG_COUNTERS. -/
def execOpDiagCounters (r : Req) (s : State) : Out := .next (s.serve specDiagCounters bodyDiagCounters r)

/-- OP_EVENT_READ (R409). -/
def specEventRead : OpSpec := { opc := 0x0F04, classes := [3] }
/-- The oldest event, removed, and the count still queued; with none queued eight zero words and zero (log entry 12). -/
def bodyEventRead : Body := fun _ s =>
  match s.mb.queues[(8 : Fin 16)].entries with
  | [] => Ans.ok s (List.replicate 9 0)
  | e :: _ =>
    let s' := s.pop 8
    Ans.ok s' ((e.slot.drop 4).take 8 ++ [BitVec.ofNat 32 s'.mb.queues[(8 : Fin 16)].entries.length])
/-- OP_EVENT_READ. -/
def execOpEventRead (r : Req) (s : State) : Out := .next (s.serve specEventRead bodyEventRead r)

/-- OP_NET_SEND (R409). -/
def specNetSend : OpSpec := { opc := 0x0F06, classes := [1] }
/-- Payload words 0 to 11 become the payload of a slot in queue 10, 12 or 14 (R409). -/
def bodyNetSend : Body := fun r s =>
  let k := r.arg0.toNat % 4
  if k = 3 then Ans.refuse s 0x31
  else
    let q : Fin 16 := if k = 0 then 10 else if k = 1 then 12 else 14
    if s.room q = 0 then Ans.refuse (s.bump (qCnt q)) 0x20
    else
      let slot := mkSlot 0x030F0000 0 0 r.payload
      Ans.ok (s.place q ⟨r.src, slot⟩)
/-- OP_NET_SEND. -/
def execOpNetSend (r : Req) (s : State) : Out := .next (s.serve specNetSend bodyNetSend r)

end Sys2Proof.Machine
end

