-- ==== Sys2Proof/Machine/Commutation.lean ====
section
/-!
DEFINITION. Commutation: the electrical angle, the modes and their changes, stepped open-loop operation, the starts, the probe,
d-axis braking and the alignment run (R101 to R121).
-/

namespace Sys2Proof.Machine

/-- AXMODE as the last axis mirror shows it; zero before the first (R322). -/
def State.mirWord (s : State) (l : AxisNo) (i : Nat) : Word := (s.ax[l].mir.words.getD []).getD i 0

/-- The enable state of an axis: its own, or in STANDBY the mirror's GATES (R410). -/
def State.axEn (s : State) (l : AxisNo) : Bool := if s.standby then (s.mirWord l 1).getLsbD 8 else s.ax[l].en

/-- Revolutions to radians and back. -/
def toRad (rev : Q) : Q := rev * twoPi
/-- Radians to revolutions. -/
def toRev (rad : Q) : Q := rad / twoPi

/-- Pole pairs. -/
def State.pp (s : State) (l : AxisNo) : Q := s.pn P.elecPp l

/-- The speed source of R84, rad/s of the motor shaft: signal unit, window, or the estimate while the position is estimated. -/
def State.speedRaw (s : State) (l : AxisNo) : Q :=
  let a := s.ax[l]
  if a.com.est || s.src l = 0 then a.com.olSpeed / s.pp l
  else if s.src l = 2 ∨ s.pn P.fbSpd l = 1 then a.del.speed
  else a.fb.winSpeed

/-- θ_s from the sensor: R102 with an encoder, R107 with a resolver, cut to UQ0.32 (log entry 3). -/
def State.sensorAngle (s : State) (l : AxisNo) : Q :=
  let c := s.ax[l].com
  cutP (if s.src l = 2 then fracQ (s.pp l * s.ax[l].del.theta / s.pn P.resPp l + s.pq P.comOff l)
    else fracQ (s.pp l * (c.count : Q) / s.countsPerRev l + (if c.cval then s.pq P.comOff l else c.prov)))

/-- The sensor gives a valid angle: a resolver result, or an encoder with CVAL (R101). -/
def State.angleValid (s : State) (l : AxisNo) : Bool :=
  (s.src l = 2 && s.ax[l].del.valid) || (s.src l = 1 && s.ax[l].com.cval)

/-- A change of commutation mode; it restarts the settling count and clears the counts of the model check (R60, R101). -/
def State.setMode (s : State) (l : AxisNo) (m : CMode) : State :=
  if s.ax[l].com.mode = m then s
  else
    let est := m == CMode.stepped || m == CMode.ifStart
    s.modAx l fun a =>
      let a := a.setMode m
      { a with com := { a.com with est := est, since := s.clk.lclk, pulse := none, pulse0 := none, ends := [] } }

/-- The loops that begin to act after a start or a braking mode preset their integrators (R137). -/
def State.enterLoops (s : State) (l : AxisNo) : State :=
  s.modAx l fun a =>
    { a with
      cas := { a.cas with enterS := decide (a.cas.loop ≠ 0), enterP := decide (a.cas.loop = 2), enterF := decide (a.cas.loop = 3),
                          enterW := decide (a.cas.loop = 1) }
      prof := { a.prof with enter := a.prof.enter || decide (a.cas.loop = 2) } }

/-- I_arb of R445 for a grant, W, and |w_e|. -/
def State.iArb (s : State) (l : AxisNo) (g we : Q) : Q :=
  let r := s.pq P.elecR l
  let e := |we| * (s.pq P.elecPsi l / 1000)
  if g = 0 then 0 else (-e + sqrtQ (e * e + 4 * r * g / (3 / 2))) / (2 * r)

/-- G_x in force: the grant last published, and before the first of a start the floor of each axis that holds one (R446). -/
def State.grantOf (s : State) (l : AxisNo) : Q :=
  if s.arb.published then s.arb.grant[l] else if s.allocated l && s.ax[l].fault == 0 then s.pq P.arbFloor l else 0

/-- I_lim of step 3 of R56: no ceiling of the arbiter while the request opposes w_e (R445). -/
def State.iLim (s : State) (l : AxisNo) (opposes : Bool) (we : Q) : Q :=
  if opposes then s.pq P.curImax l else min (s.pq P.curImax l) (s.iArb l (s.grantOf l) we)

/-- Thresholds of the bands, rad/s electrical (R111). -/
def State.band (s : State) (l : AxisNo) (i : Nat) : Q := s.pq P.comSb l i * twoPi

/-- The band in force after a sample: up over a threshold, down under 0.95 of it (R111). -/
def State.nextBand (s : State) (l : AxisNo) (b : Nat) (w : Q) : Nat :=
  let up := ((List.range 4).filter fun i => decide (s.band l i < |w|)).foldl (fun m i => max m (i + 2)) 1
  let down := ((List.range 4).filter fun i => decide (s.band l i * 95 / 100 ≤ |w|)).foldl (fun m i => max m (i + 2)) 1
  max up (min b down)

/-- The step of θ_app in a band, as steps per revolution (R111). -/
def bandSteps (b : Nat) : Q := if b ≤ 1 then 1024 else if b = 2 then 256 else if b = 3 then 64 else if b = 4 then 16 else 6

/-- θ_app: θ_ol rounded to the nearest step of the band (R111). -/
def Com.app (c : Com) : Q := (roundQ (c.olTheta * bandSteps c.band) : Q) / bandSteps c.band

/-- The axis enters stepped open-loop commutation from a given vector (R109, R115, R117, R119). -/
def State.enterStepped (s : State) (l : AxisNo) (theta speed i : Q) : State :=
  (s.setMode l .stepped).modAx l fun a =>
    { a with com := { a.com with olTheta := fracQ theta, olSpeed := speed, olI := i, est := true, band := s.nextBand l 1 speed } }

/-- The first sample after a sensor loss: R109. -/
def State.loseSensor (s : State) (l : AxisNo) (dt : Q) : State :=
  let c := s.ax[l].cur
  let m := sqrtQ (c.id * c.id + c.iq * c.iq)
  s.enterStepped l (c.theta + toRev (c.we * dt) + atan2Rev c.iq c.id) c.we
    (min (s.iLim l false c.we) (max (s.pq P.comIol l) m))

/-- A quantity moved toward a goal by at most a step. -/
def toward (x goal step : Q) : Q := clampQ goal (x - step) (x + step)

/-! ## Starts -/

/-- Start from rest: pulses with an encoder or with com.start = 1, else the I/f start (R101, R113). -/
def State.startRest (s : State) (l : AxisNo) : State :=
  let puls := s.src l = 1 ∨ s.pn P.comStart l = 1
  let s := s.setMode l (if puls then .satStart else .ifStart)
  s.modAx l fun a =>
    { a with com := { a.com with since := s.clk.lclk, satRuns := 0, satPulse := 0, attempt := 0,
                                 phase := .align, olSpeed := 0, brkWait := false, olTheta := fracQ (s.pq P.comIfang l / 360) } }

/-- The probe begins: CMODE 5h (R101, R118). -/
def State.startProbe (s : State) (l : AxisNo) : State :=
  (s.setMode l .catching).modAx l fun a => { a with com := { a.com with since := s.clk.lclk } }

/-- The start of an enabled axis (R101, R119). -/
def State.startCommutation (s : State) (l : AxisNo) : State :=
  if s.angleValid l then s.setMode l .sensored else s.startProbe l

/-- A mode change asked for, to be made at the start of the next sample (R101). -/
def State.wantMode (s : State) (l : AxisNo) (m : ModeReq) : State := s.modAx l fun a => { a with com := { a.com with want := some m } }

/-- A start fails: FAULT = Ah and EV_START_FAILED with the mode (R115, R117, R120). -/
def State.startFailed (s : State) (l : AxisNo) (cmode : Word) : State := s.faultWith l 0xA 0x6004 [cmode]

/-- θ_prov such that the angle of R102, from COMCNT as it stands in the sample, equals a found angle (R104). -/
def State.setProv (s : State) (l : AxisNo) (theta : Q) : State :=
  let c := s.ax[l].com.count
  let p := fracQ (theta - s.pp l * (c : Q) / s.countsPerRev l)
  s.modAx l fun a => { a with com := { a.com with prov := p, provOk := true } }

/-- A start ends with a found d-axis angle and speed: provisional angle and CMODE 1h with an encoder, CMODE 2h without or after
a sensor loss (R104, R112, R117, R119). -/
def State.startDone (s : State) (l : AxisNo) (theta olTheta speed : Q) : State :=
  let s := if s.src l = 1 ∧ !s.ax[l].fb.lost then
      (s.setProv l theta).setMode l .sensored
    else s.enterStepped l olTheta speed (s.pq P.comIol l)
  s.enterLoops l

/-- The electrical angle of pulse `m` of the twelve, revolutions (R116). -/
def pulseAngle (m : Nat) : Q := ((30 * (m / 2) + 180 * (m % 2) : Nat) : Q) / 360

/-- The end current in a direction given in steps of 30°. -/
def endAt (e : Vector Q 12) (k : Nat) : Q :=
  let k := k % 12
  if h : k < 6 then e[2 * k]'(by omega) else e[2 * (k - 6) % 12 + 1]'(by omega)

/-- The direction of the largest end current, in steps of 30°. -/
def largest (e : Vector Q 12) : Nat :=
  (List.range 12).foldl (fun b k => if endAt e b < endAt e k then k else b) 0

/-- The found angle: parabolic interpolation over the largest direction and its neighbours, the correction clamped to ±15°
(R117). -/
def foundAngle (e : Vector Q 12) : Q :=
  let k := largest e
  let y0 := endAt e k
  let ym := endAt e (k + 11)
  let yp := endAt e (k + 1)
  let d := if ym - 2 * y0 + yp = 0 then 0 else (ym - yp) / (2 * (ym - 2 * y0 + yp))
  fracQ ((30 * (k : Q) + clampQ (30 * d) (-15) 15) / 360)

/-- The phases whose high side a pulse at an angle of `a` steps of 30° turns on, and those whose low side: the sign of the phase's part of
the vector; a phase without a part stays off (R116, log entry 45). -/
def pulseGates (a : Nat) : BitVec 3 × BitVec 3 :=
  let d := fun (x : Nat) => (a + 12 - 4 * x) % 12
  let b := fun (f : Nat → Bool) => (bitAt (f (d 0)) 0 ||| bitAt (f (d 1)) 1 ||| bitAt (f (d 2)) 2).setWidth 3
  (b fun n => decide (n < 3 ∨ 9 < n), b fun n => decide (3 < n ∧ n < 9))

/-- Whether an axis drives pulses, how many, how many load points apart, and the on-time of each, ns (R116, R118). -/
def State.pulsePlan (s : State) (l : AxisNo) : Option (Nat × Nat × Ns) :=
  match s.ax[l].com.mode with
  | .satStart => some (12, s.pn P.comSpp l, us (s.pn P.comTsp l))
  | .catching => some (2, s.pn P.comTzp l, us (s.pn P.comTzv l))
  | _ => none

/-- The pulse that begins at a load point: a vector at full link voltage, or all three low-side switches on (R116, R118). -/
def State.newPulse (s : State) (l : AxisNo) (m : Nat) (t on : Ns) : Pulse :=
  if s.ax[l].com.mode = .satStart then
    let (h, g) := pulseGates ((m / 2) + 6 * (m % 2))
    { num := m, at_ := t, hi := h, lo := g, until_ := t + on, i := ⟨0, 0⟩ }
  else { num := m, at_ := t, hi := 0, lo := 7, until_ := t + on, i := ⟨0, 0⟩ }

/-- A load point of an axis that drives pulses: the pulse before is taken down, and the next begins when its load point has come. The
sequence begins at the first load point with the gates enabled (R116, R118). -/
def State.pulsePoint (s : State) (l : AxisNo) (t : Ns) : State :=
  let a := s.ax[l]
  match s.pulsePlan l with
  | none => s
  | some (n, gap, on) =>
    if !a.pwm.gates || a.com.want.isSome || n ≤ a.com.ends.length then s
    else
      let p0 := a.com.pulse0.getD a.pwm.pts
      let k := a.pwm.pts - p0
      if k % gap ≠ 0 then s
      else
        let ends := match a.com.pulse with | some p => (p.until_, p.i) :: a.com.ends | none => a.com.ends
        let m := k / gap
        let p := if m < n then some (s.newPulse l m t on) else none
        s.modAx l fun a => { a with com := { a.com with pulse0 := some p0, ends := ends, pulse := p, satPulse := min m 15 } }

/-- The end current of a pulse along its own direction, A (R116). -/
def endAlong (m : Nat) (v : Vec2) : Q := v.x * cosRev (pulseAngle m) + v.y * sinRev (pulseAngle m)

/-- The end currents of the twelve pulses, in order. -/
def Com.endsOf (c : Com) : Vector Q 12 :=
  Vector.ofFn fun m => endAlong m.val ((c.ends.reverse.getD m.val (0, ⟨0, 0⟩)).2)

/-- The twelve pulses have run (R104, R116, R117). -/
def State.satDone (s : State) (l : AxisNo) : State :=
  let c := s.ax[l].com
  if c.mode ≠ .satStart ∨ c.ends.length < 12 ∨ c.want.isSome then s
  else
    let ends := c.endsOf
    let hi := endAt ends (largest ends)
    let lo := ends.toList.foldl min hi
    if hi - lo < s.pq P.comScont l * hi then
      if c.satRuns = 0 then
        s.modAx l fun a => { a with com := { a.com with satRuns := 1, since := s.clk.lclk, ends := [], pulse0 := none } }
      else s.startFailed l 4
    else s.wantMode l (.found (foundAngle ends) 0 (sgn c.dir / 4) s.clk.lclk)

/-- SATURATION_PULSE_DONE (R117). -/
def execSaturationPulseDone (l : AxisNo) (now : Ns) (s : State) : Host.Outcome State Fault Refusal := .next ((s.at now).satDone l)

/-- The back-EMF of the two zero-vector pulses decides (R118, R119). -/
def State.probeDone (s : State) (l : AxisNo) : State :=
  let c := s.ax[l].com
  match c.mode, c.want, c.ends with
  | .catching, none, [(t2, i2), (t1, i1)] =>
    let g := -(s.pq P.elecL l / 1000000) / (s.pq P.comTzv l / 1000000)
    let mag := fun (v : Vec2) => sqrtQ ((g * v.x) * (g * v.x) + (g * v.y) * (g * v.y))
    let ang := fun (v : Vec2) => atan2Rev (g * v.y) (g * v.x)
    let e := (mag i1 + mag i2) / 2
    let w := divF (toRad (wrapRev (ang i2 - ang i1))) (secs t2 t1)
    let th := ang i2 - sgn w / 4
    s.wantMode l (if e ≤ s.pq P.comEcatch l then .rest
      else if c.dir = 0 ∨ c.dir = sgnI w then .found th w 0 t2
      else .braking th w t2)
  | _, _, _ => s

/-- PROBE_DONE (R118, R119). -/
def execProbeDone (l : AxisNo) (now : Ns) (s : State) : Host.Outcome State Fault Refusal := .next ((s.at now).probeDone l)

/-! ## I/f start -/

/-- The end of the Check phase (R115). -/
def State.ifCheck (s : State) (l : AxisNo) : State :=
  let c := s.ax[l].com
  let want := |c.olSpeed| * (s.pq P.elecPsi l / 1000)
  let mean := if c.emfN = 0 then 0 else c.emfSum / c.emfN
  if |mean - want| ≤ s.pq P.comEtol l * want then
    s.wantMode l .stepped
  else if s.pn P.comIfn l ≤ c.attempt + 1 then s.startFailed l 3
  else
    (s.modAx l fun a => { a with com := { a.com with phase := .wait, since := s.clk.lclk, attempt := c.attempt + 1 } }).raise
      0x6003 .grey (some l) [BitVec.ofNat 32 c.attempt]

/-- IF_START_PHASE_END (R114, R115). -/
def execIfStartPhaseEnd (l : AxisNo) (now : Ns) (s : State) : Host.Outcome State Fault Refusal :=
  let s := s.at now
  let c := s.ax[l].com
  let goPh := fun (p : IfPhase) => s.modAx l fun a =>
    { a with com := { a.com with phase := p, since := s.clk.lclk, emfSum := 0, emfN := 0 } }
  .next (if c.mode ≠ .ifStart then s
  else match c.phase with
    | .align => if s.since c.since (ms (s.pn P.comTifa l)) then goPh .ramp else s
    | .ramp => if s.pq P.comWif l * twoPi ≤ |c.olSpeed| then goPh .check else s
    | .check => if s.since c.since (ms (s.pn P.comTifc l)) then s.ifCheck l else s
    | .wait => s)

/-- IF_RETRY_WAIT_END: the current has fallen in 1 ms and 10 ms have passed; the next attempt begins 120° on (R114, R115). -/
def execIfRetryWaitEnd (l : AxisNo) (now : Ns) (s : State) : Host.Outcome State Fault Refusal :=
  let s := s.at now
  let c := s.ax[l].com
  .next (if c.mode = .ifStart ∧ c.phase = .wait ∧ s.since c.since (ms 11) then
    s.modAx l fun a =>
      { a with com := { a.com with phase := .align, since := s.clk.lclk, olSpeed := 0,
                                   olTheta := fracQ (s.pq P.comIfang l / 360 + (c.attempt : Q) / 3) } }
  else s)

/-! ## D-axis braking -/

/-- D_AXIS_BRAKING_TIMEOUT: com.tbrk in CMODE 6h (R120). -/
def execDAxisBrakingTimeout (l : AxisNo) (now : Ns) (s : State) : Host.Outcome State Fault Refusal :=
  let s := s.at now
  let c := s.ax[l].com
  .next (if c.mode = .braking ∧ s.since c.brkAt (ms (s.pn P.comTbrk l)) then s.startFailed l 6 else s)

/-- D_AXIS_BRAKING_WAIT_END: the current has fallen in 1 ms and 10 ms have passed (R120). -/
def execDAxisBrakingWaitEnd (l : AxisNo) (now : Ns) (s : State) : Host.Outcome State Fault Refusal :=
  let s := s.at now
  let c := s.ax[l].com
  .next (if c.mode = .braking ∧ c.brkWait ∧ s.since c.since (ms 11) then s.wantMode l .rest else s)

/-! ## Alignment run -/

/-- ALIGN_HOLD_END: com.off is written and logged, and the run completes (R106). -/
def execAlignHoldEnd (l : AxisNo) (now : Ns) (s : State) : Host.Outcome State Fault Refusal :=
  let s := s.at now
  let c := s.ax[l].com
  match c.align, c.alignOp with
  | some .hold, some o =>
    if s.since c.since (ms (s.pn P.comTalign l)) then
      let off := toFix 32 (fracQ (-(s.pp l * (s.comAt l s.ax[l].fb.mov : Q) / s.countsPerRev l)))
      let s := s.applyWrite o.req.src o.req.tag (P.comOff.pid l.val 0) off
      let s := s.modAx l fun a => { a with com := { a.com with align := none, alignOp := none } }
      .next ((s.raise 0x6002 .grey (some l) [off]).complete o 0 [0])
    else .next s
  | _, _ => .next s

/-- The run has turned 2 × elec.pp revolutions without an index event: FAULT = 9h and LOSS = 3h (R106). The result code of
the completion is open (log entry 16). -/
def State.alignFailed (s : State) (l : AxisNo) : State :=
  let o := s.ax[l].com.alignOp
  let s := s.modAx l fun a => { a with com := { a.com with align := none, alignOp := none } }
  let s := (s.axisFault l 9).noteLoss l 3 true
  s.tickFree.completeIf o 0 [Config.freeWord s.free]

/-! ## The sample's part -/

/-- The mode change that waits, made at the start of a sample at its sampling instant (R101, R104, R115, R117 to R119). -/
def State.applyMode (s : State) (l : AxisNo) (inst : Ns) (dt : Q) : State :=
  let c := s.ax[l].com
  let s := s.modAx l fun a => { a with com := { a.com with want := none } }
  match c.want with
  | none => s
  | some .start => s.startCommutation l
  | some .rest => s.startRest l
  | some .stepped => let th := c.olTheta + toRev (c.olSpeed * dt); s.startDone l th th c.olSpeed
  | some (.found th w off t) => let th := th + toRev (w * secs inst t); s.startDone l th (th + off) w
  | some (.braking th w t) =>
    (s.setMode l .braking).modAx l fun a =>
      { a with com := { a.com with bemfTheta := fracQ (th + toRev (w * secs inst t)), bemfSpeed := w, since := s.clk.lclk,
                                   brkAt := s.clk.lclk, brkWait := false } }

/-- The commanded direction: from the target, the speed or the force set-point of the loop in force (R119). -/
def State.commandDir (s : State) (l : AxisNo) : Int :=
  let a := s.ax[l]
  if a.cas.loop = 2 then (if a.win.written then sgnI ((a.win.front.target - a.fb.pos64 : Int) : Q) else 0)
  else if a.cas.loop = 3 then sgnI (a.win.front.value - a.del.force)
  else sgnI a.win.front.value

/-- A new target in CMODE 6h whose direction agrees with the rotor's catches at once (R120). -/
def State.catchBraking (s : State) (l : AxisNo) : State :=
  let c := s.ax[l].com
  let d := s.commandDir l
  let s := if c.mode = .ifStart then s else s.modAx l fun a => { a with com := { a.com with dir := d } }
  if c.mode = .braking ∧ !c.brkWait ∧ d ≠ c.dir ∧ d ≠ 0 ∧ d = sgnI c.bemfSpeed then s.startDone l c.bemfTheta c.bemfTheta c.bemfSpeed
  else s

/-- The mode changes of a sample: one that waits, a catch while braking, and the fallback after a sensor loss (R101, R109, R120). -/
def State.modeChanges (s : State) (l : AxisNo) (inst : Ns) (dt : Q) : State :=
  let s := (s.applyMode l inst dt).catchBraking l
  let a := s.ax[l]
  let s := s.modAx l fun a => { a with fb := { a.fb with lossAct := false, idxSave := none } }
  if a.fb.lossAct && a.com.mode == CMode.sensored && a.fault == 0 then s.loseSensor l dt else s

/-- The vectors of a sample in the mode in force: the open-loop angle, the starts' imposed vectors and the back-EMF estimate (R109 to
R114, R120). Without a speed loop ω_ol follows the last w_ref of the cascade (R110, log entry 41). -/
def State.advanceMode (s : State) (l : AxisNo) (dt : Q) : State :=
  let a := s.ax[l]
  match a.com.mode with
  | .stepped =>
    let w := toward a.com.olSpeed (a.cas.wRef * s.pp l) (s.pq P.comAol l * twoPi * dt)
    let b := s.nextBand l a.com.band w
    s.modAx l fun a =>
      { a with com := { a.com with olSpeed := w, band := b, olTheta := fracQ (a.com.olTheta + toRev (w * dt)) } }
  | .ifStart =>
    let d : Q := if a.com.dir < 0 then -1 else 1
    let top := s.pq P.comWif l * twoPi
    let w := match a.com.phase with
      | .ramp => toward a.com.olSpeed (d * top) (s.pq P.comAif l * twoPi * dt)
      | .check => d * top
      | _ => 0
    let w := if a.com.phase = .wait then a.com.olSpeed else w
    s.modAx l fun a => { a with com := { a.com with olSpeed := w, olTheta := fracQ (a.com.olTheta + toRev (w * dt)) } }
  | .braking =>
    let c := a.cur
    let (dth, w) := Config.bemf (c.vd, c.vq) (c.id, c.iq) ((c.id - c.idPrev) / dt, (c.iq - c.iqPrev) / dt) dt
      (s.pq P.elecR l, s.pq P.elecL l / 1000000, s.pq P.elecPsi l / 1000) a.com.bemfSpeed
    let slow := decide (|w| * (s.pq P.elecPsi l / 1000) ≤ s.pq P.comEcatch l)
    s.modAx l fun a =>
      { a with com := { a.com with bemfSpeed := w, bemfTheta := fracQ (a.com.bemfTheta + dth),
                                   brkWait := a.com.brkWait || slow,
                                   since := if slow && !a.com.brkWait then s.clk.lclk else a.com.since } }
  | _ => s

/-- The commutation of one sample: COMCNT, the mode changes, and the vectors of a mode that goes on; a mode entered in this sample begins
with the vector its entry gives it (R102, R105, R109). The vector of an alignment run turns at one electrical revolution per second
(R106). -/
def State.commutate (s : State) (l : AxisNo) (mov : Word) (inst : Ns) (dt : Q) : State :=
  let n := s.comAt l mov
  let s := s.modAx l fun a => { a with com := { a.com with count := n, ref := mov } }
  let m0 := s.ax[l].com.mode
  let s := s.modeChanges l inst dt
  match s.ax[l].com.align with
  | some (.turning x) =>
    if 2 * s.pp l ≤ x then s.alignFailed l
    else s.modAx l fun a => { a with com := { a.com with align := some (.turning (x + dt)), olTheta := fracQ (a.com.olTheta + dt) } }
  | some .hold => s.modAx l fun a => { a with com := { a.com with olTheta := 0 } }
  | none => if s.ax[l].com.mode = m0 then s.advanceMode l dt else s

/-- θ_s and w_e of a sample, by commutation mode (R102, R107, R110, R114, R120). -/
def State.angleSpeed (s : State) (l : AxisNo) : Q × Q :=
  let c := s.ax[l].com
  if c.align.isSome then (c.olTheta, 0)
  else match c.mode with
    | .stepped => (c.app, c.olSpeed)
    | .ifStart => (c.olTheta, c.olSpeed)
    | .braking => (c.bemfTheta, c.bemfSpeed)
    | _ => (s.sensorAngle l, s.pp l * s.speedRaw l)

end Sys2Proof.Machine
end

