-- ==== Sys2Proof/Machine/Roles.lean ====
section
/-!
DEFINITION. What an axis serves: its steered axle, the hand-wheel, its braked wheel (R202, R228), the windings of a motor, and
the evaluation of tables (R55).
-/

namespace Sys2Proof.Machine

/-- The enabled axle whose motor a package axis drives (R202). -/
def State.axleP (s : State) (p : Nat) : Option (Fin 3) :=
  if s.kindP p = 1 then
    (fins 3).find? fun n => (s.pw P.sbwEn).getLsbD n.val && s.pn P.sbwMotor 0 n == s.motorP p
  else none

/-- The enabled axle whose motor a local axis drives. -/
def State.axle (s : State) (l : AxisNo) : Option (Fin 3) := s.axleP (s.pkg l)

/-- A package axis of the hand-wheel (R202). -/
def State.handP (s : State) (p : Nat) : Bool := s.kindP p == 2 && s.motorP p == s.pn P.sbwHwmotor

/-- A local axis of the hand-wheel. -/
def State.hand (s : State) (l : AxisNo) : Bool := s.handP (s.pkg l)

/-- The enabled wheel whose caliper a package axis drives (R228). -/
def State.wheelP (s : State) (p : Nat) : Option (Fin 8) :=
  if s.kindP p = 3 then
    (fins 8).find? fun w => (s.pw P.bwEn).getLsbD w.val && s.pn P.bwMotor 0 w == s.motorP p
  else none

/-- The enabled wheel whose caliper a local axis drives. -/
def State.wheel (s : State) (l : AxisNo) : Option (Fin 8) := s.wheelP (s.pkg l)

/-- The package axes that drive a motor of a kind. -/
def State.windings (s : State) (kind motor : Nat) : List (Fin 24) :=
  (fins 24).filter fun p => s.kindP p.val = kind ∧ s.motorP p.val = motor

/-- A winding counts as lost (R219). -/
def State.windLost (s : State) (p : Fin 24) : Bool :=
  let g : Fin 3 := ⟨p.val / 8, by omega⟩
  let l : AxisNo := ⟨p.val % 8, Nat.mod_lt _ (by decide)⟩
  ((s.brake.wind[g])[l]).lost

/-- The factor on inertia and speed gains of the remaining winding while the other one of the motor is lost (R220, R242). -/
def State.share (s : State) (l : AxisNo) : Q :=
  let own := s.windLost ⟨8 * s.grp.val + l.val, by have := s.grp.isLt; omega⟩
  match s.axle l, s.wheel l with
  | some n, _ => if s.steer.half[n] && !own then 2 else 1
  | _, some w => if s.brake.half[w] && !own then 2 else 1
  | none, none => 1

/-- Linear interpolation in a table of points; of equal breakpoints the later applies; outside it the end values hold (R55). -/
def tableGo (x : Q) : Q × Q → List (Q × Q) → Q
  | (_, y0), [] => y0
  | (x0, y0), (x1, y1) :: r =>
    if x1 ≤ x then tableGo x (x1, y1) r
    else if x ≤ x0 then y0
    else y0 + (y1 - y0) * (x - x0) / (x1 - x0)

/-- The value of a table at a point (R55). -/
def tableAt (pts : List (Q × Q)) (x : Q) : Q :=
  match pts with
  | [] => 0
  | p :: r => tableGo x p r

/-- The points of a table given by two parameter rows. -/
def State.points (s : State) (xs ys : PSpec) (n l : Nat := 0) : List (Q × Q) :=
  (List.range n).map fun i => (s.pq xs l i, s.pq ys l i)

/-- F_cur, kN: the clamp force from current (R229). -/
def State.fCur (s : State) (l : AxisNo) : Q :=
  let two : Q := match s.wheel l with | some w => if s.brake.half[w] then 1 else 2 | none => 1
  two * s.ax[l].cur.iq * s.kt l * twoPi * s.pq P.bwEta / s.pq P.bwLead

/-- Piston travel x, mm (R229). -/
def State.travel (s : State) (l : AxisNo) : Q :=
  ((s.ax[l].fb.pos64 : Q) - s.brake.pc[l]) * s.pq P.bwLead / s.cm l

/-- The table force of R229: the virtual spring in the gap, else the stiffness table. -/
def State.fTab (s : State) (l : AxisNo) : Q :=
  let x := s.travel l
  if x ≤ 0 then s.pq P.bwKvirt * x else tableAt (s.points P.bwSx P.bwSf 8) x

/-- F_act as a kernel forms it (R229). -/
def State.fAct (s : State) (l : AxisNo) : Q := if s.brake.cref[l] then s.fTab l else s.fCur l

/-- F_act as the axis takes it: F_cur while FIMP is set (R232). -/
def State.fUse (s : State) (l : AxisNo) : Q := if s.brake.fimp[l] then s.fCur l else s.ax[l].del.force

end Sys2Proof.Machine
end

