-- ==== Sys2Proof/Machine/Cascade.lean ====
section
/-!
DEFINITION. The cascade of an axis: position, clamp-force and speed loops, integrator presets, the axis-level safe stop, and the
plausibility checks (R130 to R146, R264 to R267).
-/

namespace Sys2Proof.Machine

/-- The loops of an axis act: enabled and running in CMODE 1h or 2h, or shadowed in STANDBY (R66, R137, R139). -/
def State.acts (s : State) (l : AxisNo) : Bool :=
  let a := s.ax[l]
  s.axEn l && a.fault == 0 && (a.com.mode == CMode.sensored || a.com.mode == CMode.stepped) && a.com.align.isNone

/-- A change of the cascade of one axis. -/
def State.modCas (s : State) (l : AxisNo) (f : Cas → Cas) : State := s.modAx l fun a => { a with cas := f a.cas }

/-- Two quantities have one sign, both non-zero. -/
def sameSign (x y : Q) : Bool := decide (0 < x * y)

/-- T_s and T_p, the nominal periods of the speed and the position loop, s (R19, R141). -/
def State.tS (s : State) (l : AxisNo) : Q := s.pn P.casN1 l * s.tcQ l
/-- T_p. -/
def State.tP (s : State) (l : AxisNo) : Q := s.pn P.casN2 l * s.tcQ l

/-! ## Position and clamp-force ticks -/

/-- The buffer swap at the start of a position tick, and the age of the set-point in use (R25, R142). -/
def State.swapWin (s : State) (l : AxisNo) : State :=
  let w := s.ax[l].win
  if w.fresh then
    s.modAx l fun a =>
      { a with win := { a.win with front := a.win.back, back := { a.win.back with tag := none }, fresh := false,
                                   written := true, swapAt := s.gt }
               cas := { a.cas with spage := false, hold := false } }
  else s.modCas l fun c => { c with spage := c.spage || decide (w.swapAt + 3000000 < s.gt) }

/-- A change of cas.loop takes effect: each loop that begins to act presets its integrator; toward a lower loop the set-point
last received stays (R137). -/
def State.changeLoop (s : State) (l : AxisNo) (n : Nat) : State :=
  let o := s.ax[l].cas.loop
  if n = o then s
  else
    s.modAx l fun a =>
      { a with
        cas := { a.cas with loop := n, hold := a.cas.hold || decide (n < o), wWin := a.cas.wRef, fRef := a.cas.fRef,
                            enterS := a.cas.enterS || decide (o = 0), enterP := a.cas.enterP || decide (n = 2),
                            enterF := a.cas.enterF || decide (n = 3) }
        prof := { a.prof with enter := a.prof.enter || decide (n = 2) } }

/-- The speed set-point in use when an outer loop is entered: w_act when the speed loop was not running (R136). -/
def Cas.wUse (c : Cas) : Q := if c.enterS then c.wAct else c.wRef

/-- A host preset that a tick applies: one of the AXIS cycle in which the tick starts, or later, waits for the tick after (R138). -/
def State.presetNow (s : State) (l : AxisNo) (p : Option (Q × Ns)) : Option Q :=
  (p.filter fun x => decide (x.2 / 5 < s.ax[l].sch.start / 5)).map Prod.fst

/-- An integrator preset to a value, clamped to its limit, and whether the clamp acts (R136, R138). -/
def presetTo (v lim : Q) : Q × Bool := let i := clampQ v (-lim) lim; (i, decide (i ≠ v))

/-- The position loop: p_ref and v_prof from the plan in force at the tick's own sampling instant (R132, R136, R138, R150). -/
def State.posLoop (s : State) (l : AxisNo) (inst : Ns) : State :=
  let a := s.ax[l]
  let c := a.cas
  let x := s.profRef l inst c.wAct
  let ep := (x.p - a.fb.pos64) / s.perRad l
  let lim := s.pq P.casIplim l
  let kpp := s.pq P.casKpp l
  let dt := match a.sch.lastP with | some t => secs inst t | none => s.tP l
  let pre := s.presetNow l c.preP
  let (i, cut) := match pre, c.enterP with
    | some v, _ => presetTo v lim
    | none, true => presetTo (c.wUse - kpp * ep - s.pq P.casKvff l * x.v) lim
    | none, false => (if c.wlim && sameSign ep c.wPos then c.intP else clampQ (c.intP + s.pq P.casKip l * ep * dt) (-lim) lim, false)
  s.modCas l fun c =>
    { c with ep := ep, intP := i, wPos := kpp * ep + i, psP := pre.isSome || c.enterP, iwfP := cut,
             preP := if pre.isSome then none else c.preP, enterP := false }

/-- The clamp-force loop; a tick that presets I_F takes the nominal period (R133, R136, R138, R141). -/
def State.forceLoop (s : State) (l : AxisNo) (inst : Ns) : State :=
  let a := s.ax[l]
  let c := a.cas
  let pre := s.presetNow l c.preF
  let dt := match a.sch.lastP with | some t => if pre.isSome || c.enterF then s.tP l else secs inst t | none => s.tP l
  let f := s.fUse l
  let goal := if a.ss.ssa then 0 else a.win.front.value
  let ref := if c.enterF then f else if a.ss.ssa then 0 else toward c.fRef goal (s.pq P.casFslew l * dt)
  let e := ref - f
  let lim := s.pq P.casIflim l
  let kpf := s.pq P.casKpf l
  let (i, cut) := match pre, c.enterF with
    | some v, _ => presetTo v lim
    | none, true => presetTo (c.wUse - kpf * e) lim
    | none, false => (if c.wlim && sameSign e c.wPos then c.intF else clampQ (c.intF + s.pq P.casKif l * e * dt) (-lim) lim, false)
  s.modCas l fun c =>
    { c with fRef := ref, intF := i, wPos := kpf * e + i, psP := pre.isSome || c.enterF, iwfP := cut,
             preF := if pre.isSome then none else c.preF, enterF := false }

/-- In position and following error, counted at a position tick (R145, R160). A clear of FERR comes at once; its setting is the
row FOLLOWING_ERROR. -/
def State.posChecks (s : State) (l : AxisNo) : State :=
  let a := s.ax[l]
  let e := |a.cas.ep|
  let ins := a.prof.done && decide (e ≤ s.pq P.profInpos l)
  let n := if ins then a.prof.inposN + 1 else 0
  let fe := s.pq P.casFerr l
  let out := decide (fe ≠ 0 ∧ fe < e)
  let fn := s.pn P.casFerrn l
  s.modAx l fun a =>
    let ok := if out then 0 else a.cas.ferrOk + 1
    { a with
      prof := { a.prof with inposN := n, inpos := decide (s.pn P.profInposn l ≤ n) && ins }
      cas := { a.cas with ferrN := if out then a.cas.ferrN + 1 else 0, ferrOk := ok,
                          ferr := a.cas.ferr && decide (ok < fn) } }

/-- The following error has stood long enough: FERR and its event, once (R145). -/
def State.followError (s : State) (l : AxisNo) : State :=
  let c := s.ax[l].cas
  if c.ferr ∨ c.ferrN < s.pn P.casFerrn l then s
  else (s.modCas l fun c => { c with ferr := true, ferrOk := 0 }).raise 0x3005 .amber (some l) [toFix 16 c.ep]

/-- FOLLOWING_ERROR (R145). -/
def execFollowingError (l : AxisNo) (now : Ns) (s : State) : Out := .next ((s.at now).followError l)

/-- A position tick: swap, loop change, the outer loop (R19, R25, R132, R133, R137). The shadow of a lane in STANDBY first takes
I_p and I_F from a mirror that arrived since its last tick, in place of a preset (R139). -/
def State.posTick (s : State) (l : AxisNo) (inst : Ns) : State :=
  let s := s.followError l
  let s := s.swapWin l
  let s := s.changeLoop l (s.pn P.casLoop l)
  let s := if s.standby && s.ax[l].mir.loadP then
      s.modAx l fun a => { a with mir := { a.mir with loadP := false }
                                  cas := { a.cas with intP := ofFixS 16 (s.mirWord l 7), intF := ofFixS 16 (s.mirWord l 8),
                                                      fRef := ofFixS 16 (s.mirWord l 23), enterP := false, enterF := false } }
    else s
  let s := if !s.acts l then s
    else if s.ax[l].cas.loop = 2 then (s.posLoop l inst).posChecks l
    else if s.ax[l].cas.loop = 3 then s.forceLoop l inst
    else s
  s.modAx l fun a => { a with sch := { a.sch with lastP := if s.acts l then some inst else none } }

/-! ## Axis-level safe stop -/

/-- An axis-level safe stop begins, or a further cause is reported (R264). -/
def State.ssStart (s : State) (l : AxisNo) (cause : Nat) : State :=
  if s.ax[l].ss.ssa then s.raise 0xA002 .crimson (some l) [BitVec.ofNat 32 cause]
  else
    let a := s.ax[l]
    let s := s.modAx l fun a =>
      { a with
        ss := { a.ss with ssa := true, ssk := s.pn P.ssKind l == 1, w0 := a.cas.wAct, t0 := s.clk.lclk, still := 0, due := false }
        cas := { a.cas with wWin := if a.cas.loop = 1 then (if a.cas.hold then a.cas.wWin else a.win.front.value) else a.cas.wRef } }
    let s := if a.cas.loop = 2 then (s.stopAxis l a.sch.inst (s.stopDec l) 5).1
      else if a.cas.loop = 0 then s.modAx l fun a => { a with cur := { a.cur with iqHeld := 0 } }
      else s
    s.raise 0xA002 .crimson (some l) [BitVec.ofNat 32 cause]

/-- The monitor and the removal conditions at a speed tick (R265, R266); ss.tmax does not apply to steering axes during a
vehicle-level stop (R269). -/
def State.ssTick (s : State) (l : AxisNo) : State :=
  let a := s.ax[l]
  if !a.ss.ssa || a.ss.ssoff then s
  else
    let t : Q := secs s.clk.lclk a.ss.t0
    let w := |a.cas.wAct|
    let bad := !a.ss.ssk && decide (max (|a.ss.w0| - s.pq P.ssDmon l * t) 0 + s.pq P.ssWtol l < w)
    let still := if w ≤ s.pq P.ssWstop l then a.ss.still + 1 else 0
    let steer := s.kind l = 1 ∨ s.kind l = 2
    let tmax := s.since a.ss.t0 (ms (s.pn P.ssTmax l)) && !(steer && decide (s.safe.phase ≠ .none))
    let s' := s.modAx l fun a =>
      { a with ss := { a.ss with still := still, ssv := a.ss.ssv || bad,
                                 due := a.ss.due || bad || tmax || (!a.ss.ssk && decide (4 ≤ still)) } }
    if bad && !a.ss.ssv then s'.raise 0xA003 .crimson (some l) [toFix 16 a.cas.wAct] else s'

/-- Torque is removed: gates low, the axis disabled, SSOFF; with both axes of the pair off the supervisor demands torque-off
(R262, R266). In STANDBY the flags follow in shadow. -/
def State.ssRemove (s : State) (l : AxisNo) : State :=
  if !s.ax[l].ss.due then s
  else
    let k := pairOf l
    let s := s.modAx l fun a =>
      let a := { a with ss := { a.ss with ssoff := true, due := false } }
      if s.standby then a else a.disable
    let s := s.syncDrive
    if s.ax[loAx k].ss.ssoff && s.ax[hiAx k].ss.ssoff then
      (s.modPair k fun p => { p with toDemand := true }).torqueOff k
    else s

/-- AXIS_SAFESTOP_REMOVAL (R266). -/
def execAxisSafestopRemoval (l : AxisNo) (now : Ns) (s : State) : Out := .next ((s.at now).ssRemove l)

/-- SSSTAT (R267). -/
def Axis.ssstat (a : Axis) : Word := bitAt a.ss.ssoff 3 ||| bitAt a.ss.ssv 2 ||| bitAt a.ss.ssk 1 ||| bitAt a.ss.ssa 0

/-! ## Speed check (R143) -/

/-- The check of a window that has ended, over the speed ticks whose sampling instants fell in it; a window without a speed of its own or
without a tick has none. The sums of the next window begin. -/
def State.windowCheck (s : State) (l : AxisNo) : State :=
  let f := s.ax[l].fb
  let run := ((s.src l = 1 ∧ s.pn P.fbSpd l = 1) ∨ s.src l = 2) ∧ !s.ax[l].com.est
  match f.winEnd with
  | none => s
  | some (_, w) =>
    let s' := s.modAx l fun a => { a with fb := { a.fb with winEnd := none, winSum := 0, winN := 0 } }
    match w with
    | some w =>
      let d := w - f.winSum / f.winN
      let bad := decide (s.pq P.casPvtol l + twoPi / (s.cm l * s.winLen l) < |d|)
      if run ∧ f.winN ≠ 0 then
        s'.modCas l fun c => { c with spdN := if bad then c.spdN + 1 else 0, spdDiff := if bad then d else c.spdDiff }
      else s'
    | none => s'

/-- A speed tick's w_act goes to the window its sampling instant falls in. -/
def State.windowTick (s : State) (l : AxisNo) (inst : Ns) (w : Q) : State :=
  let s := match s.ax[l].fb.winEnd with
    | some (te, _) => if te < inst then s.windowCheck l else s
    | none => s
  s.modAx l fun a => { a with fb := { a.fb with winSum := a.fb.winSum + w, winN := a.fb.winN + 1 } }

/-! ## Speed ticks -/

/-- w_act of a speed tick: the source of R84, or after a failed speed check the change of POS64, through the low-pass (R134,
R143). -/
def State.speedActual (s : State) (l : AxisNo) (dt : Q) : Q :=
  let a := s.ax[l]
  let raw := if a.cas.spdf then ((a.fb.pos64 - a.cas.posLast : Int) : Q) / s.perRad l / dt else s.speedRaw l
  let f := s.pq P.casWflt l
  if f = 0 then raw else a.cas.wAct + Config.lowPass f dt * (raw - a.cas.wAct)

/-- w_ref before its limits: by loop (R134). A loop that an enable or a start enters begins at the measured speed, and one whose outer
loop has not ticked yet keeps the speed in use (R136, R137); in a safe stop of loop 1 the set-point slews to 0 (R264). -/
def State.speedRef (s : State) (l : AxisNo) (dt : Q) : Q :=
  let a := s.ax[l]
  if a.cas.loop = 1 then
    (if a.ss.ssa then toward a.cas.wWin 0 (s.pq P.ssDec l * dt) else if a.cas.enterW then a.cas.wAct
     else if a.cas.hold then a.cas.wWin else a.win.front.value)
  else if a.cas.loop = 2 then (if a.cas.enterP then a.cas.wUse else a.cas.wPos + s.pq P.casKvff l * a.prof.v)
  else if a.cas.loop = 3 then (if a.cas.enterF then a.cas.wUse else a.cas.wPos)
  else 0

/-- The end-stop limit on w_ref, with cas.loop 1 or 2 (R169). -/
def Axis.stopLimit (a : Axis) (w : Q) : Q :=
  if a.cas.loop = 1 ∨ a.cas.loop = 2 then
    let w := if a.prof.eslo then max w 0 else w
    if a.prof.eshi then min w 0 else w
  else w

/-- Limits of the range of a row, as a quantity. -/
def PSpec.hiQ (p : PSpec) : Q := (p.hi : Q) / ((2 ^ p.frac : Nat) : Q)

/-- cas.kps and cas.kis in force, with the share of a lost winding (R220, R242). -/
def State.speedGains (s : State) (l : AxisNo) : Q × Q :=
  let h := s.share l
  (min (h * s.pq P.casKps l) P.casKps.hiQ, min (h * s.pq P.casKis l) P.casKis.hiQ)

/-- The speed loop (R134 to R138, R220). A tick that presets I_w does not integrate. -/
def State.speedLoop (s : State) (l : AxisNo) (dt : Q) : State :=
  let a := s.ax[l]
  let c := a.cas
  let raw := s.speedRef l dt
  let wm := s.pq P.casWmax l
  let wRef := a.stopLimit (clampQ raw (-wm) wm)
  let ew := wRef - c.wAct
  let iff := if c.loop = 2 then s.pq P.casKaff l * (s.share l * s.pq P.casJ l / 10000000) * a.prof.a / s.kt l else 0
  let (kps, kis) := s.speedGains l
  let lim := s.pq P.casIwlim l
  let pre := s.presetNow l c.preW
  let freeze := (a.cur.limSince && sameSign ew a.cur.iqHeld) || (decide (lim = |c.intW|) && sameSign c.intW ew)
  let (i, flag) := match pre, c.enterS with
    | some v, _ => presetTo v lim
    | none, true => presetTo (a.cur.iqHeld - kps * ew - iff) lim
    | none, false => (if freeze then c.intW else clampQ (c.intW + kis * ew * dt) (-lim) lim, freeze)
  let stepped := a.com.mode == CMode.stepped
  s.modAx l fun a =>
    { a with
      cas := { a.cas with wRef := wRef, wWin := if a.cas.loop = 1 then raw else a.cas.wWin, wlim := decide (raw < -wm ∨ wm < raw),
                          ew := ew, iff := iff, intW := i, iwf := flag, psS := pre.isSome || c.enterS,
                          preW := if pre.isSome then none else c.preW, enterS := false, enterW := false }
      cur := { a.cur with iqHeld := if stepped then a.cur.iqHeld else kps * ew + i + iff, limSince := false } }

/-- The set-point of the current loop alone: the window's i_q (R130, R264). -/
def State.loopZero (s : State) (l : AxisNo) : State :=
  s.modAx l fun a =>
    let i := if a.ss.ssa then 0 else if a.cas.hold then a.cur.iqHeld else a.win.front.value
    { a with cur := { a.cur with iqHeld := i, limSince := false }, cas := { a.cas with iwf := false, wlim := false } }

/-- The learning of a caliper's contact point at a speed tick of an application (R230). -/
def State.learnContact (s : State) (l : AxisNo) : State :=
  match s.wheel l with
  | none => s
  | some w =>
    if !s.brake.applying[l] ∨ s.fCur l < s.pq P.bwFcont then s
    else
      let pm : Q := s.ax[l].fb.pos64
      let d := pm - s.brake.pc[l]
      let step := s.pq P.bwCstep * s.cm l / s.pq P.bwLead
      let s := s.modBrake fun b => { b with applying := vset b.applying l false, csearch := vset b.csearch l false }
      if !s.brake.cref[l] then s.modBrake fun b => { b with pc := vset b.pc l pm, cref := vset b.cref l true }
      else if |d| ≤ 4 * step then s.modBrake fun b => { b with pc := vset b.pc l (s.brake.pc[l] + clampQ (d / 4) (-step) step) }
      else s.raise 0x9001 .amber (some l) [BitVec.ofNat 32 w.val]

/-- The sums that the vehicle cycle reads: i_q and F_act for the publication, the two forces of a caliper (R204, R232, R233). -/
def State.cycleSums (s : State) (l : AxisNo) : State :=
  let iq := s.ax[l].cur.iq
  let f := s.fUse l
  let ft := s.fTab l
  let fc := s.fCur l
  let slow := decide (|s.ax[l].cas.wAct| < s.pq P.bwWplaus)
  s.modBrake fun b =>
    { b with sumIq := vmod b.sumIq l (· + iq), sumF := vmod b.sumF l (· + f), sumTab := vmod b.sumTab l (· + ft),
             sumCur := vmod b.sumCur l (· + fc), sumN := vmod b.sumN l (· + 1), slow := vmod b.slow l (· && slow) }

/-- dt_s: the measured interval, or the nominal period at the first tick and at a preset (R141). -/
def State.dtS (s : State) (l : AxisNo) (inst : Ns) : Q :=
  let a := s.ax[l]
  let n := s.tS l
  match a.sch.lastS with
  | none => n
  | some t => if a.cas.enterS || (s.presetNow l a.cas.preW).isSome || decide (inst ≤ t) then n else secs inst t

/-- The generator taken from an axis mirror in STANDBY: state, plan phase, target, DONE and ABORT at the mirror's sampling instant, with the
plan from there (R158, R161, R322). The events of that plan are the sender's. -/
def State.profMirror (s : State) (l : AxisNo) : State :=
  let w := s.mirWord l
  let t := s.localOf s.ax[l].mir.ts
  let tgt := int64 (w 14) (w 15)
  let s := s.modAx l fun a =>
    { a with
      mir := { a.mir with loadG := false }
      prof := { a.prof with p := int64 (w 16) (w 17) + ofFixU 32 (w 18), v := ofFixS 16 (w 19), a := ofFixS 8 (w 20), enter := false,
                            done := (w 2).getLsbD 14, abort := (w 2).getLsbD 6 } }
  let x := if (w 2).getLsbD 6 then (s.stopAxis l t (s.stopDec l) 5).1 else s.adoptPlan l t tgt
  let x := x.modAx l fun a =>
    { a with prof := { a.prof with ph0 := ((w 3 >>> 20).toNat % 16, (w 21).toNat / 256 / 1000000), done := (w 2).getLsbD 14,
                                   esStop := decide ((w 2 >>> 28).toNat = 6) } }
  { s with ax := x.ax }

/-- The measured speed of a speed tick, before the loops of its sample. A mirror that arrived in STANDBY first gives I_w, in place of a
preset, and the generator's state and target (R134, R139, R143, R158). -/
def State.speedMeasure (s : State) (l : AxisNo) (inst : Ns) : State :=
  let s := if s.standby && s.ax[l].mir.loadS then
      s.modAx l fun a => { a with mir := { a.mir with loadS := false }
                                  cas := { a.cas with intW := ofFixS 16 (s.mirWord l 6), enterS := false, enterW := false } }
    else s
  let s := if s.standby && s.ax[l].mir.loadG && s.ax[l].cas.loop = 2 then s.profMirror l else s
  let w := s.speedActual l (s.dtS l inst)
  s.modCas l fun c => { c with wAct := w }

/-- A speed tick up to the current loop: the profile step, the speed loop, the safe stop (R19, R134, R150, R264). -/
def State.speedTick (s : State) (l : AxisNo) (inst : Ns) : State :=
  let dt := s.dtS l inst
  let w := s.ax[l].cas.wAct
  let s := s.windowTick l inst w
  let s := if s.acts l then
      let s := if s.ax[l].cas.loop = 2 then s.profStep l inst w else s
      if s.ax[l].cas.loop = 0 then s.loopZero l else s.speedLoop l dt
    else s
  let s := s.ssTick l
  let s := (s.learnContact l).cycleSums l
  s.modAx l fun a =>
    { a with sch := { a.sch with lastS := if s.acts l then some inst else none }
             cas := { a.cas with posLast := a.fb.pos64, posLast2 := a.cas.posLast } }

/-! ## Speed and rack checks -/

/-- The speed check has failed in cas.pvn windows: SPDF, its event, and the fallback speed (R143). -/
def State.speedFailed (s : State) (l : AxisNo) : State :=
  let c := s.ax[l].cas
  if c.spdf ∨ c.spdN < s.pn P.casPvn l then s
  else (s.modCas l fun c => { c with spdf := true }).raise 0x3003 .amber (some l) [toFix 16 c.spdDiff]

/-- SPEED_IMPLAUSIBLE (R143). -/
def execSpeedImplausible (l : AxisNo) (now : Ns) (s : State) : Out := .next ((s.at now).speedFailed l)

/-- SPEED_WINDOW_END: at a multiple of T_w in global time the window speed is formed, and the speed check of the window waits for the
speed ticks whose sampling instants fall in it (R85, R143). -/
def execSpeedWindowEnd (l : AxisNo) (now : Ns) (s : State) : Out :=
  let s := s.at now
  let k := s.gt / s.winNs l
  if !s.axOn l || s.ax[l].fb.winK == some k then .next s
  else
    let s := (s.speedFailed l).windowCheck l
    let a := s.ax[l]
    let te := s.localOf (k * s.winNs l)
    let (_, mov) := a.fb.countsAt (te + 4)
    let tw := s.winLen l
    let whole := a.fb.winK == some (k - 1)
    let v := match whole, a.fb.winMov with
      | true, some m => some (twoPi * (diff32 mov m : Q) / (s.countsPerRev l * tw))
      | _, _ => none
    let pos := if s.src l = 2 ∨ a.com.est then a.fb.pos64 else a.fb.pos64 + diff32 mov a.fb.movPrev
    let wp := match whole, a.fb.winPos with
      | true, some p => some (((pos - p : Int) : Q) / s.perRad l / tw)
      | _, _ => none
    .next (s.modAx l fun a =>
      { a with fb := { a.fb with winK := some k, winMov := some mov, winPos := some pos, winEnd := some (te, wp),
                                 winSpeed := v.getD a.fb.winSpeed, winv := a.fb.winv || v.isSome } })

/-- The rack check counted at a vehicle-cycle start (R144). Setting RACKF is the row RACK_IMPLAUSIBLE. -/
def State.rackCount (s : State) (l : AxisNo) : State :=
  let port := s.pn P.casRport l
  let gear := s.pq P.casGear l
  if h : s.kind l = 1 ∧ port < 3 ∧ gear ≠ 0 ∧ s.ax[l].fb.posSet then
    let p := s.ports[(⟨port, h.2.1⟩ : Fin 3)]
    if !p.valid then s
    else
      let d := (p.data : Q) * s.pq P.casRlsb l - (s.pq P.casRoff l + gear * s.ax[l].fb.pos64 / s.cm l)
      let bad := decide (s.pq P.casRtol l < |d|)
      s.modCas l fun c =>
        let ok := if bad then 0 else c.rackOk + 1
        { c with rackN := if bad then c.rackN + 1 else 0, rackOk := ok, rackDiff := d,
                 rackf := c.rackf && decide (ok < s.pn P.casRn l) }
  else s

/-- The rack check has failed in cas.rn cycles: RACKF and its event (R144). -/
def State.rackFailed (s : State) (l : AxisNo) : State :=
  let c := s.ax[l].cas
  if c.rackf ∨ c.rackN < s.pn P.casRn l then s
  else (s.modCas l fun c => { c with rackf := true, rackOk := 0 }).raise 0x3004 .amber (some l) [toFix 16 c.rackDiff]

/-- RACK_IMPLAUSIBLE (R144). -/
def execRackImplausible (l : AxisNo) (now : Ns) (s : State) : Out := .next ((s.at now).rackFailed l)

/-- CASSTAT (R146). -/
def Cas.stat (c : Cas) : Word :=
  bitAt c.spdf 15 ||| bitAt (decide (0 < c.spdN)) 14 ||| bitAt c.rackf 13 ||| bitAt c.ferr 12 ||| bitAt c.wlim 11 |||
    bitAt (c.iwf || c.iwfP) 10 ||| bitAt (c.psC || c.psS || c.psP) 9 ||| bitAt c.pmeas 8 ||| bitAt c.spage 7

end Sys2Proof.Machine
end

