-- ==== Sys2Proof/Machine/Flags.lean ====
section
/-!
DEFINITION. The arithmetic of the loop instruction set and the flags it sets: alignment, saturation, wrap and shift overflow
(R174, R175, R177, R183).
-/

namespace Sys2Proof.Machine

/-- A 24-bit word loaded into an accumulator: bits 46 to 23, sign-extended above, zero below (R174). -/
def alignAc (w : W24) : W56 := (w.signExtend 56) <<< 23

/-- An accumulator moved to 24 bits, and whether the move saturates (R175). -/
def moveAc (a : W56) : W24 × Bool :=
  let top : BitVec 10 := a.extractLsb' 46 10
  if top = 0 ∨ top = 0x3FF then (a.extractLsb' 23 24, false)
  else if a.msb then (0x800000, true) else (0x7FFFFF, true)

/-- An exact result in the accumulator's modulus, and whether it wraps (R174). -/
def wrapAc (x : Int) : W56 × Bool := let r := BitVec.ofInt 56 x; (r, decide (r.toInt ≠ x))

/-- The exact product of two Q1.23 words (R174). -/
def prod (b s : W24) : Int := b.toInt * s.toInt

/-- The largest and the smallest value of the accumulator operation SAT (R183). -/
def satHi : Int := 0x7FFFFF * 2 ^ 23
/-- The smallest. -/
def satLo : Int := -(2 ^ 46)

/-- The accumulator operations of class 2h (R183). -/
inductive AcOp where
  | add | sub | neg | abs | clr | asl | asr | sat | max | min | tst | rndh
  deriving DecidableEq, Repr

/-- What an accumulator operation forms from AC(D) and AC(S): the result, whether V sets, whether SAT sets. A left shift loses
a significant bit exactly when its exact value does not fit (R183). -/
def AcOp.eval (o : AcOp) (d a : W56) (sh : Nat) : W56 × Bool × Bool :=
  let w := fun (x : Int) => let (r, v) := wrapAc x; (r, v, false)
  match o with
  | .add => w (d.toInt + a.toInt)
  | .sub => w (d.toInt - a.toInt)
  | .neg => w (-a.toInt)
  | .abs => w |a.toInt|
  | .clr => (0, false, false)
  | .asl => (a <<< sh, decide ((a <<< sh).toInt ≠ a.toInt * 2 ^ sh), false)
  | .asr => (a.sshiftRight sh, false, false)
  | .sat => (BitVec.ofInt 56 (Max.max satLo (Min.min satHi a.toInt)), false, decide (a.toInt < satLo ∨ satHi < a.toInt))
  | .max => (BitVec.ofInt 56 (Max.max d.toInt a.toInt), false, false)
  | .min => (BitVec.ofInt 56 (Min.min d.toInt a.toInt), false, false)
  | .tst => (a, false, false)
  | .rndh => w (a.toInt + 2 ^ 22)

/-- V and SAT set and stay (R177). -/
def Ctx.sticky (c : Ctx) (v sat : Bool) : Ctx := { c with v := c.v || v, sat := c.sat || sat }

/-- N and Z from slice 0 of a class 2h result (R177). -/
def Ctx.flagsNZ (c : Ctx) (r : W56) : Ctx := { c with n := r.msb, z := decide (r = 0) }

/-- STAT (R177). -/
def Ctx.stat (c : Ctx) : Word :=
  (BitVec.ofNat 32 c.stack.length <<< 8) ||| bitAt c.sat 3 ||| bitAt c.v 2 ||| bitAt c.n 1 ||| bitAt c.z 0

/-- A write of STAT: SAT and V clear where a 1 is written; the rest is read-only (R4, R177). -/
def Ctx.writeStat (c : Ctx) (w : W24) : Ctx := { c with sat := c.sat && !w.getLsbD 3, v := c.v && !w.getLsbD 2 }

/-- The conditions of JCC (R181); codes 8h to Fh are reserved. -/
def Ctx.cond (c : Ctx) (k : BitVec 4) : Bool :=
  match k.toNat with
  | 0 => c.z
  | 1 => !c.z
  | 2 => c.n
  | 3 => !c.n
  | 4 => !c.n && !c.z
  | 5 => c.n || c.z
  | 6 => c.v
  | 7 => c.sat
  | _ => false

end Sys2Proof.Machine
end

