-- ==== Sys2Proof/Machine/Operands.lean ====
section
/-!
DEFINITION. The operand forms of the loop instruction set: the memories and their regions, pointers, slice and broadcast
accesses, and the register codes (R173, R176, R178, R179, R184, R187).
-/

namespace Sys2Proof.Machine

/-! ## Engines and their memories -/

/-- The engine of an identifier. -/
def State.eng (s : State) : EngineId → Engine
  | .loop l => s.ax[l].eng
  | .su => s.su.eng

/-- The state with an engine changed. -/
def State.modEng (s : State) (e : EngineId) (f : Engine → Engine) : State :=
  match e with
  | .loop l => s.modAx l fun a => { a with eng := f a.eng }
  | .su => s.modSu fun u => { u with eng := f u.eng }

/-- A number for each memory, for the vendor words that the firmware image holds. -/
def progMem : EngineId → Nat
  | .su => 0
  | .loop l => 2 + 2 * l.val
/-- The operand memory's number. -/
def operMem (e : EngineId) : Nat := progMem e + 1

/-- First address of the integrator regions and size of the memories, in words (R173, R187). -/
def progLo : EngineId → Nat | .su => 0x1400 | .loop _ => 0x500
/-- The size of program memory. -/
def progSize : EngineId → Nat | .su => 0x2000 | .loop _ => 0x800
/-- The first integrator operand address. -/
def operLo : EngineId → Nat | .su => 0x2000 | .loop _ => 0x800
/-- The size of operand memory. -/
def operSize : EngineId → Nat | .su => 0x4000 | .loop _ => 0x1000

/-- What a program word reads as while nothing has written it: the vendor image below the integrator region, zero in it
(log entry 17). -/
def progD (e : EngineId) (a : Nat) : Word := if a < progLo e then Config.vendorWord (progMem e) a else 0
/-- What an operand word reads as while nothing has written it. -/
def operD (e : EngineId) (a : Nat) : Word := if a < operLo e then Config.vendorWord (operMem e) a &&& 0x00FFFFFF else 0

/-- What the running code may do: its engine, and the range of operand addresses it may write (R187, R189). -/
structure Env where
  e : EngineId
  lo : Nat
  hi : Nat
  deriving DecidableEq, Repr

/-- The quad configuration (R173). -/
def Env.quad (v : Env) : Bool := v.e == .su

/-- The environment of an engine's run. In split mode each core writes its own half of the signal unit's region (R187);
vendor code writes anywhere. -/
def State.env (s : State) (e : EngineId) : Env :=
  let g := s.eng e
  if !g.integ then ⟨e, 0, operSize e⟩
  else if s.split && e == .su then
    (match g.ctx.act with
    | some a => if a.val < 36 then ⟨e, 0x2000, 0x3000⟩ else ⟨e, 0x3000, 0x4000⟩
    | none => ⟨e, 0x2000, 0x3000⟩)
  else ⟨e, operLo e, operSize e⟩

/-- A word of operand memory. -/
def Engine.word (g : Engine) (v : Env) (a : Nat) : W24 := (Cells.read (operD v.e) g.oper (a % operSize v.e)).setWidth 24

/-- A write of operand memory; outside the region it is suppressed and traps (R189). -/
def Engine.put (g : Engine) (v : Env) (a : Nat) (w : W24) : Engine :=
  let a := a % operSize v.e
  if v.lo ≤ a ∧ a < v.hi then { g with oper := Cells.write (operD v.e) g.oper a (w.setWidth 32) }
  else { g with ctx := { g.ctx with trap := some 0 } }

/-- The words of a slice access: one in solo, the row in quad (R178). -/
def Engine.row (g : Engine) (v : Env) (a : Nat) : Vector W24 4 :=
  if v.quad then Vector.ofFn fun j => g.word v (4 * (a / 4) + j.val) else Vector.replicate 4 (g.word v a)

/-- A store of a slice access. -/
def Engine.putRow (g : Engine) (v : Env) (a : Nat) (w : Vector W24 4) : Engine :=
  if v.quad then forFin 4 (fun j g => g.put v (4 * (a / 4) + j.val) w[j]) g else g.put v a w[(0 : Fin 4)]

/-- A per-slice register with new contents; solo has slice 0 only. -/
def perSlice {α : Type} (v : Env) (old new : Vector α 4) : Vector α 4 :=
  Vector.ofFn fun j => if v.quad || j == 0 then new[j] else old[j]

/-- A register index from a bit. -/
def two (b : Bool) : Fin 2 := if b then 1 else 0

/-! ## Pointers -/

/-- The address a pointer gives (R176). -/
def Ctx.addr (c : Ctx) (v : Env) (n : BitVec 3) : Nat := (c.p[n.toFin]).toNat % operSize v.e

/-- A pointer moved by an amount: modulo the memory, or round its circular buffer. A pointer below its base that stands in the
part of the buffer past the end of the memory counts from the base through that end (R179, log entry 18). -/
def Ctx.movePtr (c : Ctx) (v : Env) (n : BitVec 3) (by_ : Int) : Ctx :=
  let i : Fin 8 := n.toFin
  let m : Int := operSize v.e
  let p : Int := (c.p[i]).toNat
  let w : Int := (c.w[i]).toNat
  let g : Int := (c.g[i]).toNat
  let r := if w = 0 then (p + by_) % m
    else
      let d := if p < g ∧ p - g + m < w then p - g + m else p - g
      (g + (d + by_) % w) % m
  { c with p := vset c.p i (BitVec.ofInt 14 r) }

/-- The post-step of a pointer: its step Dn (R179). -/
def Ctx.stepPtr (c : Ctx) (v : Env) (n : BitVec 3) : Ctx := c.movePtr v n (c.d[(n.toFin : Fin 8)]).toInt

/-! ## Register codes (R176) -/

/-- A per-slice 24-bit reading of a register code below 8, with SAT where an accumulator saturates (R175). -/
def Ctx.read24 (c : Ctx) (v : Env) (r : Nat) : Vector W24 4 × Bool :=
  match r with
  | 0 => (Vector.replicate 4 c.b[(0 : Fin 2)], false)
  | 1 => (Vector.replicate 4 c.b[(1 : Fin 2)], false)
  | 2 => (c.s[(0 : Fin 2)], false)
  | 3 => (c.s[(1 : Fin 2)], false)
  | 4 | 5 =>
    let a := c.ac[two (r = 5)]
    (a.map fun x => (moveAc x).1, (fins 4).any fun j => (v.quad || j == 0) && (moveAc a[j]).2)
  | 6 => (Vector.replicate 4 (c.lc.setWidth 24), false)
  | _ => (Vector.replicate 4 (c.stat.setWidth 24), false)

/-- A register code below 8 given 24-bit words: an accumulator aligns them, a register of one copy takes slice 0 (R174,
R178). -/
def Ctx.write24 (c : Ctx) (v : Env) (r : Nat) (w : Vector W24 4) : Ctx :=
  let w0 := w[(0 : Fin 4)]
  match r with
  | 0 | 1 => { c with b := vset c.b (two (r = 1)) w0 }
  | 2 | 3 => { c with s := vmod c.s (two (r = 3)) fun o => perSlice v o w }
  | 4 | 5 => { c with ac := vmod c.ac (two (r = 5)) fun o => perSlice v o (w.map alignAc) }
  | 6 => { c with lc := w0.setWidth 16 }
  | _ => c.writeStat w0

/-- Whether a memory access of a register code is wide in quad (R178). -/
def wideReg (r : Nat) : Bool := 2 ≤ r && r ≤ 5

/-- The words a load gives a register code (R178). -/
def Engine.fetchReg (g : Engine) (v : Env) (r a : Nat) : Vector W24 4 :=
  if wideReg r then g.row v a else Vector.replicate 4 (g.word v a)

/-- A store of a register code (R178). -/
def Engine.storeReg (g : Engine) (v : Env) (r a : Nat) (w : Vector W24 4) : Engine :=
  if wideReg r then g.putRow v a w else g.put v a w[(0 : Fin 4)]

/-- A register move (R184). Between an accumulator and a pointer the integer stands in the accumulator's bits 13 to 0, and
between two accumulators all bits move (log entry 18). -/
def Ctx.moveReg (c : Ctx) (v : Env) (dst src : BitVec 4) : Ctx :=
  let ptr := fun (r : BitVec 4) => (r.setWidth 3 : BitVec 3).toFin
  let isAc := fun (r : BitVec 4) => r = 4 ∨ r = 5
  if 8 ≤ src.toNat then
    let x := c.p[(ptr src : Fin 8)]
    if 8 ≤ dst.toNat then { c with p := vset c.p (ptr dst) x }
    else if isAc dst then { c with ac := vmod c.ac (two (dst = 5)) fun o => perSlice v o (Vector.replicate 4 (x.setWidth 56)) }
    else c.write24 v dst.toNat (Vector.replicate 4 (x.setWidth 24))
  else if 8 ≤ dst.toNat then
    let x : BitVec 14 := if isAc src then ((c.ac[two (src = 5)])[(0 : Fin 4)]).setWidth 14
      else ((c.read24 v src.toNat).1[(0 : Fin 4)]).setWidth 14
    { c with p := vset c.p (ptr dst) x }
  else if isAc src ∧ isAc dst then
    { c with ac := vmod c.ac (two (dst = 5)) fun o => perSlice v o c.ac[two (src = 5)] }
  else
    let (w, sat) := c.read24 v src.toNat
    (c.write24 v dst.toNat w).sticky false sat

end Sys2Proof.Machine
end

