-- ==== Sys2Proof/Machine/Schedule.lean ====
section
/-!
DEFINITION. The order of the signal unit's runs: activations by number, their triggers, preemption and the end of a run, and the
deliveries of a run to the axes (R27, R181, R193 to R195, R198, R525).
-/

namespace Sys2Proof.Machine

/-! ## Activations (R193, R525) -/

/-- An activation number. -/
abbrev ActNo := Fin 40

/-- sig.utrig of an integrator activation. -/
def State.utrig (s : State) (a : ActNo) : Nat := s.pn P.sigUtrig 0 (a.val - 32)

/-- The kind of an activation's trigger: 0 a current-loop sample, 1 a speed tick, 2 the vehicle cycle. -/
def State.actKind (s : State) (a : ActNo) : Nat :=
  if a.val < 8 then 0 else if a.val < 24 then 1 else if a.val < 32 then 2
  else (let t := s.utrig a; if t = 1 then 2 else if t < 10 then 1 else 0)

/-- The axis of an activation that samples or speed ticks release. -/
def State.actAxis (s : State) (a : ActNo) : AxisNo :=
  ⟨(if a.val < 24 then a.val else (s.utrig a + 6)) % 8, Nat.mod_lt _ (by decide)⟩

/-- One activation changed. -/
def State.modAct (s : State) (a : ActNo) (f : Act → Act) : State := s.modSu fun u => { u with acts := vmod u.acts a f }

/-! ## Order and preemption (R194) -/

/-- The order of R194: deadline, kind of trigger, vendor before integrator, number. -/
def State.actKey (s : State) (a : ActNo) (dl : Ns) : List Nat := [dl, s.actKind a, if a.val < 32 then 0 else 1, a.val]

/-- One key comes before another. -/
def keyLt : List Nat → List Nat → Bool
  | a :: x, b :: y => decide (a < b) || (a == b && keyLt x y)
  | _, _ => false

/-- The released activation that comes first among those whose run has not begun. -/
def State.firstPending (s : State) : Option ActNo :=
  let ps := (fins 40).filter fun a => s.su.acts[a].pend && !s.su.acts[a].active
  let key := fun (a : ActNo) => s.actKey a s.su.acts[a].deadline
  ps.foldl (fun b a => match b with | none => some a | some c => if keyLt (key a) (key c) then some a else b) none

/-- The deadline of a run that has begun. -/
def State.runDeadline (s : State) (c : Ctx) : Ns := match c.act with | some a => s.su.acts[a].runDl | none => 0

/-- The key of a run that has begun. -/
def State.runKey (s : State) (c : Ctx) : List Nat :=
  match c.act with | some a => s.actKey a s.su.acts[a].runDl | none => []

/-- A run begins: every register is zero, and the program counter at the entry (R176, R193, R201). -/
def State.beginRun (s : State) (a : ActNo) : State :=
  let x := s.su.acts[a]
  let e := if 32 ≤ a.val then s.pn P.sigUentry 0 (a.val - 32) else 0
  let c : Ctx := { act := some a, release := x.pendAt, pc := BitVec.ofNat 13 e }
  (s.modSu fun u => { u with eng := { u.eng with ctx := c, running := true, integ := decide (32 ≤ a.val) } }).modAct a fun x =>
    { x with pend := false, active := true, runDl := x.deadline }

/-- The run preempted last goes on. -/
def State.resumeRun (s : State) (c : Ctx) : State :=
  let user := match c.act with | some b => decide (32 ≤ b.val) | none => true
  s.modSu fun u => { u with saved := u.saved.drop 1, eng := { u.eng with ctx := c, running := true, integ := user } }

/-- The signal unit takes the run that comes first: a released one, or the one preempted last. -/
def State.nextRun (s : State) : State :=
  match s.firstPending, s.su.saved with
  | some a, c :: _ => if keyLt (s.actKey a s.su.acts[a].deadline) (s.runKey c) then s.beginRun a else s.resumeRun c
  | none, c :: _ => s.resumeRun c
  | some a, [] => s.beginRun a
  | none, [] => s.modSu fun u => { u with eng := { u.eng with running := false } }

/-- The activation that runs, if any. -/
def State.running (s : State) : Option ActNo := if s.su.eng.running then s.su.eng.ctx.act else none

/-- The first released activation starts on an idle unit, or preempts a run of a later deadline outside a REPEAT while the context
store has room (R194). -/
def State.dispatch (s : State) : State :=
  match s.firstPending with
  | none => s
  | some a =>
    match s.running with
    | none => s.nextRun
    | some _ =>
      let c := s.su.eng.ctx
      if c.rep.isNone ∧ s.su.saved.length < 8 ∧ s.su.acts[a].deadline < s.runDeadline c then
        (s.modSu fun u => { u with saved := c :: u.saved }).beginRun a
      else s

/-- The end of an activation's run; the release that waited for it may run now (R195). -/
def Act.endRun (x : Act) : Act :=
  let y : Act := { x with active := false, judged := false, missed := false, wait := none }
  match x.wait with
  | some (t, d, g) => { y with pend := true, release := t, deadline := d, pendAt := g }
  | none => y

/-- A trap ends the run of an activation, which stays off: no release of it waits (R189). -/
def Act.trapped (x : Act) : Act := { x with active := false, judged := false, missed := false, wait := none, pend := false, off := true }

/-! ## Deliveries (R27, R181, R195) -/

/-- The results of an axis with one more delivered. -/
def Deliv.take (d : Deliv) : Delivery → Deliv
  | .angle x v t => { d with theta := x, speed := v, fresh := true, valid := true, stamp := t }
  | .speed v t => { d with speed := v, fresh := true, valid := true, stamp := t }
  | .force f t => { d with force := f, fFresh := true, fValid := true, stamp := t }
  | .user k w t => { d with user := vset d.user k w, userStamp := vset d.userStamp k t }
  | .vend k w t => { d with vend := vset d.vend k w, vendStamp := vset d.vendStamp k t }

/-- The actual start, local ns, of the sample of a load point with the given sampling instant (R61). 0.75 × T_c is rounded up to whole
ns (log entry 43). -/
def State.sampleStart (s : State) (l : AxisNo) (nom : Ns) : Ns :=
  let p := s.ax[l].sch
  let sk := nom + s.groupDelay l
  if p.started then max sk (max p.halt (p.start + (3 * s.tc l + 3) / 4)) else sk

/-- A delivery that completes now comes too late for the next sample: that sample starts in this AXIS cycle or an earlier one (R195). -/
def State.tooLate (s : State) (l : AxisNo) : Bool :=
  match s.ax[l].sch.due with
  | (_, nom) :: _ => decide (s.sampleStart l nom / 5 ≤ s.clk.lclk / 5)
  | [] => false

/-- A delivery to an axis (R27, R195). -/
def State.deliverTo (s : State) (l : AxisNo) (x : Delivery) : State :=
  let late := s.tooLate l
  s.modAx l fun a => { a with del := if late then { a.del with wait := a.del.wait ++ [x] } else a.del.take x }

/-- The deliveries that a sample came too early for, once it has taken its own. -/
def Deliv.takeWait (d : Deliv) : Deliv := d.wait.foldl Deliv.take { d with wait := [] }

end Sys2Proof.Machine
end

