-- ==== Sys2Proof/WellFormed.lean ====
section
/-!
DEFINITION. Which commands are well formed: the widths and lengths that the manual's formats force and the operand types do
not already say. A command that is not well formed is not one the part can meet.
-/

namespace Sys2Proof

/-- A request holds at most 48 bytes of payload (R401). -/
def Req.wf (r : Req) : Bool := decide (r.payload.length ≤ 12)

/-- A twin-link frame of a type has that type's length (R313, R315). -/
def TwinIn.wf (n : Nat) (f : TwinIn) : Bool := decide (f.payload.length = n)

/-- The slice mask of a multiply word is not the reserved 11b (R182). -/
def MacOps.wf (f : MacOps) : Bool := f.sm != 3

/-- A CAN frame carries at most 64 bytes (R382). -/
def CanIn.wf (f : CanIn) : Bool := decide (f.data.length ≤ 64)

/-- A register number of class 3h is one of the eight registers (R184). -/
def regWf (r : BitVec 4) : Bool := decide (r.toNat < 8)

/-- The host-to-lane queues, whose doorbells push (R398, R493). -/
def toLane (q : Fin 16) : Bool := decide (q.val < 4) || q.val == 10 || q.val == 12 || q.val == 14

/-- Well-formedness of a command. -/
def Instr.wf : Instr → Bool
  | .jcc _ cond _ => decide (cond.toNat < 8)
  | .dlvr e _ _ _ => e == .su
  | .prd _ f | .pra _ f | .prs _ f | .prn _ f | .pmv _ f => f.wf
  | .operandLoad _ r _ _ _ _ | .operandStore _ r _ _ _ _ => regWf r
  | .immediateLoad _ r imm => decide (r.toNat < 7) && (r != 6 || imm.toNat < 65536)
  | .yield f _ => f.wf 0
  | .status f _ => f.wf 4
  | .axis f _ => f.wf 24
  | .compare f _ => f.wf 13
  | .canFrameReceived _ f _ => f.wf
  | .ssiFrame _ f _ => decide (f.bits.length ≤ 33)
  | .sentFrame _ f _ => decide (f.pulses.length ≤ 10)
  | .registerWrite m | .spiReadFrame m => !m.isEmpty
  | .queueDoorbellPush q _ => toLane q
  | .queueDoorbellPop q _ => !toLane q
  | .opPwrSleep r => r.wf && r.arg0.getLsbD 0
  | .opPwrSleepDoze r => r.wf && !r.arg0.getLsbD 0
  | .opNop r | .opParRead r | .opParWrite r | .opParInfo r | .opDigestRead r | .opAxEnable r | .opAxDisable r
  | .opAxMove r | .opAxAbort r | .opAxRelease r | .opAxSetpos r | .opAxArmIndex r | .opAxArmLatch r | .opAxPreset r
  | .opAxAlign r | .opAxCmpWrite r | .opAxCmpRead r | .opAxSetpoint r | .opAxStatus r | .opSiClear r | .opSsAxis r
  | .opSsVehicle r | .opSsRelease r | .opPwrLevel r | .opPwrShutdown r
  | .opPwrStatus r | .opChopfClear r | .opStStart r | .opStStatus r | .opTwinStatus r | .opTwinCastle r | .opVfSteer r
  | .opVfBrake r | .opVfParkRequest r | .opVfParkRelease r | .opLedgerRead r | .opLedgerClear r | .opSuWrite r
  | .opSuRead r | .opSuCommit r | .opSuStatus r | .opVtbStatus r | .opCanStatus r | .opEthStatus r | .opMdioRead r
  | .opMdioWrite r | .opNovmiStatus r | .opDiagIdent r | .opDiagCounters r | .opLogRead r | .opEventRead r | .opAbort r
  | .opNetSend r => r.wf
  | _ => true

end Sys2Proof
end

