-- ==== Sys2Proof/Machine/Isa.lean ====
section
/-!
DEFINITION. The loop instruction set (R180 to R186, R189): the effect of one instruction on its engine, its cycles, traps, the
decoding of a program word, and the run of a program. A command whose word the commit check would refuse stops by name.
-/

namespace Sys2Proof.Machine

/-! ## One instruction -/

/-- An instruction as the engine issues it: its effect, its cycles, and what R185 asks of it. -/
structure Micro where
  /-- The effect; the program counter already stands at the next word. -/
  act : Env → Engine → Engine
  /-- Cycles without stalls. -/
  cost : Ctx → Nat := fun _ => 1
  /-- Accumulators read, apart from accumulation into `accum`. -/
  reads : List Bool := []
  /-- Class 1h: the accumulator written. -/
  wrote : Option Bool := none
  /-- Pointers used for an address. -/
  uses : List (BitVec 3) := []
  /-- Class 5h or 6h: the pointer set. -/
  sets : Option (BitVec 3) := none
  /-- An instruction of class 0h. -/
  control : Bool := false

/-- Stall cycles (R185). -/
def Micro.stalls (m : Micro) (c : Ctx) : Nat :=
  (match c.lastAc with | some a => if m.reads.contains a then 1 else 0 | none => 0) +
    (match c.lastPtr with | some p => if m.uses.any (fun n => n.toFin = p) then 1 else 0 | none => 0)

/-- One run of an instruction. -/
def Micro.once (m : Micro) (v : Env) (g : Engine) : Engine :=
  let n := m.cost g.ctx + m.stalls g.ctx
  let g' := m.act v g
  { g' with ctx := { g'.ctx with cycles := g.ctx.cycles + n, lastAc := m.wrote, lastPtr := m.sets.map BitVec.toFin } }

/-- The runs that a REPEAT asks for; a trap ends them (R186, R189). -/
def Micro.times (m : Micro) (v : Env) : Nat → Engine → Engine
  | 0, g => g
  | n + 1, g => if g.ctx.trap.isSome then g else m.times v n (m.once v g)

/-- The cycle limit of a run: le.cmax, or sig.ucmax of the integrator activation (R189). -/
def State.cycleLimit (s : State) (e : EngineId) : Option Nat :=
  match e with
  | .loop l => some (s.pn P.leCmax l)
  | .su => match s.su.eng.ctx.act with
    | some a => if 32 ≤ a.val then some (s.pn P.sigUcmax 0 (a.val - 32)) else none
    | none => none

/-- A trap: the run ends without a delivery, the attachment or activation stays off, and EV_PROGRAM_TRAP is raised (R189). -/
def State.trapped (s : State) (e : EngineId) (pc : BitVec 13) (cause : Nat) : State :=
  let s := s.modEng e fun g => { g with running := false, off := true, ctx := { g.ctx with halted := true, trap := some cause } }
  match e with
  | .loop l => s.raise 0xF001 .amber (some l) [pc.setWidth 32, BitVec.ofNat 32 cause]
  | .su =>
    let s := match s.su.eng.ctx.act with
      | some a => s.modAct a Act.trapped
      | none => s
    s.raise 0xF001 .amber none [pc.setWidth 32, BitVec.ofNat 32 cause]

/-- Issue an instruction on an engine. After a run has ended the next instruction begins a new run, with every register zero (R176). The
cycle limit acts at the boundary behind the instruction; behind a REPEAT itself there is none (R186, R189). -/
def State.issue (s : State) (e : EngineId) (m : Micro) : State :=
  let s := if (s.eng e).ctx.halted then s.modEng e fun g => { g with ctx := {}, running := true } else s
  let v := s.env e
  let g := s.eng e
  let pc := g.ctx.pc
  let n := g.ctx.rep.getD 1
  let g := { g with running := true, ctx := { g.ctx with rep := none, pc := pc + 1 } }
  let g := m.times v n g
  let hit := match s.cycleLimit e with | some k => decide (k ≤ g.ctx.cycles) | none => false
  let s := s.modEng e fun _ => g
  match g.ctx.trap with
  | some c => s.trapped e pc c
  | none => if g.integ && hit && !g.ctx.halted && g.ctx.rep.isNone then s.trapped e pc 2 else s

/-- The instruction boundary behind an instruction of the signal unit: after a trap the next run begins, and after the runs of a REPEAT a
release of an earlier deadline preempts (R189, R194). `rep` tells of a REPEAT before the instruction. -/
def State.boundary (s : State) (e : EngineId) (rep : Bool) : State :=
  match e with
  | .loop _ => s
  | .su =>
    if s.su.eng.ctx.trap.isSome then s.nextRun
    else if rep && s.su.eng.running then s.dispatch else s

/-- A command for an engine. A class 0h word under a REPEAT, and a word with a reserved value, are refused at commit (R180,
R188): they have no effect to give. -/
def State.command (s : State) (e : EngineId) (ok : Bool) (m : Micro) : Out :=
  if !ok || (m.control && (s.eng e).ctx.rep.isSome && !(s.eng e).ctx.halted) then .fault .reservedEncoding
  else .next ((s.issue e m).boundary e ((s.eng e).ctx.rep.isSome && !(s.eng e).ctx.halted))

/-- An effect on the registers alone. -/
def onCtx (f : Env → Ctx → Ctx) : Env → Engine → Engine := fun v g => { g with ctx := f v g.ctx }

/-! ## Class 0h, control (R181) -/

/-- NOP. -/
def mNop : Micro := { act := fun _ g => g, control := true }

/-- The end of a run. -/
def Engine.stop (g : Engine) : Engine := { g with running := false, ctx := { g.ctx with halted := true } }

/-- HALT ends the run (R181, R190). -/
def mHalt : Micro := { act := fun _ g => g.stop, control := true }

/-- JMP. -/
def mJmp (t : BitVec 13) : Micro := { act := onCtx fun _ c => { c with pc := t }, cost := fun _ => 2, control := true }

/-- JCC. -/
def mJcc (k : BitVec 4) (t : BitVec 13) : Micro :=
  { act := onCtx fun _ c => if c.cond k then { c with pc := t } else c
    cost := fun c => if c.cond k then 2 else 1
    control := true }

/-- CALL; at depth 8 it traps (R189). -/
def mCall (t : BitVec 13) : Micro :=
  { act := onCtx fun _ c =>
      if 8 ≤ c.stack.length then { c with trap := some 1 } else { c with stack := c.pc :: c.stack, pc := t }
    cost := fun _ => 2
    control := true }

/-- RET: in a loop engine at the entry depth of 2 or below it ends the attached program; in a signal-unit kernel at depth 0 it
traps (R189, R190). -/
def mRet : Micro :=
  { act := fun v g =>
      if !v.quad && g.ctx.stack.length ≤ 2 then g.stop
      else match g.ctx.stack with
        | [] => { g with ctx := { g.ctx with trap := some 1 } }
        | a :: r => { g with ctx := { g.ctx with pc := a, stack := r } }
    cost := fun _ => 2
    control := true }

/-- REPEAT (R186). -/
def mRepeat (n : BitVec 12) : Micro := { act := onCtx fun _ c => { c with rep := some (n.toNat + 1) }, control := true }

/-- DECJ (R181). -/
def mDecj (t : BitVec 13) : Micro :=
  { act := onCtx fun _ c =>
      let c := { c with lc := c.lc - 1 }
      if c.lc ≠ 0 then { c with pc := t } else c
    cost := fun c => if c.lc - 1 ≠ 0 then 2 else 1
    control := true }

/-- The part of DLVR in the engine: its cycles; the pointer is unchanged (R181, R185). -/
def mDlvr (p : BitVec 3) : Micro := { act := fun _ g => g, cost := fun _ => 6, uses := [p], control := true }

/-- The delivery of DLVR: four words into a slot, a user slot or one that vendor kernels use, stamped with the time of the
activation's release (R181). -/
def State.dlvr (s : State) (l : AxisNo) (p : BitVec 3) (slot : BitVec 4) : State :=
  let c := s.su.eng.ctx
  let w := (s.su.eng.row (s.env .su) (c.addr (s.env .su) p)).toList
  if slot.toNat < 4 then s.deliverTo l (.user ⟨slot.toNat % 4, Nat.mod_lt _ (by decide)⟩ w c.release)
  else s.deliverTo l (.vend ⟨(slot.toNat - 4) % 12, Nat.mod_lt _ (by decide)⟩ w c.release)

/-- DLVR on the signal unit: the delivery comes about unless the instruction's cycles reach the limit and trap (R181,
R189). -/
def State.deliverRun (s : State) (l : AxisNo) (p : BitVec 3) (slot : BitVec 4) : State :=
  let s' := s.issue .su (mDlvr p)
  if s'.su.eng.ctx.trap.isSome then s' else s'.dlvr l p slot

/-! ## Class 1h, multiply (R182) -/

/-- The multiply operations. -/
inductive MulOp where
  | prd | pra | prs | prn | pmv
  deriving DecidableEq, Repr

/-- The new accumulator of a slice, and whether it wraps. -/
def MulOp.eval (o : MulOp) (ac : W56) (b s : W24) : W56 × Bool :=
  match o with
  | .prd => wrapAc (prod b s)
  | .pra => wrapAc (ac.toInt + prod b s)
  | .prs => wrapAc (ac.toInt - prod b s)
  | .prn => wrapAc (-prod b s)
  | .pmv => (ac, false)

/-- A multiply with its parallel accesses. Operands and stored accumulators are those of the start of the cycle; reads land at
its end and see memory before the store (R178, R182). A step without its access does nothing (log entry 18). -/
def mulAct (o : MulOp) (f : MacOps) (v : Env) (g : Engine) : Engine :=
  let c := g.ctx
  let b := c.b[two f.bsrc]
  let sl := c.s[two f.ssrc]
  let old := c.ac[two f.a]
  let r := Vector.ofFn fun j : Fin 4 => o.eval old[j] b sl[j]
  let over_ := (fins 4).any fun j => (v.quad || j == 0) && (r[j]).2
  let bread := g.word v (c.addr v f.bpt)
  let sread := g.row v (c.addr v f.spt)
  let st := (c.ac[two f.ssel]).map moveAc
  let sat := (fins 4).any fun j => (v.quad || j == 0) && (st[j]).2
  let g := if f.sm = 2 then g.putRow v (c.addr v f.spt) (st.map Prod.fst) else g
  let c := g.ctx
  let c := { c with ac := if o = MulOp.pmv then c.ac else vmod c.ac (two f.a) fun x => perSlice v x (r.map Prod.fst) }
  let c := c.sticky over_ (decide (f.sm = 2) && sat)
  let c := if f.ben then { c with b := vset c.b (two f.bdst) bread } else c
  let c := if f.sm = 1 then { c with s := vmod c.s (two f.ssel) fun x => perSlice v x sread } else c
  let c := if f.ben && f.bst then c.stepPtr v f.bpt else c
  let c := if f.sm ≠ 0 ∧ f.sst then c.stepPtr v f.spt else c
  { g with ctx := c }

/-- A class 1h instruction. Accumulation into the accumulator written just before costs no stall (R185). -/
def mMul (o : MulOp) (f : MacOps) : Micro :=
  { act := mulAct o f
    reads := if f.sm = 2 then [f.ssel] else []
    wrote := if o = MulOp.pmv then none else some f.a
    uses := (if f.ben then [f.bpt] else []) ++ (if f.sm ≠ 0 then [f.spt] else []) }

/-! ## Class 2h, accumulator operations (R183) -/

/-- An accumulator operation on all slices; Z and N from slice 0. -/
def acAct (o : AcOp) (d a : Bool) (sh : Nat) (v : Env) (c : Ctx) : Ctx :=
  let r := Vector.ofFn fun j : Fin 4 => o.eval (c.ac[two d])[j] (c.ac[two a])[j] sh
  let any := fun (f : W56 × Bool × Bool → Bool) => (fins 4).any fun j => (v.quad || j == 0) && f r[j]
  let c := if o = .tst then c else { c with ac := vmod c.ac (two d) fun x => perSlice v x (r.map fun y => y.1) }
  (c.sticky (any fun y => y.2.1) (any fun y => y.2.2)).flagsNZ (r[(0 : Fin 4)]).1

/-- A class 2h instruction between accumulators. -/
def mAc (o : AcOp) (d a : Bool) (sh : Nat := 0) : Micro :=
  { act := onCtx (acAct o d a sh)
    reads := match o with
      | .clr => []
      | .add | .sub | .max | .min => [d, a]
      | _ => [a] }

/-- ADDB: a broadcast register added to every slice (R183). -/
def mAddb (d b : Bool) : Micro :=
  { act := onCtx fun v c =>
      let r := (c.ac[two d]).map fun x => wrapAc (x.toInt + (alignAc c.b[two b]).toInt)
      let v_ := (fins 4).any fun j => (v.quad || j == 0) && (r[j]).2
      let c := { c with ac := vmod c.ac (two d) fun x => perSlice v x (r.map Prod.fst) }
      (c.sticky v_ false).flagsNZ (r[(0 : Fin 4)]).1
    reads := [d] }

/-! ## Classes 3h to 6h (R184) -/

/-- The address of a class 3h access. -/
def Ctx.ea (c : Ctx) (v : Env) (p : BitVec 3) (abs : Bool) (addr : BitVec 14) : Nat :=
  if abs then addr.toNat % operSize v.e else c.addr v p

/-- The accumulator a register code below 8 names. -/
def acOf (r : BitVec 4) : List Bool := if r = 4 then [false] else if r = 5 then [true] else []

/-- A load (R184). -/
def mLoad (r : BitVec 4) (p : BitVec 3) (ps abs : Bool) (addr : BitVec 14) : Micro :=
  { act := fun v g =>
      let w := g.fetchReg v r.toNat (g.ctx.ea v p abs addr)
      let c := g.ctx.write24 v r.toNat w
      { g with ctx := if ps then c.stepPtr v p else c }
    uses := if abs then [] else [p] }

/-- A store (R175, R184). -/
def mStore (r : BitVec 4) (p : BitVec 3) (ps abs : Bool) (addr : BitVec 14) : Micro :=
  { act := fun v g =>
      let (w, sat) := g.ctx.read24 v r.toNat
      let g := g.storeReg v r.toNat (g.ctx.ea v p abs addr) w
      let c := g.ctx.sticky false sat
      { g with ctx := if ps then c.stepPtr v p else c }
    reads := acOf r
    uses := if abs then [] else [p] }

/-- An immediate load (R184). -/
def mImm (r : BitVec 4) (x : W24) : Micro := { act := onCtx fun v c => c.write24 v r.toNat (Vector.replicate 4 x) }

/-- A pointer load. -/
def mPtr (n : BitVec 3) (x : BitVec 14) : Micro :=
  { act := onCtx fun _ c => { c with p := vset c.p n.toFin x }, sets := some n }

/-- A pointer add: the immediate in place of the step (R179). -/
def mPtrAdd (n : BitVec 3) (x : BitVec 14) : Micro := { act := onCtx fun v c => c.movePtr v n x.toNat, sets := some n }

/-- A step load. -/
def mStep (n : BitVec 3) (x : BitVec 14) : Micro := { act := onCtx fun _ c => { c with d := vset c.d n.toFin x } }

/-- A wrap load latches the wrap base (R179). -/
def mWrap (n : BitVec 3) (x : BitVec 14) : Micro :=
  { act := onCtx fun _ c => { c with w := vset c.w n.toFin x, g := vset c.g n.toFin c.p[(n.toFin : Fin 8)] } }

/-- A register move (R184). -/
def mMove (dst src : BitVec 4) : Micro :=
  { act := onCtx fun v c => c.moveReg v dst src
    reads := acOf src
    sets := if 8 ≤ dst.toNat then some (dst.setWidth 3) else none }

/-! ## The commands -/

/-- NOP (R181). -/
def execNop (e : EngineId) (s : State) : Out := s.command e true mNop
/-- HALT (R181). -/
def execHalt (e : EngineId) (s : State) : Out := s.command e true mHalt
/-- JMP (R181). -/
def execJmp (e : EngineId) (target : BitVec 13) (s : State) : Out := s.command e true (mJmp target)
/-- JCC (R181). -/
def execJcc (e : EngineId) (cond : BitVec 4) (target : BitVec 13) (s : State) : Out :=
  s.command e (decide (cond.toNat < 8)) (mJcc cond target)
/-- CALL (R181). -/
def execCall (e : EngineId) (target : BitVec 13) (s : State) : Out := s.command e true (mCall target)
/-- RET (R181). -/
def execRet (e : EngineId) (s : State) : Out := s.command e true mRet
/-- REPEAT (R186). -/
def execRepeat (e : EngineId) (count : BitVec 12) (s : State) : Out := s.command e true (mRepeat count)
/-- DECJ (R181). -/
def execDecj (e : EngineId) (target : BitVec 13) (s : State) : Out := s.command e true (mDecj target)
/-- DLVR (R181): in a loop engine, and in integrator code for the slots 4h to Fh of the vendor kernels, the commit refuses it
(R188). -/
def execDlvr (e : EngineId) (axis : AxisNo) (ptr : BitVec 3) (slot : BitVec 4) (s : State) : Out :=
  match e with
  | .loop _ => .fault .reservedEncoding
  | .su =>
    if (4 ≤ slot.toNat ∧ s.su.eng.integ) ∨ (s.su.eng.ctx.rep.isSome ∧ !s.su.eng.ctx.halted) then .fault .reservedEncoding
    else .next ((s.deliverRun axis ptr slot).boundary .su false)
/-- PRD (R182). -/
def execPrd (e : EngineId) (f : MacOps) (s : State) : Out := s.command e f.wf (mMul .prd f)
/-- PRA (R182). -/
def execPra (e : EngineId) (f : MacOps) (s : State) : Out := s.command e f.wf (mMul .pra f)
/-- PRS (R182). -/
def execPrs (e : EngineId) (f : MacOps) (s : State) : Out := s.command e f.wf (mMul .prs f)
/-- PRN (R182). -/
def execPrn (e : EngineId) (f : MacOps) (s : State) : Out := s.command e f.wf (mMul .prn f)
/-- PMV (R182). -/
def execPmv (e : EngineId) (f : MacOps) (s : State) : Out := s.command e f.wf (mMul .pmv f)
/-- ADD (R183). -/
def execAdd (e : EngineId) (d src : Bool) (s : State) : Out := s.command e true (mAc .add d src)
/-- SUB (R183). -/
def execSub (e : EngineId) (d src : Bool) (s : State) : Out := s.command e true (mAc .sub d src)
/-- NEG (R183). -/
def execNeg (e : EngineId) (d src : Bool) (s : State) : Out := s.command e true (mAc .neg d src)
/-- ABS (R183). -/
def execAbsA (e : EngineId) (d src : Bool) (s : State) : Out := s.command e true (mAc .abs d src)
/-- CLR (R183). -/
def execClr (e : EngineId) (d src : Bool) (s : State) : Out := s.command e true (mAc .clr d src)
/-- ASL (R183). -/
def execAsl (e : EngineId) (d src : Bool) (sh : BitVec 6) (s : State) : Out := s.command e true (mAc .asl d src sh.toNat)
/-- ASR (R183). -/
def execAsr (e : EngineId) (d src : Bool) (sh : BitVec 6) (s : State) : Out := s.command e true (mAc .asr d src sh.toNat)
/-- SAT (R183). -/
def execSat (e : EngineId) (d src : Bool) (s : State) : Out := s.command e true (mAc .sat d src)
/-- MAX (R183). -/
def execMaxA (e : EngineId) (d src : Bool) (s : State) : Out := s.command e true (mAc .max d src)
/-- MIN (R183). -/
def execMinA (e : EngineId) (d src : Bool) (s : State) : Out := s.command e true (mAc .min d src)
/-- ADDB (R183). -/
def execAddb (e : EngineId) (d src : Bool) (s : State) : Out := s.command e true (mAddb d src)
/-- TST (R183). -/
def execTst (e : EngineId) (d src : Bool) (s : State) : Out := s.command e true (mAc .tst d src)
/-- RNDH (R183). -/
def execRndh (e : EngineId) (d src : Bool) (s : State) : Out := s.command e true (mAc .rndh d src)
/-- OPERAND_LOAD (R184). -/
def execOperandLoad (e : EngineId) (reg : BitVec 4) (ptr : BitVec 3) (ps abs : Bool) (addr : BitVec 14) (s : State) : Out :=
  s.command e (regWf reg) (mLoad reg ptr ps abs addr)
/-- OPERAND_STORE (R184). -/
def execOperandStore (e : EngineId) (reg : BitVec 4) (ptr : BitVec 3) (ps abs : Bool) (addr : BitVec 14) (s : State) : Out :=
  s.command e (regWf reg) (mStore reg ptr ps abs addr)
/-- IMMEDIATE_LOAD (R184): codes 0h to 6h, and for LC no bit above 15. -/
def execImmediateLoad (e : EngineId) (reg : BitVec 4) (imm : BitVec 24) (s : State) : Out :=
  s.command e (decide (reg.toNat < 7) && (reg != 6 || decide (imm.toNat < 65536))) (mImm reg imm)
/-- POINTER_LOAD (R184). -/
def execPointerLoad (e : EngineId) (n : BitVec 3) (imm : BitVec 14) (s : State) : Out := s.command e true (mPtr n imm)
/-- POINTER_ADD (R179). -/
def execPointerAdd (e : EngineId) (n : BitVec 3) (imm : BitVec 14) (s : State) : Out := s.command e true (mPtrAdd n imm)
/-- STEP_LOAD (R184). -/
def execStepLoad (e : EngineId) (n : BitVec 3) (imm : BitVec 14) (s : State) : Out := s.command e true (mStep n imm)
/-- WRAP_LOAD (R179). -/
def execWrapLoad (e : EngineId) (n : BitVec 3) (imm : BitVec 14) (s : State) : Out := s.command e true (mWrap n imm)
/-- REGISTER_MOVE (R184). -/
def execRegisterMove (e : EngineId) (dst src : BitVec 4) (s : State) : Out := s.command e true (mMove dst src)

/-! ## Program words (R180 to R184) -/

/-- A field of a word. -/
def fieldOf (w : Word) (lo n : Nat) : BitVec n := w.extractLsb' lo n

/-- The fields of a class 1h word. -/
def macOf (w : Word) : MacOps :=
  { a := w.getLsbD 24, bsrc := w.getLsbD 23, ssrc := w.getLsbD 22, ben := w.getLsbD 21, bpt := fieldOf w 18 3,
    bdst := w.getLsbD 17, bst := w.getLsbD 16, sm := fieldOf w 14 2, spt := fieldOf w 11 3, ssel := w.getLsbD 10,
    sst := w.getLsbD 9 }

/-- A decoded word: the instruction for `issue`, or a delivery. -/
inductive Decoded where
  | run (m : Micro)
  | deliver (l : AxisNo) (p : BitVec 3) (slot : BitVec 4)

/-- Bits `lo` to `hi` of a word are zero. -/
def zeros (w : Word) (lo hi : Nat) : Bool := (w.toNat / 2 ^ lo) % 2 ^ (hi + 1 - lo) = 0

/-- A jump or call target in the engine's address range. -/
def targetOf (w : Word) : BitVec 13 := fieldOf w 0 13

/-- Class 0h (R181). -/
def decodeControl (e : EngineId) (w : Word) : Option Decoded :=
  let rest := fun (hi : Nat) => zeros w hi 23
  match (fieldOf w 24 4).toNat with
  | 0 => if rest 0 then some (.run mNop) else none
  | 1 => if rest 0 then some (.run mHalt) else none
  | 2 => if rest 13 then some (.run (mJmp (targetOf w))) else none
  | 3 => if zeros w 13 19 ∧ !w.getLsbD 23 then some (.run (mJcc (fieldOf w 20 4) (targetOf w))) else none
  | 4 => if rest 13 then some (.run (mCall (targetOf w))) else none
  | 5 => if rest 0 then some (.run mRet) else none
  | 6 => if rest 12 then some (.run (mRepeat (fieldOf w 0 12))) else none
  | 7 => if rest 13 then some (.run (mDecj (targetOf w))) else none
  | 8 =>
    if zeros w 0 13 ∧ e = .su ∧ (fieldOf w 14 4).toNat < 4 then
      some (.deliver (fieldOf w 21 3).toFin (fieldOf w 18 3) (fieldOf w 14 4))
    else none
  | _ => none

/-- Class 1h (R182). -/
def decodeMul (w : Word) : Option Decoded :=
  let f := macOf w
  let ops : List MulOp := [.prd, .pra, .prs, .prn, .pmv]
  match ops[(fieldOf w 25 3).toNat]? with
  | some o => if zeros w 0 8 ∧ f.wf then some (.run (mMul o f)) else none
  | none => none

/-- Class 2h (R183). -/
def decodeAc (w : Word) : Option Decoded :=
  let o := (fieldOf w 24 4).toNat
  let d := w.getLsbD 23
  let a := w.getLsbD 22
  let sh := (fieldOf w 16 6).toNat
  let ops : List AcOp := [.add, .sub, .neg, .abs, .clr, .asl, .asr, .sat, .max, .min]
  if !zeros w 0 15 ∨ (sh ≠ 0 ∧ o ≠ 5 ∧ o ≠ 6) then none
  else if o = 10 then some (.run (mAddb d a))
  else if o = 11 then some (.run (mAc .tst d a))
  else if o = 12 then some (.run (mAc .rndh d a))
  else (ops[o]?).map fun x => .run (mAc x d a sh)

/-- Classes 3h to 6h (R184). -/
def decodeMove (w : Word) : Option Decoded :=
  match (fieldOf w 28 4).toNat with
  | 3 =>
    let r : BitVec 4 := fieldOf w 23 4
    let ab := w.getLsbD 18
    if regWf r ∧ zeros w 14 17 ∧ (ab ∨ zeros w 0 13) then
      some (.run ((if w.getLsbD 27 then mStore else mLoad) r (fieldOf w 20 3) (w.getLsbD 19) ab (fieldOf w 0 14)))
    else none
  | 4 =>
    let r : BitVec 4 := fieldOf w 24 4
    if r.toNat < 7 ∧ (r ≠ 6 ∨ zeros w 16 23) then some (.run (mImm r (fieldOf w 0 24))) else none
  | 5 =>
    let t := (fieldOf w 26 2).toNat
    let n : BitVec 3 := fieldOf w 23 3
    let x : BitVec 14 := fieldOf w 0 14
    let add := w.getLsbD 22
    if !zeros w 14 21 ∨ t = 3 ∨ (add ∧ t ≠ 0) then none
    else some (.run (if add then mPtrAdd n x else if t = 0 then mPtr n x else if t = 1 then mStep n x else mWrap n x))
  | 6 => if zeros w 0 19 then some (.run (mMove (fieldOf w 24 4) (fieldOf w 20 4))) else none
  | _ => none

/-- What a program word means on an engine; none where a field holds a reserved value (R180). -/
def decodeWord (e : EngineId) (w : Word) : Option Decoded :=
  match (fieldOf w 28 4).toNat with
  | 0 => decodeControl e w
  | 1 => decodeMul w
  | 2 => decodeAc w
  | _ => decodeMove w

/-! ## Runs -/

/-- A program word as an engine fetches it. -/
def State.progWord (s : State) (e : EngineId) (a : Nat) : Word := Cells.read (progD e) (s.eng e).prog (a % progSize e)

/-- Run a program until it ends, in at most the given number of instructions. A word with a reserved value, which only the
vendor region can hold, ends the run (log entry 18). -/
def State.runProg (s : State) (e : EngineId) : Nat → State
  | 0 => s
  | n + 1 =>
    if (s.eng e).ctx.halted then s
    else
      match decodeWord e (s.progWord e (s.eng e).ctx.pc.toNat) with
      | some (.run m) => State.runProg (s.issue e m) e n
      | some (.deliver l p k) => State.runProg (s.deliverRun l p k) e n
      | none => s.modEng e Engine.stop

end Sys2Proof.Machine
end

