-- ==== Sys2Proof/Machine/CurrentLoop.lean ====
section
/-!
DEFINITION. The current loop of an axis: the sample schedule, currents, references, limits, duties, the motor-model check, the
attached program, actual values, and the PWM load point (R25 to R27, R39 to R64, R67, R98, R190, R191, R321, R322).
-/

namespace Sys2Proof.Machine

/-- The current loop of one axis changed. -/
def State.modCur (s : State) (l : AxisNo) (f : Cur → Cur) : State := s.modAx l fun a => { a with cur := f a.cur }

/-- The delivered results of one axis changed. -/
def State.modDel (s : State) (l : AxisNo) (f : Deliv → Deliv) : State := s.modAx l fun a => { a with del := f a.del }

/-! ## Mode words -/

/-- Commutation mode codes (R67). -/
def CMode.code : CMode → Word
  | .off => 0 | .sensored => 1 | .stepped => 2 | .ifStart => 3 | .satStart => 4 | .catching => 5 | .braking => 6

/-- AXMODE (R67). -/
def State.axmode (s : State) (l : AxisNo) : Word :=
  let a := s.ax[l]
  let p := s.pair[pairOf l]
  (a.com.mode.code <<< 28) ||| (BitVec.ofNat 32 (a.cas.loop % 16) <<< 24) ||| bitAt a.com.est 23 ||| bitAt a.del.staleF 22 |||
    bitAt a.sch.late 21 ||| bitAt a.sch.lag 20 ||| bitAt a.cur.ilim 19 ||| bitAt a.cur.vlim 18 |||
    bitAt (s.ov1Acts (pairOf l)) 17 ||| bitAt a.cur.fw 16 ||| bitAt a.cur.res1 15 ||| bitAt a.cur.modelf 14 |||
    bitAt a.pwm.lock 13 ||| bitAt a.fb.punc 12 ||| bitAt a.fb.armed 11 ||| bitAt p.chop 10 ||| bitAt p.vunk 9 |||
    bitAt a.pwm.gates 8 ||| a.fault.setWidth 32

/-- FBSTAT (R98). -/
def Fb.stat (f : Fb) : Word :=
  (f.loss.setWidth 32 <<< 16) ||| bitAt f.zseen 15 ||| bitAt f.lcpass 14 ||| bitAt f.rlatch 13 ||| bitAt f.rovr 12 |||
    bitAt f.winv 11 ||| bitAt f.rampl 10

/-! ## Schedule -/

/-- The index of the sample whose sampling instant is a load point: the whole periods T_c between global time zero and the carrier's grid
point nearest to it (R19, R41, log entry 43). -/
def State.indexAt (s : State) (l : AxisNo) (inst : Ns) : Nat :=
  let tc : Int := s.tc l
  let ph : Int := 5 * s.pn P.pwmPhase l
  let m := (2 * (s.gtAt inst - ph) + tc) / (2 * tc)
  (m + ph / tc).toNat

/-- The schedule of a sample of a load point: its actual start, sampling instant, dt and lag, with the reactions to lateness; 0.75 × T_c is rounded
up to whole ns (R61, R63, R64, log entry 43). -/
def State.schedule (s : State) (l : AxisNo) (pt : Nat) (nom : Ns) (x : SampleIn) : State :=
  let gd := s.groupDelay l
  let tc := s.tc l
  let p := s.ax[l].sch
  let ix := s.indexAt l nom
  let sk := nom + gd
  let a := s.sampleStart l nom
  let lag := a - sk
  let inst := a - gd
  let dt := if p.started && decide (p.inst < inst) then secs inst p.inst else s.tcQ l
  let s := s.at a
  let s := if 0 < lag then s.bump (0x2000 + 256 * l.val) else s
  let s := s.modAx l fun a' =>
    { a' with sch := { a'.sch with index := ix, point := pt, due := p.due.tail, started := true, start := a, written := a + x.duty,
                                   halt := a + max x.duty x.work, inst := inst, dt := dt,
                                   lagNs := lag, late := decide (0 < lag),
                                   lag := decide (0 < lag) && (p.lag || decide (2 * tc < lag)) } }
  let w := BitVec.ofNat 32 lag
  let s := if 2 * tc < lag ∧ !p.lag then s.raise 0x2001 .amber (some l) [w] else s
  if 4 * tc < lag then s.faultWith l 1 0x2002 [w] else s

/-! ## Results of the signal unit -/

/-- An angle or speed for the axis is due at the start of this sample: a resolver's at every sample, an observer's at speed ticks (R27, R88,
R198). -/
def State.resultDue (s : State) (l : AxisNo) (tick : Bool) : Bool :=
  s.src l = 2 || (tick && s.src l = 1 && s.pn P.fbSpd l = 1)

/-- A clamp force is due: at the speed ticks of a caliper axis (R229). -/
def State.forceDue (s : State) (l : AxisNo) (tick : Bool) : Bool := tick && (s.wheel l).isSome

/-- The third and the fifth consecutive stale sample act, for either result (R27). -/
def State.staleReact (s : State) (l : AxisNo) : State :=
  let d := s.ax[l].del
  let s := if (3 ≤ d.stale ∧ d.staleRep < 3) ∨ (3 ≤ d.fStale ∧ d.fStaleRep < 3) then
      (s.modDel l fun d => { d with staleRep := if 3 ≤ d.stale then max 3 d.staleRep else d.staleRep
                                    fStaleRep := if 3 ≤ d.fStale then max 3 d.fStaleRep else d.fStaleRep }).raise 0x5001 .amber (some l) []
    else s
  let s := if 5 ≤ d.stale ∧ d.staleRep < 5 then
      (s.modDel l fun d => { d with staleRep := 5 }).noteLoss l 8 (s.src l = 2 || (s.src l = 1 && s.pn P.fbSpd l = 1))
    else s
  if 5 ≤ d.fStale ∧ d.fStaleRep < 5 then (s.modDel l fun d => { d with fStaleRep := 5 }).noteLoss l 8 false else s

/-- FEEDBACK_STALE (R27). -/
def execFeedbackStale (l : AxisNo) (now : Ns) (s : State) : Out := .next ((s.at now).staleReact l)

/-- The newest results are taken, or the sample is stale (R27). -/
def State.takeResults (s : State) (l : AxisNo) (tick : Bool) : State :=
  let due := s.resultDue l tick
  let fdue := s.forceDue l tick
  s.modDel l fun d =>
    let d := { d with userTaken := d.user }
    let d := if d.fresh then { d with fresh := false, stale := 0, staleRep := 0 }
      else if due then { d with stale := d.stale + 1 }
      else d
    let d := if d.fFresh then { d with fFresh := false, fStale := 0, fStaleRep := 0 }
      else if fdue then { d with fStale := d.fStale + 1 }
      else d
    { d with staleF := decide (0 < d.stale ∨ 0 < d.fStale) }.takeWait

/-! ## Position -/

/-- POS64 at a sample: a host set, the stepped estimate, the resolver or MOVCNT (R82, R83, R112). The second component tells
whether a host set took effect. -/
def State.posUpdate (s : State) (l : AxisNo) (mov : Word) (dRev : Q) : State × Bool :=
  let a := s.ax[l]
  let frac_ := fun (x : Q) => (a.fb.pos64 + (a.fb.frac + x).floor, fracQ (a.fb.frac + x))
  let (p, f) := match a.fb.setpos with
    | some v => (v + (match a.fb.setRel with | some r => diff32 mov r | none => 0), (0 : Q))
    | none =>
      if a.com.mode = .stepped then frac_ (dRev * s.cm l / s.pp l)
      else if s.src l = 2 then frac_ (65536 * wrapRev (a.del.theta - a.del.thetaPrev))
      else (a.fb.pos64 + diff32 mov a.fb.movPrev, a.fb.frac)
  (s.modAx l fun a =>
    { a with
      fb := { a.fb with posPrev := a.fb.pos64, pos64 := p, frac := f, movPrev := mov, setpos := none, setRel := none,
                        posSet := a.fb.posSet || a.fb.setpos.isSome }
      del := { a.del with thetaPrev := a.del.theta } }, a.fb.setpos.isSome)

/-- What a COMPARE frame carries of the registers (R321). -/
def Axis.cmpKey (a : Axis) : List (Int × Word) := a.cmp.toList.map fun c => (c.val, c.ctl)

/-- The note of a changed register for the COMPARE frame (R321). -/
def State.noteCmp (s : State) (l : AxisNo) (was : List (Int × Word)) : State :=
  let same := s.ax[l].cmpKey == was
  s.modAx l fun a => { a with mir := { a.mir with cmpChanged := a.mir.cmpChanged || !same } }

/-- The compare unit in the sample (R162). -/
def State.compareStep (s : State) (l : AxisNo) (t0 t1 : Ns) (dir : Int) (set : Bool) : State :=
  (s.compareSample l s.ax[l].fb.posPrev s.ax[l].fb.pos64 t0 t1 dir set).noteCmp l s.ax[l].cmpKey

/-! ## Currents -/

/-- Clarke, keeping amplitudes (log entry 3). -/
def clarke (u v w : Q) : Q × Q := ((2 * u - v - w) / 3, (v - w) / sqrtQ 3)

/-- Park into a frame at an angle in revolutions. -/
def park (ab : Q × Q) (th : Q) : Q × Q :=
  (ab.1 * cosRev th + ab.2 * sinRev th, ab.2 * cosRev th - ab.1 * sinRev th)

/-- Inverse Park. -/
def unpark (dq : Q × Q) (th : Q) : Q × Q :=
  (dq.1 * cosRev th - dq.2 * sinRev th, dq.1 * sinRev th + dq.2 * cosRev th)

/-- Inverse Clarke. -/
def unclarke (ab : Q × Q) : Q × Q × Q :=
  (ab.1, -ab.1 / 2 + sqrtQ 3 / 2 * ab.2, -ab.1 / 2 - sqrtQ 3 / 2 * ab.2)

/-- V_link as the sample finds it, V (R47, R54). -/
def State.vLink (s : State) (l : AxisNo) : Q := s.filterOut l 5 * s.pq P.linkVfs 0 (pairOf l)

/-- V_dc: the measured link voltage or its floor; 63 V while it is unknown (R54). -/
def State.vdcOf (s : State) (l : AxisNo) : Q :=
  if s.pair[pairOf l].vunk then 63 else max (s.vLink l) (s.pq P.curVdcmin l)

/-- A phase current as its filter gives it, with its offset, A (R47). -/
def State.phaseRaw (s : State) (l : AxisNo) (i : Fin 3) : Q := s.filterOut l ⟨i.val, by omega⟩ * s.pq P.elecIfs l

/-- The measurement of a sample: phase currents less offsets, their sum check, the frame of the sample and V_dc (R47, R48, R53,
R54). -/
def State.measure (s : State) (l : AxisNo) : State :=
  let fs := s.pq P.elecIfs l
  let o := s.ax[l].cur.off
  let iu := s.phaseRaw l 0 - o[(0 : Fin 3)]
  let iv := s.phaseRaw l 1 - o[(1 : Fin 3)]
  let three := s.pn P.dsmIch l = 3
  let iw := if three then s.phaseRaw l 2 - o[(2 : Fin 3)] else -iu - iv
  let sum := iu + iv + iw
  let bad := three && decide (s.pq P.curSumtol l * fs < |sum|)
  let (th, we) := s.angleSpeed l
  let (d, q) := park (clarke iu iv iw) th
  let vdc := s.vdcOf l
  s.modCur l fun c =>
    { c with iu := iu, iv := iv, iw := iw, sum := sum, sumCount := if bad then c.sumCount + 1 else 0, idPrev := c.id, iqPrev := c.iq,
             id := d, iq := q, thetaPrev := c.theta, theta := th, wePrev := c.we, we := we, vdcPrev := c.vdc, vdc := vdc }

/-! ## References -/

/-- The phase-advance angle at a speed, degrees (R55). -/
def State.advance (s : State) (l : AxisNo) (we : Q) : Q := tableAt (s.points P.curPaf P.curPaa 16 l) (|we| / twoPi)

/-- What a commutation mode asks of the current loop: references, whether i_d is a mode set-point, and whether decoupling is
off. -/
structure Refs where
  id : Q
  iq : Q
  mode : Bool
  plain : Bool
  deriving DecidableEq, Repr

/-- The current falls linearly to 0 in 1 ms from a local time (R115, R120). -/
def State.fall (s : State) (t0 : Ns) : Q := max 0 (1 - secs s.clk.lclk t0 * 1000)

/-- The references before the limits, if the mode runs the current loop (R53, R55, R106, R110, R114, R120). -/
def State.refs (s : State) (l : AxisNo) : Option Refs :=
  let a := s.ax[l]
  let we := a.cur.we
  if a.com.align.isSome then some ⟨s.pq P.comIalign l, 0, true, true⟩
  else match a.com.mode with
    | .sensored =>
      let iq := a.cur.iqHeld
      some ⟨clampQ (-(|iq|) * tanDeg (s.advance l we)) (-(s.pq P.curIdfw l)) 0, iq, false, false⟩
    | .stepped => some ⟨a.com.olI, 0, true, true⟩
    | .ifStart =>
      let i := s.pq P.comIif l
      let m : Q := match a.com.phase with
        | .align => min 1 (secs s.clk.lclk a.com.since * 1000 / s.pn P.comTifa l)
        | .wait => s.fall a.com.since
        | _ => 1
      some ⟨m * i, 0, true, true⟩
    | .braking =>
      let lim := s.iLim l true we
      let d := -(min (s.pq P.comIdbrk l) lim)
      let psi := s.pq P.elecPsi l / 1000
      let q := -(sgn we) * min (sqrtQ (lim * lim - d * d)) (s.pq P.elecR l * (d * d) / (|we| * psi))
      if a.com.brkWait then some ⟨d * s.fall a.com.since, q * s.fall a.com.since, true, false⟩ else some ⟨d, q, true, false⟩
    | _ => none

/-- i_q_ref opposes w_e (R56). -/
def opposes (iq we : Q) : Bool := decide (iq * we < 0)

/-- References after steps 1 to 3 of R56, with P_x of R444 and ILIM. -/
def State.limitRefs (s : State) (l : AxisNo) (r : Refs) : Q × Q × Q × Bool :=
  let we := s.ax[l].cur.we
  let k := pairOf l
  let iq := if s.ov1Acts k && opposes r.iq we then 0 else r.iq
  let opp := opposes iq we
  let lim := s.iLim l opp we
  let ov2 := -(min (s.pq P.ovIdd l) lim)
  let id := if s.pair[k].ov[(1 : Fin 3)] then (if s.ax[l].com.mode = .braking then min r.id ov2 else ov2) else r.id
  let rr := s.pq P.elecR l
  let psi := s.pq P.elecPsi l / 1000
  let px := if opp then 0 else 3 / 2 * (rr * (id * id + iq * iq) + |we| * psi * |iq|)
  if lim * lim < id * id + iq * iq then
    let id := clampQ id (-lim) lim
    (id, sgn iq * sqrtQ (lim * lim - id * id), px, true)
  else (id, iq, px, false)

/-! ## The loop -/

/-- The takeover preset of R140 in the first sample that drives, with the loop rule for a mirror of another LOOP. In a speed tick I_w is formed
from that tick's e_w. -/
def State.takeover (s : State) (l : AxisNo) (sp : Bool) : State :=
  let a := s.ax[l]
  let age : Int := s.gtAt a.sch.inst - a.mir.ts
  let mLoop := ((s.mirWord l 1) >>> 24).toNat % 16
  let s := s.modAx l fun a => { a with mir := { a.mir with take := false } }
  let s := if a.mir.words.isSome && age ≤ (s.pn P.casN1 l * s.tc l : Nat) + 30000 then s
    else
      match a.cur.meanD, a.cur.meanQ with
      | some md, some mq =>
        let r := s.pq P.elecR l
        let psi := s.pq P.elecPsi l / 1000
        let back := if s.pn P.curDec l = 1 then 0 else a.cur.we * psi
        let (kps, _) := s.speedGains l
        let s := s.modAx l fun a =>
          { a with
            cur := { a.cur with intD := r * md, intQ := r * mq + back, iqHeld := mq }
            cas := { a.cas with intW := mq - kps * a.cas.ew - a.cas.iff, intP := 0, enterS := sp && decide (a.cas.loop ≠ 0),
                                intF := a.cas.wAct - s.pq P.casKpf l * (a.cas.fRef - s.fUse l), pmeas := true }
            prof := { a.prof with enter := decide (a.cas.loop = 2) } }
        s.raise 0x3001 .amber (some l) [BitVec.ofInt 32 age]
      | _, _ =>
        s.modAx l fun a =>
          { a with
            cur := { a.cur with iqHeld := 0 }
            cas := { a.cas with enterC := true, enterS := decide (a.cas.loop ≠ 0), enterP := decide (a.cas.loop = 2),
                                enterF := decide (a.cas.loop = 3) }
            prof := { a.prof with enter := decide (a.cas.loop = 2) } }
  let n := s.pn P.casLoop l
  if a.mir.words.isSome && mLoop ≠ n then
    let s := s.modAx l fun a =>
      { a with
        cas := { a.cas with loop := n, enterS := a.cas.enterS || decide (mLoop = 0 ∧ n ≠ 0), enterP := a.cas.enterP || decide (n = 2),
                            enterF := a.cas.enterF || decide (n = 3) }
        prof := { a.prof with enter := a.prof.enter || decide (n = 2) } }
    s.raise 0x3002 .amber (some l) [BitVec.ofNat 32 mLoop, BitVec.ofNat 32 n]
  else s

/-- The integrators a sample starts from: a mirror's in STANDBY, a preset at entry (R136, R139). -/
def State.enterCurrent (s : State) (l : AxisNo) : State :=
  let a := s.ax[l]
  if s.standby && a.mir.loadC then
    s.modAx l fun a => { a with mir := { a.mir with loadC := false }
                                cur := { a.cur with intD := ofFixS 16 (s.mirWord l 4), intQ := ofFixS 16 (s.mirWord l 5) }
                                cas := { a.cas with psC := false, enterC := false } }
  else if a.cas.enterC then
    let q := if s.pn P.curDec l = 1 then 0 else a.cur.we * (s.pq P.elecPsi l / 1000)
    s.modAx l fun a => { a with cur := { a.cur with intD := 0, intQ := q }, cas := { a.cas with enterC := false, psC := true } }
  else s.modCas l fun c => { c with psC := false }

/-- Duties to compare values (R40, R53). -/
def State.compares (s : State) (l : AxisNo) (vd vq th vdc : Q) : Vector Nat 3 :=
  let (u, v, w) := unclarke (unpark (vd, vq) th)
  let off := -(max u (max v w) + min u (min v w)) / 2
  let n : Q := 32 * s.pn P.pwmHalf l
  let c := fun (x : Q) => (roundQ (clampQ (1 / 2 + (x + off) / vdc) 0 1 * n)).toNat
  #v[c u, c v, c w]

/-- In a takeover, the sample whose duties load at the first valley at least 20 µs after the claim began, or a later one (R326). -/
def State.firstDrive (s : State) (l : AxisNo) : Bool :=
  let tc := s.tc l
  let i := s.ax[l].sch.index
  decide (s.twin.claimAt + 20000 ≤ s.ax[l].sch.inst + tc) &&
    (s.pn P.pwmUpdate l != 2 || (i + 1) % 2 == (5 * s.pn P.pwmPhase l / tc) % 2)

/-- The lane drives the winding with the loop: duties are written (R66, R139). -/
def State.drivesLoop (s : State) (l : AxisNo) : Bool :=
  let a := s.ax[l]
  a.en && !s.standby && a.fault == 0 && (!a.mir.take || s.firstDrive l) && (a.com.align.isSome || a.com.mode == CMode.sensored || a.com.mode == CMode.stepped ||
    a.com.mode == CMode.ifStart || a.com.mode == CMode.braking)

/-- One run of the current loop with its limits and the duty write (R53, R56). The sample that presets the integrators takes the nominal
period (R141). -/
def State.currentLoop (s : State) (l : AxisNo) (r : Refs) : State :=
  let s := s.enterCurrent l
  let (idr, iqr, px, ilim) := s.limitRefs l r
  let c := s.ax[l].cur
  let dt := if s.ax[l].cas.psC then s.tcQ l else s.ax[l].sch.dt
  let kp := s.pq P.curKp l
  let ki := s.pq P.curKi l
  let el := s.pq P.elecL l / 1000000
  let psi := s.pq P.elecPsi l / 1000
  let dec : Q := if s.pn P.curDec l = 1 ∧ !r.plain then 1 else 0
  let ed := idr - c.id
  let eq := iqr - c.iq
  let vd0 := kp * ed + c.intD - dec * (c.we * el * c.iq)
  let vq0 := kp * eq + c.intQ + dec * (c.we * (el * c.id + psi))
  let mv := s.pq P.curMmax l * c.vdc
  let vlim := decide (mv * mv / 3 < vd0 * vd0 + vq0 * vq0)
  let lim := mv / sqrtQ 3
  let vd := if vlim then clampQ vd0 (-lim) lim else vd0
  let vq := if vlim then sgn vq0 * sqrtQ (lim * lim - vd * vd) else vq0
  let fd := vlim && decide (|vd| < |vd0|) && sameSign ed vd0
  let fq := vlim && decide (|vq| < |vq0|) && sameSign eq vq0
  let th := c.theta + toRev (c.we * s.pq P.curDelay l * s.tcQ l)
  let cmp := s.compares l vd vq th c.vdc
  let fw := !r.mode && decide (0 < s.advance l c.we)
  let emf := sqrtQ ((vd - s.pq P.elecR l * c.id + c.we * el * c.iq) ^ 2 + (vq - s.pq P.elecR l * c.iq - c.we * el * c.id) ^ 2)
  let drive := s.drivesLoop l
  let glim := s.ov1Acts (pairOf l)
  s.modAx l fun a =>
    let chk := a.com.mode == CMode.ifStart && a.com.phase == IfPhase.check
    { a with
      cur := { a.cur with idRef := idr, iqRef := iqr, vd := vd, vq := vq, ilim := ilim, vlim := vlim, fw := fw,
                          limSince := a.cur.limSince || ilim || vlim || glim, reqMax := if s.arb.lastAt ≤ a.sch.inst then max a.cur.reqMax px else a.cur.reqMax,
                          intD := if fd then a.cur.intD else a.cur.intD + ki * ed * dt,
                          intQ := if fq then a.cur.intQ else a.cur.intQ + ki * eq * dt }
      com := { a.com with emfSum := if chk then a.com.emfSum + emf else a.com.emfSum, emfN := if chk then a.com.emfN + 1 else a.com.emfN }
      pwm := if drive then { a.pwm with next := a.pwm.next ++ [⟨a.sch.written, a.sch.point + 1, cmp⟩] } else a.pwm }

/-! ## Motor-model check -/

/-- The compare values in force over an interval of local time, weighted by time, from the load points newest first (R57, log entry 43). -/
def appliedOver (t0 : Ns) : Ns → List (Ns × Vector Nat 3) → Fin 3 → Q
  | _, [], _ => 0
  | t1, (t, v) :: r, i =>
    if t1 ≤ t then appliedOver t0 t1 r i
    else if t ≤ t0 then (v[i] : Q) * (t1 - t0 : Nat)
    else (v[i] : Q) * (t1 - t : Nat) + appliedOver t0 t r i

/-- The mean compare value of a phase over the interval of the present sample. -/
def State.applied (s : State) (l : AxisNo) (i : Fin 3) : Q :=
  let a := s.ax[l]
  let t1 := a.sch.inst
  let d : Nat := (a.sch.dt * 1000000000).floor.toNat
  if d = 0 then (a.pwm.cmp[i] : Q) else appliedOver (t1 - d) t1 a.pwm.loads i / d

/-- The residual of R57, A. -/
def State.residual (s : State) (l : AxisNo) : Q :=
  let a := s.ax[l]
  let c := a.cur
  let n : Q := 32 * s.pn P.pwmHalf l
  let v := fun (i : Fin 3) => s.applied l i / n * c.vdcPrev
  let (vd, vq) := park (clarke (v 0) (v 1) (v 2)) c.thetaPrev
  let el := s.pq P.elecL l / 1000000
  let r := s.pq P.elecR l
  let psi := s.pq P.elecPsi l / 1000
  let dt := a.sch.dt
  let w := c.wePrev
  let dh := c.idPrev + dt / el * (vd - r * c.idPrev + w * el * c.iqPrev)
  let qh := c.iqPrev + dt / el * (vq - r * c.iqPrev - w * el * c.idPrev - w * psi)
  let (d, q) := park (clarke c.iu c.iv c.iw) (c.thetaPrev + toRev (w * dt))
  sqrtQ ((d - dh) ^ 2 + (q - qh) ^ 2)

/-- The model check of a sample: it counts against its thresholds, from sup.settle samples after a gate enable or a change of mode on
(R57, R58, R60). -/
def State.modelCheck (s : State) (l : AxisNo) : State :=
  let a := s.ax[l]
  if !a.pwm.gates then s
  else if a.cur.settled < s.pn P.supSettle l then s.modCur l fun c => { c with settled := c.settled + 1 }
  else
    let r := s.residual l
    let warn := if s.pq P.supRes1 l < r then a.cur.warn + 1 else a.cur.warn - 1
    let bad := decide (s.pq P.supRes2 l < r)
    s.modCur l fun c =>
      { c with resid := r, warn := warn, res1 := c.res1 && decide (warn ≠ 0),
               fail := if bad then c.fail + 1 else 0, failRep := c.failRep && bad }

/-- The warning count has reached sup.n1 (R58). -/
def State.modelResid (s : State) (l : AxisNo) : State :=
  let c := s.ax[l].cur
  if c.res1 ∨ c.warn < s.pn P.supN1 l then s
  else (s.modCur l fun c => { c with res1 := true }).raise 0x7001 .amber (some l) [toFix 16 c.resid]

/-- MODEL_RESIDUAL (R58). -/
def execModelResidual (l : AxisNo) (now : Ns) (s : State) : Out := .next ((s.at now).modelResid l)

/-- The failure count has reached sup.n2: a sensor loss in sensored commutation, a fault without the sensor (R58, R59). -/
def State.modelFailed (s : State) (l : AxisNo) : State :=
  let a := s.ax[l]
  if a.cur.failRep ∨ a.cur.fail < s.pn P.supN2 l then s
  else
    let s := (s.modCur l fun c => { c with modelf := true, failRep := true }).raise 0x7002 .crimson (some l) [toFix 16 a.cur.resid]
    if a.com.mode = .sensored then s.noteLoss l 7 true else if a.com.mode = .off then s else s.axisFault l 2

/-- MODEL_IMPLAUSIBLE (R58, R59). -/
def execModelImplausible (l : AxisNo) (now : Ns) (s : State) : Out := .next ((s.at now).modelFailed l)

/-! ## Attached program (R190, R191) -/

/-- The tick that le.attach selects is carried. -/
def State.attachDue (s : State) (l : AxisNo) (sp ps : Bool) : Bool :=
  let m := s.pn P.leAttach l
  m = 1 || (m = 2 && sp) || (m = 3 && ps)

/-- A vendor operand word written by the loop engine. -/
def Engine.poke (g : Engine) (l : AxisNo) (a : Nat) (w : W24) : Engine :=
  { g with oper := Cells.write (operD (.loop l)) g.oper a (w.setWidth 32) }

/-- The state block of R191. -/
def State.stateBlock (s : State) (l : AxisNo) : List W24 :=
  let a := s.ax[l]
  let c := a.cur
  let fs := s.pq P.elecIfs l
  (a.del.userTaken.toList.flatMap id) ++
    [toQ23 (c.id / fs), toQ23 (c.iq / fs), toQ23 (c.vd / c.vdc), toQ23 (c.vq / c.vdc), toQ23 (2 * wrapRev c.theta),
     toQ23 (c.we / (twoPi * 5000)), toQ23 (c.vdc / s.pq P.linkVfs 0 (pairOf l)), toQ23 (a.sch.dt / (2 * s.tcQ l)),
     0, 0, 0, 0, 0, 0, 0, 0]

/-- The attached program runs from le.entry with zeroed registers and stack depth 2, to its end or a trap (R189, R190). -/
def State.attached (s : State) (l : AxisNo) (sp ps : Bool) : State :=
  let g := s.ax[l].eng
  if !s.attachDue l sp ps ∨ g.off ∨ g.reload ∨ g.progCrc.isNone then s
  else
    let ws := s.stateBlock l
    let s := s.modEng (.loop l) fun g =>
      let g := ws.zipIdx.foldl (fun g (w, i) => g.poke l (0x7E0 + i) w) g
      { g with running := true, integ := true, ctx := { pc := BitVec.ofNat 13 (s.pn P.leEntry l), stack := [0, 0] } }
    s.runProg (.loop l) (s.pn P.leCmax l + 1)

/-! ## Actual values and the mirror -/

/-- The phase of the plan in force at a local time, by index, and the time spent in it, s. -/
def planPhase (t : Q) : List Phase → Nat × Q
  | [] => (0, 0)
  | f :: r => if t < f.dur ∨ r.isEmpty then (0, t) else let (n, u) := planPhase (t - f.dur) r; (n + 1, u)

/-- The AXIS payload (R322). Word 22 is zero before the first index load (log entry 19). -/
def State.axisWords (s : State) (l : AxisNo) : List Word :=
  let a := s.ax[l]
  let t := s.gtAt a.sch.inst
  let (n, u) := planPhase (secs a.sch.inst a.prof.t0) a.prof.plan
  let ph := a.prof.ph0.1 + n
  let tp := if n = 0 then a.prof.ph0.2 + u else u
  let step : Nat := match a.com.mode with
    | .ifStart => (match a.com.phase with | .align => 0 | .ramp => 1 | .check => 2 | .wait => 3)
    | .satStart => a.com.satPulse
    | _ => 0
  let att := if a.com.mode = .satStart then a.com.satRuns else a.com.attempt
  let ang := match a.com.mode with
    | .stepped | .ifStart => a.com.olTheta
    | _ => a.cur.theta
  [loW t, (s.axmode l &&& 0xFFFFFF0F) ||| bitAt a.com.cval 4, s.prstat l,
   (a.cas.stat &&& 0xFFFF) ||| (a.ssstat <<< 16) ||| (BitVec.ofNat 32 (ph % 16) <<< 20) ||| (BitVec.ofNat 32 (att % 16) <<< 24) |||
     (BitVec.ofNat 32 (step % 16) <<< 28),
   toFix 16 a.cur.intD, toFix 16 a.cur.intQ, toFix 16 a.cas.intW, toFix 16 a.cas.intP, toFix 16 a.cas.intF,
   toFix 32 (fracQ ang), toFix 16 a.cur.we, toFix 16 a.com.olI, loW a.fb.pos64, hiW a.fb.pos64, loW a.prof.target, hiW a.prof.target,
   loW a.prof.p.floor, hiW a.prof.p.floor, toFix 32 (fracQ a.prof.p), toFix 16 a.prof.v, toFix 8 a.prof.a,
   toFix 8 (tp * 1000000), loW (a.fb.lastLoad.getD 0), toFix 16 a.cas.fRef]

/-- The COMPARE payload (R321). -/
def State.cmpWords (s : State) (l : AxisNo) : List Word :=
  loW (s.gtAt s.ax[l].sch.inst) :: s.ax[l].cmp.toList.flatMap fun c => [loW c.val, hiW c.val, c.ctl]

/-- The end of a speed tick: means, actual values (an overrun that the host has not read stays in FBSTAT, R98), user values, the tick record, and the mirror frames of a lane with authority
(R26, R105, R139, R191, R321). -/
def State.tickEnd (s : State) (l : AxisNo) : State :=
  let n := s.pn P.casN1 l
  let s := s.modCur l fun c =>
    let full := decide (c.sumN = n)
    { c with meanD := if full then some (c.sumD / n) else c.meanD, meanQ := if full then some (c.sumQ / n) else c.meanQ,
             sumD := 0, sumQ := 0, sumN := 0 }
  let a := s.ax[l]
  let unread := a.win.act.getD 1 0 &&& 0x1000
  let w := [s.axmode l, a.fb.stat ||| unread, a.cas.stat, s.prstat l, a.ssstat, toFix 16 a.cur.id, toFix 16 a.cur.iq, toFix 16 a.cas.wAct,
    loW a.fb.pos64, hiW a.fb.pos64]
  let u := (List.range 16).map fun i => Cells.read (operD (.loop l)) a.eng.oper (0xFF0 + i)
  let rec_ : TickRec := ⟨s.gtAt a.sch.inst, a.com.count, a.com.ref⟩
  let s := s.modAx l fun a =>
    { a with
      win := { a.win with act := w, user := u, tag := a.win.tag + 1 }
      fb := { a.fb with rovr := false, tickRec := (rec_ :: a.fb.tickRec).take 16 }
      mir := { a.mir with ticks := a.mir.ticks + 1 } }
  if s.auth && s.allocated l then
    let ax := s.axisWords l
    let cw := s.cmpWords l
    s.modAx l fun a =>
      let go := a.mir.cmpChanged || decide (a.mir.ticks % 64 = 0)
      { a with mir := { a.mir with due := some ax, cmpDue := if go then some cw else a.mir.cmpDue, cmpChanged := false } }
  else s

/-! ## The sample -/

/-! ## Offset calibration (R51) -/

/-- One sample of a calibration: the sums of the channels, and of the magnitudes about the stored offsets in the first 16 (log entry
45). -/
def State.calSample (s : State) (l : AxisNo) : State :=
  let a := s.ax[l]
  if !a.cur.calDue || a.pwm.gates || 256 ≤ a.cur.calN then s
  else
    let i := s.phaseRaw l
    s.modCur l fun c =>
      { c with calN := c.calN + 1, calSum := Vector.ofFn fun k => c.calSum[k] + i k
               calMag := if c.calN < 16 then Vector.ofFn fun k => c.calMag[k] + |i k - c.offStored[k]| else c.calMag }

/-- The end of a calibration: current in the first 16 samples leaves the stored offsets in use, a large offset faults the axis, and 256
means become the offsets and are stored (R51). The gates of an enabled axis follow. -/
def State.calEnd (s : State) (l : AxisNo) : State :=
  let a := s.ax[l]
  let lim := s.pq P.elecIfs l * 2 / 100
  let chs := (fins 3).filter fun i => i.val < s.pn P.dsmIch l
  let m : Vector Q 3 := Vector.ofFn fun i => if i.val < s.pn P.dsmIch l then a.cur.calSum[i] / 256 else 0
  let ended := fun (c : Cur) => { c with calDue := false, calDone := true, calN := 0, calSum := Vector.replicate 3 0, calMag := Vector.replicate 3 0 }
  let ready := fun (s : State) => s.modAx l fun a => if a.en then { a with pwm := { a.pwm with gateReq := some true } } else a
  if !a.cur.calDue || a.pwm.gates || a.cur.calN < 16 then s
  else if chs.any fun i => decide (lim ≤ a.cur.calMag[i] / 16) then
    (ready (s.modCur l fun c => { ended c with off := c.offStored })).raise 0x1005 .grey (some l) []
  else if a.cur.calN < 256 then s
  else
    match chs.find? fun i => decide (lim < |m[i]|) with
    | some i => (s.modCur l ended).faultWith l 6 0x1006 [BitVec.ofNat 32 i.val, toFix 16 m[i]]
    | none => ready (s.modCur l fun c => { ended c with off := m, offStored := m })

/-- CURRENT_OFFSET_CALIBRATION (R51). -/
def execCurrentOffsetCalibration (l : AxisNo) (now : Ns) (s : State) : Out :=
  let s := s.at now
  .next (if s.axOn l then s.calEnd l else s)

/-- Reactions that a threshold already calls for when the sample starts; the rows of their own take them earlier. -/
def State.dueAxis (s : State) (l : AxisNo) : State :=
  let s := (((((s.staleReact l).sumFault l).modelResid l).modelFailed l).encoderFailed l).ssRemove l |>.stages (pairOf l)
  ((s.calEnd l).satDone l).probeDone l

/-- The sums of the measured currents in a period in which the twin claims (R139). -/
def State.sumMeans (s : State) (l : AxisNo) : State :=
  let seen := s.twin.seen
  s.modCur l fun c => if seen then { c with sumD := c.sumD + c.id, sumQ := c.sumQ + c.iq, sumN := c.sumN + 1 } else c

/-- The loops of a sample, in the order of R19. -/
def State.loops (s : State) (l : AxisNo) (sp ps : Bool) : State :=
  let inst := s.ax[l].sch.inst
  let s := if s.ov1Acts (pairOf l) then s.modCur l fun c => { c with limSince := true } else s
  let s := if sp then s.speedMeasure l inst else s
  let s := if s.ax[l].mir.take && s.drivesLoop l then s.takeover l sp else s
  let s := if ps then s.posTick l inst else s
  let s := if sp then s.speedTick l inst else s
  match s.refs l with
  | some r => if s.axEn l && s.ax[l].fault == 0 then s.currentLoop l r else s
  | none => s

/-- The sample of a load point (R47 to R64, R76, R82, R102, R132 to R134, R162, R190). -/
def State.sampleRun (s : State) (l : AxisNo) (pt : Nat) (nom : Ns) (x : SampleIn) : State :=
  let k := pairOf l
  let t0 := s.ax[l].sch.inst
  let s := ((s.takeNow l).dueAxis l).schedule l pt nom x
  let s := s.feed l x.bits s.ax[l].sch.start
  let inst := s.ax[l].sch.inst
  let ix := s.ax[l].sch.index
  let sp := decide (ix % s.pn P.casN1 l = 0)
  let ps := decide (ix % s.pn P.casN2 l = 0)
  let dir := sgnI ((s.ax[l].cas.posLast - s.ax[l].cas.posLast2 : Int) : Q)
  let (_, mov) := s.ax[l].fb.countsAt inst
  let s := s.takeResults l sp
  let s := s.commutate l mov inst s.ax[l].sch.dt
  let (s, set) := s.posUpdate l mov (toRev (s.ax[l].com.olSpeed * s.ax[l].sch.dt))
  let s := s.compareStep l t0 inst dir set
  let s := (s.measure l).calSample l
  let s := if l = loAx k then s.linkSample k (s.vLink l) else s
  let s := s.loops l sp ps
  let s := (s.modelCheck l).sumMeans l
  let s := s.attached l sp ps
  let s := if sp then s.tickEnd l else s
  if ps then s.ssiDue (l.val + 1) inst else s

/-- CURRENT_LOOP_SAMPLE: the sample of the oldest load point that has none yet (R44, R52). -/
def execCurrentLoopSample (l : AxisNo) (x : SampleIn) (s : State) : Out :=
  if !s.axOn l || !s.allocated l then .next s
  else
    match s.ax[l].sch.due with
    | [] => .next s
    | (pt, nom) :: _ => .next (s.sampleRun l pt nom x)

/-! ## Load points -/

/-- A compare value after the minimum-pulse rule (R45). -/
def State.minPulse (s : State) (l : AxisNo) (c : Nat) : Nat :=
  let half := s.pn P.pwmHalf l
  let dead := 5 * s.pn P.pwmDead l
  let mp := 5 * s.pn P.pwmMinpulse l
  if 10 * c < 32 * (dead + mp) then 0
  else if 10 * (32 * half - c) < 32 * (dead + mp) then 32 * half
  else c

/-- The length of the half-period in progress, ns: the nominal one of pwm.half steps, with the correction of the valley it began at
(R39, R42). -/
def State.halfLen (s : State) (l : AxisNo) : Q := 5 * s.pn P.pwmHalf l + s.ax[l].pwm.corr

/-- The carrier counter at a local time, in fine steps of 156.25 ps, 0 at a valley and 32 × pwm.half at a peak, and whether it counts up
(R39, R40). -/
def State.carrierAt (s : State) (l : AxisNo) (t : Q) : Q × Bool :=
  let p := s.ax[l].pwm
  let n : Q := 32 * s.pn P.pwmHalf l
  let x := clampQ ((t - p.ext) / s.halfLen l) 0 1 * n
  if p.up then (x, true) else (n - x, false)

/-- The phase error of a local time against the lock condition of R41, ns of global time, from −T_pwm/2 to T_pwm/2: positive where a valley
there is late. -/
def State.phaseErr (s : State) (l : AxisNo) (t : Ns) : Int :=
  let tp : Int := 10 * s.pn P.pwmHalf l
  let e := (s.gtAt t - 5 * s.pn P.pwmPhase l) % tp
  if tp < 2 * e then e - tp else e

/-- The carrier lock at a valley with its phase error: the next half-period is corrected by the error, within ±0.2 %; LOCK and its event
(R42). A full vehicle cycle below 100 ns is 1 ms of local time since the first such valley (log entry 43). -/
def State.carrier (s : State) (l : AxisNo) (t : Ns) (err : Int) : State :=
  let p := s.ax[l].pwm
  let lim : Q := (s.pn P.pwmHalf l : Q) / 100
  let near := decide (err.natAbs < 100)
  let since := if near then some (p.lockSince.getD t) else none
  let locked := match since with | some t0 => decide (t0 + ms 1 ≤ t) | none => false
  let far := decide (5000 < err.natAbs)
  let s' := s.modAx l fun a =>
    { a with pwm := { a.pwm with corr := -clampQ err (-lim) lim, lockSince := since, lock := (a.pwm.lock || locked) && !far,
                                 unlocked := (a.pwm.unlocked && !locked) || far } }
  if far ∧ !p.unlocked then s'.raise 0x1001 .amber (some l) [BitVec.ofInt 32 err] else s'

/-- Gate requests at a load point (R46, R60, R136). -/
def State.gatePoint (s : State) (l : AxisNo) : State :=
  let a := s.ax[l]
  match a.pwm.gateReq with
  | some false => s.modAx l Axis.gatesLow
  | some true =>
    if a.en && a.fault == 0 && s.toPermit (pairOf l) then
      s.modAx l fun a =>
        { a with
          pwm := { a.pwm with gates := true, gateReq := none, owed := false }
          cur := a.cur.resettle
          cas := { a.cas with enterC := !a.mir.take } }
    else s
  | none => s

/-- The set a load point takes: the newest whose write ended in an earlier AXIS cycle (R46, R63). -/
def Pwm.taken (p : Pwm) (t : Ns) : Option Duty := (p.next.filter fun d => decide (d.at_ / 5 < t / 5)).getLast?

/-- The set due at the load point was written before it (R44, R46, R63). -/
def Pwm.onTime (p : Pwm) (t : Ns) : Bool := p.next.any fun d => d.due == p.pts && decide (d.at_ / 5 < t / 5)

/-- A load point: gate requests, the duties of one set, a missed update, a pulse of a start, and the sampling instant (R44, R46, R63). -/
def State.loadPoint (s : State) (l : AxisNo) (t : Ns) : State :=
  let s := s.gatePoint l
  let p := s.ax[l].pwm
  let s := if p.gates && p.owed && !p.onTime t then s.bump (0x2001 + 256 * l.val) else s
  let owe := s.drivesLoop l && p.gates
  let mp := s.minPulse l
  let cmp := match p.taken t with | some d => if p.gates then d.cmp.map mp else p.cmp | none => p.cmp
  let s := s.modAx l fun a =>
    { a with
      pwm := { a.pwm with cmp := cmp, loads := (t, cmp) :: a.pwm.loads.take 7, owed := owe,
                          next := a.pwm.next.filter fun d => decide (t / 5 ≤ d.at_ / 5) }
      sch := { a.sch with due := a.sch.due ++ [(a.pwm.pts, t)] } }
  let s := s.pulsePoint l t
  s.modAx l fun a => { a with pwm := { a.pwm with pts := a.pwm.pts + 1 } }

/-- An extreme of the running carrier: the next half-period begins (R39, R42, R44). -/
def State.extreme (s : State) (l : AxisNo) (peak : Bool) (t : Q) : State :=
  let tm := t.floor.toNat
  let err := s.phaseErr l tm
  let s := s.modAx l fun a => { a with pwm := { a.pwm with ext := t, up := !peak, corr := 0 } }
  let s := if peak then s else s.carrier l tm err
  if peak && s.pn P.pwmUpdate l == 1 then s else s.loadPoint l tm

/-- PWM_LOAD_POINT: a valley or a peak of the carrier, told at or after its time. A carrier that does not run starts at a valley that meets
the lock condition (R39 to R46, R63, log entry 43). -/
def execPwmLoadPoint (l : AxisNo) (peak : Bool) (now : Ns) (s : State) : Out :=
  if !s.axOn l || !s.allocated l then .next (s.at now)
  else
    let p := s.ax[l].pwm
    if p.run then
      let t := p.ext + s.halfLen l
      if peak == p.up && decide (t ≤ now) then .next (((s.at t.floor.toNat).extreme l peak t).at now) else .next (s.at now)
    else
      let s := s.at now
      let e := s.phaseErr l s.clk.lclk
      if !peak && decide (0 ≤ e ∧ e < 5) then
        .next ((s.modAx l fun a => { a with pwm := { a.pwm with run := true, lock := true } }).extreme l false s.clk.lclk)
      else .next s

/-! ## Gate outputs -/

/-- The six gate outputs of an axis at a local time, PWM_Hu, PWM_Lu, PWM_Hv, PWM_Lv, PWM_Hw, PWM_Lw from bit 0 up: all low without the gates;
under a start's pulse its switches, then the opposite ones until the current has returned to zero; else high side while the counter is
below the compare value, low side above it, each turned on pwm.dead steps after the other's turn-off (R40, R45, R46, R116, R118). -/
def State.gateOut (s : State) (l : AxisNo) (t : Ns) : BitVec 6 :=
  let a := s.ax[l]
  let pack := fun (hi lo : Fin 3 → Bool) =>
    (bitAt (hi 0) 0 ||| bitAt (lo 0) 1 ||| bitAt (hi 1) 2 ||| bitAt (lo 1) 3 ||| bitAt (hi 2) 4 ||| bitAt (lo 2) 5).setWidth 6
  if !a.pwm.gates then 0
  else if (s.pulsePlan l).isSome then
    match a.com.pulse with
    | none => 0
    | some p =>
      if t < p.until_ then pack (fun i => p.hi.getLsbD i) (fun i => p.lo.getLsbD i)
      else if p.off || p.hi == 0 then 0
      else pack (fun i => p.lo.getLsbD i) (fun i => p.hi.getLsbD i)
  else
    let (x, up) := s.carrierAt l t
    let n : Q := 32 * s.pn P.pwmHalf l
    let d : Q := 32 * s.pn P.pwmDead l
    let c := fun (i : Fin 3) => (a.pwm.cmp[i] : Q)
    pack (fun i => if c i = n then true else decide (x < if up then c i else c i - d))
      (fun i => if c i = 0 then true else decide ((if up then c i + d else c i) ≤ x))

end Sys2Proof.Machine
end

