-- ==== Sys2Proof/Machine/Publication.lean ====
section
/-!
DEFINITION. A lane's publication: the blocks B0 to B2 as words, the sampling of the inputs they carry, and their reading by the
other lanes (R30, R204, R219, R233, R272, R352 to R354).
-/

namespace Sys2Proof.Machine

/-! ## Fields -/

/-- A signed 16-bit field, saturated (R352). -/
def sField (lsb x : Q) : Word := (BitVec.ofInt 16 (max (-32768) (min 32767 (roundQ (x / lsb))))).setWidth 32

/-- An unsigned 16-bit field, saturated (R352). -/
def uField (lsb x : Q) : Word := BitVec.ofInt 32 (max 0 (min 65535 (roundQ (x / lsb))))

/-- Two fields in a word, the first low. -/
def pack (a b : Word) : Word := a ||| (b <<< 16)

/-- The fields of a list of words, in order. -/
def halves (ws : List Word) : List (BitVec 16) := ws.flatMap fun (w : Word) => [w.setWidth 16, (w >>> 16).setWidth 16]

/-- Fields two to a word. -/
def packAll : List Word → List Word
  | a :: b :: r => pack a b :: packAll r
  | [a] => [a]
  | [] => []

/-- Set-points 0 to 6 are signed, the forces of the brakes are not (R352). -/
def spSigned (i : Nat) : Bool := decide (i < 7)

/-- The LSB of a set-point (R352). -/
def spLsb (i : Nat) : Q := if i < 3 then 1 / 200 else if i = 3 then 1 / 500 else 1 / 100

/-- The enable of a set-point (R352). -/
def State.spOn (s : State) (i : Nat) : Bool :=
  let sb := s.pw P.sbwEn
  let bw := s.pw P.bwEn
  if i < 3 then sb.getLsbD i else if i = 3 then sb.getLsbD 3 else if i < 7 then sb.getLsbD (i - 4)
  else if i = 7 then bw.getLsbD 8 else bw.getLsbD (i - 8)

/-- The status word of every block (R272). -/
def State.pubStatus (s : State) : Word :=
  bitAt s.auth 0 ||| bitAt s.safe.vss 1 ||| bitAt s.black 2 ||| (BitVec.ofNat 32 s.grp.val <<< 3)

/-- The payload of B0: a field whose enable is clear is 0 (R352). -/
def State.blockB0 (s : State) (sp : SetPts) : List Word :=
  s.pubStatus :: packAll ((List.range 16).map fun i =>
    let x := if s.spOn i then sp.getD i 0 else 0
    if spSigned i then sField (spLsb i) x else uField (spLsb i) x)

/-- The set-points of a B0 payload. -/
def setPtsOf (b : List Word) : SetPts :=
  (halves (b.drop 1)).zipIdx.map fun (f, i) => spLsb i * (if spSigned i then (f.toInt : Q) else (f.toNat : Q))

/-! ## Axis inputs -/

/-- The rack position x_m, mm (R144). -/
def State.rackPos (s : State) (l : AxisNo) (pos : Int) : Q := s.pq P.casRoff l + s.pq P.casGear l * pos / s.cm l

/-- The hand-wheel angle of a hand-wheel axis, degrees (R205). -/
def State.handAngle (s : State) (l : AxisNo) : Q := (s.ax[l].fb.pos64 : Q) * 360 / (s.cm l * s.pq P.sbwHwgear)

/-- The availability bit of a local axis (R219). A lane without authority sets it as the lane with authority does, from the last
axis mirror; with none in the group it is clear. -/
def State.avail (s : State) (l : AxisNo) : Bool :=
  let a := s.ax[l]
  if !s.allocated l then false
  else if s.auth then
    a.fault == 0 && !s.pair[pairOf l].stFail && !a.ss.ssoff && !(s.life.st == LaneSt.drive && !a.en)
  else if s.twin.seen && a.mir.words.isSome then
    (s.mirWord l 1 &&& 0xF) == 0 && !(s.mirWord l 3).getLsbD 19 &&
      !(s.twin.tstate == LaneSt.code .drive && !(s.mirWord l 1).getLsbD 8)
  else false

/-- The mean of a cycle sum. -/
def State.cycleMean (s : State) (l : AxisNo) (v : Vector Q 8) : Q :=
  if s.brake.sumN[l] = 0 then 0 else v[l] / s.brake.sumN[l]

/-- Fields A and B of an axis (R353). -/
def State.axisAB (s : State) (l : AxisNo) : Word :=
  let k := s.kind l
  if k = 1 then pack (sField (1 / 100) (s.cycleMean l s.brake.sumIq)) (sField (1 / 200) (s.rackPos l s.ax[l].fb.pos64))
  else if k = 2 then pack (sField (1 / 100) (s.cycleMean l s.brake.sumIq)) (sField (1 / 20) (s.handAngle l))
  else if k = 3 then sField (1 / 100) (s.cycleMean l s.brake.sumF)
  else 0

/-- Field C of a steering axis (R353). -/
def State.axisC (s : State) (l : AxisNo) : Word :=
  let w := s.ax[l].cas.wAct
  sField (1 / 10) (if s.kind l = 1 then w else toRev w * 360 / s.pq P.sbwHwgear)

/-- The steering axes of a lane group, ascending (R353). -/
def State.steerAxes (s : State) (g : Nat) : List AxisNo :=
  (fins 8).filter fun l => s.kindP (8 * g + l.val) = 1 ∨ s.kindP (8 * g + l.val) = 2

/-- The flags of an axis (R353). A hand-wheel axis shows REF while it also has LOSS = 0h, as R205 asks of a source (log entry
22). -/
def State.axisFlags (s : State) (l : AxisNo) : Word :=
  let k := s.kind l
  let ref := if k = 1 then s.steer.ref[l] else if k = 2 then s.steer.ref[l] && s.ax[l].fb.loss == 0
    else k = 3 && s.brake.cref[l]
  bitAt (s.avail l) 0 ||| bitAt ref 1 ||| bitAt s.ax[l].cas.ferr 2

/-- The payload of B1 (R353). -/
def State.blockB1 (s : State) : List Word :=
  let c := ((s.steerAxes s.grp.val).take 4).map s.axisC
  let c := (c ++ [0, 0, 0, 0]).take 4
  s.pubStatus :: ((fins 8).map s.axisAB ++ packAll c ++
    [(fins 8).foldl (fun w l => w ||| (s.axisFlags l <<< (4 * l.val))) 0])

/-- The payload of B2 (R354). -/
def State.blockB2 (s : State) : List Word :=
  let f := (fins 8).map fun w => (BitVec.ofInt 32 (max 0 (min 65535 (roundQ (4 * s.wheels[w].freq)))) : Word)
  let bits := fun (g : Fin 8 → Bool) => (fins 8).foldl (fun (x : Word) w => x ||| bitAt (g w) w.val) 0
  let v := (fins 3).foldl (fun (x : Word) p => x ||| bitAt s.ports[p].valid p.val) 0
  s.pubStatus :: (packAll f ++
    [bits (fun w => s.wheels[w].still) ||| (bits (fun w => s.wheels[w].noise) <<< 8) ||| (v <<< 16)] ++
    (fins 3).map fun p => (BitVec.ofNat 32 s.ports[p].data : Word))

/-! ## Reading the blocks of a lane group -/

/-- AUTH of a block. -/
def blockAuth (b : List Word) : Bool := (b.headD 0).getLsbD 0

/-- The block of a lane group that serves as input: the one with AUTH, else that of the other lane of the group (R204). -/
def groupBlk (v : Vector (Option (List Word)) 6) (g : Fin 3) : Option (List Word) :=
  match v[g.val]'(by omega), v[g.val + 3]'(by omega) with
  | some a, some b => if blockAuth a then some a else if blockAuth b then some b else some a
  | some a, none => some a
  | none, b => b

/-- Field A or B of an axis in a B1 payload, signed. -/
def b1Field (b : List Word) (l : Nat) (hi : Bool) : Int :=
  ((if hi then (b.getD (1 + l) 0) >>> 16 else b.getD (1 + l) 0).setWidth 16 : BitVec 16).toInt

/-- One flag of an axis in a B1 payload. -/
def b1Flag (b : List Word) (l n : Nat) : Bool := (b.getD 11 0).getLsbD (4 * l + n)

/-- The C field of an axis of a lane group in a B1 payload. -/
def State.b1Speed (s : State) (b : List Word) (g l : Nat) : Int :=
  match (s.steerAxes g).findIdx? (fun x => x.val = l) with
  | some i => ((halves ((b.drop 9).take 2)).getD i 0).toInt
  | none => 0

/-- The lane group and local axis of a package axis. -/
def pkgGrp (p : Fin 24) : Fin 3 := ⟨p.val / 8, by omega⟩
/-- The local axis of a package axis. -/
def pkgAx (p : Fin 24) : AxisNo := ⟨p.val % 8, Nat.mod_lt _ (by decide)⟩

/-- The B1 block of the group that carries a package axis, as an input of this cycle. -/
def State.inB1 (s : State) (p : Fin 24) : Option (List Word) := groupBlk s.vote.in1 (pkgGrp p)

/-- A flag of a package axis, false without a block. -/
def State.inFlag (s : State) (p : Fin 24) (n : Nat) : Bool :=
  match s.inB1 p with | some b => b1Flag b (pkgAx p).val n | none => false

/-- The value of a serial port of a lane group, if its block shows it valid (R354). -/
def State.inPort (s : State) (g : Fin 3) (port : Nat) : Option Nat :=
  match groupBlk s.vote.in2 g with
  | some b => if port < 3 ∧ (b.getD 5 0).getLsbD (16 + port) then some (b.getD (6 + port) 0).toNat else none
  | none => none

/-- A wheel-speed result of a lane group: Hz, STILL and the noise state (R354). -/
def State.inWheel (s : State) (g : Fin 3) (w : Nat) : Option (Q × Bool × Bool) :=
  match groupBlk s.vote.in2 g with
  | some b => some ((((halves ((b.drop 1).take 4)).getD w 0).toNat : Q) / 4, (b.getD 5 0).getLsbD w, (b.getD 5 0).getLsbD (8 + w))
  | none => none

end Sys2Proof.Machine
end

