-- ==== Sys2Proof/Machine/Reference.lean ====
section
/-!
DEFINITION. The position reference of steering axes: target conversion, the first enable, the centre search and the centre latch
(R205, R210 to R215), and the contact search of a caliper's first enable (R230).
-/

namespace Sys2Proof.Machine

/-- Counts of a rack position, mm: the inverse of R144. -/
def State.rackCounts (s : State) (l : AxisNo) (x : Q) : Int := roundQ (divF ((x - s.pq P.casRoff l) * s.cm l) (s.pq P.casGear l))

/-- The target of R210, in counts. -/
def State.targetOf (s : State) (l : AxisNo) (n : Fin 3) (delta : Q) : Int :=
  s.rackCounts l (delta * s.pq P.sbwKx 0 n + s.steer.corr[n])

/-- Counts of a hand-wheel angle, degrees (R205). -/
def State.handCounts (s : State) (l : AxisNo) (deg : Q) : Int := roundQ (deg * s.cm l * s.pq P.sbwHwgear / 360)

/-- ρ(v) for a speed in km/h (R211). -/
def State.ratio (s : State) (kmh : Q) : Q := tableAt (s.points P.sbwRv P.sbwRr 8) kmh

/-- FUNC of a compare register, as a write that waits leaves it. -/
def Cmp.funcNext (c : Cmp) : BitVec 2 := match c.write with | some (_, w) => (w >>> 6).setWidth 2 | none => c.func

/-- The register that serves an end stop: the one with that FUNC, else register 2 for the lower and 3 for the upper stop, unless that one
serves the other stop (R214, log entry 20). -/
def Axis.stopReg (a : Axis) (f : BitVec 2) : Fin 4 :=
  let d : Fin 4 := if f = 1 then 2 else 3
  ((fins 4).find? fun n => a.cmp[n].funcNext = f).getD (if a.cmp[d].funcNext = 3 - f then (if f = 1 then 3 else 2) else d)

/-- Both end-stop registers written, the smaller count to the lower one (R214). -/
def State.writeStops (s : State) (l : AxisNo) (a b : Int) : State :=
  let r := s.ax[l].stopReg 1
  let s := s.modCmp l r fun c => { c with write := some (min a b, 0x40) }
  let r := s.ax[l].stopReg 2
  s.modCmp l r fun c => { c with write := some (max a b, 0x80) }

/-- A steering axis has its reference: REF, end stops, and the centre latch armed once in a start (R213 to R215). -/
def State.gainRef (s : State) (l : AxisNo) : State :=
  let s := s.modSteer fun t => { t with ref := vset t.ref l true }
  match s.axle l with
  | some n =>
    let d := s.pq P.sbwDmax 0 n + s.pq P.sbwEsmarg 0 n
    let s := s.writeStops l (s.targetOf l n d) (s.targetOf l n (-d))
    if s.steer.armed[l] then s
    else
      (s.modSteer fun t => { t with armed := vset t.armed l true, centWait := vset t.centWait l true }).modAx l fun a =>
        { a with fb := { a.fb with refArmed := true } }
  | none =>
    let d := s.pq P.sbwHwstop
    s.writeStops l (s.handCounts l d) (s.handCounts l (-d))

/-- The rack position of an axis's own sensor, mm, if the port is valid (R144). -/
def State.rackSensor (s : State) (l : AxisNo) : Option Q :=
  let n := s.pn P.casRport l
  if h : n < 3 then (let p := s.ports[n]; if p.valid then some ((p.data : Q) * s.pq P.casRlsb l) else none) else none

/-- The absolute hand-wheel sensor: the first valid port that sbw.hwportL names, degrees (R205). -/
def State.handSensor (s : State) : Option Q :=
  ((fins 3).findSome? fun g => s.inPort g (s.pn P.sbwHwport 0 g)).map fun v => (v : Q) * s.pq P.sbwHwlsb

/-- The rack position of axle 0, mm: this lane's own sensor, or the published position of an axis with REF. -/
def State.frontRack (s : State) : Option Q :=
  let own := (fins 8).findSome? fun l => if s.axle l = some 0 then s.rackSensor l else none
  match own with
  | some x => some x
  | none =>
    (s.windings 1 (s.pn P.sbwMotor)).findSome? fun p =>
      if s.inFlag p 1 then (s.inB1 p).map fun b => (b1Field b (pkgAx p).val true : Q) / 200 else none

/-- δ_H for the reference of a hand-wheel axis: the sensor, else ρ(0) × δ_0 of the front rack (R213). -/
def State.handRef (s : State) : Option Q :=
  match s.handSensor with
  | some d => some d
  | none => (s.frontRack).map fun x => s.ratio 0 * divF (x - s.steer.corr[(0 : Fin 3)]) (s.pq P.sbwKx)

/-- POS64 set as a host position set does (R83, R213). -/
def State.setPos (s : State) (l : AxisNo) (p : Int) : State :=
  s.modAx l fun a => { a with fb := { a.fb with setpos := some p } }

/-- A centre search begins at standstill in the lane with authority (R214). -/
def State.startSearch (s : State) (l : AxisNo) (n : Fin 3) : State :=
  if (s.auth ∨ s.split) ∧ s.brake.v = 0 ∧ !s.steer.lost[n] then
    let d := if s.pq P.sbwXref 0 n < s.rackPos l s.ax[l].fb.pos64 then -1 else 1
    (s.modSteer fun t => { t with search := vset t.search n (some ⟨s.rackPos l s.ax[l].fb.pos64, d, 0, false⟩) }).modAx l fun a =>
      { a with fb := { a.fb with refArmed := true } }
  else s

/-- The first enable of an axis since the start (R213, R214, R230). -/
def State.firstEnable (s : State) (l : AxisNo) : State :=
  if s.steer.enSeen[l] then s
  else
    let s := s.modSteer fun t => { t with enSeen := vset t.enSeen l true }
    match s.axle l with
    | some n =>
      match s.rackSensor l with
      | some x => (s.setPos l (s.rackCounts l x)).gainRef l
      | none => s.startSearch l n
    | none =>
      if s.hand l then
        match s.handRef with
        | some d => (s.setPos l (s.handCounts l d)).gainRef l
        | none => s
      else if (s.wheel l).isSome && !s.brake.cref[l] && s.auth then
        s.modBrake fun b => { b with csearch := vset b.csearch l true }
      else s

/-- A centre search ends without a latch (R214). -/
def State.searchFailed (s : State) (n : Fin 3) : State :=
  (s.modSteer fun t => { t with search := vset t.search n none }).raise 0x8005 .amber none [BitVec.ofNat 32 n.val, 0]

/-- The search has used its way in both directions (R214). -/
def State.searchEnd (s : State) (n : Fin 3) : State :=
  match s.steer.search[n] with
  | some x => if x.second ∧ s.pq P.sbwHsearch ≤ |x.off| ∧ 0 < x.dir * x.off then s.searchFailed n else s
  | none => s

/-- CENTRE_SEARCH: the search ends at its limit; the end on a latch comes with the edge (R214). -/
def execCentreSearch (n : Fin 3) (now : Ns) (s : State) : Out := .next ((s.at now).searchEnd n)

/-- POS64 at the reference latch: the present one less the MOVCNT change since (R86, R215). -/
def Axis.latchPos (a : Axis) : Int := a.fb.pos64 - diff32 a.fb.movPrev a.fb.ref.mov

/-- The centre latch: e within its tolerance corrects from the next cycle and sets CENT (R215). -/
def State.centreLatch (s : State) (l : AxisNo) (n : Fin 3) : State :=
  let e := s.rackPos l s.ax[l].latchPos - s.pq P.sbwXref 0 n
  let s := s.modSteer fun t => { t with centWait := vset t.centWait l false }
  if |e| ≤ s.pq P.sbwCtol 0 n then
    s.modSteer fun t => { t with corrNext := vset t.corrNext n (some e), cent := vset t.cent n true }
  else s.raise 0x8005 .amber none [BitVec.ofNat 32 n.val, toFix 16 e]

/-- A latch that a centre search waits for: the rack stands at sbw.xrefn, and the axis has its reference (R214, log entry 23). -/
def State.searchLatch (s : State) (l : AxisNo) (n : Fin 3) : State :=
  let s := s.modSteer fun t => { t with search := vset t.search n none }
  (s.setPos l (s.rackCounts l (s.pq P.sbwXref 0 n))).gainRef l

/-- REFERENCE_SWITCH_EDGE (R86, R214, R215). -/
def execReferenceSwitchEdge (l : AxisNo) (rising : Bool) (now : Ns) (s : State) : Out :=
  let (got, s) := (s.at now).referenceEdge l rising
  .next (match got, s.axle l with
    | true, some n =>
      if s.steer.search[n].isSome then s.searchLatch l n
      else if s.steer.centWait[l] then s.centreLatch l n
      else s
    | _, _ => s)

end Sys2Proof.Machine
end

