-- ==== Sys2Proof/Machine/AxisOps.lean ====
section
/-!
DEFINITION. The axis opcodes of group 02h, the axis-level safe stop request and the clearing of a chopper fault (R46, R78, R83,
R86, R97, R106, R119, R124, R136 to R138, R159, R161, R164, R171, R264, R409, R410).
-/

namespace Sys2Proof.Machine

/-- The lane commands its axes: it holds authority, or runs in split mode, in ACTIVE, DRIVE or SAFE_STOP (R410, R440). Any other
lane answers the motion opcodes with ST_WRONG_STATE. -/
def State.holds (s : State) : Bool :=
  (s.auth || s.split) && (s.life.st == LaneSt.active || s.life.st == LaneSt.drive || s.life.st == LaneSt.safeStop)

/-- An axis opcode: the body runs for the local axis that ARG0 names. -/
def axisBody (f : Req → AxisNo → State → Ans) : Body := fun r s =>
  match s.argAxis r.arg0 with
  | some l => f r l s
  | none => Ans.refuse s 0x33

/-- An axis opcode that a lane without authority refuses with ST_WRONG_STATE. -/
def holdBody (f : Req → AxisNo → State → Ans) : Body := axisBody fun r l s =>
  if s.holds && s.allocated l then f r l s else Ans.refuse s 0x30

/-! ## Enable and disable -/

/-- A safety input whose axis-level stop stands on an axis: si.func = 2 in DEMAND (R259, R266). -/
def State.siStop (s : State) (l : AxisNo) : Bool :=
  (fins 6).any fun n => s.aon.si[n].dem && (s.pn P.siMode 0 n != 0) && s.pn P.siFunc 0 n == 2 &&
    (s.pw P.siMask 0 n).getLsbD l.val

/-- R125, R266 or R472 refuses an enable. -/
def State.enableRefused (s : State) (l : AxisNo) : Bool :=
  let p := s.pair[pairOf l]
  p.stFail || p.ov[(2 : Fin 3)] || s.siStop l

/-- A memory with an uncorrectable error is reloaded: the vendor region from the image, the integrator region from flash, the
operands cleared (R300, log entry 46). -/
def Engine.reloaded (g : Engine) : Engine :=
  if g.reload then { g with prog := g.progFlash, oper := [], reload := false, off := false } else g

/-- What an enable clears: FAULT, LOSS, and the flags that R74, R81, R85, R97, R143, R144, R161, R232 and R266 tie to it. -/
def Axis.enabled (a : Axis) : Axis :=
  { a with
    en := true
    perm := true
    fault := 0
    heldOff := false
    fb := { a.fb with loss := 0, lost := false, lossAct := false, illRep := false, illBurst := false, zseen := false, zref := none, winv := false,
                      winK := none, winMov := none, winPos := none, winEnd := none, posSet := false }
    cas := { a.cas with spdf := false, spdN := 0, pmeas := false }
    cur := { a.cur with modelf := false }
    ss := {}
    prof := { a.prof with abort := false, tagOwed := false, esFired := false }
    eng := a.eng.reloaded
    pwm := if a.pwm.gates then { a.pwm with gateReq := none } else a.pwm }

/-- An enable of an axis whose loops were not running: its commutation starts with the next sample, its loops preset, and its gates follow the
offset calibration (R51, R101, R136, R137, R158). An axis that already runs keeps its commutation mode (R101). -/
def State.startAxis (s : State) (l : AxisNo) : State :=
  let n := s.pn P.casLoop l
  let s := s.modAx l fun a =>
    { a with
      cur := { a.cur with calDue := !a.pwm.gates, calN := 0, calSum := Vector.replicate 3 0, calMag := Vector.replicate 3 0, iqHeld := 0 }
      cas := { a.cas with loop := n, enterC := true, enterS := decide (n ≠ 0), enterP := decide (n = 2), enterF := decide (n = 3),
                          enterW := decide (n = 1) }
      prof := { a.prof with enter := decide (n = 2), tag := none }
      sch := { a.sch with lastS := none, lastP := none } }
  let d := s.commandDir l
  (s.modAx l fun a => { a with com := { a.com with dir := d } }).wantMode l .start

/-- The class of an axis: P0 to P3 by arb.class, or by KIND (R451). -/
def State.classOf (s : State) (l : AxisNo) : Fin 4 :=
  let c := s.pn P.arbClass l
  let parks := match s.brake.park with | .clamp | .latch | .holdact => true | _ => false
  let masked := match s.wheel l with | some w => (s.pw P.bwParkmask).getLsbD w.val | none => false
  if h : c < 4 then ⟨c, h⟩
  else match s.kind l with
    | 1 => 0
    | 2 => 0
    | 3 => if parks && masked then 2 else 1
    | _ => 2

/-- The scaled floor of an axis enabled after a fault (R446). -/
def State.floorAt (s : State) (l : AxisNo) : Q := s.pq P.arbFloor l * s.arb.scale[s.classOf l]

/-- OP_AX_ENABLE on an axis of a lane that commands it. A torque-off demand that stands holds the axis disabled (R263). -/
def State.enableAxis (s : State) (l : AxisNo) : State :=
  let k := pairOf l
  let was := s.ax[l]
  let g := s.floorAt l
  let s := if was.fault = 0 then s else s.modArb fun b => { b with grant := vset b.grant l g }
  let s := if s.safe.phase = .steeroff then s else s.modPair k fun p => { p with toDemand := false }
  let s := s.modAx l Axis.enabled
  let s := if was.en && (was.com.mode != CMode.off || was.com.want.isSome) then s.modAx l fun a => { a with prof := { a.prof with enter := true } }
    else s.startAxis l
  let s := (s.firstEnable l).syncDrive
  if s.toDemanded k then s.torqueOff k else s

/-- OP_AX_ENABLE (R409). -/
def specAxEnable : OpSpec := { opc := 0x0201, classes := [1], axis := true }
/-- The memories of an axis cell that lost its retention are being reloaded (R434). -/
def State.reloading (s : State) (l : AxisNo) : Bool :=
  match s.ax[l].eng.reloadAt with | some t => !s.since t (us 200) | none => false

/-- OP_AX_ENABLE: the host's enable clears FIMP too (R232). An axis whose memories are being reloaded is busy (R434). -/
def bodyAxEnable : Body := holdBody fun _ l s =>
  if s.reloading l then Ans.refuse s 0x11
  else if s.enableRefused l then Ans.refuse s 0x40
  else Ans.ok ((s.modBrake fun b => { b with fimp := vset b.fimp l false, fimpN := vset b.fimpN l 0 }).enableAxis l)
/-- OP_AX_ENABLE. -/
def execOpAxEnable (r : Req) (s : State) : Out := .next (s.serve specAxEnable bodyAxEnable r)

/-- OP_AX_DISABLE (R409, R410). -/
def specAxDisable : OpSpec := { opc := 0x0202, classes := [0, 1], axis := true }
/-- A lane in STANDBY marks the axis held off; any other disables it. -/
def bodyAxDisable : Body := axisBody fun _ l s =>
  if s.standby then Ans.ok (s.modAx l fun a => { a with heldOff := true })
  else Ans.ok (s.modAx l Axis.disable).syncDrive
/-- OP_AX_DISABLE. -/
def execOpAxDisable (r : Req) (s : State) : Out := .next (s.serve specAxDisable bodyAxDisable r)

/-! ## Motion -/

/-- ABORT ends by a host move or a release, but not while a safe stop runs (R161, R266). -/
def Axis.dropAbort (a : Axis) : Axis := if a.ss.ssa then a else { a with prof := { a.prof with abort := false } }

/-- OP_AX_MOVE (R159, R409). -/
def specAxMove : OpSpec := { opc := 0x0203, classes := [1], lo := 2, axis := true }
/-- The target goes to the window with the request's TAG. -/
def bodyAxMove : Body := holdBody fun r l s =>
  if s.pn P.casLoop l ≠ 2 then Ans.refuse s 0x30
  else
    let t := int64 (r.payload.getD 0 0) (r.payload.getD 1 0)
    Ans.accepted (s.modAx l fun a =>
      { a.dropAbort with win := { a.win with back := { a.win.back with target := t, tag := some r.tag }, fresh := true } })
/-- OP_AX_MOVE. -/
def execOpAxMove (r : Req) (s : State) : Out := .next (s.serve specAxMove bodyAxMove r)

/-- OP_AX_ABORT (R161). -/
def specAxAbort : OpSpec := { opc := 0x0204, classes := [0, 1], axis := true }
/-- The abort waits for the next profile step, which answers it. -/
def bodyAxAbort : Body := holdBody fun r l s =>
  if !s.ax[l].en ∨ s.pn P.casLoop l ≠ 2 then Ans.refuse s 0x30
  else
    { st := s.modAx l fun a => { a with prof := { a.prof with abortReq := a.prof.abortReq ++ [r] } }, slots := [] }
/-- OP_AX_ABORT. -/
def execOpAxAbort (r : Req) (s : State) : Out := .next (s.serve specAxAbort bodyAxAbort r)

/-- OP_AX_RELEASE (R161). -/
def specAxRelease : OpSpec := { opc := 0x0205, classes := [1], axis := true }
/-- OP_AX_RELEASE. -/
def bodyAxRelease : Body := holdBody fun _ l s => Ans.ok (s.modAx l Axis.dropAbort)
/-- OP_AX_RELEASE. -/
def execOpAxRelease (r : Req) (s : State) : Out := .next (s.serve specAxRelease bodyAxRelease r)

/-- OP_AX_SETPOS (R83). -/
def specAxSetpos : OpSpec := { opc := 0x0206, classes := [1], lo := 2, axis := true }
/-- POS64 from the next sample; a stated POSCNT loads and clears PUNC (log entry 25). -/
def bodyAxSetpos : Body := holdBody fun r l s =>
  let s' := s.setPos l (int64 (r.payload.getD 0 0) (r.payload.getD 1 0))
  match Config.setposPoscnt r.payload with
  | some p => Ans.ok (s'.modAx l fun a => { a with fb := { a.fb.setCount s.clk.lclk p a.fb.mov with punc := false } })
  | none => Ans.ok s'
/-- OP_AX_SETPOS. -/
def execOpAxSetpos (r : Req) (s : State) : Out := .next (s.serve specAxSetpos bodyAxSetpos r)

/-- OP_AX_ARM (R409). -/
def specAxArm : OpSpec := { opc := 0x0207, classes := [1], lo := 1, axis := true }
/-- Index mode ONCE is armed (R78). -/
def bodyAxArmIndex : Body := holdBody fun _ l s => Ans.ok (s.modAx l fun a => { a with fb := { a.fb with armed := true, armAt := some s.clk.lclk } })
/-- The reference latch is armed (R86). -/
def bodyAxArmLatch : Body := holdBody fun _ l s => Ans.ok (s.modAx l fun a => { a with fb := { a.fb with refArmed := true } })
/-- OP_AX_ARM as its payload word 0 selects (log entry 25). -/
def bodyAxArm : Body := fun r s =>
  if Config.armSelectsLatch (r.payload.getD 0 0) then bodyAxArmLatch r s else bodyAxArmIndex r s
/-- OP_AX_ARM_INDEX. -/
def execOpAxArmIndex (r : Req) (s : State) : Out := .next (s.serve specAxArm bodyAxArmIndex r)
/-- OP_AX_ARM_LATCH. -/
def execOpAxArmLatch (r : Req) (s : State) : Out := .next (s.serve specAxArm bodyAxArmLatch r)

/-- OP_AX_PRESET (R138). -/
def specAxPreset : OpSpec := { opc := 0x0208, classes := [1], axis := true }
/-- I_w, I_p or I_F from the next tick of its loop (log entry 25). -/
def bodyAxPreset : Body := holdBody fun r l s =>
  let (i, v) := Config.presetOf r.payload
  Ans.ok (s.modCas l fun c =>
    let p := some (v, s.clk.lclk)
    if i = 0 then { c with preW := p } else if i = 1 then { c with preP := p } else { c with preF := p })
/-- OP_AX_PRESET. -/
def execOpAxPreset (r : Req) (s : State) : Out := .next (s.serve specAxPreset bodyAxPreset r)

/-- OP_AX_ALIGN (R106). -/
def specAxAlign : OpSpec := { opc := 0x0209, classes := [1], axis := true }
/-- The run needs an enabled axis with an encoder, and no run in progress. -/
def bodyAxAlign : Body := holdBody fun r l s =>
  let a := s.ax[l]
  if !a.en || a.fault != 0 || s.src l != 1 || a.com.align.isSome then Ans.refuse s 0x30
  else
    Ans.accepted (s.modAx l fun a =>
      { a with com := { a.com with align := some (.turning 0), olTheta := a.cur.theta, alignOp := some { opc := 0x0209, req := r } } })
/-- OP_AX_ALIGN. -/
def execOpAxAlign (r : Req) (s : State) : Out := .next (s.serve specAxAlign bodyAxAlign r)

/-! ## Compare registers -/

/-- OP_AX_CMP (R162 to R171). -/
def specAxCmp : OpSpec := { opc := 0x020A, classes := [1, 3], axis := true }
/-- A write of CMPnVAL, CMPnCTL or both, effective at the next sample (R164, R171). -/
def bodyAxCmpWrite : Body := holdBody fun r l s =>
  let n := Config.cmpRegister r.arg0 r.payload
  let c := s.ax[l].cmp[n]
  let (v0, w0) := c.write.getD (c.val, c.ctl &&& 0xF3)
  let v := ((Config.cmpWriteVal r.payload).map BitVec.toInt).getD v0
  let w := ((Config.cmpWriteCtl r.payload).map (· &&& 0xF3)).getD w0
  if s.ax[l].cmpWriteOk n v w then Ans.ok (s.modCmp l n fun c => { c with write := some (v, w) }) else Ans.refuse s 0x31
/-- The value, control, position and time words of a register (R171, log entry 25). -/
def bodyAxCmpRead : Body := axisBody fun r l s =>
  let c := s.ax[l].cmp[Config.cmpRegister r.arg0 r.payload]
  Ans.ok s [loW c.val, hiW c.val, c.ctl, loW c.pos, hiW c.pos, loW c.time, hiW c.time]
/-- OP_AX_CMP as its payload asks. -/
def bodyAxCmp : Body := fun r s =>
  if (Config.cmpWriteVal r.payload).isSome || (Config.cmpWriteCtl r.payload).isSome then bodyAxCmpWrite r s else bodyAxCmpRead r s
/-- OP_AX_CMP_WRITE. -/
def execOpAxCmpWrite (r : Req) (s : State) : Out := .next (s.serve specAxCmp bodyAxCmpWrite r)
/-- OP_AX_CMP_READ. -/
def execOpAxCmpRead (r : Req) (s : State) : Out := .next (s.serve specAxCmp bodyAxCmpRead r)

/-! ## Set-point and status -/

/-- OP_AX_SETPOINT (R130, R409). -/
def specAxSetpoint : OpSpec := { opc := 0x020B, classes := [1], lo := 1, axis := true }
/-- The window value of a KIND 4h axis, or of any axis in split mode. -/
def bodyAxSetpoint : Body := holdBody fun r l s =>
  if s.pn P.casLoop l = 2 ∨ (!s.split ∧ s.kind l ≠ 4) then Ans.refuse s 0x30
  else
    Ans.ok (s.modAx l fun a =>
      { a with win := { a.win with back := { a.win.back with value := ofFixS 16 (r.payload.getD 0 0) }, fresh := true } })
/-- OP_AX_SETPOINT. -/
def execOpAxSetpoint (r : Req) (s : State) : Out := .next (s.serve specAxSetpoint bodyAxSetpoint r)

/-- OP_AX_STATUS (R409). -/
def specAxStatus : OpSpec := { opc := 0x020C, classes := [1, 3], axis := true }
/-- The words of a latch. -/
def Latch.words (x : Latch) : List Word := [x.pos, x.mov, loW x.time, hiW x.time]
/-- The actual values of the last speed tick, the reference latch, ZLATCH and the user values; the read clears RLATCH, and ROVR as it was
read (R4, R26, R86, R98, R191, log entry 25). -/
def bodyAxStatus : Body := axisBody fun _ l s =>
  let a := s.ax[l]
  let read := fun (a : Axis) =>
    { a with fb := { a.fb with rlatch := false }, win := { a.win with act := a.win.act.set 1 (a.win.act.getD 1 0 &&& ~~~(0x1000 : Word)) } }
  { st := s.modAx l read
    slots := chunk12 4 (a.win.act ++ a.fb.ref.words ++ a.fb.zlatch.words ++ a.win.user) }
/-- OP_AX_STATUS. -/
def execOpAxStatus (r : Req) (s : State) : Out := .next (s.serve specAxStatus bodyAxStatus r)

/-! ## Safe stop and chopper -/

/-- OP_SS_AXIS (R264, R409). -/
def specSsAxis : OpSpec := { opc := 0x0302, classes := [0], axis := true }
/-- The stop starts on an allocated axis of a lane in an operating state. -/
def bodySsAxis : Body := axisBody fun _ l s =>
  if s.life.st.operating && s.allocated l then Ans.ok (s.ssStart l 1) else Ans.refuse s 0x30
/-- OP_SS_AXIS. -/
def execOpSsAxis (r : Req) (s : State) : Out := .next (s.serve specSsAxis bodySsAxis r)

/-- OP_CHOPF_CLEAR (R124). -/
def specChopfClear : OpSpec := { opc := 0x0405, classes := [1] }
/-- CHOPF of the named pair clears (log entry 25). -/
def bodyChopfClear : Body := fun r s => Ans.ok (s.modPair (Config.chopPair r.arg0 r.payload) fun p => { p with chopf := false })
/-- OP_CHOPF_CLEAR. -/
def execOpChopfClear (r : Req) (s : State) : Out := .next (s.serve specChopfClear bodyChopfClear r)

end Sys2Proof.Machine
end

