-- ==== Sys2Proof/Machine/Novmi.lean ====
section
/-!
DEFINITION. The Novmi envelope: forming a message, the checks of a received one, the connection states and their safe defaults
(R272 to R276, R278, R392, R393).
-/

namespace Sys2Proof.Machine

/-! ## Forming -/

/-- A message: CID, SEQ, TS, payload and safety CRC (R272). -/
def nvMsg (cid : Nat) (seq : BitVec 16) (ts : Word) (pl : List Word) : List Byte :=
  let b := bytesOf (((BitVec.ofNat 16 cid).setWidth 32 ||| (seq.setWidth 32 <<< 16)) :: ts :: pl)
  b ++ wordBytes (crcNovmi b)

/-- The next message of a produced connection: SEQ rises by one for each new message (R273). -/
def TxConn.next (t : TxConn) (cid : Nat) (ts : Word) (pl : List Word) : TxConn :=
  { seq := t.seq + 1, msg := nvMsg cid t.seq ts pl }

/-! ## Checking -/

/-- How the checks of R274 end for a message matched to its connection. -/
inductive NvRes where
  | crc | time | dup | seq | ok
  deriving DecidableEq, Repr

/-- The connection ID, the SEQ and the payload of a message. -/
def nvCid (bs : List Byte) : Nat := ((wordsOf (bs.take 4)).getD 0 0).toNat % 65536
/-- SEQ. -/
def nvSeq (bs : List Byte) : BitVec 16 := ((wordsOf (bs.take 4)).getD 0 0 >>> 16).setWidth 16
/-- PAYLOAD. -/
def nvPay (bs : List Byte) : List Word := ((wordsOf bs).drop 2).take ((wordsOf bs).length - 3)

/-- Checks 1, 2, 4, 5 and 6 of R274 at a receive time in µs; `skip` leaves check 6 out (R275). -/
def nvJudge (len gap age skew : Nat) (skip : Bool) (last : BitVec 16) (rx : Word) (bs : List Byte) : NvRes :=
  let ws := wordsOf bs
  let d := (rx - ws.getD 1 0).toInt
  let delta := (nvSeq bs - last).toNat
  if bs.length ≠ 12 + 4 * len then .crc
  else if crcNovmi (bs.take (8 + 4 * len)) ≠ ws.getD (2 + len) 0 then .crc
  else if (age : Int) < d ∨ (skew : Int) < -d then .time
  else if skip then .ok
  else if delta = 0 then .dup
  else if delta ≤ 1 + gap then .ok
  else .seq

/-- What the checks leave in a connection (R274, R275). A message that fails check 6 in succession to one that did makes the
next skip that check. -/
def Conn.note (c : Conn) (r : NvRes) (bs : List Byte) (now : Ns) : Conn :=
  match r with
  | .ok =>
    { c with seq := nvSeq bs, skip := false, bad := none, run := c.run + 1, payload := nvPay bs, at_ := now, got := true, subN := 0 }
  | .dup => c
  | .seq => { c with run := 0, bad := some (nvSeq bs), skip := c.skip || (match c.bad with | some p => p + 1 == nvSeq bs | none => false) }
  | _ => { c with run := 0, bad := none }

/-- The place of the error counter of a failure (R507). -/
def NvRes.counter : NvRes → Option Nat
  | .crc => some 0
  | .time => some 2
  | .seq => some 3
  | _ => none

/-- A connection's error counted (R274). -/
def State.countNv (s : State) (base : Nat) (r : NvRes) : State :=
  match r.counter with | some k => s.bump (base + k) | none => s

/-- Fields of nv.cfgc (R278). -/
def State.nvLen (s : State) (c : Fin 16) : Nat := (s.pn P.nvCfg 0 c >>> 18) % 16
/-- DEFK. -/
def State.nvDefk (s : State) (c : Fin 16) : Nat := (s.pn P.nvCfg 0 c >>> 16) % 4
/-- NREC. -/
def State.nvNrec (s : State) (c : Fin 16) : Nat := (s.pn P.nvCfg 0 c >>> 12) % 16
/-- NSUB. -/
def State.nvNsub (s : State) (c : Fin 16) : Nat := (s.pn P.nvCfg 0 c >>> 8) % 16
/-- GAP. -/
def State.nvGap (s : State) (c : Fin 16) : Nat := s.pn P.nvCfg 0 c % 4

/-- A receive connection changed. -/
def State.modConn (s : State) (c : Fin 16) (f : Conn → Conn) : State := s.modNov fun n => { n with rx := vmod n.rx c f }

/-- The receive connection of an ID (R393). -/
def State.connOf (s : State) (cid : Nat) : Option (Fin 16) :=
  if cid = 0 then none else (fins 16).find? fun c => s.pn P.nvCid 0 c = cid

/-- The change of state that an accepted message brings (R276). -/
def State.nvAccepted (s : State) (c : Fin 16) : State :=
  let x := s.nov.rx[c]
  let up := fun (s : State) => s.modConn c fun x => { x with st := .valid }
  match x.st with
  | .valid => s
  | .subst => (up s).raise 0xA012 .grey none [BitVec.ofNat 32 c.val]
  | .init => if s.nvNrec c ≤ x.run then up s else s
  | .default => if s.nvNrec c ≤ x.run then (up s).raise 0xA012 .grey none [BitVec.ofNat 32 c.val] else s

/-- A message matched to a receive connection is checked (R274 to R276). -/
def State.nvReceive (s : State) (c : Fin 16) (bs : List Byte) : State :=
  let x := s.nov.rx[c]
  let r := nvJudge (s.nvLen c) (s.nvGap c) (s.pn P.nvAge 0 c) (s.pn P.nvSkew 0 c) x.skip x.seq s.gtUs bs
  let s := (s.modConn c fun x => x.note r bs s.clk.lclk).countNv (0xAF40 + 4 * c.val) r
  if r = .ok then s.nvAccepted c else s

/-- A message from CAN or Ethernet: matched by its CID, or counted as a masquerade on its network (R393). -/
def State.nvNetwork (s : State) (net : Nat) (bs : List Byte) (padded : Bool) : State :=
  match s.connOf (nvCid bs) with
  | none => s.bump (0xAFA0 + net)
  | some c =>
    let n := 12 + 4 * s.nvLen c
    if padded ∧ n ≤ bs.length ∧ (bs.drop n).all (· = 0) then s.nvReceive c (bs.take n) else s.nvReceive c bs

/-- The publication message of a lane: blocks 0 to 2; the ID is check 3, after the length and the CRC (R31, R274, R355). -/
def State.pubReceive (s : State) (i : LaneNo) (blk : Fin 3) (bs : List Byte) : State :=
  let x := s.nov.pub[i]
  let r := nvJudge (if blk = 1 then 12 else 9) 3 1500 5 x.skip x.seq s.gtUs bs
  if r ≠ .crc ∧ nvCid bs ≠ s.pn P.nvPubcid + i.val then s.bump (0xAF81 + 4 * i.val)
  else
    let s := (s.modNov fun n => { n with pub := vmod n.pub i fun x => x.note r bs s.clk.lclk }).countNv (0xAF80 + 4 * i.val) r
    if r = .ok then
      s.modNov fun n => { n with pubIn := vmod n.pubIn i fun p =>
        if blk = 0 then { p with b0 := some (nvPay bs) } else if blk = 1 then { p with b1 := some (nvPay bs) }
        else { p with b2 := some (nvPay bs) } }
    else s

/-! ## Deadlines and payloads -/

/-- The deadline of a connection: VALID to SUBST or DEFAULT, SUBST to DEFAULT (R276). -/
def State.nvDeadline (s : State) (c : Fin 16) : State :=
  let x := s.nov.rx[c]
  let drop := fun (s : State) =>
    (s.modConn c fun x => { x with st := .default, run := 0 }).raise 0xA011 .crimson none [BitVec.ofNat 32 c.val]
  match x.st with
  | .valid =>
    if s.since x.at_ (us (s.pn P.nvDl 0 c)) then
      if s.nvNsub c = 0 then drop s
      else (s.modConn c fun x => { x with st := .subst, subN := 0, run := 0 }).raise 0xA010 .amber none [BitVec.ofNat 32 c.val]
    else s
  | .subst => if s.nvNsub c ≤ x.subN then drop s else s
  | _ => s

/-- NOVMI_DEADLINE (R276). -/
def execNovmiDeadline (c : Fin 16) (now : Ns) (s : State) : Out := .next ((s.at now).nvDeadline c)

/-- The deadline checks of a vehicle-cycle start; a cycle in SUBST counts (R276). -/
def State.nvCycle (s : State) : State :=
  forFin 16 (fun c s =>
    let was := s.nov.rx[c].st
    let s := s.modConn c fun x => { x with subN := if was = .subst then x.subN + 1 else x.subN, got := false }
    s.nvDeadline c) s

/-- The payload in use: the last accepted one, or the safe default of DEFK (R276). -/
def State.nvPayload (s : State) (c : Fin 16) : List Word :=
  let x := s.nov.rx[c]
  if x.st = .valid ∨ x.st = .subst then x.payload
  else if s.nvDefk c = 0 then (if x.payload.isEmpty then Config.noPayload c else x.payload)
  else
    let z := List.replicate (s.nvLen c) (0 : Word)
    if s.nvDefk c = 1 then z else if z.isEmpty then z else s.pw P.nvDval 0 c :: z.drop 1

/-- The payload in use of the connection a function parameter names, none without one. -/
def State.payloadOf (s : State) (cid : Nat) : Option (List Word) := (s.connOf cid).map s.nvPayload

/-- The connection a function parameter names delivers valid messages: it is in VALID (R251, R276). -/
def State.validConn (s : State) (cid : Nat) : Bool :=
  match s.connOf cid with | some c => s.nov.rx[c].st == NvState.valid | none => false

/-- The connection a function parameter names delivers valid messages, or substitutes for them. -/
def State.live (s : State) (cid : Nat) : Bool :=
  match s.connOf cid with
  | some c => s.nov.rx[c].st == NvState.valid || s.nov.rx[c].st == NvState.subst
  | none => false

end Sys2Proof.Machine
end

