-- ==== Sys2Proof/Machine/SafetyIn.lean ====
section
/-!
DEFINITION. The dual-channel safety inputs and the vehicle-level safe stop (R255 to R260, R262, R268 to R271).
-/

namespace Sys2Proof.Machine

/-! ## Safety inputs -/

/-- One pair changed. -/
def State.modSi (s : State) (n : Fin 6) (f : SiPair → SiPair) : State := s.modAon fun a => { a with si := vmod a.si n f }

/-- Both channels stand in the active state of a mode (R255). -/
def siActive (mode : Nat) (c1 c2 : Bool) : Bool := if mode = 1 then c1 && c2 else if mode = 2 then c1 && !c2 else false

/-- Both channels stand in the inactive state of a mode (R255). -/
def siInactive (mode : Nat) (c1 c2 : Bool) : Bool := if mode = 1 then !c1 && !c2 else if mode = 2 then !c1 && c2 else false

/-- The channels are discrepant in a mode (R255). -/
def siDiscrepant (mode : Nat) (c1 c2 : Bool) : Bool := mode != 0 && !siActive mode c1 c2 && !siInactive mode c1 c2

/-- N_d in ticks (R257): ceil(si.dt × 32.768). -/
def siLimit (dt : Nat) : Nat := (dt * 32768 + 999) / 1000

/-- A demand of a pair acts: torque-off at once, the safe stops at the next vehicle cycle; with SUP under test it counts as a
SAFETY request (R259, R475). -/
def State.siAct (s : State) (n : Fin 6) : State :=
  let f := s.pn P.siFunc 0 n
  let m := s.pw P.siMask 0 n
  if f = 1 then forFin 4 (fun k s => if m.getLsbD k.val then s.torqueOff k else s) s
  else if f = 2 ∨ f = 3 then
    let s := s.modSi n fun x => { x with taken := false }
    if s.underTest.getLsbD 0 then
      s.stopRun .safetyInput
    else s
  else s

/-- PERMIT or DEMAND of a pair from its sampled channels and its fault; the action begins at the change to DEMAND (R256, R259). -/
def State.siJudge (s : State) (n : Fin 6) : State :=
  let m := s.pn P.siMode 0 n
  let x := s.aon.si[n]
  let dem := !(siActive m x.ch1 x.ch2 && !x.flt)
  let s := s.modSi n fun x => { x with dem := dem }
  if dem && !x.dem && m != 0 then s.siAct n else s

/-- SAFETY_INPUT_CHANGE (R259). -/
def execSafetyInputChange (n : Fin 6) (now : Ns) (s : State) : Out := .next ((s.at now).siJudge n)

/-- The count has reached N_d: FLT latches with its event, once for each count (R257). -/
def State.siLatch (s : State) (n : Fin 6) : State :=
  let x := s.aon.si[n]
  if s.pn P.siMode 0 n ≠ 0 ∧ !x.rep ∧ siLimit (s.pn P.siDt 0 n) ≤ x.count then
    ((s.modSi n fun x => { x with flt := true, rep := true }).raise 0xA001 .crimson none [BitVec.ofNat 32 n.val]).siJudge n
  else s

/-- SI_DISCREPANCY (R257). -/
def execSiDiscrepancy (n : Fin 6) (now : Ns) (s : State) : Out := .next ((s.at now).siLatch n)

/-- The clear requests of a pair, taken at a tick (R258). -/
def State.siClears (s : State) (n : Fin 6) : State :=
  let x := s.aon.si[n]
  let good := siInactive (s.pn P.siMode 0 n) x.ch1 x.ch2
  let s := if good ∧ !x.clear.isEmpty then s.modSi n fun x => { x with flt := false } else s
  let s := x.clear.foldl (fun s r => s.answerLate r 0x0301 (if good then 0 else 0x30)) s
  s.modSi n fun x => { x with clear := [] }

/-- One pair at an always-on tick: sampling, the discrepancy count with its near misses, the latch, the clears and the state
(R255 to R258). -/
def State.siTick (s : State) (n : Fin 6) (c1 c2 : Bool) : State :=
  let m := s.pn P.siMode 0 n
  let x := s.aon.si[n]
  let lim := siLimit (s.pn P.siDt 0 n)
  let bad := siDiscrepant m c1 c2
  let near := !bad && decide (x.count < lim ∧ lim < 2 * x.count)
  let s := s.modSi n fun x => { x with ch1 := c1, ch2 := c2, count := if bad then min (x.count + 1) lim else 0, rep := x.rep && bad }
  let s := if near then s.bump (0xAF00 + n.val) else s
  let s := s.siLatch n
  (s.siClears n).siJudge n

/-- SISTAT: a pair that is off shows DEM alone with its levels (R256, R260). -/
def State.sistat (s : State) : Word :=
  (fins 6).foldl (fun (w : Word) (n : Fin 6) =>
    let x := s.aon.si[n]
    let off := decide (s.pn P.siMode 0 n = 0)
    w ||| bitAt (x.flt && !off) (4 * n.val + 3) ||| bitAt (x.dem || off) (4 * n.val + 2) ||| bitAt x.ch2 (4 * n.val + 1) |||
      bitAt x.ch1 (4 * n.val)) 0

/-- OP_SI_CLEAR (R258). -/
def specSiClear : OpSpec := { opc := 0x0301, classes := [0] }
/-- The request waits for the next tick; for an off pair it answers ST_OK and changes nothing (R256). -/
def bodySiClear : Body := fun r s =>
  let n := Config.siPair r.arg0 r.payload
  if s.pn P.siMode 0 n = 0 then Ans.ok s
  else { st := s.modSi n fun x => { x with clear := x.clear ++ [r] }, slots := [] }
/-- OP_SI_CLEAR. -/
def execOpSiClear (r : Req) (s : State) : Out := .next (s.serve specSiClear bodySiClear r)

/-! ## Vehicle-level safe stop -/

/-- Ask for the vehicle-level safe stop: causes 0 to 4 in the order of R268; the next vehicle cycle enters it. -/
def State.askStop (s : State) (cause : Nat) : State := s.modSafe fun f => { f with causes := f.causes ++ [cause] }

/-- The demands of the safety inputs that the supervisor takes at a vehicle cycle (R259). -/
def State.siTake (s : State) : State :=
  forFin 6 (fun n s =>
    if s.aon.si[n].taken then s
    else
      let s := s.modSi n fun x => { x with taken := true }
      let m := s.pw P.siMask 0 n
      if s.pn P.siFunc 0 n = 3 then s.askStop 0
      else if s.life.st.operating then
        forFin 8 (fun l s => if m.getLsbD l.val && s.allocated l then s.ssStart l 0 else s) s
      else s) s

/-- Every pair in DEMAND acts at lane start (R259). -/
def State.siStart (s : State) : State :=
  forFin 6 (fun n s => if s.aon.si[n].dem && s.pn P.siMode 0 n != 0 then s.siAct n else s) s

/-- The causes that wait are taken: each raises its event, and the first begins the stop (R268, R271). -/
def State.stopCauses (s : State) : State :=
  let c := s.safe.causes
  let s := s.modSafe fun f => { f with causes := [] }
  if c.isEmpty ∨ !s.life.st.operating then s
  else
    let from_ := decide (s.life.st = .standby)
    let s := if s.safe.phase = .none then
        (s.modSafe fun f =>
          { f with phase := .decel, at_ := s.clk.lclk, v0 := s.brake.v, stillSince := none, decelBad := false, vss := true,
                   fromStandby := from_ }).setSt .safeStop
      else s
    c.foldl (fun s i => s.raise 0xA004 .crimson none [BitVec.ofNat 32 i]) s

/-- v below 0.5 km/h, in m/s. -/
def vStill : Q := 5 / 36

/-- v has stayed below 0.5 km/h for ss.tstill: DECEL becomes HOLD (R269). -/
def State.safeStill (s : State) : State :=
  match s.safe.phase, s.safe.stillSince with
  | .decel, some t => if s.since t (ms (s.pn P.ssTstill)) then s.modSafe fun f => { f with phase := .hold } else s
  | _, _ => s

/-- SAFESTOP_STILL (R269). -/
def execSafestopStill (now : Ns) (s : State) : Out := .next ((s.at now).safeStill)

/-- STEEROFF: road-wheel and hand-wheel axes disabled, torque-off on each pair whose axes are disabled, in a lane in STANDBY as its mirror
shows them, or unallocated (R269, R410). -/
def State.steerOff (s : State) : State :=
  let s := forFin 8 (fun l s =>
    if (s.kind l = 1 ∨ s.kind l = 2) ∧ s.ax[l].en then s.modAx l Axis.disable else s) s
  forFin 4 (fun k s =>
    let off := fun (l : AxisNo) => !s.allocated l || !s.axEn l
    if off (loAx k) && off (hiAx k) && !s.pair[k].toDemand then (s.modPair k fun p => { p with toDemand := true }).torqueOff k
    else s) s

/-- The monitor of DECEL (R270). -/
def State.decelMonitor (s : State) : State :=
  let t : Q := secs s.clk.lclk s.safe.at_
  let d : Q := (s.pn P.ssVdel : Q) / 1000
  if s.safe.phase = .decel ∧ !s.safe.decelBad ∧ d ≤ t ∧ s.safe.v0 - s.pq P.ssVmon * (t - d) + s.pq P.ssVtol < s.brake.v then
    (s.modSafe fun f => { f with decelBad := true }).raise 0xA005 .crimson none [toFix 16 s.brake.v]
  else s

/-- The phases at a vehicle cycle, after the speed of the cycle is known (R269, R270). The park request of HOLD is the braking
function's. -/
def State.safePhases (s : State) : State :=
  let slow := decide (s.brake.v < vStill)
  let s := s.modSafe fun f => { f with stillSince := if slow then some (f.stillSince.getD s.clk.lclk) else none }
  let s := s.decelMonitor.safeStill
  match s.safe.phase with
  | .hold =>
    if s.brake.park = .hold ∨ s.brake.park = .holdact then (s.modSafe fun f => { f with phase := .steeroff }).steerOff else s
  | .steeroff => s.steerOff
  | _ => s

/-- a_ss: ss.vdec, or bw.amax after a violation of the monitor (R269, R270); none while no stop runs. -/
def State.aSs (s : State) : Option Q :=
  if s.safe.phase = .none then none else some (if s.safe.decelBad then s.pq P.bwAmax else s.pq P.ssVdec)

/-- A cause of R268 other than the host's own request persists (R271). -/
def State.stopPersists (s : State) : Bool :=
  ((fins 6).any fun n => s.aon.si[n].dem && s.pn P.siMode 0 n != 0 && s.pn P.siFunc 0 n == 3) ||
    s.safe.lostAxle || s.safe.lostWheel || decide (3 ≤ s.steer.hwLost) || decide (3 ≤ s.brake.pedLost) ||
    decide (10 ≤ s.vote.held) || s.vote.safe || s.safe.pubVss || s.safe.causes.any (· != 3)

/-- The release: ACTIVE or STANDBY with the axes disabled and PARK in HOLD (R271). -/
def State.releaseStop (s : State) : State :=
  let s := s.mapAx fun a => if a.en then a.disable else a
  let s := { s with pair := s.pair.map fun (p : Pair) => { p with toDemand := false } }
  let s := s.modBrake fun b => { b with park := .hold, parkAt := s.clk.lclk }
  let s := { s with safe := {} }
  s.setSt (if s.auth || s.split then .active else .standby)

/-- OP_SS_VEHICLE (R268, R409). -/
def specSsVehicle : OpSpec := { opc := 0x0303, classes := [0] }
/-- The request of the host; the next vehicle cycle takes it. A lane outside the operating states refuses it. -/
def bodySsVehicle : Body := fun _ s =>
  if s.life.st.operating then Ans.ok (s.askStop 3) else Ans.refuse s 0x30
/-- OP_SS_VEHICLE. -/
def execOpSsVehicle (r : Req) (s : State) : Out := .next (s.serve specSsVehicle bodySsVehicle r)

/-- OP_SS_RELEASE (R271). -/
def specSsRelease : OpSpec := { opc := 0x0304, classes := [0] }
/-- Released in STEEROFF only, and only when no other cause persists. -/
def bodySsRelease : Body := fun _ s =>
  if s.safe.phase = .steeroff ∧ !s.stopPersists then Ans.ok s.releaseStop else Ans.refuse s 0x40
/-- OP_SS_RELEASE. -/
def execOpSsRelease (r : Req) (s : State) : Out := .next (s.serve specSsRelease bodySsRelease r)

end Sys2Proof.Machine
end

