-- ==== Sys2Proof/Machine/Vote.lean ====
section
/-!
DEFINITION. The vote on the set-points of a vehicle cycle, its limits and its outliers (R30 to R34, R208, R245, R277).
-/

namespace Sys2Proof.Machine

/-! ## Publications of the cycle that ends -/

/-- What a lane published in the cycle that ends: as received, or for the lane itself the blocks it sent (R30, R31). -/
def State.pubOf (s : State) (i : LaneNo) : PubIn :=
  if i = s.idx then
    let b := fun (k : Fin 3) => if s.vtb.sentBlk[k] then s.vote.commit[k] else none
    ⟨b 0, b 1, b 2⟩
  else s.nov.pubIn[i]

/-- A lane's set-points for the vote, before the condition on its group. -/
def State.voteOf (s : State) (i : LaneNo) : Option SetPts :=
  ((s.pubOf i).b0.filter blockAuth).map setPtsOf

/-- Two publications of the cycle claim a group (R31). -/
def State.doubleAuth (s : State) (g : Fin 3) : Bool :=
  (s.voteOf ⟨g.val, by omega⟩).isSome && (s.voteOf ⟨g.val + 3, by omega⟩).isSome

/-- The valid publications of the cycle, by lane (R31). -/
def State.validPubs (s : State) : List (LaneNo × SetPts) :=
  (fins 6).filterMap fun i =>
    if s.doubleAuth ⟨i.val % 3, Nat.mod_lt _ (by decide)⟩ then none else (s.voteOf i).map fun v => (i, v)

/-- The vote tolerance of a set-point (R208, R245). -/
def State.voteTol (s : State) (i : Nat) : Q :=
  if i < 3 then s.pq P.sbwVtolang else if i = 3 then s.pq P.sbwVtoltq else if i < 7 then s.pq P.sbwVtolbs
  else if i = 7 then s.pq P.bwVtolr else s.pq P.bwVtolf

/-- The middle of three values. -/
def mid3 (a b c : Q) : Q := max (min a b) (min (max a b) c)

/-- The voted value of one set-point, and whether it is held (R32). `own` is the lane's own computed value. -/
def voteValue (prev own tol : Q) (vals : List Q) : Q × Bool :=
  match vals with
  | [] => (own, false)
  | [a] => (a, false)
  | [a, b] => if |a - b| ≤ tol then ((a + b) / 2, false) else (prev, true)
  | a :: b :: c :: _ => (mid3 a b c, false)

/-- The vote changed. -/
def State.setVote (s : State) (v : Vote) : State := { s with vote := v }

/-! ## Outliers -/

/-- The set-point in which a publication lies beyond its tolerance from the mid-values (R34). -/
def State.outlierSp (s : State) (v mid : SetPts) : Option Nat :=
  (List.range 16).find? fun i => s.spOn i && decide (s.voteTol i < |v.getD i 0 - mid.getD i 0|)

/-- The count of consecutive outlier cycles of a lane has reached 5 (R34). A count of 6 marks the event as raised. -/
def State.voteOutlier (s : State) (i : LaneNo) : State :=
  if s.vote.out[i] = 5 then
    (s.modVote fun v => { v with out := vset v.out i 6 }).raise 0x0008 .amber none
      [BitVec.ofNat 32 i.val, BitVec.ofNat 32 s.vote.outSp[i]]
  else s

/-- VOTE_OUTLIER (R34). -/
def execVoteOutlier (i : LaneNo) (now : Ns) (s : State) : Out := .next ((s.at now).voteOutlier i)

/-- The judgement of one publication in a cycle with three (R34). -/
def State.judgeOutlier (s : State) (mid : SetPts) (p : LaneNo × SetPts) : State :=
  let i := p.1
  match s.outlierSp p.2 mid with
  | some n =>
    ((s.bump (0x0F20 + i.val)).modVote fun v => { v with out := vmod v.out i (fun k => min (k + 1) (if k = 6 then 6 else 5)),
                                                         outSp := vset v.outSp i n }).voteOutlier i
  | none => s.modVote fun v => { v with out := vset v.out i 0 }

/-! ## Limits -/

/-- Ten consecutive held cycles request the vehicle-level safe stop, once for as long as they last (R32, R268). The cycles are those in
which any set-point is held (log entry 47). -/
def State.heldLimit (s : State) : State :=
  if 10 ≤ s.vote.held then
    (if s.safe.askHeld then s else (s.modSafe fun f => { f with askHeld := true }).askStop 2)
  else s.modSafe fun f => { f with askHeld := false }

/-- VOTE_HELD_LIMIT (R32). -/
def execVoteHeldLimit (now : Ns) (s : State) : Out := .next ((s.at now).heldLimit)

/-- The safe defaults of R277 in place of the voted set-points: the angles hold, the feel, the brake-steer force and F_req are 0,
and the clamp forces are the lane's own; the cycle forms them anew (`State.defaultCycle`). -/
def State.safeDefaults (s : State) : SetPts :=
  (List.range 16).map fun i => if i < 3 then s.vote.voted.getD i 0 else if i < 8 then 0 else s.vote.own.getD i 0

/-- Three cycles without a valid publication have passed with the lane's own values: from the fourth the safe defaults apply, and request the
safe stop (R32, R277). -/
def State.noneLimit (s : State) : State :=
  if s.vote.count = 0 ∧ 3 ≤ s.vote.none_ ∧ !s.vote.safe then
    (s.modVote fun v => { v with safe := true, applied := s.safeDefaults }).askStop 2
  else s

/-- VOTE_NONE_LIMIT: the third cycle without a valid publication has passed, and the next one has not begun its vote (R32, R277). -/
def execVoteNoneLimit (now : Ns) (s : State) : Out :=
  let s := s.at now
  .next (if s.since s.life.cycStart (ms 1) then s.noneLimit else s)

/-! ## The vote -/

/-- The events of the count, once for the lane (R32). -/
def State.voteEvents (s : State) (n : Nat) (single : Option LaneNo) : State :=
  let w := BitVec.ofNat 32
  if n = 2 ∧ s.vote.count ≠ 2 then s.raise 0x0004 .grey none [w 2]
  else if n = 1 ∧ (s.vote.count ≠ 1 ∨ s.vote.single ≠ single) then
    s.raise 0x0006 .amber none [w (match single with | some i => i.val | none => 0)]
  else if n = 0 ∧ s.vote.count ≠ 0 then s.raise 0x0007 .crimson none []
  else s

/-- The vote on the publications of the cycle that ends (R31 to R34, R277). A lane with no set-point enabled raises no vote event but that
of a double claim. The previous voted value is that of the last vote that had a publication (log entry 47). -/
def State.castVote (s : State) : State :=
  let s := forFin 3 (fun g s => if s.doubleAuth g then s.raise 0x0003 .amber none [BitVec.ofNat 32 g.val] else s) s
  let vp := s.validPubs
  let n := vp.length
  if !((List.range 16).any s.spOn) then s.modVote fun v => { v with voted := List.replicate 16 0, applied := List.replicate 16 0 }
  else
    let single := if n = 1 then (vp.head?).map Prod.fst else none
    let s := s.voteEvents n single
    let res := (List.range 16).map fun i =>
      if s.spOn i then
        voteValue (s.vote.voted.getD i 0) (s.vote.own.getD i 0) (s.voteTol i) (vp.map fun p => p.2.getD i 0)
      else (0, false)
    let voted := res.map Prod.fst
    let s := res.zipIdx.foldl (fun s (r, i) => if r.2 then s.raise 0x0005 .amber none [BitVec.ofNat 32 i] else s) s
    let anyHeld := res.any Prod.snd
    let s := if n = 3 then vp.foldl (fun s p => s.judgeOutlier voted p) s else s
    let late := decide (n = 0 ∧ 3 ≤ s.vote.none_)
    let s := s.modVote fun v =>
      { v with count := n, single := single, held := if anyHeld then v.held + 1 else 0, none_ := if n = 0 then v.none_ + 1 else 0,
               safe := v.safe && late, voted := if n = 0 then v.voted else voted,
               applied := if late then s.safeDefaults else voted }
    (if late then s.noneLimit else s).heldLimit

end Sys2Proof.Machine
end

