-- ==== Sys2Proof/Machine/Steer.lean ====
section
/-!
DEFINITION. The steering function: the fusion of the hand-wheel sources, the set-points of steering and their application, and the
windings of every motor with what their loss brings (R202 to R225, R242).
-/

namespace Sys2Proof.Machine

/-! ## Fusion of sources (R205, R235) -/

/-- The value formed from the valid sources, and whether two of them disagree; of two at one distance from the value before, the
choice is free. -/
def fuse (vals : List Q) (prev tol : Q) (tie : Bool) : Q × Bool :=
  match vals with
  | [] => (prev, false)
  | [a] => (a, false)
  | [a, b] =>
    if |a - b| ≤ tol then ((a + b) / 2, false)
    else if |a - prev| < |b - prev| then (a, true)
    else if |b - prev| < |a - prev| then (b, true)
    else (if tie then a else b, true)
  | a :: b :: c :: _ => (mid3 a b c, false)

/-- The hand-wheel axes whose published angle is valid (R205). -/
def State.handAxes (s : State) : List (Fin 24) :=
  (s.windings 2 (s.pn P.sbwHwmotor)).filter fun p => s.inFlag p 1

/-- The valid sources of δ_H, degrees (R205). -/
def State.handSources (s : State) : List Q :=
  (s.handAxes.filterMap fun p => (s.inB1 p).map fun b => (b1Field b (pkgAx p).val true : Q) / 20) ++
    (fins 3).filterMap fun g => (s.inPort g (s.pn P.sbwHwport 0 g)).map fun v => (v : Q) * s.pq P.sbwHwlsb

/-- The published speeds of the valid hand-wheel axes, degrees per second. -/
def State.handSpeeds (s : State) : List Q :=
  s.handAxes.filterMap fun p => (s.inB1 p).map fun b => (s.b1Speed b (pkgGrp p).val (pkgAx p).val : Q) / 10

/-- No source in three consecutive cycles: the event and the request for the safe stop, once; a count of 4 marks them as raised
(R205). -/
def State.handLost (s : State) : State :=
  if s.steer.hwLost = 3 then
    ((s.modSteer fun t => { t with hwLost := 4 }).raise 0x8003 .crimson none []).askStop 1
  else s

/-- HW_ANGLE_LOST (R205). -/
def execHwAngleLost (now : Ns) (s : State) : Out := .next ((s.at now).handLost)

/-- δ_H and ω_H of the cycle (R205). -/
def State.handCycle (s : State) : State :=
  let vals := s.handSources
  let old := s.steer
  let (h, split) := fuse vals old.hw (s.pq P.sbwHwtol) (Config.freeBool s.free)
  let sp := s.handSpeeds
  let w := if sp.isEmpty then divF (h - old.hw) s.life.cycDt else sp.foldl (· + ·) 0 / (sp.length : Q)
  let n := min 3 vals.length
  let s := s.tickFree.modSteer fun t =>
    { t with hw := h, hwSpeed := w, hwSrc := n, hwSplit := split,
             hwLost := if n ≠ 0 then 0 else if t.hwLost < 3 then t.hwLost + 1 else t.hwLost }
  let s := if split && !old.hwSplit then s.raise 0x8001 .amber none [] else s
  let s := if n = 1 ∧ old.hwSrc ≠ 1 then s.raise 0x8002 .amber none [] else s
  s.handLost

/-- ARTV and the articulation angles; their loss raises its event once (R207). -/
def State.articCycle (s : State) : State :=
  let cid := s.pn P.sbwArtcid
  if s.live cid then
    let (a, b) := Config.articOf ((s.payloadOf cid).getD [])
    s.modSteer fun t => { t with artv := true, gam := ⟨#[a, b], rfl⟩ }
  else if s.steer.artv then (s.modSteer fun t => { t with artv := false }).raise 0x8004 .amber none []
  else s

/-! ## Windings (R219 to R222, R242) -/

/-- The windings of axle n's motor. -/
def State.axleWind (s : State) (n : Fin 3) : List (Fin 24) := s.windings 1 (s.pn P.sbwMotor 0 n)
/-- The windings of the hand-wheel motor. -/
def State.handWind (s : State) : List (Fin 24) := s.windings 2 (s.pn P.sbwHwmotor)
/-- The windings of wheel w's motor. -/
def State.wheelWind (s : State) (w : Fin 8) : List (Fin 24) := s.windings 3 (s.pn P.bwMotor 0 w)
/-- Axle n is enabled. -/
def State.axleOn (s : State) (n : Fin 3) : Bool := (s.pw P.sbwEn).getLsbD n.val
/-- Wheel w is enabled. -/
def State.wheelOn (s : State) (w : Fin 8) : Bool := (s.pw P.bwEn).getLsbD w.val

/-- No winding of a motor is left. -/
def State.allLost (s : State) (ps : List (Fin 24)) : Bool := !ps.isEmpty && ps.all s.windLost
/-- Some windings of a motor are lost and some are left. -/
def State.partLost (s : State) (ps : List (Fin 24)) : Bool := ps.any s.windLost && !ps.all s.windLost

/-- Axle n is lost, until the next start: its event, the request for the safe stop, and the end of its centre search (R222,
R224). -/
def State.axleLost (s : State) (n : Fin 3) : State :=
  if s.steer.lost[n] then s
  else
    let s := s.modSteer fun t =>
      { t with lost := vset t.lost n true, half := vset t.half n false, search := vset t.search n none }
    let s := s.modSafe fun f => { f with lostAxle := true }
    (s.raise 0x8008 .crimson none [s.pw P.sbwMotor 0 n]).askStop 1

/-- HALF and LOST of an axle from its windings (R220, R222). -/
def State.axleWindings (s : State) (n : Fin 3) : State :=
  let ps := s.axleWind n
  if !s.axleOn n ∨ s.steer.lost[n] then s
  else if s.allLost ps then s.axleLost n
  else
    let h := s.partLost ps
    let was := s.steer.half[n]
    let s := s.modSteer fun t => { t with half := vset t.half n h }
    if h && !was then s.raise 0x8006 .amber none [s.pw P.sbwMotor 0 n] else s

/-- HHALF and NOFEEL from the windings of the hand-wheel (R218, R220). -/
def State.handWindings (s : State) : State :=
  let ps := s.handWind
  let none_ := s.allLost ps
  let was := s.steer.nofeel
  let s := s.modSteer fun t => { t with hhalf := s.partLost ps, nofeel := none_ }
  if none_ && !was then s.raise 0x8007 .amber none [] else s

/-- HALF and LOST of a wheel from its windings; LOST stays until the next start (R242). -/
def State.wheelWindings (s : State) (w : Fin 8) : State :=
  let ps := s.wheelWind w
  if !s.wheelOn w ∨ s.brake.lost[w] then s
  else if s.allLost ps then
    let s := s.modBrake fun b => { b with lost := vset b.lost w true, half := vset b.half w false }
    (s.modSafe fun f => { f with lostWheel := true }).raise 0x9008 .crimson none [BitVec.ofNat 32 w.val]
  else
    let h := s.partLost ps
    let was := s.brake.half[w]
    let s := s.modBrake fun b => { b with half := vset b.half w h }
    if h && !was then s.raise 0x9007 .amber none [BitVec.ofNat 32 w.val] else s

/-- The flags of every motor after a change of its windings. -/
def State.motorFlags (s : State) : State :=
  let s := forFin 3 (fun n s => s.axleWindings n) s
  let s := if (s.pw P.sbwEn).getLsbD 3 then s.handWindings else s
  forFin 8 (fun w s => s.wheelWindings w) s

/-- One winding changed. -/
def State.modWind (s : State) (g : Fin 3) (l : AxisNo) (f : Winding → Winding) : State :=
  s.modBrake fun b => { b with wind := vmod b.wind g fun v => vmod v l f }

/-- A winding lost when its count has reached three cycles (R219). -/
def Winding.judge (x : Winding) : Winding := if 3 ≤ x.clear then { x with lost := true } else x

/-- WINDING_LOST: the winding, with every other one of its motor that is due in the same cycle (R219 to R222, R224, R242). -/
def State.windingLost (s : State) (g : Fin 3) (l : AxisNo) : State :=
  if ((s.brake.wind[g])[l]).lost ∨ ((s.brake.wind[g])[l]).clear < 3 then s
  else
    let p := 8 * g.val + l.val
    ((s.windings (s.kindP p) (s.motorP p)).foldl (fun s q => s.modWind (pkgGrp q) (pkgAx q) Winding.judge) s).motorFlags

/-- WINDING_LOST. -/
def execWindingLost (g : Fin 3) (l : AxisNo) (now : Ns) (s : State) : Out := .next ((s.at now).windingLost g l)

/-- A lane of a group shows the availability bit of an axis set in this cycle's inputs (R219). -/
def State.inAvail (s : State) (g : Fin 3) (l : AxisNo) : Bool :=
  let f := fun (b : Option (List Word)) => match b with | some x => b1Flag x l.val 0 | none => false
  f (s.vote.in1[g.val]'(by omega)) || f (s.vote.in1[g.val + 3]'(by omega))

/-- The count of a winding in one cycle; three cycles with the bit set make it available again (R219). -/
def Winding.count (x : Winding) (avail : Bool) : Winding :=
  let c := if avail then 0 else min 3 (x.clear + 1)
  let n := if avail then min 3 (x.set + 1) else 0
  { lost := x.lost && decide (n < 3), clear := c, set := n }

/-- The windings of a vehicle cycle, all counted before any motor is judged (R219, R224). -/
def State.windCycle (s : State) : State :=
  let s := (fins 24).foldl (fun s p =>
    if s.kindP p.val = 1 ∨ s.kindP p.val = 2 ∨ s.kindP p.val = 3 then
      let a := s.inAvail (pkgGrp p) (pkgAx p)
      s.modWind (pkgGrp p) (pkgAx p) fun x => (x.count a).judge
    else s) s
  s.motorFlags

/-- Both windings of an axle show FERR for sbw.ferrt cycles: it counts as lost (R221). -/
def State.ferrCycle (s : State) (n : Fin 3) : State :=
  let ps := s.axleWind n
  let both := !ps.isEmpty && ps.all fun p => s.inFlag p 2
  let s := s.modSteer fun t => { t with ferr := vmod t.ferr n fun k => if both then k + 1 else 0 }
  if s.axleOn n ∧ s.pn P.sbwFerrt ≤ s.steer.ferr[n] then s.axleLost n else s

/-! ## Set-points (R208 to R217, R223) -/

/-- Metres per second as km/h. -/
def kmh (v : Q) : Q := v * 18 / 5

/-- An axle has REF: each carried axis has it, and each other winding that is published shows it (R213, log entry 27). -/
def State.axleRef (s : State) (n : Fin 3) : Bool :=
  let fs := (s.axleWind n).filterMap fun p =>
    if pkgGrp p = s.grp then some s.steer.ref[pkgAx p]
    else (s.inB1 p).map fun b => b1Flag b (pkgAx p).val 1
  !fs.isEmpty && fs.all id

/-- The angle that the position reference of an axle gives for its present position, from the first published winding, else the
command before (R212). -/
def State.presentAngle (s : State) (n : Fin 3) : Q :=
  match (s.axleWind n).findSome? fun p => (s.inB1 p).map fun b => (b1Field b (pkgAx p).val true : Q) / 200 with
  | some x => divF (x - s.steer.corr[n]) (s.pq P.sbwKx 0 n)
  | none => s.steer.cmd[n]

/-- g(v) of R216. -/
def State.rearFactor (s : State) : Q :=
  let a := s.pq P.sbwVrs1
  let b := s.pq P.sbwVrs2
  let v := kmh s.brake.v
  if v ≤ a then 1 else if b ≤ v then 0 else (b - v) / (b - a)

/-- δ_n before shaping (R211, R216). -/
def State.angleOf (s : State) (n : Fin 3) : Q :=
  if n = 0 then divF s.steer.hw (s.ratio (kmh s.brake.v))
  else if !s.steer.artv || s.steer.lost[(0 : Fin 3)] then 0
  else s.rearFactor * s.pq P.sbwKart 0 (n.val - 1) * (if n = 1 then s.steer.gam[(0 : Fin 2)] else s.steer.gam[(1 : Fin 2)])

/-- δ_n,cmd: clamp, rate limit, hold (R212). -/
def State.shapeAngle (s : State) (n : Fin 3) : Q :=
  if !s.axleRef n then s.presentAngle n
  else
    let m := s.pq P.sbwDmax 0 n
    let x := clampQ (s.angleOf n) (-m) m
    let slow := s.steer.half[n] || (s.axleWind n).any fun p => s.inFlag p 2
    let r := (if slow then s.pq P.sbwRate1 0 n else s.pq P.sbwRate 0 n) * s.life.cycDt
    let old := s.steer.cmd[n]
    old + clampQ (x - old) (-r) r

/-- T_max of R217. -/
def State.feelMax (s : State) : Q := if s.steer.hhalf then s.pq P.sbwTfmax1 else s.pq P.sbwTfmax

/-- T_H (R217). The end stops are those of the hand-wheel axes this lane carries. -/
def State.feel (s : State) : Q :=
  let m := s.feelMax
  let h := s.steer.hw
  let w := s.steer.hwSpeed
  let d := min (s.pq P.sbwHwstop) (s.ratio (kmh s.brake.v) * s.pq P.sbwDmax)
  let pen := if d < h then h - d else if h < -d then h + d else 0
  let t := s.pq P.sbwKfb * s.su.results[(0 : Fin 8)] - s.pq P.sbwKd * w -
    s.pq P.sbwTfric * tanhQ (w / s.pq P.sbwWfric) - s.pq P.sbwKcen * h - s.pq P.sbwKes * pen
  if (fins 8).any fun l => s.hand l && s.ax[l].prof.eshi then -m
  else if (fins 8).any fun l => s.hand l && s.ax[l].prof.eslo then m
  else clampQ t (-m) m

/-- A brake-steer force is due for an axle (R223). -/
def State.brakeSteerOn (s : State) (n : Fin 3) : Bool := s.safe.phase != VPhase.none && s.steer.lost[n]

/-- ΔF_n, kN (R223). `gOld` holds the articulation angles of the cycle before. -/
def State.brakeSteer (s : State) (gOld : Vector Q 2) (n : Fin 3) : Q :=
  if !s.brakeSteerOn n ∨ s.brake.v < vStill then 0
  else
    let m := s.pq P.sbwDfmax
    if n = 0 then
      let v := max s.brake.v 1
      let lim := s.pq P.sbwAylim / v
      let r := divF (v * s.steer.hw) (s.ratio (kmh s.brake.v)) * (twoPi / 360) / s.pq P.sbwWb
      clampQ (s.pq P.sbwKbs * (clampQ r (-lim) lim - s.su.results[(4 : Fin 8)])) (-m) m
    else if !s.steer.artv then 0
    else
      let dg := if n = 1 then s.steer.gam[(0 : Fin 2)] - gOld[(0 : Fin 2)] else s.steer.gam[(1 : Fin 2)] - gOld[(1 : Fin 2)]
      clampQ (-(s.pq P.sbwKbsa * divF dg s.life.cycDt)) (-m) m

/-- The steering set-points of the cycle: three angles, T_H and three brake-steer forces; RLOCK and BS follow (R208 to R217,
R223). -/
def State.steerSetPts (s : State) (gOld : Vector Q 2) : State × List Q :=
  let cmd : Vector Q 3 := Vector.ofFn fun n => if s.axleOn n then s.shapeAngle n else 0
  let th := s.feel
  let df := (fins 3).map (s.brakeSteer gOld)
  (s.modSteer fun t => { t with cmd := cmd, rlock := decide (s.rearFactor = 0), bs := Vector.ofFn s.brakeSteerOn },
    cmd.toList ++ [th] ++ df)

/-! ## Application (R210, R214, R218, R224) -/

/-- The target of an axis's window, with no host tag (R25). -/
def State.setTarget (s : State) (l : AxisNo) (t : Int) : State :=
  s.modAx l fun a => { a with win := { a.win with back := { a.win.back with target := t, tag := none }, fresh := true } }

/-- The value of an axis's window (R25). -/
def State.setValue (s : State) (l : AxisNo) (x : Q) : State :=
  s.modAx l fun a => { a with win := { a.win with back := { a.win.back with value := x }, fresh := true } }

/-- A centre search moves on by sbw.hvel over the cycle, turns at its first limit, and ends at its second; a lane that has lost authority
runs none (R214). -/
def State.searchMove (s : State) (n : Fin 3) : State :=
  match s.steer.search[n] with
  | none => s
  | some x =>
    let lim := s.pq P.sbwHsearch
    if !s.auth then s.modSteer fun t => { t with search := vset t.search n none }
    else if s.brake.v ≠ 0 then s
    else
      let off := clampQ (x.off + x.dir * s.pq P.sbwHvel * s.life.cycDt) (-lim) lim
      let turn := !x.second && decide (lim ≤ x.dir * off)
      let y : Search := { x with off := off, dir := if turn then -x.dir else x.dir, second := x.second || turn }
      (s.modSteer fun t => { t with search := vset t.search n (some y) }).searchEnd n

/-- The voted angle applied to a road-wheel axis: a lost axle is disabled, a search leads, an axis without REF holds where it
stands (R210, R212, R214, R224). -/
def State.applyAngle (s : State) (l : AxisNo) (n : Fin 3) : State :=
  if s.steer.lost[n] then (if s.ax[l].en then (s.modAx l Axis.disable).syncDrive else s)
  else
    match s.steer.search[n] with
    | some x => s.setTarget l (s.rackCounts l (x.base + x.off))
    | none =>
      if s.steer.ref[l] then s.setTarget l (s.targetOf l n (s.vote.applied.getD n.val 0))
      else s.setTarget l s.ax[l].fb.pos64

/-- The voted feel torque applied to an available hand-wheel axis (R218). -/
def State.applyFeel (s : State) (l : AxisNo) : State :=
  if ((s.brake.wind[s.grp])[l]).lost then s
  else
    let sh : Q := if 2 ≤ ((s.handWind).filter fun p => !s.windLost p).length then 1 / 2 else 1
    s.setValue l (divF (s.vote.applied.getD 3 0 * sh) (s.pq P.sbwHwgear * s.kt l))

/-- The steering set-points applied at the start of a cycle; the centre corrections taken in the cycle before come first (R33,
R210, R215, R218). -/
def State.applySteer (s : State) : State :=
  let s := s.modSteer fun t =>
    { t with corr := Vector.ofFn fun n => t.corrNext[n].getD t.corr[n], corrNext := Vector.replicate 3 none }
  let s := forFin 3 (fun n s => s.searchMove n) s
  forFin 8 (fun l s =>
    match s.axle l with
    | some n => s.applyAngle l n
    | none => if s.hand l && (s.pw P.sbwEn).getLsbD 3 then s.applyFeel l else s) s

/-! ## Status -/

/-- STEERSTAT (R225). READY needs an enabled axle, as its reset value asks. -/
def State.steerStat (s : State) : Word :=
  let t := s.steer
  let on := (fins 3).filter s.axleOn
  let axle := fun (n : Fin 3) =>
    (bitAt (s.axleRef n) 0 ||| bitAt t.cent[n] 1 ||| bitAt t.half[n] 2 ||| bitAt t.lost[n] 3) <<< (4 * n.val)
  axle 0 ||| axle 1 ||| axle 2 ||| bitAt t.bs[(0 : Fin 3)] 12 ||| bitAt t.bs[(1 : Fin 3)] 13 ||| bitAt t.bs[(2 : Fin 3)] 14 |||
    bitAt t.hhalf 15 ||| (BitVec.ofNat 32 t.hwSrc <<< 16) ||| bitAt t.rlock 19 ||| bitAt t.artv 20 ||| bitAt t.hwSplit 21 |||
    bitAt t.nofeel 22 ||| bitAt (!on.isEmpty && on.all s.axleRef) 23

/-- OP_VF_STEER (R225, R409). -/
def specVfSteer : OpSpec := { opc := 0x0701, classes := [1, 3], splitNa := true }
/-- STEERSTAT in payload word 0. -/
def bodyVfSteer : Body := fun _ s => Ans.ok s [s.steerStat]
/-- OP_VF_STEER. -/
def execOpVfSteer (r : Req) (s : State) : Out := .next (s.serve specVfSteer bodyVfSteer r)

end Sys2Proof.Machine
end

