-- ==== Sys2Proof/Machine/Brake.lean ====
section
/-!
DEFINITION. The braking function: pedal, wheel speeds, demand, blending, distribution, slip, the parking hold and the blend ledger
(R228 to R252).
-/

namespace Sys2Proof.Machine

/-! ## Inputs (R232 to R235) -/

/-- The pedal function runs: a wheel or the blending is enabled. -/
def State.pedalOn (s : State) : Bool := (s.pw P.bwEn &&& 0x1FF) != 0

/-- The valid pedal sources, percent (R235). -/
def State.pedalSources (s : State) : List Q :=
  (fins 3).filterMap fun g => (s.inPort g (s.pn P.bwPedport 0 g)).map fun v => (v : Q) * s.pq P.bwPedlsb

/-- No pedal source in three consecutive cycles: the event and the request for the safe stop, once (R235). -/
def State.pedalLost (s : State) : State :=
  if s.brake.pedLost = 3 then
    ((s.modBrake fun b => { b with pedLost := 4 }).raise 0x9005 .crimson none []).askStop 1
  else s

/-- p_P of the cycle (R235). -/
def State.pedalCycle (s : State) : State :=
  let vals := s.pedalSources
  let old := s.brake
  let (p, split) := fuse vals old.ped (s.pq P.bwPedtol) (Config.freeBool s.free)
  let n := min 3 vals.length
  let s := s.tickFree.modBrake fun b =>
    { b with ped := p, pedSrc := n, pedSplit := split,
             pedLost := if n ≠ 0 then 0 else if b.pedLost < 3 then b.pedLost + 1 else b.pedLost }
  let s := if split && !old.pedSplit then s.raise 0x9003 .amber none [] else s
  let s := if n = 1 ∧ old.pedSrc ≠ 1 then s.raise 0x9004 .amber none [] else s
  s.pedalLost

/-- The lane groups whose input w counts for wheel w and is not in noise, with its result (R234). -/
def State.wheelInputs (s : State) (w : Fin 8) : List (Q × Bool) :=
  (fins 3).filterMap fun (g : Fin 3) =>
    if (s.pw P.bwWsmask 0 g).getLsbD w.val then
      (match s.inWheel g w.val with
      | some (f, still, noise) => if noise then none else some (f, still)
      | none => none)
    else none

/-- Wheel speed in rev/s from a frequency (R94). -/
def State.wheelRev (s : State) (w : Fin 8) (f : Q) : Q :=
  f / ((if s.pn P.wsEdge = 1 then 2 else 1) * (s.pn P.wsTeeth 0 w : Q))

/-- The speed of a wheel, m/s: mid-value, mean, or the one value (R234). -/
def State.wheelSpeed (s : State) (w : Fin 8) : Option Q :=
  match (s.wheelInputs w).map fun x => Config.wheelMs w (s.wheelRev w x.1) with
  | [] => none
  | [a] => some a
  | [a, b] => some ((a + b) / 2)
  | a :: b :: c :: _ => some (mid3 a b c)

/-- Wheel speeds, the reference speed of the wheel-slip estimator, and the slips (R198, R234). -/
def State.speedCycle (s : State) : State :=
  let v := s.su.results[(3 : Fin 8)]
  let sp : Vector (Option Q) 8 := Vector.ofFn s.wheelSpeed
  s.modBrake fun b =>
    { b with v := v, vPrev := b.v, vw := sp.map fun x => x.getD 0, vwOk := sp.map Option.isSome,
             slipQ := sp.map fun x => match x with | some y => (v - y) / max v 1 | none => 0 }

/-- bw.fn consecutive mismatches set FIMP with its event (R232). -/
def State.forceImplausible (s : State) (l : AxisNo) : State :=
  match s.wheel l with
  | some w =>
    if !s.brake.fimp[l] ∧ s.pn P.bwFn ≤ s.brake.fimpN[l] then
      (s.modBrake fun b => { b with fimp := vset b.fimp l true }).raise 0x9002 .amber (some l) [BitVec.ofNat 32 w.val]
    else s
  | none => s

/-- FORCE_IMPLAUSIBLE (R232). -/
def execForceImplausible (l : AxisNo) (now : Ns) (s : State) : Out := .next ((s.at now).forceImplausible l)

/-- The comparison of a caliper's two forces over the cycle (R232). -/
def State.forceCycle (s : State) (l : AxisNo) : State :=
  if (s.wheel l).isSome && s.brake.cref[l] && decide (s.brake.sumN[l] ≠ 0) && s.brake.slow[l] then
    let bad := decide (s.pq P.bwFtol < |s.cycleMean l s.brake.sumTab - s.cycleMean l s.brake.sumCur|)
    (s.modBrake fun b => { b with fimpN := vmod b.fimpN l fun n => if bad then n + 1 else 0 }).forceImplausible l
  else s

/-! ## Demand and blending (R235 to R241) -/

/-- An unsigned UQ16.16 word of a payload in use. -/
def State.payQ (s : State) (cid k : Nat) : Q :=
  match s.payloadOf cid with | some p => ofFixU 16 (p.getD k 0) | none => 0

/-- The deceleration demand before the trim (R235, R236). -/
def State.decelDemand (s : State) : Q :=
  let ap := tableAt (s.points P.bwPt P.bwPa 4) s.brake.ped
  min (max (max ap (s.payQ (s.pn P.bwExtcid) 0)) (s.aSs.getD 0)) (s.pq P.bwAmax)

/-- The trim and F_x, kN (R236). -/
def State.demandCycle (s : State) : State :=
  let a := s.decelDemand
  let b := s.brake
  let act := divF (b.vPrev - b.v) s.life.cycDt
  let m := s.pq P.bwAtrim
  let slip := b.slip.toList.any id
  let tau := if a ≤ 0 then 0
    else if slip then b.trim else clampQ (b.trim + s.pq P.bwKtrim * (a - act) * s.life.cycDt) (-m) m
  s.modBrake fun b => { b with trim := tau, fx := max 0 (s.pn P.bwMass * (a + tau) / 1000) }

/-- bw.share of an axle. -/
def State.shareA (s : State) (a : Fin 4) : Q := s.pq P.bwShare 0 a
/-- The axle is driven. -/
def State.driven (s : State) (a : Fin 4) : Bool := (s.pw P.bwDrive).getLsbD a.val
/-- The axle of a wheel. -/
def axleOf (w : Fin 8) : Fin 4 := ⟨w.val / 2, by omega⟩

/-- F_drv (R239). -/
def State.fDrv (s : State) : Q :=
  s.brake.fx * ((fins 4).filter s.driven).foldl (fun x a => x + s.shareA a) 0

/-- The unconfirmed cycles have reached bw.invn: REGBLK with its event (R240). -/
def State.regenUnconfirmed (s : State) : State :=
  if !s.brake.regUnconf ∧ s.pn P.bwInvn ≤ s.brake.unconf then
    (s.modBrake fun b => { b with regUnconf := true, freshN := 0 }).raise 0x9006 .amber none []
  else s

/-- REGEN_UNCONFIRMED (R240). -/
def execRegenUnconfirmed (now : Ns) (s : State) : Out := .next ((s.at now).regenUnconfirmed)

/-- No driven wheel has had SLIP for bw.trre (R244). -/
def State.regenExpiry (s : State) : State :=
  let slip := (fins 8).any fun w => s.driven (axleOf w) && s.brake.slip[w]
  if s.brake.regSlip ∧ !slip ∧ s.since s.brake.slipFree (ms (s.pn P.bwTrre)) then s.modBrake fun b => { b with regSlip := false }
  else s

/-- REGEN_BLOCK_EXPIRY (R244). -/
def execRegenBlockExpiry (now : Ns) (s : State) : Out := .next ((s.at now).regenExpiry)

/-- REGBLK (R240, R244, R251, R277). -/
def State.regBlk (s : State) : Bool := s.brake.regUnconf || s.brake.regSlip || s.safe.phase != VPhase.none || s.vote.safe

/-- F_c and the confirmation of the cycle; `fresh` tells of a message of bw.invcid in the cycle (R240). -/
def State.confirmCycle (s : State) (fresh : Bool) : State :=
  let prev := s.brake.freq
  let fc := if fresh then min prev (s.payQ (s.pn P.bwInvcid) 0) else 0
  let miss := decide (fc = 0 ∧ 0 < prev)
  let s := s.modBrake fun b =>
    let n := if fresh then b.freshN + 1 else 0
    { b with fc := fc, invf := fresh, unconf := if miss then b.unconf + 1 else 0, freshN := n,
             regUnconf := b.regUnconf && decide (n < s.pn P.bwInvn) }
  s.regenUnconfirmed

/-- F_req (R239). -/
def State.regenRequest (s : State) : Q :=
  let b := s.brake
  let cid := s.pn P.bwInvcid
  if (s.pw P.bwEn).getLsbD 8 && !s.regBlk && decide (0 < b.fx) && s.live cid then
    let h := s.pq P.bwVrmin / 2
    let g := clampQ ((b.v - h) / h) 0 1
    g * min (min s.fDrv (s.payQ cid 1)) (s.payQ cid 2 / max b.v 1)
  else 0

/-- The part of an axle in a regenerative force: F × F_a / F_drv for a driven axle (R241). -/
def State.regenPart (s : State) (f : Q) (a : Fin 4) : Q :=
  let fa := s.brake.fx * s.shareA a
  if !s.driven a ∨ f = 0 ∨ fa = 0 then 0 else divF (f * fa) s.fDrv

/-- F_w,base (R241). -/
def State.baseForce (s : State) (w : Fin 8) : Q :=
  let a := axleOf w
  (s.brake.fx * s.shareA a - s.regenPart s.brake.fc a) / 2 * s.pq P.bwKcla 0 a

/-! ## Distribution and slip (R242 to R244) -/

/-- L_w with the asymmetry limit; a wheel that is not enabled clamps nothing (R242, R243). -/
def State.clampLimit (s : State) (w : Fin 8) : Q :=
  let other : Fin 8 := if w.val % 2 = 0 then w + 1 else w - 1
  if !s.wheelOn w ∨ s.brake.lost[w] then 0
  else
    let l := if s.brake.half[w] then s.pq P.bwFmax1 else s.pq P.bwFmax
    if s.brake.lost[other] then min l (s.pq P.bwFasym) else l

/-- Steps 2 and 3: the limited and redistributed forces, and the deficit left, kN at the tyre (R243). -/
def State.distribute (s : State) : Vector Q 8 × Q :=
  let k := fun (w : Fin 8) => s.pq P.bwKcla 0 (axleOf w)
  let f : Vector Q 8 := Vector.ofFn fun w => min (s.baseForce w) (s.clampLimit w)
  let d := (fins 8).foldl (fun x w => x + (s.baseForce w - f[w]) / k w) 0
  let room := (fins 8).filter fun w => decide (f[w] < s.clampLimit w)
  let sum := room.foldl (fun x w => x + s.shareA (axleOf w)) 0
  if d ≤ 0 ∨ sum = 0 then (f, d)
  else
    let g : Vector Q 8 := Vector.ofFn fun w =>
      if f[w] < s.clampLimit w then min (f[w] + d * s.shareA (axleOf w) / sum * k w) (s.clampLimit w) else f[w]
    (g, d - (fins 8).foldl (fun x w => x + (g[w] - f[w]) / k w) 0)

/-- The steered axle whose wheel it is (R223). -/
def steerAxleOf (w : Fin 8) : Option (Fin 3) :=
  if w.val < 2 then some 0 else if w.val = 4 ∨ w.val = 5 then some 1 else if 6 ≤ w.val then some 2 else none

/-- Step 4: half the brake-steer force, to the left wheel and against it on the right (R243). -/
def brakeSteerPart (df : List Q) (w : Fin 8) : Q :=
  match steerAxleOf w with
  | some n => (if w.val % 2 = 0 then 1 else -1) * df.getD n.val 0 / 2
  | none => 0

/-- The slip control of one wheel: S_w and SLIP from the force after step 4 (R244). -/
def State.slipWheel (s : State) (w : Fin 8) (f4 : Q) : Q × Bool :=
  let b := s.brake
  let dt := s.life.cycDt
  if s.pq P.bwVslip ≤ kmh b.v ∧ b.vwOk[w] then
    let lam := b.slipQ[w]
    let on := b.slip[w] || decide (s.pq P.bwLon < lam)
    let x := if on then clampQ (b.sw[w] + s.pq P.bwKslip * (lam - s.pq P.bwLtgt) * dt) 0 (max 0 f4) else b.sw[w]
    (x, on && !decide (x = 0 ∧ lam ≤ s.pq P.bwLon))
  else (max 0 (b.sw[w] - s.pq P.bwKslip * s.pq P.bwLtgt * dt), false)

/-- SLIP of the cycle; on a driven wheel it blocks regeneration (R244). -/
def State.slipCycle (s : State) (f4 : Vector Q 8) : State :=
  let r : Vector (Q × Bool) 8 := Vector.ofFn fun w => s.slipWheel w f4[w]
  let s := s.modBrake fun b => { b with sw := r.map Prod.fst, slip := r.map Prod.snd }
  let slip := (fins 8).any fun w => s.driven (axleOf w) && s.brake.slip[w]
  if slip then s.modBrake fun b => { b with regSlip := true, slipFree := s.clk.lclk } else s.regenExpiry

/-- DEFICIT with its event on entry (R243). -/
def State.deficitCycle (s : State) (d : Q) : State :=
  let on := decide (0 < d)
  let was := s.brake.deficit
  let s := s.modBrake fun b => { b with deficit := on }
  if on && !was then s.raise 0x9009 .amber none [toFix 16 d] else s

/-! ## Parking hold (R246, R247) -/

/-- The parking function is enabled. -/
def State.parkOn (s : State) : Bool := (s.pw P.bwEn).getLsbD 9
/-- The wheel belongs to bw.parkmask. -/
def State.parkWheel (s : State) (w : Fin 8) : Bool := (s.pw P.bwParkmask).getLsbD w.val
/-- bw.parkmask. -/
def State.parkMask (s : State) : BitVec 8 := (s.pw P.bwParkmask).setWidth 8

/-- A wheel shows STILL, or a valid speed below 0.5 km/h (R246). -/
def State.wheelStill (s : State) (w : Fin 8) : Bool :=
  (s.wheelInputs w).any Prod.snd || (s.brake.vwOk[w] && decide (s.brake.vw[w] < vStill))

/-- The vehicle stands as a park request asks (R246). -/
def State.canPark (s : State) : Bool :=
  decide (s.brake.v < vStill) && (fins 8).all fun w => !s.parkWheel w || s.wheelStill w

/-- F_act of a wheel, kN: the mean over its available windings, none without one (R248). -/
def State.wheelForce (s : State) (w : Fin 8) : Option Q :=
  let fs := ((s.wheelWind w).filter fun p => !s.windLost p).filterMap fun p =>
    (s.inB1 p).map fun b => (b1Field b (pkgAx p).val false : Q) / 100
  if fs.isEmpty then none else some (fs.foldl (· + ·) 0 / (fs.length : Q))

/-- PARK changed. -/
def State.setPark (s : State) (p : Park) : State := s.modBrake fun b => { b with park := p, parkAt := s.clk.lclk }

/-- Operations of the parking hold completed, with a result code the manual does not give (R408). -/
def State.completeAll (s : State) (os : List AccOp) : State :=
  os.foldl (fun s o => s.tickFree.complete o 0 [Config.freeWord s.free]) s

/-- The park requests end: PARK has reached HOLD or HOLDACT, or a release has taken its place (R411). -/
def State.parkDone (s : State) : State :=
  (s.modBrake fun b => { b with parkOps := [] }).completeAll s.brake.parkOps

/-- A local axis of a masked wheel. -/
def State.parkAxis (s : State) (l : AxisNo) : Bool := match s.wheel l with | some w => s.parkWheel w | none => false

/-- The masked caliper axes disabled (R246). -/
def State.parkOff (s : State) : State :=
  (forFin 8 (fun l s => if s.parkAxis l && s.ax[l].en then s.modAx l Axis.disable else s) s).syncDrive

/-- The masked caliper axes enabled, where nothing refuses it (R246). -/
def State.parkEnable (s : State) : State :=
  forFin 8 (fun l s => if s.parkAxis l && !s.ax[l].en && s.holds && !s.enableRefused l then s.enableAxis l else s) s

/-- Entry to HOLD (R246). -/
def State.parkHold (s : State) : State :=
  (((s.setPark .hold).parkOff).raise 0x900B .grey none [s.pw P.bwParkmask]).parkDone

/-- Entry to RELEASE; an unlatch command follows unless CLAMP is left (R246, R247). -/
def State.parkToRelease (s : State) : State :=
  let un := decide (s.brake.park ≠ .clamp)
  ((s.setPark .release).modBrake fun b => { b with unlatch := un, parkRel := false }).parkDone.parkEnable

/-- A release request that the state takes; LATCH keeps it until its report or its timeout (R246, R247). -/
def State.parkRelease (s : State) : State :=
  match s.brake.park with
  | .clamp | .hold | .holdact => (s.modBrake fun b => { b with parkFrom := b.park }).parkToRelease
  | .latch => s.modBrake fun b => { b with parkRel := true, parkFrom := .latch }
  | _ => s

/-- A park request that the state takes (R246). -/
def State.parkRequest (s : State) : State :=
  if s.parkOn ∧ s.brake.park = .off ∧ s.canPark then
    (s.setPark .clamp).modBrake fun b => { b with parkFrom := .off, parkRel := false, unlatch := false }
  else s

/-- bw.tlatch has passed in LATCH (R246, R247). -/
def State.latchTimeout (s : State) : State :=
  if s.brake.park = .latch ∧ s.since s.brake.parkAt (ms (s.pn P.bwTlatch)) then
    if s.brake.parkRel then s.parkToRelease else (s.setPark .holdact).parkDone
  else s

/-- PARK_LATCH_TIMEOUT (R246). -/
def execParkLatchTimeout (now : Ns) (s : State) : Out := .next ((s.at now).latchTimeout)

/-- One second has passed in HOLDACT: LATCH again, with its event (R246). -/
def State.parkRetry (s : State) : State :=
  if s.brake.park = .holdact ∧ s.since s.brake.parkAt (ms 1000) then
    (s.setPark .latch).raise 0x900A .amber none [(s.parkMask &&& ~~~s.brake.latched).setWidth 32]
  else s

/-- PARK_RETRY (R246). -/
def execParkRetry (now : Ns) (s : State) : Out := .next ((s.at now).parkRetry)

/-- The latch reports and the requests of the connections at a vehicle cycle (R237, R246). -/
def State.parkInputs (s : State) : State :=
  let s := match s.payloadOf (s.pn P.bwLatchcid) with
    | some p => s.modBrake fun b => { b with latched := (p.getD 0 0).setWidth 8 }
    | none => s
  match s.payloadOf (s.pn P.bwParkcid) with
  | some p =>
    let s := if (p.getD 0 0).getLsbD 0 then s.parkRequest else s
    if (p.getD 0 0).getLsbD 1 then s.parkRelease else s
  | none => s

/-- The parking states at a vehicle cycle (R246). -/
def State.parkStep (s : State) : State :=
  let m := s.parkMask
  match s.brake.park with
  | .clamp =>
    let held := (fins 8).all fun w => !s.parkWheel w || s.brake.lost[w] ||
      (match s.wheelForce w with | some f => decide (19 / 20 * s.pq P.bwFpark ≤ f) | none => false)
    if held then s.setPark .latch else s
  | .latch =>
    if s.brake.latched &&& m = m then (if s.brake.parkRel then s.parkToRelease else s.parkHold) else s.latchTimeout
  | .hold => s.parkOff
  | .holdact => s.parkRetry
  | .release =>
    if s.brake.latched &&& m = 0 then
      ((s.setPark .off).modBrake fun b => { b with unlatch := false, relOps := [] }).completeAll s.brake.relOps
    else s
  | .off => s

/-- The parking hold of a cycle (R246, R269). -/
def State.parkCycle (s : State) : State :=
  if !s.parkOn then s
  else
    let s := s.parkInputs
    let s := if s.safe.phase = .hold then s.parkRequest else s
    s.parkStep

/-- F_w,cmd of a wheel with the parking hold over its service value (R246). -/
def State.parkForce (s : State) (w : Fin 8) (f : Q) : Q :=
  let p := s.pq P.bwFpark
  if !s.wheelOn w ∨ !s.parkWheel w then f
  else match s.brake.park with
    | .off => f
    | .clamp | .latch => max f p
    | .hold | .holdact => p
    | .release => p + s.pq P.bwFover

/-- A lane of a group holds authority by its publications. -/
def State.grpAuth (s : State) (g : Fin 3) : Bool :=
  if g = s.grp ∧ s.auth then true
  else match groupBlk s.vote.in1 g with | some b => blockAuth b | none => false

/-- The lane is the latch owner of a wheel (R247). -/
def State.latchOwner (s : State) (w : Fin 8) : Bool :=
  let by_ := fun (k : Nat) => ((s.wheelWind w).find? fun p => s.wdgP p.val = k).map pkgGrp
  s.auth && match by_ 1, by_ 2 with
    | some g, h => if s.grpAuth g then g = s.grp else h = some s.grp
    | none, h => h = some s.grp

/-- The word to the latch driver from an owner of masked wheels (R237, R246). -/
def State.latchWord (s : State) : Option Word :=
  let own := (fins 8).filter fun w => s.parkOn && s.parkWheel w && s.latchOwner w
  let m := own.foldl (fun (x : Word) w => x ||| bitAt true w.val) 0
  if own.isEmpty then none
  else match s.brake.park with
    | .latch => some m
    | .release => some (if s.brake.unlatch then m <<< 8 else 0)
    | _ => some 0

/-- OP_VF_PARK (R246, R409). -/
def specVfPark : OpSpec := { opc := 0x0703, classes := [1], splitNa := true }
/-- A park request: taken from OFF at standstill (R246). -/
def bodyVfParkRequest : Body := fun r s =>
  if s.life.st.operating && s.parkOn && s.brake.park == Park.off && s.canPark then
    Ans.accepted (s.parkRequest.modBrake fun b => { b with parkOps := b.parkOps ++ [{ opc := 0x0703, req := r }] })
  else Ans.refuse s 0x30
/-- A release request: taken from CLAMP, LATCH, HOLD and HOLDACT (R246). -/
def bodyVfParkRelease : Body := fun r s =>
  let p := s.brake.park
  if s.life.st.operating && s.parkOn && p != Park.off && p != Park.release then
    Ans.accepted (s.parkRelease.modBrake fun b => { b with relOps := b.relOps ++ [{ opc := 0x0703, req := r }] })
  else Ans.refuse s 0x30
/-- OP_VF_PARK as its slot asks (log entry 25). -/
def bodyVfPark : Body := fun r s =>
  if Config.parkRelease r.arg0 r.payload then bodyVfParkRelease r s else bodyVfParkRequest r s
/-- OP_VF_PARK_REQUEST. -/
def execOpVfParkRequest (r : Req) (s : State) : Out := .next (s.serve specVfPark bodyVfParkRequest r)
/-- OP_VF_PARK_RELEASE. -/
def execOpVfParkRelease (r : Req) (s : State) : Out := .next (s.serve specVfPark bodyVfParkRelease r)

/-- An abort of a park or release request: back to the state that it left (R411). -/
def State.parkAbort (s : State) : State :=
  let s := (s.setPark s.brake.parkFrom).modBrake fun b => { b with parkRel := false, unlatch := false }
  if s.brake.park = .hold then s.parkOff else s

/-! ## Set-points (R239, R243, R245) -/

/-- The braking set-points of the cycle, F_req and eight clamp forces, from its brake-steer forces (R236 to R245). -/
def State.brakeSetPts (s : State) (fresh : Bool) (df : List Q) : State × List Q :=
  let s := s.demandCycle.confirmCycle fresh
  let (f3, deficit) := s.distribute
  let f4 : Vector Q 8 := Vector.ofFn fun w => f3[w] + brakeSteerPart df w
  let s := (s.deficitCycle deficit).slipCycle f4
  let req := s.regenRequest
  let f6 : Vector Q 8 := Vector.ofFn fun w => clampQ (f4[w] - s.brake.sw[w]) 0 (s.clampLimit w)
  let conf : Vector Q 8 := Vector.ofFn fun w => s.regenPart s.brake.fc (axleOf w) / 2
  let reqW : Vector Q 8 := Vector.ofFn fun w => s.regenPart req (axleOf w) / 2
  let out := (fins 8).map fun w => s.parkForce w f6[w]
  (s.modBrake fun b => { b with freq := req, confW := conf, reqW := reqW }, req :: out)

/-- A cycle that applies safe defaults takes its clamp forces from the inputs that the lane has, with a_ss of the stop and no confirmed
regeneration (R277). -/
def State.defaultCycle (s : State) : State :=
  if s.vote.safe then
    let t := if s.safe.phase = .none then s.modSafe fun f => { f with phase := .decel } else s
    let f := (t.brakeSetPts false [0, 0, 0]).2.drop 1
    s.modVote fun v => { v with applied := v.applied.take 8 ++ f }
  else s

/-! ## Application (R230, R231) -/

/-- The released value of R231. -/
def State.released (s : State) : Q := -(s.pq P.bwKvirt * s.pq P.bwGap)

/-- The voted clamp force applied to a caliper axis; a contact search asks for at least bw.fcont, and a change from the released
value to a positive one begins an application (R230, R231). -/
def State.applyForce (s : State) (l : AxisNo) (w : Fin 8) : State :=
  let f := s.vote.applied.getD (8 + w.val) 0
  let f := if s.brake.csearch[l] then max f (s.pq P.bwFcont) else f
  let v := if 0 < f then f else s.released
  let was := s.ax[l].win.back.value
  let s := s.setValue l v
  s.modBrake fun b => { b with applying := vmod b.applying l fun x => decide (0 < v) && (x || decide (was ≤ 0)) }

/-- The braking set-points applied at the start of a cycle (R33, R231). -/
def State.applyBrake (s : State) : State :=
  forFin 8 (fun l s => match s.wheel l with | some w => s.applyForce l w | none => s) s

/-! ## Ledger (R248 to R250) -/

/-- 2^48 − 1. -/
def joules48 : Q := 281474976710655

/-- An energy counter with an increment: it sticks at its end (R249). -/
def ledAdd (x d : Q) : Q := min joules48 (x + d)

/-- The SATM bits of a record. -/
def LedRec.full (r : LedRec) : BitVec 4 :=
  (if joules48 ≤ r.fric then 1 else 0) ||| (if joules48 ≤ r.req then 2 else 0) ||| (if joules48 ≤ r.conf then 4 else 0) |||
    (if 0xFFFFFFFF ≤ r.count then 8 else 0)

/-- One record after a cycle's increments, each new saturation of an energy counter raising its event (R249, R504). -/
def State.ledRecord (s : State) (i : Fin 9) (fric req conf : Q) (n : Nat) : State :=
  let r := s.brake.led[i]
  let r' : LedRec :=
    { r with fric := ledAdd r.fric fric, req := ledAdd r.req req, conf := ledAdd r.conf conf, count := min 0xFFFFFFFF (r.count + n) }
  let sat := r'.full
  let s := s.modBrake fun b => { b with led := vset b.led i { r' with satm := r.satm ||| sat } }
  (List.range 3).foldl (fun s k =>
    if sat.getLsbD k && !r.satm.getLsbD k then s.raise 0x900C .amber none [BitVec.ofNat 32 i.val, BitVec.ofNat 32 k] else s) s

/-- The ledger of the previous cycle; `conf` and `req` are the regeneration booked per wheel in it, kN (R248). -/
def State.ledgerCycle (s : State) (req conf : Vector Q 8) : State :=
  let dt := s.life.cycDt
  let inc := fun (w : Fin 8) =>
    let v := if s.brake.vwOk[w] then s.brake.vw[w] else s.brake.v
    let j := fun (f : Q) => f * v * dt * 1000
    if s.wheelOn w then
      (j (max ((s.wheelForce w).getD 0) 0 / s.pq P.bwKcla 0 (axleOf w)), j req[w], j conf[w])
    else (0, 0, 0)
  let now : BitVec 8 := (fins 8).foldl (fun x w =>
    if 0 < s.vote.applied.getD (8 + w.val) 0 then x ||| ((1 : BitVec 8) <<< w.val) else x) 0
  let new := now &&& ~~~s.brake.applied
  let sums := (fins 8).foldl (fun (t : Q × Q × Q) w => let i := inc w; (t.1 + i.1, t.2.1 + i.2.1, t.2.2 + i.2.2)) (0, 0, 0)
  let s := forFin 8 (fun w s =>
    let i := inc w
    s.ledRecord ⟨w.val, by omega⟩ i.1 i.2.1 i.2.2 (if new.getLsbD w.val && s.wheelOn w then 1 else 0)) s
  (s.ledRecord 8 sums.1 sums.2.1 sums.2.2 1).modBrake fun b => { b with applied := now }

/-- The ledger written to flash (R250). -/
def State.ledgerWrite (s : State) : State := s.modBrake fun b => { b with ledSaved := b.led, ledAt := s.clk.lclk }

/-- The save is due (R250). -/
def State.ledgerSave (s : State) : State := if s.since s.brake.ledAt (ms (1000 * s.pn P.bwLedsave)) then s.ledgerWrite else s

/-- LEDGER_SAVE (R250). -/
def execLedgerSave (now : Ns) (s : State) : Out := .next ((s.at now).ledgerSave)

/-- Six bytes of a whole number of joules. -/
def bytes6 (x : Q) : List Byte := (wordBytes (loW x.floor)) ++ (wordBytes (hiW x.floor)).take 2

/-- A ledger record of 24 bytes as words (R249). -/
def LedRec.words (r : LedRec) : List Word :=
  wordsOf (bytes6 r.fric ++ bytes6 r.req ++ bytes6 r.conf ++ wordBytes (BitVec.ofNat 32 r.count) ++
    (wordBytes (r.satm.setWidth 32)).take 2)

/-- The nine records. -/
def State.ledgerWords (s : State) : List (List Word) := s.brake.led.toList.map LedRec.words

/-- Records in slots of two (R409). -/
def pairUp : List (List Word) → List (List Word)
  | a :: b :: r => (a ++ b) :: pairUp r
  | [a] => [a]
  | [] => []

/-- OP_LEDGER_READ (R249, R409). -/
def specLedgerRead : OpSpec := { opc := 0x0704, classes := [1, 3], splitNa := true }
/-- The records from the first one named (log entry 25). -/
def bodyLedgerRead : Body := fun r s =>
  { st := s, slots := pairUp (s.ledgerWords.drop (Config.ledgerFirst r.arg0 r.payload).val) }
/-- OP_LEDGER_READ. -/
def execOpLedgerRead (r : Req) (s : State) : Out := .next (s.serve specLedgerRead bodyLedgerRead r)

/-- OP_LEDGER_CLEAR (R250, R409). -/
def specLedgerClear : OpSpec := { opc := 0x0705, classes := [2], splitNa := true }
/-- Every counter cleared, with one change-log entry of the total friction energy (R250). -/
def bodyLedgerClear : Body := fun r s =>
  let old := loW (s.brake.led[(8 : Fin 9)]).fric.floor
  Ans.ok ((s.modBrake fun b => { b with led := Vector.replicate 9 {} }).logEntry r.src r.tag 0 2 old 0)
/-- OP_LEDGER_CLEAR. -/
def execOpLedgerClear (r : Req) (s : State) : Out := .next (s.serve specLedgerClear bodyLedgerClear r)

/-! ## Status (R251, R252) -/

/-- PARK of BRAKESTAT. -/
def Park.code : Park → BitVec 3
  | .off => 0 | .clamp => 1 | .latch => 2 | .hold => 3 | .holdact => 4 | .release => 5

/-- CREF of a wheel in this lane: every caliper axis that the lane carries for it, or, with none, the published flags. -/
def State.wheelCref (s : State) (w : Fin 8) : Bool :=
  let own := (s.wheelWind w).filter fun p => pkgGrp p = s.grp
  if own.isEmpty then (s.wheelWind w).any fun p => s.inFlag p 1 else own.all fun p => s.brake.cref[pkgAx p]

/-- BRAKESTAT (R251). READY needs an enabled wheel, as its reset value asks. -/
def State.brakeStat (s : State) : Word :=
  let b := s.brake
  let on := (fins 8).filter s.wheelOn
  bitAt (b.led.toList.any fun r => r.satm != 0) 11 ||| bitAt b.deficit 12 ||| (b.park.code.setWidth 32 <<< 13) |||
    bitAt s.regBlk 16 ||| bitAt b.invf 17 ||| bitAt (s.validConn (s.pn P.bwExtcid)) 18 ||| bitAt b.pedSplit 19 |||
    (BitVec.ofNat 32 b.pedSrc <<< 20) ||| bitAt (!on.isEmpty && on.all fun w => b.lost[w] || s.wheelCref w) 23

/-- WHEELSTAT (R252): CREF is known in this lane only for a wheel that it carries. -/
def State.wheelStat (s : State) : Word :=
  let b := s.brake
  (fins 8).foldl (fun x w =>
    let c := (s.wheelWind w).any fun p => pkgGrp p == s.grp && b.cref[pkgAx p]
    x ||| ((bitAt c 0 ||| bitAt b.half[w] 1 ||| bitAt b.lost[w] 2 ||| bitAt b.slip[w] 3) <<< (4 * w.val))) 0

/-- OP_VF_BRAKE (R251, R252, R409). -/
def specVfBrake : OpSpec := { opc := 0x0702, classes := [1, 3], splitNa := true }
/-- BRAKESTAT and WHEELSTAT. -/
def bodyVfBrake : Body := fun _ s => Ans.ok s [s.brakeStat, s.wheelStat]
/-- OP_VF_BRAKE. -/
def execOpVfBrake (r : Req) (s : State) : Out := .next (s.serve specVfBrake bodyVfBrake r)

end Sys2Proof.Machine
end

