-- ==== Sys2Proof/Machine/Integrity.lean ====
section
/-!
DEFINITION. Lane integrity: the FAIL path, the exchange, the interrupt window, parity, ECC and the split-mode cores (R281 to R305).
-/

namespace Sys2Proof.Machine

/-! ## Fail-silent (R289 to R293) -/

/-- A YIELD frame with a sequence number (R313). -/
def yieldFrame (seq : BitVec 16) : BitVec 8 × TwinIn := (1, ⟨seq, 0xFF, []⟩)

/-- FAILREC with the lower of two causes of one cycle, and the lower group (R293). -/
def lowerRec (old : Word) (cause : BitVec 4) (group : Byte) : Word :=
  let new : Word := 0x80000000 ||| (cause.setWidth 32 <<< 24) ||| (group.setWidth 32 <<< 16)
  if new.toNat < old.toNat then new else old

/-- FAIL: gates and torque-off, the claim, the links, the YIELD of the hardware template, FAILREC and FAILTIME, the verdict record,
and the reset of cores and signal unit (R289, R292, R293, R468). It acts wherever the always-on logic runs, in SHUTDOWN too. A second cause
told at the same time shares the entry (log entry 46). -/
def State.fail (s : State) (cause : BitVec 4) (group : Byte) : State :=
  if s.life.st = .failSilent then
    (if s.life.failAt = s.clk.lclk then s.modAon fun a => { a with failrec := lowerRec a.failrec cause group } else s)
  else if s.life.st = .off ∧ s.life.ps ≠ .shutdown then s
  else
    let s := s.mapAx Axis.cut
    let s := { s with
               twin := { s.twin with claim := false, confirmed := false, castling := none, gateWait := false,
                                     retry := false, planned := none, sent := some (yieldFrame 0xFFFF), muted := true,
                                     dueYield := false, dueStatus := none, dueSuper := [] }
               su := { s.su with reset := true, saved := [] }
               eth := { s.eth with stopped := true }
               vtb := { s.vtb with st := .off }
               aon := { s.aon with failrec := 0x80000000 ||| (cause.setWidth 32 <<< 24) ||| (group.setWidth 32 <<< 16),
                                   failtime := (s.gt).toNat, failerr := false,
                                   testrec := (s.aon.testrec &&& 0x0FFFFFFF) ||| 0x50000000 }
               integ := { s.integ with held := none }
               st := {}
               life := { s.life with entry := none, shutdown := none, plc := none, cycWait := [], failPend := true, mustFull := true,
                                     failAt := s.clk.lclk } }
    (s.setSt .failSilent).bump 0x0F09

/-- The lane's firmware runs in lockstep. -/
def State.lockstep (s : State) : Bool :=
  !s.split && (match s.life.st with | .off | .sleep | .failSilent => false | _ => true)

/-- One group of a copy (R283). -/
def groupBits (c : CmpBits) (g : Fin 24) : Byte := c.extractLsb' (8 * g.val) 8

/-- The first group in which two copies differ (R283). -/
def firstDiff (a b : CmpBits) : Option (Fin 24) := (fins 24).find? fun g => groupBits a g != groupBits b g

/-- The comparator in one SUP cycle: the copy of core 0 of the cycle before goes to the crossbar, equal copies wait for the next cycle, and
differing ones are a mismatch whose request is never released (R282, R283, R289). -/
def State.compare (s : State) (c0 c1 : CmpBits) : State :=
  let s := s.modInteg fun g => { g with released := g.held, held := none }
  match firstDiff c0 c1 with
  | some g => s.fail 1 (BitVec.ofNat 8 g.val)
  | none => s.modInteg fun g => { g with held := some c0 }

/-- LOCKSTEP_MISMATCH (R289). -/
def execLockstepMismatch (c0 c1 : CmpBits) (now : Ns) (s : State) : Out :=
  let s := s.at now
  .next (if s.lockstep then s.compare c0 c1 else s)

/-- FSREQ: the same path by firmware request, with its reason (R290). -/
def execFsreq (reason : Byte) (s : State) : Out :=
  .next (match s.life.st with | .off | .sleep | .failSilent => s | _ => s.fail 8 reason)

/-! ## The exchange (R284 to R288) -/

/-- The older of two samples, modulo a width over half its range, and whether they differ by more than one step of their source; at exactly
half the range the choice is free (R284, R288). -/
def mergeOrdered (w step : Nat) (a b : BitVec 64) (tie : Bool) : BitVec 64 × Bool :=
  let m := 2 ^ w
  let d := (b.toNat + m - a.toNat % m) % m
  let v := if 2 * d < m then a else if m < 2 * d then b else if tie then a else b
  (v, !(decide (d ≤ step) || decide (m ≤ d + step)))

/-- The bits on which the samples agree, with the previous merged value elsewhere (R284). -/
def mergeStable (prev a b : BitVec 64) : BitVec 64 := (a &&& b) ||| (prev &&& (a ^^^ b))

/-- The history of an exchange source. -/
def State.exSrc (s : State) (n : Nat) : ExSrc := (s.integ.ex.find? fun x => x.source = n).getD ⟨n, Config.exchangeReset n, 0⟩

/-- The history of a source replaced. -/
def State.setEx (s : State) (x : ExSrc) : State :=
  s.modInteg fun g => { g with ex := x :: g.ex.filter (fun y => y.source ≠ x.source) }

/-- An exchange read of an asynchronous source: a fault ends it without delivery (R284 to R288, R303). -/
def State.exchange (s : State) (cls : ExClass) (src : Byte) (width : Nat) (s0 s1 : BitVec 64) : State :=
  let mask : BitVec 64 := BitVec.ofNat 64 (2 ^ width - 1)
  let a := s0 &&& mask
  let b := s1 &&& mask
  if s.split then s.modInteg fun g => { g with merged := a }
  else
    let x := s.exSrc src.toNat
    let div := a != b
    let s := if div then s.bump 0x0F01 else s
    match cls.kind with
    | .ordered =>
      let (v, bad) := mergeOrdered width cls.stepOf a b (Config.freeBool s.free)
      let s := if 2 * ((b.toNat + 2 ^ width - a.toNat) % 2 ^ width) = 2 ^ width then s.tickFree else s
      if bad then s.fail 2 src else (s.setEx { x with prev := v }).modInteg fun g => { g with merged := v }
    | .stable =>
      let n := if div then x.run + 1 else 0
      if 16 ≤ n then (s.setEx { x with run := n }).fail 2 src
      else
        let v := mergeStable x.prev a b
        (s.setEx { x with prev := v, run := n }).modInteg fun g => { g with merged := v }

/-- EXCHANGE_READ (R285). -/
def execExchangeRead (cls : ExClass) (src : BitVec 8) (width : Fin 65) (s0 s1 : BitVec 64) (now : Ns) (s : State) : Out :=
  let s := s.at now
  .next (match s.life.st with | .off | .sleep | .failSilent => s | _ => s.exchange cls src width.val s0 s1)

/-- The merge of the interrupt requests of a window, each a STABLE source; a pending one ends IDLE. The manual gives the interrupt source no number for
GROUP, which is free (R287, R288, R426). -/
def State.irqWindow (s : State) (p0 p1 : Word) : State :=
  let m := if s.split then p0 else (p0 &&& p1) ||| (s.integ.irq &&& (p0 ^^^ p1))
  let div := !s.split && p0 != p1
  let s := if div then s.bump 0x0F01 else s
  let n : Vector Nat 32 := Vector.ofFn fun i => if !s.split && p0.getLsbD i != p1.getLsbD i then s.integ.irqRun[i] + 1 else 0
  let s := s.modInteg fun g => { g with irqRun := n }
  if n.toList.any (16 ≤ ·) then s.tickFree.fail 2 ((Config.freeWord s.free).setWidth 8)
  else
    let s := s.modInteg fun g => { g with irq := m }
    if m ≠ 0 ∧ s.life.ps = .idle then s.modLife fun f => { f with ps := .run } else s

/-- INTERRUPT_WINDOW_END (R287). -/
def execInterruptWindowEnd (p0 p1 : Word) (now : Ns) (s : State) : Out :=
  let s := s.at now
  .next (match s.life.st with | .off | .sleep | .failSilent => s | _ => s.irqWindow p0 p1)

/-! ## Comparator injection test (R294, R295) -/

/-- The first injection of step 1 that was not caught, in the order of the bits, core 0 before core 1: its group (R294, R295). -/
def firstMissed (caught0 caught1 : CmpBits) : Option Byte :=
  ((fins 192).find? fun b => !caught0.getLsbD b.val || !caught1.getLsbD b.val).map fun b => BitVec.ofNat 8 (b.val / 8)

/-- The test ends: the next boot step, or fail-silent with the group of the first failing injection, FFh for step 4. The manual gives the
injections of steps 2 and 3 no group, which is free (R294, R295, log entry 46). -/
def State.injectionTest (s : State) (caught0 caught1 : CmpBits) (ordered stable clean : Bool) : State :=
  if s.life.st ≠ .boot ∨ s.split ∨ s.life.step ≠ 4 then s
  else match firstMissed caught0 caught1 with
    | some g => s.fail 3 g
    | none =>
      if !ordered || !stable then s.tickFree.fail 3 ((Config.freeWord s.free).setWidth 8)
      else if !clean then s.fail 3 0xFF
      else s.modLife fun f => { f with step := 5 }

/-- COMPARATOR_INJECTION_TEST. -/
def execComparatorInjectionTest (caught0 caught1 : CmpBits) (ordered stable clean : Bool) (now : Ns) (s : State) : Out :=
  .next ((s.at now).injectionTest caught0 caught1 ordered stable clean)

/-! ## Parity (R296 to R298, R496) -/

/-- PARREC keeps the first fault after VALID was cleared (R496). -/
def State.noteParity (s : State) (lane : Bool) (axis : Nat) (block : Byte) (word : BitVec 16) : State :=
  let s := s.bump 0x0F02
  if s.regs.parrec.getLsbD 31 then s
  else
    s.modRegs fun r =>
      { r with parrec := 0x80000000 ||| bitAt lane 30 ||| (BitVec.ofNat 32 (axis % 8) <<< 24) ||| (block.setWidth 32 <<< 16) |||
                         word.setWidth 32 }

/-- An axis-level parity fault (R297). -/
def State.axisParity (s : State) (l : AxisNo) (block : Word) (word : BitVec 16) : State :=
  (s.axisFault l 7).raise 0x0012 .crimson (some l) [block, word.setWidth 32]

/-- The even parity of each byte of a register (R296). -/
def parityOf (w : Word) : BitVec 4 :=
  (fins 4).foldl (fun (p : BitVec 4) i =>
    let x : Byte := w.extractLsb' (8 * i.val) 8
    if ((fins 8).filter fun j => x.getLsbD j.val).length % 2 = 1 then p ||| ((1 : BitVec 4) <<< i.val) else p) 0

/-- The clock of a lane block runs, so that it checks its registers (R296, R298, R426): the always-on logic wherever VDD_AON stands, clock and
power control outside SLEEP and SHUTDOWN, the signal unit and the links with their domains, the others with SUP's clock. -/
def State.blockOn (s : State) (b : Fin 10) : Bool :=
  let run := s.life.st != LaneSt.off && (s.life.ps == PState.run || s.life.ps == PState.idle)
  let dom := fun (d : Nat) => s.life.domains.getLsbD d && !s.life.isolated.getLsbD d
  if b = 9 then s.aon.powered
  else if b = 1 then run && dom 5
  else if 3 ≤ b.val ∧ b.val ≤ 7 then run && dom 6
  else run

/-- The clock of the cells of a pair runs (R296). -/
def State.cellOn (s : State) (k : PairNo) : Bool := s.pairOn k && (s.life.ps == PState.run || s.life.ps == PState.idle)

/-- A configuration register fails its parity check and its owner reacts (R297, R298). -/
def State.parityFault (s : State) (owner : ParityOwner) (word : BitVec 16) : State :=
  match owner with
  | .cell l => if s.cellOn (pairOf l) then (s.noteParity false l.val 0 word).axisParity l 0 word else s
  | .pair k =>
    if s.cellOn k then ((s.noteParity false (loAx k).val 1 word).axisParity (loAx k) 1 word).axisParity (hiAx k) 1 word else s
  | .block b =>
    if !s.blockOn b then s
    else
      let g : Byte := BitVec.ofNat 8 b.val
      let s := s.noteParity true 0 g word
      let s := if b = 9 then
          forFin 6 (fun n s =>
            let was := s.aon.si[n].dem
            let s := s.modSi n fun x => { x with dem := true }
            if was || s.pn P.siMode 0 n == 0 then s else s.siAct n) s
        else s
      s.fail 4 g

/-- CONFIG_PARITY_FAULT: the check of one register (R296). -/
def execConfigParityFault (owner : ParityOwner) (word : BitVec 16) (value : Word) (par : BitVec 4) (now : Ns) (s : State) : Out :=
  let s := s.at now
  .next (if par = parityOf value then s else s.parityFault owner word)

/-- UNMAPPED_ACCESS: it reads zero or has no effect, and counts (R299). -/
def execUnmappedAccess (_write : Bool) (s : State) : Out := .next (s.bump 0x0F03)

/-! ## Split-mode cores (R303 to R305) -/

/-- What EV_SPLIT_CORE_FAULT shows of a cause. -/
def coreFaultCode : CoreFault → Word
  | .watchdog => 0 | .trap => 1 | .ecc => 2

/-- A core of a split-mode lane is faulted: core 0 takes the lane fail-silent, core 1 its own axes (R305). -/
def State.coreFault (s : State) (core : Fin 2) (cause : CoreFault) : State :=
  if !s.split then s
  else if core = 0 then s.fail 9 0xFF
  else if s.integ.core1Off then s
  else
    let s := s.modInteg fun g => { g with core1Off := true }
    ((s.torqueOff 2).torqueOff 3).raise 0x0011 .crimson none [coreFaultCode cause]

/-- The watchdog of a core has run out (R305). -/
def State.splitWatchdog (s : State) (core : Fin 2) : State :=
  if s.since s.integ.wdog[core] (ms 4) then s.coreFault core .watchdog else s

/-- SPLIT_WATCHDOG. -/
def execSplitWatchdog (core : Fin 2) (now : Ns) (s : State) : Out := .next ((s.at now).splitWatchdog core)

/-- SPLIT_CORE_FAULT. -/
def execSplitCoreFault (core : Fin 2) (cause : CoreFault) (now : Ns) (s : State) : Out := .next ((s.at now).coreFault core cause)

/-! ## ECC (R300 to R302) -/

/-- The class of a memory (R505). -/
def eccCls : EccMem → Nat
  | .sram => 0
  | .engine .suProg => 2
  | .engine .suOper => 2
  | .engine (.leProg _) => 1
  | .engine (.leOper _) => 1
  | .flash => 3

/-- A number for each memory with its axis, to tell the memories of a class apart. -/
def eccKey : EccMem → Nat
  | .sram => 0
  | .engine .suProg => 1
  | .engine .suOper => 2
  | .engine (.leProg l) => 3 + l.val
  | .engine (.leOper l) => 11 + l.val
  | .flash => 19

/-- MEM of R199. -/
def memCode : MemId → Word
  | .suProg => 0 | .suOper => 1 | .leProg _ => 2 | .leOper _ => 3

/-- The bank of a corrected word for EV_ECC_CORRECTED: banks of supervisor SRAM and flash, each engine memory as a whole. -/
def eccBankKey (m : EccMem) (bank : Byte) : Nat := eccKey m * 256 + (if eccCls m = 0 ∨ eccCls m = 3 then bank.toNat else 0)

/-- A corrected error: counted, reported for the first correction of a bank and for a second one at one address in a pass
(R301). -/
def State.eccCorrected (s : State) (m : EccMem) (bank : Byte) (addr : Nat) : State :=
  let k := eccBankKey m bank
  let ka := k * 2 ^ 32 + addr
  let s := s.bump (0x0F04 + eccCls m)
  let arg : List Word := [BitVec.ofNat 32 (eccCls m), if eccCls m = 0 ∨ eccCls m = 3 then bank.setWidth 32 else BitVec.ofNat 32 addr]
  let s := if s.integ.eccSeen.contains k then s
    else (s.modInteg fun g => { g with eccSeen := k :: g.eccSeen }).raise 0x0014 .grey none arg
  if s.integ.eccPass.contains ka then s.raise 0x0015 .amber none [BitVec.ofNat 32 (eccCls m), BitVec.ofNat 32 addr]
  else s.modInteg fun g => { g with eccPass := ka :: g.eccPass }

/-- An axis memory with an uncorrectable error: axis fault, event, and a reload at the next enable (R300). -/
def State.eccAxis (s : State) (l : AxisNo) (m : MemId) (addr : Nat) : State :=
  ((s.axisFault l 7).modAx l fun a => { a with eng := { a.eng with reload := true } }).raise 0x0013 .crimson (some l)
    [memCode m, BitVec.ofNat 32 addr]

/-- An uncorrectable error of a memory; one of flash at boot is the image check's (R300, R305). -/
def State.eccFatal (s : State) (m : EccMem) (bank : Byte) (addr : Nat) : State :=
  match m with
  | .sram => if s.split then s.coreFault (if bank.toNat < 8 then 0 else 1) .ecc else s.fail 5 bank
  | .engine (.leProg l) => s.eccAxis l (.leProg l) addr
  | .engine (.leOper l) => s.eccAxis l (.leOper l) addr
  | .engine _ => s.fail 6 bank
  | .flash => if s.life.st = .boot then s else s.fail 7 bank

/-- What a read of a memory word finds (R300). -/
def State.eccRead (s : State) (m : EccMem) (bank : Byte) (addr : Nat) (r : EccResult) : State :=
  match r with
  | .clean => s
  | .corrected => s.eccCorrected m bank addr
  | .uncorrectable => s.eccFatal m bank addr

/-- The scrubber's clock for a memory runs (R302). -/
def State.scrubs (s : State) (m : EccMem) : Bool :=
  (s.life.ps == PState.run || s.life.ps == PState.idle) && s.life.st != LaneSt.failSilent && s.life.st != LaneSt.off &&
    (match m with
    | .engine (.leProg l) => s.axOn l
    | .engine (.leOper l) => s.axOn l
    | .engine _ => s.life.domains.getLsbD 5 && !s.life.isolated.getLsbD 5
    | _ => true)

/-- SCRUB_ACCESS: a pass of a memory begins at its first word (R301, R302). -/
def execScrubAccess (m : EccMem) (bank : Byte) (addr : Nat) (r : EccResult) (now : Ns) (s : State) : Out :=
  let s := s.at now
  if !s.scrubs m then .next s
  else
    let s := if addr = 0 then
        s.modInteg fun g => { g with eccPass := g.eccPass.filter fun k => k / 2 ^ 32 ≠ eccBankKey m bank }
      else s
    .next (s.eccRead m bank addr r)

end Sys2Proof.Machine
end

