-- ==== Sys2Proof/Machine/Mirror.lean ====
section
/-!
DEFINITION. The mirrors of the twin link: AXIS and COMPARE frames taken into the shadow, and the SUPER mirror formed, collected and
applied (R79, R105, R121, R139, R158, R166, R214, R250, R321 to R325).
-/

namespace Sys2Proof.Machine

/-- A mirror of one axis changed. -/
def State.modMir (s : State) (l : AxisNo) (f : AxMirror → AxMirror) : State := s.modAx l fun a => { a with mir := f a.mir }

/-- A 32-bit global time in ns extended to the one nearest to the present (R325). -/
def State.extendTime (s : State) (w : Word) : Int := s.gt - (loW s.gt - w).toInt

/-! ## AXIS (R322) -/

/-- The commutation mode of AXMODE (R67). -/
def modeOf (w : Word) : CMode :=
  match (w >>> 28).toNat with
  | 1 => .sensored | 2 => .stepped | 3 => .ifStart | 4 => .satStart | 5 => .catching | 6 => .braking | _ => .off

/-- The I/f phase of a start step (R322). -/
def phaseOf (n : Nat) : IfPhase := if n % 4 = 0 then .align else if n % 4 = 1 then .ramp else if n % 4 = 2 then .check else .wait

/-- The shadow's commutation follows the mirrored mode, angle and start step (R121, R322). -/
def State.shadowMode (s : State) (l : AxisNo) : State :=
  let w := s.mirWord l
  let m := modeOf (w 1)
  let j := (w 3 >>> 24).toNat % 16
  let st := (w 3 >>> 28).toNat
  let s := s.setMode l m
  let t := s.localOf s.ax[l].mir.ts
  s.modAx l fun a =>
    let c := a.com
    let c := if m = .stepped ∨ m = .ifStart then
        { c with olTheta := ofFixU 32 (w 9), olSpeed := ofFixS 16 (w 10), olI := ofFixU 16 (w 11) } else c
    let c := if m = .ifStart then
        { c with attempt := j, phase := phaseOf st, since := if phaseOf st = c.phase then c.since else t } else c
    { a with com := if m = .satStart then { c with satRuns := j, satPulse := st } else c }

/-- The tick record whose sampling instant lies within 1 µs of a global time (R105). -/
def Fb.recordAt (f : Fb) (t : Int) : Option TickRec := f.tickRec.find? fun r => (r.time - t).natAbs ≤ 1000

/-- θ_prov such that the angle at the mirrored instant is the mirrored one; none without a matching record (R105). -/
def State.provAt (s : State) (l : AxisNo) : Option Q :=
  (s.ax[l].fb.recordAt s.ax[l].mir.ts).map fun r =>
    fracQ (ofFixU 32 (s.mirWord l 9) - s.pp l * (r.comcnt : Q) / s.countsPerRev l)

/-- θ_prov of the shadow while neither lane has CVAL (R105). -/
def State.mirrorProv (s : State) (l : AxisNo) : State :=
  if s.src l = 1 ∧ !s.ax[l].com.cval ∧ !(s.mirWord l 1).getLsbD 4 then
    match s.provAt l with
    | some p => s.modAx l fun a => { a with com := { a.com with prov := p, provOk := true } }
    | none => s
  else s

/-- ARMED, and an index load of the sender that this lane has not made (R79). -/
def State.mirrorIndex (s : State) (l : AxisNo) : State :=
  let w := s.mirWord l 22
  let s := s.modAx l fun a => { a with fb := { a.fb with armed := (s.mirWord l 1).getLsbD 11 } }
  if w = 0 then s
  else
    let t := s.extendTime w
    let f := s.ax[l].fb
    let newer := match f.lastLoad with | some u => decide (u + 1000 < t) | none => true
    match f.zrec.find? fun z => (z.time - t).natAbs ≤ 1000 with
    | some z =>
      if newer then
        let p := f.pos + s.pw P.fbZval l - z.pos
        s.modAx l fun a => { a with fb := { a.fb.setCount s.clk.lclk p a.fb.mov with punc := false, lastLoad := some z.time } }
      else s
    | none => s

/-- REF from the mirror, for a road-wheel axis whose rack port was invalid at its enable: the mirrored POS64 and the own MOVCNT change since
its tick record (R214). -/
def State.mirrorRef (s : State) (l : AxisNo) : State :=
  match s.axle l, s.ax[l].fb.recordAt s.ax[l].mir.ts with
  | some n, some r =>
    if s.steer.enSeen[l] && !s.steer.ref[l] && s.steer.mirRef[n] then
      ((s.setPos l (int64 (s.mirWord l 12) (s.mirWord l 13))).modAx l fun a => { a with fb := { a.fb with setRel := some r.mov } }).gainRef l
    else s
  | _, _ => s

/-- The axis safe stop of the sender, once the frame is newer than the lane's own start of it (R266). -/
def State.mirrorStop (s : State) (l : AxisNo) : State :=
  let w := s.mirWord l 3
  let a := s.ax[l]
  if a.ss.ssa && !w.getLsbD 16 && decide (s.gtAt a.ss.t0 < a.mir.ts) then s.modAx l fun a => { a with ss := {} }
  else if w.getLsbD 16 && !a.ss.ssa then
    s.modAx l fun a =>
      { a with ss := { a.ss with ssa := true, ssk := w.getLsbD 17, ssv := w.getLsbD 18, ssoff := w.getLsbD 19, w0 := a.cas.wAct,
                                 t0 := s.clk.lclk } }
  else if w.getLsbD 16 then s.modAx l fun a => { a with ss := { a.ss with ssv := w.getLsbD 18, ssoff := w.getLsbD 19 } }
  else s

/-- An AXIS mirror taken into the shadow; each loop takes its integrators at its next tick (R139, R158, R322). -/
def State.takeAxis (s : State) (l : AxisNo) (ws : List Word) : State :=
  if s.auth || !s.allocated l then s
  else
    let ts := s.extendTime (ws.headD 0)
    let s := s.modMir l fun m => { m with words := some ws, ts := ts, loadC := true, loadS := true, loadP := true, loadG := true }
    let s := s.modAx l fun a => { a with cmp := a.cmp.map fun (c : Cmp) => { c with fires := c.fires.filter fun f => decide (ts < f.1) } }
    if !s.standby then s
    else
      let s := (((s.shadowMode l).mirrorProv l).mirrorIndex l).mirrorStop l
      let s := if (s.mirWord l 1).getLsbD 8 then s.firstEnable l else s
      s.mirrorRef l

/-! ## COMPARE (R321) -/

/-- The compare registers taken from a mirror: value, control word and armed state (R166). -/
def State.takeCompare (s : State) (l : AxisNo) (ws : List Word) : State :=
  if s.auth || !s.allocated l then s
  else
    forFin 4 (fun n s =>
      let k := 1 + 3 * n.val
      let w := ws.getD (k + 2) 0
      s.modCmp l n fun c =>
        { c with val := int64 (ws.getD k 0) (ws.getD (k + 1) 0), func := (w >>> 6).setWidth 2, evt := w.getLsbD 5,
                 repeat_ := w.getLsbD 4, qual := w.setWidth 2, armed := w.getLsbD 12, mirArmed := w.getLsbD 12 }) s

/-! ## SUPER (R323) -/

/-- VPHASE codes (R269). -/
def VPhase.code : VPhase → Nat
  | .none => 0 | .decel => 1 | .hold => 2 | .steeroff => 3

/-- VPHASE of a code. -/
def vphaseOf (n : Nat) : VPhase := if n = 1 then .decel else if n = 2 then .hold else if n = 3 then .steeroff else .none

/-- PARK of a code (R251). -/
def parkOf (n : Nat) : Park :=
  if n = 1 then .clamp else if n = 2 then .latch else if n = 3 then .hold else if n = 4 then .holdact else if n = 5 then .release
  else .off

/-- A set-point of the SUPER mirror as a 24-bit field: 8 bits below the LSB of R352 (log entry 28). -/
def sup24 (i : Nat) (x : Q) : BitVec 24 := BitVec.ofInt 24 (max (-8388608) (min 8388607 (roundQ (256 * x / spLsb i))))

/-- Fields of 24 bits in words, the first lowest. -/
def pack24 (fs : List (BitVec 24)) : List Word :=
  wordsOf (fs.flatMap fun (f : BitVec 24) => [f.setWidth 8, (f >>> 8).setWidth 8, (f >>> 16).setWidth 8])

/-- Words as fields of 24 bits. -/
def unpack24 (ws : List Word) : List (BitVec 24) :=
  let rec go : List Byte → List (BitVec 24)
    | a :: b :: c :: r => (c ++ b ++ a : BitVec 24) :: go r
    | _ => []
  go (bytesOf ws)

/-- A list of flags as a word. -/
def flagWord (fs : List Bool) : Word := fs.zipIdx.foldl (fun w (b, i) => w ||| bitAt b i) 0

/-- HALF, HHALF and NOFEEL of the motors. -/
def State.halfWord (s : State) : Word :=
  flagWord (s.steer.half.toList ++ s.brake.half.toList ++ [s.steer.hhalf, s.steer.nofeel])

/-- LOST of the motors. -/
def State.lostWord (s : State) : Word := flagWord (s.steer.lost.toList ++ s.brake.lost.toList)

/-- The six SUPER fragments of a vehicle cycle that started at a global time (R323). The manual names the contents; the places
within a fragment are the model's (log entry 28). -/
def State.superFrags (s : State) (t : Int) : List (List Word) :=
  let h := [loW t, hiW t]
  let w := BitVec.ofNat 32
  let f := s.safe
  let b := s.brake
  let e := s.gtAt f.at_
  let led := s.ledgerWords.flatten
  [h ++ [w (s.life.st.code.toNat + 16 * f.phase.code + 256 * b.park.code.toNat), s.steerStat, s.brakeStat, s.wheelStat, loW e, hiW e,
         toFix 16 f.v0, toFix 16 b.trim] ++ [toFix 16 b.freq],
   h ++ pack24 (s.vote.applied.zipIdx.map fun (x, i) => sup24 i x),
   h ++ b.sw.toList.map (toFix 16) ++
     [bitAt b.regUnconf 31 ||| bitAt b.regSlip 30 ||| w (min b.freshN 0xFFFF), loW (s.gtAt b.slipFree),
      loW (s.gtAt b.parkAt), bitAt b.parkRel 0 ||| bitAt b.unlatch 1] ++ s.steer.cmd.toList.map (toFix 16) ++ [toFix 16 s.steer.hw],
   h ++ led.take 27, h ++ led.drop 27,
   h ++ [s.halfWord, s.lostWord] ++ s.vote.out.toList.map w]

/-- A SUPER fragment grouped by its stamp (R323). -/
def State.takeSuper (s : State) (i : Fin 6) (ws : List Word) : State :=
  if s.auth then s
  else
    let t := int64 (ws.getD 0 0) (ws.getD 1 0)
    s.modTwin fun n =>
      let fr := if n.supStamp = t then n.supFrag else Vector.replicate 6 none
      let fr := vset fr i (some ws)
      { n with supStamp := t, supFrag := fr, supReady := fr.toList.all Option.isSome }

/-- The words of a fragment that has arrived. -/
def State.supWords (s : State) (i : Fin 6) : List Word := (s.twin.supFrag[i].getD []).drop 2

/-- The ledger from its 54 mirrored words (R250). -/
def ledOf (ws : List Word) (i : Nat) : LedRec :=
  let bs := bytesOf ((ws.drop (6 * i)).take 6)
  let n := fun (k c : Nat) => ((bs.drop k).take c).reverse.foldl (fun x (y : Byte) => 256 * x + y.toNat) 0
  { fric := n 0 6, req := n 6 6, conf := n 12 6, count := n 18 4, satm := BitVec.ofNat 4 (n 22 2) }

/-- A complete SUPER mirror applied at a vehicle-cycle start in STANDBY (R214, R247, R250, R323). -/
def State.applySuper (s : State) : State :=
  if !s.twin.supReady then s
  else
    let stamp := s.twin.supStamp
    if !s.standby then s.modTwin fun n => { n with supReady := false, supFrag := Vector.replicate 6 none }
    else
      let a := s.supWords 0
      let w := fun (k : Nat) => a.getD k 0
      let ph := vphaseOf ((w 0).toNat / 16 % 16)
      let d := s.supWords 2
      let x := fun (k : Nat) => d.getD k 0
      let hl := s.supWords 5
      let fl := fun (k n : Nat) => (hl.getD k 0).getLsbD n
      let led := s.supWords 3 ++ s.supWords 4
      let sp := (unpack24 (s.supWords 1)).zipIdx.map fun (f, i) => spLsb i * (f.toInt : Q) / 256
      let s := s.modTwin fun n => { n with supReady := false, supFrag := Vector.replicate 6 none, supAt := some stamp }
      let s := if ph = .none ∨ s.safe.phase = .none then s
        else
          s.modSafe fun f => { f with phase := ph, at_ := s.localOf (int64 (w 4) (w 5)), v0 := ofFixS 16 (w 6) }
      let s := s.modSteer fun t =>
        { t with mirRef := Vector.ofFn fun n => (w 1).getLsbD (4 * n.val)
                 cmd := Vector.ofFn fun n => ofFixS 16 (x (12 + n.val))
                 hw := ofFixS 16 (x 15)
                 half := Vector.ofFn fun n => fl 0 n.val
                 lost := Vector.ofFn fun n => t.lost[n] || fl 1 n.val
                 hhalf := fl 0 11
                 nofeel := fl 0 12 }
      let s := s.modBrake fun b =>
        { b with park := parkOf ((w 0).toNat / 256 % 16), trim := ofFixS 16 (w 7), freq := ofFixS 16 (w 8)
                 sw := Vector.ofFn fun k => ofFixS 16 (x k.val)
                 regUnconf := (x 8).getLsbD 31, regSlip := (x 8).getLsbD 30, freshN := (x 8).toNat % 65536
                 slipFree := s.localOf (s.extendTime (x 9)), parkAt := s.localOf (s.extendTime (x 10))
                 parkRel := (x 11).getLsbD 0, unlatch := (x 11).getLsbD 1
                 half := Vector.ofFn fun k => fl 0 (3 + k.val)
                 lost := Vector.ofFn fun k => b.lost[k] || fl 1 (3 + k.val)
                 led := Vector.ofFn fun i => ledOf led i.val }
      s.modVote fun v => { v with voted := sp, out := Vector.ofFn fun i => (hl.getD (2 + i.val) 0).toNat }

/-! ## Readiness (R325) -/

/-- The age of an axis mirror, ns, none before the first. -/
def State.mirAge (s : State) (l : AxisNo) : Option Int :=
  if s.allocated l && s.ax[l].mir.words.isSome then some (s.gt - s.ax[l].mir.ts) else none

/-- The lane is READY (R325). -/
def State.ready (s : State) : Bool :=
  s.standby && s.twin.linkup &&
    ((fins 8).all fun l => !s.allocated l ||
      (s.ax[l].fault == 0 && (match s.mirAge l with | some a => decide (a ≤ 1000000) | none => false))) &&
    (match s.twin.supAt with | some t => decide (s.gt - t ≤ 2000000) | none => false)

end Sys2Proof.Machine
end

