-- ==== Sys2Proof/Machine/Twin.lean ====
section
/-!
DEFINITION. Twin operation: the claim lines, pairing, castling, the twin link and the service grade (R35, R121, R166, R306 to R337).
-/

namespace Sys2Proof.Machine

/-! ## Claims (R307 to R312) -/

/-- The firmware of the lane drives its claim: from PAIRING on, and outside a self-test (R309, R473). -/
def LaneSt.claims : LaneSt → Bool
  | .pairing | .standby | .active | .drive | .safeStop => true
  | _ => false

/-- Nothing forbids a claim: no clash, no role mismatch, no split mode, and the twin's claim absent (R35, R308, R311). -/
def State.mayClaim (s : State) : Bool :=
  s.life.st.claims && !s.split && !s.twin.clash && !s.twin.roleClash && !s.twin.claim && !s.twin.seen

/-- The first edge of a claim (R307, R309). The SSI ports wait spn.mono before their first frame, and the first grant of the claim is
due (R93, R455). -/
def State.startClaim (s : State) : State :=
  let s := s.modTwin fun n => { n with claim := true, claimAt := s.clk.lclk, confirmed := false, blackWait := false }
  let s := { s with ports := Vector.ofFn fun (p : Fin 3) =>
    { s.ports[p] with busyUntil := max s.ports[p].busyUntil (s.clk.lclk + us (s.pn P.spMono 0 p.val)) } }
  s.modArb fun b => { b with firstDone := false }

/-- The claim lines become static: torque-off on all pairs, and the SSI clocks high-impedance, with the frames in progress cut (R93,
R309). -/
def State.stopClaim (s : State) : State :=
  let s := s.modTwin fun n => { n with claim := false, confirmed := false, gateWait := false, dueYield := false, planned := none, forTest := false }
  let s := { s with ports := s.ports.map fun (p : Port) => { p with driven := false, busy := false, trigDue := none } }
  forFin 4 (fun k s => s.torqueOff k) s

/-- A planned castling that gave no authority ends (R330). -/
def State.failPlanned (s : State) : State := s.completeIf s.twin.planned 0x30 []

/-- The shadow starts anew from the next mirror. -/
def State.dropMirrors (s : State) : State :=
  s.mapAx fun a => { a with mir := { a.mir with words := none, due := none, cmpDue := none, take := false } }

/-- The lane gives up authority: its old mirrors are dropped, and a mirror waiting to leave does not leave. -/
def State.giveUp (s : State) : State :=
  (s.failPlanned.stopClaim.dropMirrors).modTwin fun n => { n with dueSuper := [], supAt := none }

/-- The lane enters STANDBY; in SAFE_STOP it stays there, to return to STANDBY at the release (R271, R312, R320). -/
def State.toStandby (s : State) : State :=
  let s := if s.life.st = .safeStop then s.modSafe fun f => { f with fromStandby := true } else s.setSt .standby
  s.modTwin fun n => { n with armd := n.armd || n.seen, blackWait := false }

/-- Counts and notes a castling: the application count sticks, and EV_CASTLING names the cause and the direction (R337). -/
def State.noteCastling (s : State) (cause : BitVec 2) (took : Bool) : State :=
  (s.modTwin fun n => { n with ccause := cause, count := min 0xFFFFFFFF (n.count + 1) }).raise 0xE016 .grey none
    [cause.setWidth 32, bitAt took 0]

/-! ## Taking over (R121, R140, R166, R326) -/

/-- The commutation of the new active lane, from the mirrored words: the angle extrapolated by the mirrored speed from TS to the last sampling
instant, from which the first own sample goes on (R36, R121). A start or a probe that runs anew presets its loops by R137 and not by
R140. -/
def State.takeCom (s : State) (l : AxisNo) : State :=
  let a := s.ax[l]
  let w := ofFixS 16 (s.mirWord l 10)
  let th := ofFixU 32 (s.mirWord l 9) + toRev (w * ((s.gtAt a.sch.inst - a.mir.ts : Int) : Q) / 1000000000)
  let i := ofFixU 16 (s.mirWord l 11)
  let j := (s.mirWord l 3 >>> 24).toNat % 16
  let ph := phaseOf (s.mirWord l 3 >>> 28).toNat
  let anew := fun (s : State) => (s.modMir l fun m => { m with take := false }).enterLoops l
  match modeOf (s.mirWord l 1) with
  | .sensored =>
    if s.src l = 1 ∧ !a.com.cval then
      match s.provAt l with
      | some p => (s.modAx l fun a => { a with com := { a.com with prov := p, provOk := true } }).setMode l .sensored
      | none => anew (s.startProbe l)
    else s.setMode l .sensored
  | .stepped => s.enterStepped l th w i
  | .ifStart => (s.setMode l .ifStart).modAx l fun a =>
      { a with com := { a.com with olTheta := fracQ th, olSpeed := w, olI := i, attempt := j, phase := ph } }
  | .satStart => anew (s.startRest l)
  | .catching => anew (s.startProbe l)
  | .braking => s.setMode l .braking
  | .off => anew (s.startCommutation l)

/-- The compare events of a takeover: one for each firing newer than the last mirror, of registers it showed armed (R166). -/
def State.takeCompares (s : State) (l : AxisNo) : State :=
  forFin 4 (fun n s =>
    let c := s.ax[l].cmp[n]
    let s := s.modCmp l n fun c => { c with mirArmed := false, fires := [] }
    let new := if c.mirArmed then c.fires.filter fun f => decide (s.ax[l].mir.ts < f.1) else []
    new.foldl (fun s f => s.raise 0x4005 .grey (some l) [BitVec.ofNat 32 n.val, loW f.2.1, hiW f.2.1, bitAt f.2.2 0]) s) s

/-- An axis that the mirror shows enabled is enabled by the takeover, unless it is held off, faulted, or of a pair that failed its test
(R326, R410, R472). -/
def State.takesAxis (s : State) (l : AxisNo) : Bool :=
  s.allocated l && (s.mirWord l 1).getLsbD 8 && !s.ax[l].heldOff && s.ax[l].fault == 0 && !s.pair[pairOf l].stFail

/-- One axis taken over; the enable permits its pair and clears MODELF (R58, R66). -/
def State.takeOne (s : State) (l : AxisNo) : State :=
  let s := s.takeCompares l
  if s.takesAxis l then
    (s.modAx l fun a =>
      { a with en := true, perm := true, cur := { a.cur with modelf := false }, mir := { a.mir with take := true } }).takeCom l
  else s

/-- The claim of a castling: step 4 of R326 for every axis; the gates wait for step 5. -/
def State.castlingClaim (s : State) : State :=
  let s := s.startClaim
  (forFin 8 (fun l s => s.takeOne l) s).modTwin fun n => { n with gateWait := true }

/-- The mirror shows an enabled axis (R440). -/
def State.mirrorDrives (s : State) : Bool := (fins 8).any fun l => s.allocated l && (s.mirWord l 1).getLsbD 8

/-- The claim has lasted 20 µs without a collision: the consecutive count is reset, and a castling is counted and changes the state
(R311, R326). -/
def State.confirmClaim (s : State) : State :=
  if s.twin.claim && !s.twin.confirmed && s.since s.twin.claimAt 20000 then
    let s := s.modTwin fun n => { n with confirmed := true, collisions := 0, retry := false }
    match s.twin.castling with
    | none => s
    | some c =>
      let drives := s.mirrorDrives
      let s := (s.modTwin fun n => { n with castling := none }).noteCastling c true
      if s.life.st = .safeStop then s.modSafe fun f => { f with fromStandby := false }
      else s.setSt (if drives then .drive else .active)
  else s

/-- CLAIM_CONFIRMED (R311, R326). -/
def execClaimConfirmed (now : Ns) (s : State) : Out := .next (s.at now).confirmClaim

/-- Two claims have collided: the fourth in a row ends claiming until the next start (R311). A castling goes on in STANDBY, from the
last mirrors. -/
def State.collide (s : State) : State :=
  let s := s.stopClaim.bump 0xEF00
  let s := s.mapAx fun a => { a with mir := { a.mir with take := false, loadC := true, loadS := true, loadP := true, loadG := true } }
  let n := s.twin.collisions + 1
  if 4 ≤ n then
    (s.modTwin fun t => { t with collisions := n, clash := true, retry := false, castling := none }).raise 0xE010 .crimson none []
  else s.modTwin fun t => { t with collisions := n, retry := true }

/-- A lane that has held authority for more than 20 µs sees an edge: it yields (R312). -/
def State.doubleClaim (s : State) : State :=
  let s := (s.giveUp.raise 0xE011 .crimson none []).toStandby
  s.modTwin fun n => { n with armd := true }

/-- An edge on AUTH_SEEN (R308, R311, R312, R320). -/
def State.claimEdge (s : State) : State :=
  let s := s.confirmClaim
  let sb := s.standby
  let s := s.modTwin fun n => { n with edgeAt := s.clk.lclk, seen := true, armd := n.armd || sb, blackWait := n.blackWait && !sb }
  if !s.twin.claim then s else if s.twin.confirmed then s.doubleClaim else s.collide

/-- TWIN_CLAIM_EDGE. -/
def execTwinClaimEdge (now : Ns) (s : State) : Out := .next (s.at now).claimEdge

/-! ## Castling (R326) -/

/-- Castling starts in STANDBY, under the cause that comes first (R326). A lane that never claims again starts none (R35, R311). -/
def State.startCastle (s : State) (cause : BitVec 2) : State :=
  if s.standby && !s.split && s.twin.castling.isNone && !s.twin.clash && !s.twin.roleClash then
    s.modTwin fun n => { n with castling := some cause, castAt := s.clk.lclk, ccause := cause }
  else s

/-- No edge for 30 µs: the twin's claim is absent (R308). With ARMD set castling starts by timeout; an on-demand self-test stops, and
castling runs from its end (R326, R475). -/
def State.claimAbsent (s : State) : State :=
  if s.twin.seen && s.since s.twin.edgeAt 30000 then
    let s := s.modTwin fun n => { n with seen := false, absentAt := s.clk.lclk }
    let s := match s.st.run with
      | some r => if r.origin = Origin.demand then s.stopRun .twinClaim else s
      | none => s
    if s.twin.armd then s.startCastle 2 else s
  else s

/-- TWIN_CLAIM_ABSENT. -/
def execTwinClaimAbsent (now : Ns) (s : State) : Out := .next (s.at now).claimAbsent

/-- The wait of a lane after a collision: 40 µs for WHITE and 240 µs for BLACK (R311). -/
def State.backOff (s : State) : Ns := if s.black then 240000 else 40000

/-- Steps 2 and 3 of R326 have passed: 40 µs from the cause, and where the twin's claim stood at that moment, 40 µs from its end. A
collision adds its own wait. -/
def State.castleDue (s : State) : Bool :=
  let n := s.twin
  s.standby && s.mayClaim && n.castling.isSome && s.since n.castAt 40000 &&
    (decide (n.absentAt ≤ n.castAt + 40000) || s.since n.absentAt 40000) && (!n.retry || s.since n.absentAt s.backOff)

/-- A lane that is not in STANDBY claims again after a collision (R311). -/
def State.retryDue (s : State) : Bool :=
  !s.standby && s.life.st != LaneSt.pairing && s.mayClaim && s.twin.retry && s.since s.twin.absentAt s.backOff

/-- The 200 ms of a BLACK lane have passed (R320). -/
def State.blackDue (s : State) : Bool :=
  let t := match s.twin.firstStatus with | some t => max t s.twin.pairExit | none => s.twin.pairExit
  s.black && s.standby && s.twin.blackWait && s.mayClaim && s.twin.castling.isNone && s.since t (ms 200)

/-- A BLACK lane claims after its count; it goes to ACTIVE, and every axis stays disabled (R320, R440). -/
def State.blackClaim (s : State) : State :=
  let s := if s.life.st = .safeStop then s.modSafe fun f => { f with fromStandby := false } else s.setSt .active
  s.startClaim

/-- The claim that is due, if any. -/
def State.claimStep (s : State) : State :=
  if s.castleDue then s.castlingClaim else if s.retryDue then s.startClaim else if s.blackDue then s.blackClaim else s

/-- CLAIM_START (R311, R319, R320, R326). -/
def execClaimStart (now : Ns) (s : State) : Out := .next (s.at now).claimStep

/-- CLAIM_RETRY (R311). -/
def execClaimRetry (now : Ns) (s : State) : Out :=
  let s := s.at now
  .next (if s.twin.retry then s.claimStep else s)

/-- CASTLING_SETTLE (R326). -/
def execCastlingSettle (now : Ns) (s : State) : Out :=
  let s := s.at now
  .next (if s.castleDue then s.castlingClaim else s)

/-- BLACK_CLAIM_TIMER (R320). -/
def execBlackClaimTimer (now : Ns) (s : State) : Out :=
  let s := s.at now
  .next (if s.blackDue then s.blackClaim else s)

/-- The gates of an axis that waits for step 5: enabled once its first driving sample has run (R60, R326). -/
def State.castleGate (s : State) (l : AxisNo) : State :=
  let a := s.ax[l]
  if a.en && !a.pwm.gates && !a.mir.take && a.fault == 0 && s.toPermit (pairOf l) then
    s.modAx l fun a => { a with pwm := { a.pwm with gates := true, gateReq := none, owed := false }, cur := a.cur.resettle }
  else s

/-- Step 5 of R326, for every axis whose first driving sample loads at this valley; the wait ends when none is left. -/
def State.castleGates (s : State) : State :=
  let s := s.confirmClaim
  if s.twin.claim && s.twin.confirmed && s.twin.gateWait then
    let s := forFin 8 (fun l s => s.castleGate l) s
    let left := (fins 8).any fun l => s.ax[l].en && s.ax[l].mir.take
    s.modTwin fun n => { n with gateWait := left }
  else s

/-- CASTLING_GATE_ENABLE. -/
def execCastlingGateEnable (now : Ns) (s : State) : Out := .next (s.at now).castleGates

/-! ## Pairing (R317 to R320) -/

/-- The lane leaves PAIRING (R317, R319, R320, R438). -/
def State.leavePairing (s : State) (byTimeout : Bool) : State :=
  let s := s.modTwin fun n => { n with pairExit := s.clk.lclk }
  let s := if byTimeout then s.modLife fun f => { f with reason := f.reason ||| 8 } else s
  if s.black then
    let w := !s.twin.seen
    s.toStandby.modTwin fun n => { n with blackWait := w }
  else if s.mayClaim then (s.setSt .active).startClaim
  else if s.twin.seen then s.toStandby
  else s.setSt .active

/-- PAIRING_TIMEOUT (R317). A lane with a role mismatch stays in PAIRING (R35). -/
def execPairingTimeout (now : Ns) (s : State) : Out :=
  let s := s.at now
  .next (if s.life.st = .pairing ∧ !s.twin.roleClash ∧ s.since s.life.pairAt (ms (s.pn P.twPairtmo)) then s.leavePairing true else s)

/-! ## Receiving (R313 to R318, R321 to R323) -/

/-- The twin-link receiver works: the LINK domain is powered and not under test, and firmware runs (R418, R476). -/
def State.twinOn (s : State) : Bool :=
  s.linkOn && !s.underTest.getLsbD 6 && (match s.life.st with | .off | .sleep | .failSilent => false | _ => true)

/-- A frame that fails a check (R315). -/
def State.twinBad (s : State) : State := s.bump 0xEF01

/-- A valid frame: LINKUP, its time and its SEQ; a gap counts, but for the hardware YIELD (R313 to R316). -/
def State.noteFrame (s : State) (seq : BitVec 16) (yield : Bool) : State :=
  let gap := match s.twin.rxSeq with | some p => decide (seq ≠ p + 1) | none => false
  let hw := yield && seq == 0xFFFF && gap
  let s := if gap && !hw then s.bump 0xEF01 else s
  s.modTwin fun n => { n with linkup := true, frameAt := s.clk.lclk, rxSeq := if hw then n.rxSeq else some seq }

/-- ID of the lane's own frames: group in [1:0], ROLE in [2] (R313). -/
def State.twinId (s : State) : Byte := BitVec.ofNat 8 s.grp.val ||| (bitAt s.black 2).setWidth 8

/-- A frame between SOF and EOF: TYPE, ID, SEQ, LEN, SUB, the payload, and the CRC-32C over them (R313). -/
def twinBytes (type id : Byte) (f : TwinIn) : List Byte :=
  let b := [type, id, f.seq.setWidth 8, (f.seq >>> 8).setWidth 8, BitVec.ofNat 8 f.payload.length, f.sub] ++ bytesOf f.payload
  b ++ wordBytes (crc32c b)

/-- The frame that the lane sent last, as it stood on the line (R313). -/
def State.twinLine (s : State) : Option (List Byte) := s.twin.sent.map fun x => twinBytes x.1 s.twinId x.2

/-- LEN of a SUPER fragment (R323). -/
def superLen (i : Nat) : Nat :=
  match i with | 0 => 10 | 1 => 14 | 2 => 18 | 3 => 29 | 4 => 29 | _ => 10

/-- LEN of a frame by its TYPE and SUB; none for a reserved TYPE (R313, R315, R316, R321 to R323). -/
def twinLen (type sub : Byte) : Option Nat :=
  match type.toNat with
  | 1 => some 0 | 2 => some 4 | 3 => some 24 | 4 => some 13 | 5 => some (superLen sub.toNat) | _ => none

/-- The checks of R315 over a received frame: CRC, TYPE, LEN and group, then the ROLE. R315 discards nothing for ID [7:3], which a sender
sets to zero. -/
def State.twinVerdict (s : State) (coded : Bool) (bs : List Byte) : TwinVerdict :=
  match bs with
  | type :: id :: q0 :: q1 :: len :: sub :: r =>
    let n := 4 * len.toNat
    let f : TwinIn := ⟨q1 ++ q0, sub, wordsOf (r.take n)⟩
    if !coded ∨ r.drop n ≠ wordBytes (crc32c (bs.take (6 + n))) ∨ twinLen type sub ≠ some len.toNat ∨ id &&& 3 ≠ s.twinId &&& 3 then .bad
    else if id &&& 4 = s.twinId &&& 4 then .ownRole
    else .valid type f
  | _ => .bad

/-- A frame of a type with `len` payload words acts on a lane that can receive it; another length is discarded (R315). -/
def State.recvTwin (s : State) (f : TwinIn) (len : Nat) (yield : Bool) (act : State → State) : State :=
  if !s.twinOn then s
  else if f.payload.length ≠ len then s.twinBad
  else act (s.noteFrame f.seq yield)

/-- A mismatch flag with its event at each change into the mismatch (R318). -/
def State.mismatches (s : State) (w : List Word) : State :=
  let own := s.digest
  let d := w.getD 0 0
  let v := w.getD 1 0
  let dm := own != d
  let fm := s.ident.version.setWidth 32 != v
  let s := if dm && !s.twin.digm then s.raise 0xE014 .amber none [own, d] else s
  let s := if fm && !s.twin.fwm then s.raise 0xE015 .amber none [v] else s
  s.modTwin fun n => { n with digm := dm, fwm := fm, tdigest := some d, tversion := v }

/-- A STATUS: the twin's state, READY and its mismatches; the first of STANDBY or later starts the count of a BLACK lane, and the first
ends PAIRING (R316 to R318, R320). -/
def State.takeStatus (s : State) (w : List Word) : State :=
  let x := w.getD 2 0
  let st : BitVec 4 := x.setWidth 4
  let late := decide (5 ≤ st.toNat ∧ st.toNat ≤ 8)
  let s := (s.mismatches w).modTwin fun n =>
    { n with tstate := st, tready := x.getLsbD 4,
             firstStatus := if late then some (n.firstStatus.getD s.clk.lclk) else n.firstStatus }
  if s.life.st = .pairing ∧ !s.twin.roleClash then s.leavePairing false else s

/-- What a valid frame does, by its TYPE: YIELD, STATUS, AXIS, COMPARE or SUPER; a SUB that names no axis or fragment does nothing (R313,
R316, R321 to R323, R326). -/
def State.twinAct (s : State) (type : Byte) (f : TwinIn) : State :=
  let axis := fun (g : AxisNo → State → State) (s : State) => if h : f.sub.toNat < 8 then g ⟨f.sub.toNat, h⟩ s else s
  match type.toNat with
  | 1 => s.recvTwin f 0 true fun s => s.startCastle 1
  | 2 => s.recvTwin f 4 false fun s => s.takeStatus f.payload
  | 3 => s.recvTwin f 24 false (axis fun l s => s.takeAxis l f.payload)
  | 4 => s.recvTwin f 13 false (axis fun l s => s.takeCompare l f.payload)
  | _ => s.recvTwin f (superLen f.sub.toNat) false fun s => if h : f.sub.toNat < 6 then s.takeSuper ⟨f.sub.toNat, h⟩ f.payload else s

/-- YIELD (R326). -/
def execYield (f : TwinIn) (now : Ns) (s : State) : Out := .next ((s.at now).twinAct 1 f)
/-- STATUS (R316). -/
def execStatus (f : TwinIn) (now : Ns) (s : State) : Out := .next ((s.at now).twinAct 2 f)
/-- AXIS (R322). -/
def execAxis (f : TwinIn) (now : Ns) (s : State) : Out := .next ((s.at now).twinAct 3 f)
/-- COMPARE (R321). -/
def execCompare (f : TwinIn) (now : Ns) (s : State) : Out := .next ((s.at now).twinAct 4 f)
/-- SUPER (R323). -/
def execSuper (f : TwinIn) (now : Ns) (s : State) : Out := .next ((s.at now).twinAct 5 f)

/-- A frame of the lane's own ROLE: two events once in a start, no claim before the next start, and STANDBY past PAIRING (R35,
R315). -/
def State.roleMismatch (s : State) : State :=
  if s.twin.roleClash then s
  else
    let s := (s.raise 0x0002 .crimson none [bitAt s.black 0]).raise 0xE012 .crimson none []
    let s := s.modTwin fun n => { n with roleClash := true, castling := none, retry := false, blackWait := false }
    if s.life.st.operating ∧ !s.split then (if s.twin.claim then s.giveUp else s).toStandby else s

/-- A frame as received: discarded and counted, or valid and acted on (R315). -/
def State.twinReceive (s : State) (coded : Bool) (bs : List Byte) : State :=
  if !s.twinOn then s
  else match s.twinVerdict coded bs with
    | .bad => s.twinBad
    | .ownRole => s.twinBad.roleMismatch
    | .valid type f => s.twinAct type f

/-- TWIN_FRAME_DISCARD (R315). -/
def execTwinFrameDiscard (coded : Bool) (bytes : List Byte) (now : Ns) (s : State) : Out := .next ((s.at now).twinReceive coded bytes)

/-- TWIN_LINK_LOST: no valid frame for 1.5 ms (R316). A link that is down reports no READY. -/
def execTwinLinkLost (now : Ns) (s : State) : Out :=
  let s := s.at now
  .next (if s.twin.linkup && s.since s.twin.frameAt 1500000 then
    (s.modTwin fun n => { n with linkup := false, tstate := 0xF, tready := false }).raise 0xE013 .amber none []
  else s)

/-! ## Sending (R314, R316, R321, R330) -/

/-- One frame leaves: its SEQ is the running one (R314). -/
def State.sendTwin (s : State) (type : BitVec 8) (sub : BitVec 8) (ws : List Word) : State :=
  s.modTwin fun n => { n with sent := some (type, ⟨n.txSeq, sub, ws⟩), txSeq := n.txSeq + 1 }

/-- Every allocated axis has sent an AXIS frame newer than the request of the planned castling (R330). -/
def State.mirrorsSent (s : State) : Bool := (fins 8).all fun l => !s.allocated l || s.ax[l].mir.sentNew

/-- A planned castling is under way, for a host or ahead of a self-test (R36, R330). -/
def State.castlePlanned (s : State) : Bool := s.twin.planned.isSome || s.twin.forTest

/-- A planned castling whose mirrors have left sends its YIELD next (R330). -/
def State.planStep (s : State) : State :=
  if s.castlePlanned && s.mirrorsSent then s.modTwin fun n => { n with dueYield := true } else s

/-- The YIELD of a planned castling leaves: the claim stops, the lane enters STANDBY, and the request completes (R330, R336, R337,
R411). -/
def State.sendYield (s : State) : State :=
  let o := s.twin.planned
  let s := (s.sendTwin 1 0xFF []).modTwin fun n => { n with planned := none }
  ((s.giveUp.noteCastling 3 false).toStandby).completeIf o 0 [0]

/-- The first axis with a frame that waits. -/
def State.firstDue (s : State) (f : AxMirror → Option (List Word)) : Option (AxisNo × List Word) :=
  (fins 8).findSome? fun l => (f s.ax[l].mir).map fun w => (l, w)

/-- An AXIS frame leaves (R321, R330). -/
def State.sendAxis (s : State) (l : AxisNo) (w : List Word) : State :=
  let plan := s.castlePlanned
  let new := decide (s.twin.plannedAt < s.extendTime (w.headD 0))
  ((s.sendTwin 3 (BitVec.ofNat 8 l.val) w).modMir l fun m =>
    { m with due := none, sentNew := m.sentNew || (plan && new) }).planStep

/-- The next frame by priority (R314). -/
def State.twinSend (s : State) : State :=
  if !s.twinOn ∨ s.twin.muted then s
  else if s.twin.dueYield then s.sendYield
  else match s.twin.dueStatus with
    | some w => (s.sendTwin 2 0xFF (w ++ [s.gtUs])).modTwin fun n => { n with dueStatus := none }
    | none =>
      match s.firstDue AxMirror.due with
      | some (l, w) => s.sendAxis l w
      | none =>
        match s.firstDue AxMirror.cmpDue with
        | some (l, w) => (s.sendTwin 4 (BitVec.ofNat 8 l.val) w).modMir l fun m => { m with cmpDue := none }
        | none =>
          match s.twin.dueSuper with
          | (i, w) :: r => (s.sendTwin 5 i w).modTwin fun n => { n with dueSuper := r }
          | [] => s

/-- TWIN_FRAME_TRANSMIT. -/
def execTwinFrameTransmit (now : Ns) (s : State) : Out := .next (s.at now).twinSend

/-- The STATUS of a vehicle-cycle start; word 3 is added at sending (R316). -/
def State.statusWords (s : State) : List Word :=
  [s.digest, s.ident.version.setWidth 32,
   s.life.st.code.setWidth 32 ||| bitAt s.ready 4 ||| bitAt s.auth 5 ||| (s.twin.grade.setWidth 32 <<< 6)]

/-- The STATUS and, with authority, the SUPER mirror of a vehicle cycle that started at a global time wait to leave (R316, R321). -/
def State.twinCycle (s : State) (t : Int) : State :=
  if s.split ∨ !s.life.st.claims then s
  else
    let w := s.statusWords
    let sup := s.superFrags t
    let s := s.modTwin fun n => { n with dueStatus := some w }
    if s.auth then s.modTwin fun n => { n with dueSuper := sup.zipIdx.map fun (x, i) => (BitVec.ofNat 8 i, x) } else s

/-! ## Grade (R332) -/

/-- A lane is known to be in an operating state: the lane itself, or one that published in the cycle that ends. -/
def State.laneLives (s : State) (i : LaneNo) : Bool :=
  if i = s.idx then s.life.st.operating
  else (let p := s.nov.pubIn[i]; p.b0.isSome || p.b1.isSome || p.b2.isSome)

/-- A lane group with fewer than two lanes in an operating state. -/
def State.groupShort (s : State) : Bool :=
  (fins 3).any fun g => !(s.laneLives ⟨g.val, by omega⟩ && s.laneLives ⟨g.val + 3, by omega⟩)

/-- An enabled motor with a winding lost (R219, R332). -/
def State.anyWindLost (s : State) : Bool :=
  let sb := s.pw P.sbwEn
  let bw := s.pw P.bwEn
  ((fins 3).any fun n => sb.getLsbD n.val && (s.steer.half[n] || s.steer.lost[n])) ||
    (sb.getLsbD 3 && (s.steer.hhalf || s.steer.nofeel)) ||
    ((fins 8).any fun w => bw.getLsbD w.val && (s.brake.half[w] || s.brake.lost[w]))

/-- The grade and its cause, the first row that matches (R332). -/
def State.gradeOf (s : State) : Nat × Nat :=
  if s.life.st = .safeStop then (3, 6)
  else if s.vote.safe then (3, 7)
  else if s.anyWindLost then (2, 5)
  else if s.groupShort then (1, 1)
  else if !s.twin.linkup then (1, 2)
  else if (fins 2).any fun c => !s.vtb.chan[c].up then (1, 3)
  else if (fins 4).any fun k => s.pair[k].chopf then (1, 4)
  else (0, 0)

/-- The severity of a grade. -/
def gradeSev (g : Nat) : Sev := if g = 0 then .grey else if g = 3 then .crimson else .amber

/-- The grade of a vehicle-cycle start, with its event at a change (R332). -/
def State.formGrade (s : State) : State :=
  let (g, c) := s.gradeOf
  let old := s.twin.grade.toNat
  if !s.life.st.operating ∨ g = old then s
  else
    (s.modTwin fun n => { n with grade := BitVec.ofNat 2 g }).raise 0xE017 (gradeSev g) none
      [BitVec.ofNat 32 old, BitVec.ofNat 32 g, BitVec.ofNat 32 c]

/-- The payload of the grade connection: the grade and the speed cap (R333). -/
def State.gradeWords (s : State) : List Word :=
  let g := s.twin.grade.toNat
  [BitVec.ofNat 32 g, if g = 3 then 0 else if g = 2 then s.pw P.twVlimp else 0xFFFFFFFF]

/-! ## Requests (R330, R336, R337) -/

/-- TWINSTAT (R336). -/
def State.twinstat (s : State) : Word :=
  let n := s.twin
  (n.grade.setWidth 32 <<< 30) ||| ((if n.linkup then n.tstate else 0xF).setWidth 32 <<< 26) ||| (s.life.st.code.setWidth 32 <<< 22) |||
    bitAt s.black 21 ||| bitAt s.auth 20 ||| bitAt n.seen 19 ||| bitAt s.ready 18 ||| bitAt n.tready 17 ||| bitAt n.linkup 16 |||
    bitAt n.digm 15 ||| bitAt n.fwm 14 ||| bitAt n.clash 13 ||| bitAt n.armd 12 ||| (n.ccause.setWidth 32 <<< 10)

/-- A mirror age in units of 10 µs, FFh for 2.55 ms or more, without a mirror or without an allocation (R526). -/
def State.ageByte (s : State) (l : AxisNo) : Nat :=
  match s.mirAge l with
  | some a => if s.allocated l && decide (a < 2550000) then (a / 10000).toNat else 0xFF
  | none => 0xFF

/-- The ages of four axes in a word. -/
def State.ageWord (s : State) (b : Nat) : Word :=
  (fins 4).foldl (fun w i => w ||| (BitVec.ofNat 32 (s.ageByte ⟨(b + i.val) % 8, Nat.mod_lt _ (by decide)⟩) <<< (8 * i.val))) 0

/-- OP_TWIN_STATUS. The classes are those of the status opcodes of R409, which leaves them to R337 (log entry 29). -/
def specTwinStatus : OpSpec := { opc := 0x0601, classes := [1, 3], splitNa := true }
/-- The nine words of R526. -/
def bodyTwinStatus : Body := fun _ s =>
  let sup : Word := match s.twin.supAt with | some t => BitVec.ofInt 32 ((s.gt - t) / 1000000) | none => 0xFFFFFFFF
  Ans.ok s [s.twinstat, s.digest, s.twin.tdigest.getD 0, s.ageWord 0, s.ageWord 4, sup, BitVec.ofNat 32 s.twin.count,
            s.counterWord 0xEF00, s.counterWord 0xEF01]
/-- OP_TWIN_STATUS. -/
def execOpTwinStatus (r : Req) (s : State) : Out := .next (s.serve specTwinStatus bodyTwinStatus r)

/-- A planned castling begins, for a request or ahead of a self-test (R36, R330). -/
def State.planCastle (s : State) (o : Option AccOp) : State :=
  let s := s.mapAx fun a => { a with mir := { a.mir with sentNew := false } }
  (s.modTwin fun n => { n with planned := o, forTest := o.isNone, plannedAt := s.gt }).planStep

/-- OP_TWIN_CASTLE. -/
def specTwinCastle : OpSpec := { opc := 0x0602, classes := [1], splitNa := true }
/-- Accepted by the lane with authority whose twin reports READY; a castling already asked for is a transition in progress. -/
def bodyTwinCastle : Body := fun r s =>
  if s.castlePlanned ∨ s.st.waiting.isSome then Ans.refuse s 0x11
  else if !s.auth ∨ !s.twin.tready then Ans.refuse s 0x30
  else Ans.accepted (s.planCastle (some { opc := 0x0602, req := r }))
/-- OP_TWIN_CASTLE. -/
def execOpTwinCastle (r : Req) (s : State) : Out := .next (s.serve specTwinCastle bodyTwinCastle r)

end Sys2Proof.Machine
end

