-- ==== Sys2Proof/Machine/Kernels.lean ====
section
/-!
DEFINITION. Kernels in the signal unit: activations, their order, deadlines and load, the schedule check, and the opcodes of group
08h (R27, R187, R188, R193 to R201, R525).
-/

namespace Sys2Proof.Machine

/-! ## Activations (R193, R198, R525) -/

/-- The activations that the parameters in effect enable (R198, R201, R206, R229, R234). -/
def State.actWanted (s : State) (a : ActNo) : Bool :=
  let l : AxisNo := ⟨a.val % 8, Nat.mod_lt _ (by decide)⟩
  let obs := fun (l : AxisNo) => s.src l = 1 && s.pn P.fbSpd l = 1
  if a.val < 8 then s.allocated l && s.src l == 2
  else if a.val < 16 then s.allocated l && obs l
  else if a.val < 24 then s.allocated l && (s.wheel l).isSome && !obs l
  else if a.val < 27 then (s.pw P.sbwEn).getLsbD (a.val - 24)
  else if a.val = 27 then s.pw P.bwEn != 0
  else if a.val = 28 then (s.pw P.sbwEn).getLsbD 0
  else if a.val < 32 then false
  else s.utrig a != 0 && s.su.eng.progCrc.isSome

/-- The set of wanted activations. -/
def State.suWant (s : State) : BitVec 40 :=
  (fins 40).foldl (fun m a => if s.actWanted a then m ||| ((1 : BitVec 40) <<< a.val) else m) 0

/-- C of an activation, cycles (R198). -/
def State.actCycles (s : State) (a : ActNo) : Nat :=
  if a.val < 8 then 190 else if a.val < 16 then 160 else if a.val < 24 then 90 else if a.val < 27 then 900
  else if a.val = 27 then 1200 else if a.val < 32 then 2400 else s.pn P.sigUcmax 0 (a.val - 32)

/-- T of an activation, ns. -/
def State.actPeriod (s : State) (a : ActNo) : Nat :=
  let l := s.actAxis a
  match s.actKind a with
  | 0 => s.tc l
  | 1 => s.pn P.casN1 l * s.tc l
  | _ => ms 1

/-- D of an activation, ns from its release (R193). -/
def State.actDeadline (s : State) (a : ActNo) : Nat :=
  if s.actKind a = 2 then us (s.pn P.sigVdl) else s.actPeriod a + s.groupDelay (s.actAxis a)

/-- U over a set of activations (R196). -/
def State.suLoad (s : State) (set : BitVec 40) : Q :=
  ((fins 40).filter fun a => set.getLsbD a.val).foldl (fun u a => u + divF (s.actCycles a : Q) (s.actPeriod a : Q) * 10 / 3) 0

/-! ## The schedule check (R196) -/

/-- The longest REPEAT of a vendor kernel (R198). -/
def vendorRepeat (a : ActNo) : Nat :=
  if a.val < 8 then 8 else if a.val < 24 then 4 else if a.val < 27 then 32 else if a.val = 27 then 8 else 16

/-- Addresses of a region. -/
def addrs (lo n : Nat) : List Nat := (List.range n).map (lo + ·)

/-- The addresses that may run after a program word: a word of no effect has none. -/
def nextAddrs (w : Word) (a : Nat) : List Nat :=
  let t := (w &&& 0x1FFF).toNat
  match (w >>> 24).toNat with
  | 1 | 5 => []
  | 2 => [t]
  | 3 | 4 | 7 => [t, a + 1]
  | _ => [a + 1]

/-- The addresses of the code that a run from the given ones can reach in the integrator region of the signal unit, with those seen. -/
def State.reach (s : State) : Nat → List Nat → List Nat → List Nat
  | 0, _, seen => seen
  | n + 1, todo, seen =>
    match todo with
    | [] => seen
    | a :: r =>
      if a < 0x1400 ∨ 0x2000 ≤ a ∨ seen.contains a then State.reach s n r seen
      else State.reach s n (nextAddrs (s.progWord .su a) a ++ r) (a :: seen)

/-- The longest REPEAT in the kernel of an integrator activation, in runs: each address adds at most two to those that are to be looked
at. -/
def State.userRepeat (s : State) (a : ActNo) : Nat :=
  (s.reach (3 * 0xC00) [s.pn P.sigUentry 0 (a.val - 32)] []).foldl (fun m a =>
    let w := s.progWord .su a
    if w >>> 24 = 6 then max m ((w &&& 0xFFF).toNat + 1) else m) 0

/-- What a change of makes the check due: the activations in force, each with its figures and parameters (R196). -/
def State.suParams (s : State) : List (ActNo × List Nat) :=
  ((fins 40).filter fun a => s.su.enabled.getLsbD a.val).map fun a =>
    let l := s.actAxis a
    (a, [s.actCycles a, s.actPeriod a, s.actDeadline a] ++
      (if a.val < 8 then [(s.pw P.resBw l).toNat] else if a.val < 16 then [(s.pw P.sigObsbw l).toNat] else []) ++
      (if 32 ≤ a.val then [s.utrig a, s.pn P.sigUentry 0 (a.val - 32)] else []))

/-- What the check of R196 reads of the activations in force: number, cycles, period and deadline. -/
def State.suTable (s : State) : List (ActNo × Nat × Nat × Nat) :=
  ((fins 40).filter fun a => s.su.enabled.getLsbD a.val).map fun a => (a, s.actCycles a, s.actPeriod a, s.actDeadline a)

/-- n_max over the activations in force. -/
def State.longestRepeat (s : State) : Nat :=
  (s.suTable.map fun (t : ActNo × Nat × Nat × Nat) => if t.1.val < 32 then vendorRepeat t.1 else s.userRepeat t.1).foldl max 0

/-- H(D) in cycles, for a deadline in ns (R196). -/
def State.demand (s : State) (n d : Nat) : Nat :=
  n + 1 + (s.suTable.filter fun t => t.2.2.2 ≤ d).foldl (fun h t =>
    h + (if t.2.2.1 = 0 then 0 else (d + t.2.2.1 - 1) / t.2.2.1) * (t.2.1 + 24)) 0

/-- The schedule check: EV_SU_OVERLOAD names the first failing activation; a load above sig.util fails the first (R196). -/
def State.suCheck (s : State) : State :=
  if !s.su.check then s
  else
    let n := s.longestRepeat
    let over_ := decide (s.pq P.sigUtil < s.suLoad s.su.enabled)
    let bad := s.suTable.find? fun t => over_ || decide (3 * t.2.2.2 < 10 * s.demand n t.2.2.2)
    let s := s.modSu fun u => { u with check := false }
    match bad with
    | some t => s.raise 0xF003 .amber none [BitVec.ofNat 32 t.1.val]
    | none => s

/-! ## Running (R194, R195) -/

/-- The signal unit runs: powered, out of reset and not under test. -/
def State.suOn (s : State) : Bool :=
  s.life.domains.getLsbD 5 && !s.life.isolated.getLsbD 5 && !s.su.reset && !s.underTest.getLsbD 5 && s.clocksOn

/-- SU_ACTIVATION_RELEASE: a release while the previous run of the activation is unfinished waits for its end; a further one replaces it
and counts (R194, R195). -/
def execSuActivationRelease (a : Fin 40) (now : Ns) (s : State) : Out :=
  let s := s.at now
  let x := s.su.acts[a]
  let t := s.clk.lclk
  let d := t + s.actDeadline a
  let g := s.gt
  if !s.suOn ∨ !s.su.enabled.getLsbD a.val ∨ x.off then .next s
  else if x.pend ∨ x.active then
    let s := if x.wait.isSome then s.bump (0xFF01 + 2 * a.val) else s
    .next (s.modAct a fun x => { x with wait := some (t, d, g) })
  else
    .next (s.modAct a fun x => { x with pend := true, release := t, deadline := d, pendAt := g, missed := false,
                                        judged := false }).dispatch

/-- A run unfinished at its deadline counts once; a vehicle-cycle kernel raises its event, and its previous result serves in that cycle
(R195). -/
def State.judgeRun (s : State) (a : ActNo) : State :=
  let x := s.su.acts[a]
  let late := !x.judged && ((x.active && decide (x.runDl ≤ s.clk.lclk)) || (x.pend && !x.active && decide (x.deadline ≤ s.clk.lclk)))
  if late then
    let s := (s.bump (0xFF00 + 2 * a.val)).modAct a fun x => { x with judged := true }
    if s.actKind a = 2 then (s.modAct a fun x => { x with missed := true }).raise 0xF002 .amber none [BitVec.ofNat 32 a.val] else s
  else s

/-- SU_DEADLINE (R195). -/
def execSuDeadline (a : Fin 40) (now : Ns) (s : State) : Out := .next ((s.at now).judgeRun a)

/-! ## Results (R27, R88, R198, R229) -/

/-- The resolver kernel at a sample: the loop turns on by its speed over T_c, and a new measurement corrects it (R88, log entry 5). -/
def State.resolverRun (s : State) (l : AxisNo) : State :=
  let dt := s.tcQ l
  s.modAx l fun a =>
    let f := a.fb
    let n : Q := s.pn P.resPp l
    let x := fracQ (f.trkTheta + toRev (f.trkSpeed * n) * dt)
    let (y, w) := if f.resNew then Config.resTrack (s.pq P.resBw l) dt (x, f.trkSpeed * n) (ofQ23 f.resS, ofQ23 f.resC)
      else (x, f.trkSpeed * n)
    { a with fb := { f with trkTheta := fracQ y, trkSpeed := w / n, resNew := false } }

/-- The inputs of a vendor kernel: the observer's MOVCNT, bandwidth and step; the mean i_q that each available winding of a steered axle
publishes; the wheel speeds (R198, R206, R234). -/
def State.kernelInputs (s : State) (a : ActNo) : List Q :=
  let l := s.actAxis a
  if a.val < 16 then [((s.ax[l].fb.countsAt s.clk.lclk).2.toNat : Q), s.pq P.sigObsbw l, s.pn P.casN1 l * s.tcQ l]
  else if h : 24 ≤ a.val ∧ a.val < 27 then
    ((s.axleWind ⟨a.val - 24, by omega⟩).filter fun p => !s.windLost p).filterMap fun p =>
      (s.inB1 p).map fun b => (b1Field b (pkgAx p).val false : Q) / 100
  else if a.val = 27 then s.brake.vw.toList
  else []

/-- The result of an axis kernel: θ and speed of a resolver, the speed of an observer, with F_act for a caliper, or F_act alone. The
manual gives the observer no law; its result is free (log entry 5). -/
def State.deliverAxis (s : State) (a : ActNo) (l : AxisNo) (stamp : Int) : State :=
  if a.val < 8 then
    let s := s.resolverRun l
    s.deliverTo l (.angle s.ax[l].fb.trkTheta s.ax[l].fb.trkSpeed stamp)
  else if a.val < 16 then
    let y := Config.kernelOut a (s.kernelInputs a) s.free
    let s := s.tickFree.deliverTo l (.speed y stamp)
    if (s.wheel l).isSome then s.deliverTo l (.force (s.fAct l) stamp) else s
  else s.deliverTo l (.force (s.fAct l) stamp)

/-- What a finished run delivers; an integrator kernel has delivered by its DLVR instructions. A result that missed sig.vdl serves from the
cycle after (R195). -/
def State.deliverKernel (s : State) (a : ActNo) (stamp : Int) : State :=
  if h : a.val < 24 then s.deliverAxis a ⟨a.val % 8, Nat.mod_lt _ (by decide)⟩ stamp
  else if h : a.val < 32 then
    let x := Config.kernelOut a (s.kernelInputs a) s.free
    let k : Fin 8 := ⟨a.val - 24, by omega⟩
    let late := s.su.acts[a].missed && decide (s.life.cycStart ≤ s.su.acts[a].release)
    s.tickFree.modSu fun u => if late then { u with lateRes := vset u.lateRes k (some x) } else { u with results := vset u.results k x }
  else s

/-- The late results of the cycle that ends serve the supervisor once its functions have used the ones before (R195). -/
def State.lateServe (s : State) : State :=
  s.modSu fun u => { u with results := Vector.ofFn fun i => u.lateRes[i].getD u.results[i], lateRes := Vector.replicate 8 none }

/-- The rest of an integrator kernel's program, in at most as many instructions as its cycle limit admits (R189). -/
def State.finishKernel (s : State) (a : ActNo) : State :=
  if 32 ≤ a.val then s.runProg .su (s.pn P.sigUcmax 0 (a.val - 32) + 1) else s

/-- The cycles of the run that ends: counted for an integrator kernel; for a vendor kernel the manual gives a bound only, and the
figure is free (R198). -/
def State.runCycles (s : State) (a : ActNo) : Nat × State :=
  if 32 ≤ a.val then (s.su.eng.ctx.cycles, s) else (min (Config.vendorWork s.free) (s.actCycles a), s.tickFree)

/-- SU_KERNEL_HALT: the run ends and delivers, a late one counts, and the next begins (R194, R195). -/
def execSuKernelHalt (a : Fin 40) (now : Ns) (s : State) : Out :=
  let s := s.at now
  if !s.suOn ∨ s.running ≠ some a ∧ !(s.su.acts[a].active ∧ s.su.eng.ctx.act = some a) then .next s
  else
    let stamp := s.su.eng.ctx.release
    let s := (s.judgeRun a).finishKernel a
    let s := if s.su.eng.ctx.trap.isSome then s else s.deliverKernel a stamp
    let (n, s) := s.runCycles a
    let s := s.modAct a fun x => { x.endRun with last := n, longest := max x.longest n }
    .next (s.modSu fun u => { u with eng := u.eng.stop }).nextRun

/-! ## Loading code (R187, R188, R199, R200) -/

/-- The memory that ARG0 names. -/
def memOf (w : Word) : MemId :=
  let l : AxisNo := ⟨(w.toNat / 2 ^ 27) % 8, Nat.mod_lt _ (by decide)⟩
  match (w >>> 30).toNat with
  | 0 => .suProg | 1 => .suOper | 2 => .leProg l | _ => .leOper l

/-- The engine of a memory, and whether it is program memory. -/
def memEng : MemId → EngineId × Bool
  | .suProg => (.su, true) | .suOper => (.su, false) | .leProg l => (.loop l, true) | .leOper l => (.loop l, false)

/-- First integrator address and size of a memory (R173, R187). -/
def memBounds (m : MemId) : Nat × Nat :=
  let (e, p) := memEng m
  if p then (progLo e, progSize e) else (operLo e, operSize e)

/-- One word of a memory. -/
def State.memWord (s : State) (m : MemId) (a : Nat) : Word :=
  let (e, p) := memEng m
  if p then Cells.read (progD e) (s.eng e).prog a else Cells.read (operD e) (s.eng e).oper a

/-- One word written; the region is no longer committed (R200). -/
def State.memPut (s : State) (m : MemId) (a : Nat) (w : Word) : State :=
  let (e, p) := memEng m
  s.modEng e fun g =>
    if p then { g with prog := Cells.write (progD e) g.prog a w, progCrc := none }
    else { g with oper := Cells.write (operD e) g.oper a (w &&& 0x00FFFFFF), operCrc := none }

/-- A region in use: an integrator activation, or the attachment of its axis (R199). -/
def State.memBusy (s : State) (m : MemId) : Bool :=
  match (memEng m).1 with
  | .su => (List.range 8).any fun n => s.stored (P.sigUtrig.pid 0 n) != 0
  | .loop l => s.stored (P.leAttach.pid l.val 0) != 0

/-- The start address that ARG0 names. -/
def reqAddr (r : Req) : Nat := r.arg0.toNat % 65536

/-- OP_SU_WRITE (R199). -/
def specSuWrite : OpSpec := { opc := 0x0801, classes := [2], lo := 1 }
/-- One word per four payload bytes, inside an integrator region that is not in use. -/
def bodySuWrite : Body := fun r s =>
  let m := memOf r.arg0
  let (lo, hi) := memBounds m
  let a := reqAddr r
  if s.memBusy m then Ans.refuse s 0x30
  else if a < lo ∨ hi < a + r.payload.length then Ans.refuse s 0x31
  else Ans.ok (r.payload.zipIdx.foldl (fun s (w, i) => s.memPut m (a + i) w) s)
/-- OP_SU_WRITE. -/
def execOpSuWrite (r : Req) (s : State) : Out := .next (s.serve specSuWrite bodySuWrite r)

/-- OP_SU_READ (R199). -/
def specSuRead : OpSpec := { opc := 0x0802, classes := [2, 3] }
/-- COUNT words from any address of the memory. -/
def bodySuRead : Body := fun r s =>
  let m := memOf r.arg0
  let n := (r.arg0.toNat / 65536) % 16
  let a := reqAddr r
  if n = 0 ∨ 12 < n ∨ (memBounds m).2 < a + n then Ans.refuse s 0x31
  else Ans.ok s ((List.range n).map fun i => s.memWord m (a + i))
/-- OP_SU_READ. -/
def execOpSuRead (r : Req) (s : State) : Out := .next (s.serve specSuRead bodySuRead r)

/-- The words of an integrator region. -/
def State.region (s : State) (m : MemId) : List Word :=
  let (lo, hi) := memBounds m
  (addrs lo (hi - lo)).map (s.memWord m)

/-- The region a signal-unit address belongs to: in split mode each core holds half (R187). -/
def State.regionOf (s : State) (e : EngineId) (a : Nat) : Nat :=
  if a < progLo e then 0 else if s.split ∧ e = .su ∧ 0x1A00 ≤ a then 2 else 1

/-- A word the commit check refuses at an address (R188). `next` is the word after it, none at the end of the region. -/
def State.badWord (s : State) (e : EngineId) (a : Nat) (w : Word) (next : Option Word) : Bool :=
  let o := (w >>> 24).toNat
  let t := (w &&& 0x1FFF).toNat
  (decodeWord e w).isNone ||
    ((o == 2 || o == 3 || o == 4 || o == 7) && (decide (progSize e ≤ t) || s.regionOf e t != s.regionOf e a)) ||
    (o == 6 && (match next with | none => true | some x => decide (x >>> 28 = 0) || s.regionOf e (a + 1) != s.regionOf e a))

/-- The first offending address of a program region. -/
def State.firstBad (s : State) (e : EngineId) : Nat → List Word → Option Nat
  | _, [] => none
  | a, w :: r => if s.badWord e a w r.head? then some a else State.firstBad s e (a + 1) r

/-- OP_SU_COMMIT (R199). -/
def specSuCommit : OpSpec := { opc := 0x0803, classes := [2], lo := 1 }
/-- The CRC-32 of a region as it was last committed: of its words in flash, which are zero before the first commit (R200). -/
def State.regionCrc (s : State) (m : MemId) : Word :=
  let (e, p) := memEng m
  let (lo, hi) := memBounds m
  let g := s.eng e
  crc32 (bytesOf ((addrs lo (hi - lo)).map (Cells.read zeroD (if p then g.progFlash else g.operFlash))))
/-- The region is committed: stored in flash, part of the digest, and logged (R200, R417). -/
def State.commitRegion (s : State) (m : MemId) (crc : Word) (r : Req) : State :=
  let (e, p) := memEng m
  let old := s.regionCrc m
  let s := s.modEng e fun g =>
    if p then { g with progCrc := some crc, progFlash := g.prog, progFlashCrc := some crc }
    else { g with operCrc := some crc, operFlash := g.oper, operFlashCrc := some crc }
  s.logEntry r.src r.tag ((r.arg0 >>> 16) &&& 0xF800).toNat 1 old crc
/-- The check of R188 and the CRC; a failure names the first offending address, or FFFFFFFFh. -/
def bodySuCommit : Body := fun r s =>
  let m := memOf r.arg0
  let (e, p) := memEng m
  let ws := s.region m
  let crc := crc32 (bytesOf ws)
  match (if p then s.firstBad e (progLo e) ws else none) with
  | some a => { st := s, code := 0x31, slots := [[BitVec.ofNat 32 a]] }
  | none =>
    if crc ≠ r.payload.headD 0 then { st := s, code := 0x31, slots := [[0xFFFFFFFF]] }
    else Ans.ok (s.commitRegion m crc r)
/-- OP_SU_COMMIT. -/
def execOpSuCommit (r : Req) (s : State) : Out := .next (s.serve specSuCommit bodySuCommit r)

/-- OP_SU_STATUS (R199). -/
def specSuStatus : OpSpec := { opc := 0x0804, classes := [2, 3] }
/-- Five words for each activation in the order of R199 (log entry 25). -/
def bodySuStatus : Body := fun _ s =>
  { st := s
    slots := chunk12 20 ((fins 40).flatMap fun a =>
      [bitAt (s.su.enabled.getLsbD a.val) 0, s.counter (0xFF00 + 2 * a.val), s.counter (0xFF01 + 2 * a.val),
        BitVec.ofNat 32 s.su.acts[a].last, BitVec.ofNat 32 s.su.acts[a].longest]) }
/-- OP_SU_STATUS. -/
def execOpSuStatus (r : Req) (s : State) : Out := .next (s.serve specSuStatus bodySuStatus r)

end Sys2Proof.Machine
end

