-- ==== Sys2Proof/Machine/Vtb.lean ====
section
/-!
DEFINITION. The Vyzoca time bus: schedule, frames, transmission, reception, guardians, synchronisation and cold start (R339 to R380,
R407).
-/

namespace Sys2Proof.Machine

/-! ## Schedule (R348 to R350) -/

/-- An entry of the schedule: its slot, its start after the cycle start, ns, and its word. -/
structure SlotEnt where
  slot : Nat
  start : Nat
  word : Word
  deriving DecidableEq, Repr

/-- LENGTH in ns. -/
def slotLen (w : Word) : Nat := 100 * (w.toNat % 1024)
/-- CH: X in bit 0, Y in bit 1. -/
def slotCh (w : Word) : Nat := (w.toNat / 1024) % 4
/-- OWNER. -/
def slotOwner (w : Word) : Nat := (w.toNat / 4096) % 16
/-- KIND. -/
def slotKind (w : Word) : Nat := (w.toNat / 65536) % 4
/-- SYNC, ignored for a spare slot. -/
def slotSync (w : Word) : Bool := w.getLsbD 18 && slotOwner w != 7
/-- MUX and BASE: the slot is used in a cycle (R348). -/
def slotUsed (w : Word) (cyc : Nat) : Bool :=
  let r := (w.toNat / 2 ^ 19) % 8
  cyc % 2 ^ r == (w.toNat / 2 ^ 22) % 64 % 2 ^ r

/-- The entries from a slot on, up to the first with LENGTH = 0. -/
def State.schedFrom (s : State) : Nat → Nat → Nat → List SlotEnt
  | 0, _, _ => []
  | n + 1, i, t =>
    let w := s.pw P.vtbSlot 0 i
    if slotLen w = 0 then [] else ⟨i, t, w⟩ :: State.schedFrom s n (i + 1) (t + slotLen w)

/-- The schedule (R348). -/
def State.sched (s : State) : List SlotEnt := s.schedFrom 64 0 0

/-- A slot that leaves a NIT of 10 µs is used (R350). -/
def State.slotFits (s : State) (e : SlotEnt) : Bool := decide (e.start + slotLen e.word + 10000 ≤ s.vtbCycleNs)

/-- The slots in use, by the first finding of R350. -/
def State.slots (s : State) : List SlotEnt := s.sched.filter s.slotFits

/-- The entry of a slot. -/
def State.slotOf (s : State) (n : Nat) : Option SlotEnt := s.slots.find? fun e => e.slot == n

/-- The lane owns a slot. -/
def State.ownsSlot (s : State) (w : Word) : Bool := slotOwner w == s.idx.val + 1

/-- The entries that count as sync slots: the first eight (R350). -/
def State.syncSlots (s : State) : List SlotEnt := (s.sched.filter fun e => slotSync e.word).take 8

/-- The number that stands for the owner of a sync slot: a lane, or another node by its slot. -/
def syncKey (e : SlotEnt) : Nat :=
  let o := slotOwner e.word
  if 1 ≤ o ∧ o ≤ 6 then 64 + o else e.slot

/-- The start of the NIT after the cycle start: the end of the last slot in use, ns (R347). -/
def State.nitFrom (s : State) : Nat := (s.slots.map fun (e : SlotEnt) => e.start + slotLen e.word).foldl max 0

/-- The slot in which a time after the cycle start lies (R357). -/
def State.slotAt (s : State) (t : Int) : Option SlotEnt :=
  s.slots.find? fun e => decide ((e.start : Int) ≤ t ∧ t < (e.start + slotLen e.word : Nat))

/-- The lane's first sync slot (R346, R374). -/
def State.ownSync (s : State) : Option SlotEnt := s.syncSlots.find? fun e => s.ownsSlot e.word

/-- T_f of a frame of n bytes, ns (R343). -/
def State.frameNs (s : State) (n : Nat) : Nat := 50 * (s.pn P.vtbTss + 10 * n + 2)

/-- A frame of n bytes fits a slot (R349). -/
def State.fitsSlot (s : State) (w : Word) (n : Nat) : Bool := decide (s.frameNs n + 3500 ≤ slotLen w)

/-- Bytes of a frame of `len` payload words (R344). -/
def frameLen (len : Nat) (sync : Bool) : Nat := 8 + 4 * len + (if sync then 8 else 0)

/-- Payload words of a publication block as a message (R272, R355). -/
def blockLen (kind : Nat) : Nat := if kind = 1 then 15 else 12

/-- The findings of R350 with the first slot concerned: finding number and slot. -/
def State.schedFindings (s : State) : List (Nat × Nat) :=
  let all := s.sched
  let own := s.slots.filter fun e => s.ownsSlot e.word
  let f0 := (all.find? fun e => !s.slotFits e).map fun e => (0, e.slot)
  let f1 := (own.find? fun e => slotKind e.word != 3 && !s.fitsSlot e.word (frameLen (blockLen (slotKind e.word)) (slotSync e.word))).map
    fun e => (1, e.slot)
  let f2 := ((all.filter fun e => slotSync e.word)[8]?).map fun e => (2, e.slot)
  let c := s.vtbCycleNs
  let hit := fun (e : SlotEnt) (k w : Nat) => slotKind e.word == k &&
    (if c ≤ 1000000 then (List.range (1000000 / c)).any fun j => slotUsed e.word ((w * (1000000 / c) + j) % 64)
      else slotUsed e.word (w * 1000000 / c % 64) && e.start / 1000000 == w % (c / 1000000))
  let wins := if c = 0 then 0 else max 1 (64 * c / 1000000)
  let short := (List.range 3).filter fun k => (List.range wins).any fun w => !(own.any fun e => hit e k w)
  let f3 : Option (Nat × Nat) := if short.isEmpty then none
    else match own.find? fun e => short.contains (slotKind e.word) with
      | some e => some (3, e.slot)
      | none => some (3, 0x3F)
  let f4 : Option (Nat × Nat) := if (s.pw P.vtbCold).getLsbD s.idx.val && s.ownSync.isNone then some (4, 0x3F) else none
  f0.toList ++ f1.toList ++ f2.toList ++ f3.toList ++ f4.toList

/-- The events of the schedule at a start (R350). -/
def State.schedCheck (s : State) : State :=
  s.schedFindings.foldl (fun s (f, n) => s.raise 0xB001 .amber none [BitVec.ofNat 32 n, BitVec.ofNat 32 f]) s

/-! ## Frames (R344 to R346) -/

/-- The header word with its HCRC (R345). -/
def hdrWord (slot cyc : BitVec 6) (len : Nat) (null sync startup : Bool) : Word :=
  let w : Word := slot.setWidth 32 ||| (cyc.setWidth 32 <<< 6) ||| (BitVec.ofNat 32 len <<< 12) ||| bitAt null 17 ||| bitAt sync 18 |||
    bitAt startup 19
  w ||| ((crc8 ((wordBytes w).take 3)).setWidth 32 <<< 24)

/-- A frame (R344). -/
def vtbFrame (slot cyc : BitVec 6) (null startup : Bool) (cst : Option Int) (pl : List Word) : List Byte :=
  let b := bytesOf (hdrWord slot cyc pl.length null cst.isSome startup :: ((cst.map fun t => [loW t, hiW t]).getD [] ++ pl))
  b ++ wordBytes (crc32c b)

/-- A frame taken apart: slot, cycle, LEN, NULL, SYNC, STARTUP, CST and payload. -/
structure VtbHdr where
  slot : BitVec 6
  cyc : BitVec 6
  len : Nat
  null : Bool
  sync : Bool
  startup : Bool
  cst : Int
  payload : List Word
  deriving DecidableEq, Repr

/-- The header of a frame whose HCRC and LEN are good and whose bytes are as many as it says (R345, R357). -/
def parseHdr (bs : List Byte) : Option VtbHdr :=
  let ws := wordsOf bs
  let w := ws.headD 0
  let len := (w.toNat / 4096) % 32
  let sync := w.getLsbD 18
  if crc8 (bs.take 3) = (w >>> 24).setWidth 8 ∧ len ≤ 16 ∧ bs.length = frameLen len sync then
    some { slot := w.setWidth 6, cyc := (w >>> 6).setWidth 6, len := len, null := w.getLsbD 17, sync := sync, startup := w.getLsbD 19,
           cst := if sync then int64 (ws.getD 1 0) (ws.getD 2 0) else 0,
           payload := ((ws.drop (if sync then 3 else 1)).take len) }
  else none

/-- FCRC is good (R344). -/
def frameCrcOk (bs : List Byte) : Bool := bytesOf [crc32c (bs.take (bs.length - 4))] == bs.drop (bs.length - 4)

/-! ## Bits and samples (R341, R342) -/

/-- A byte, most significant bit first. -/
def msbFirst (b : Byte) : List Bool := (List.range 8).map fun i => b.getLsbD (7 - i)

/-- The bits of a frame: TSS, a byte-start pair before each byte, and the frame end sequence (R342). -/
def vtbBits (tss : Nat) (bs : List Byte) : List Bool :=
  List.replicate tss false ++ bs.flatMap (fun b => true :: false :: msbFirst b) ++ [false, true]

/-- The bits as driven: each with its length in ns, 48 and 52 in turn (R341). -/
def vtbWave (bits : List Bool) : List (Nat × Bool) := bits.zipIdx.map fun (b, i) => (if i % 2 = 0 then 48 else 52, b)

/-- Bit `j` after the falling edge of a byte-start pair: the majority of the three samples nearest its centre (R341). The idle level follows
the last sample. -/
def rxBit (r : List Bool) (j : Nat) : Bool :=
  let c := (27 + 50 * j) / 4
  let n := (r.drop (c - 1)).take 3
  decide (2 ≤ (n ++ List.replicate (3 - n.length) true).countP id)

/-- The bytes from the falling edge of a byte-start pair on: eight bits most significant first, then a byte-start pair at whose falling edge,
within half a bit of its place, the bit clock is realigned, or the frame end sequence (R341, R342). -/
def rxBytes : Nat → List Bool → Option (List Byte)
  | 0, _ => none
  | n + 1, r =>
    let b : Byte := (List.range 8).foldl (fun (x : Byte) i => (x <<< 1) ||| (if rxBit r (i + 1) then 1 else 0)) 0
    if rxBit r 0 then none
    else if rxBit r 9 then
      let k := 119 + ((r.drop 119).takeWhile id).length
      if 131 < k then none else (rxBytes n (r.drop k)).map (b :: ·)
    else if rxBit r 10 then some [b] else none

/-- A received frame: the time of the falling edge of its first byte-start pair after the first sample, ns, and its bytes, none where the
coding of R342 is broken; a TSS of 2 to vtb.tss + 1 bits is accepted. -/
def State.vtbRead (s : State) (f : VtbIn) : Nat × Option (List Byte) :=
  let lo := (f.samples.takeWhile (!·)).length
  let hi := ((f.samples.drop lo).takeWhile id).length
  let n := (4 * lo + 25) / 50
  let ok := decide (2 ≤ n ∧ n ≤ s.pn P.vtbTss + 1 ∧ (4 * hi + 25) / 50 = 1)
  (4 * (lo + hi), if ok then rxBytes f.samples.length (f.samples.drop (lo + hi)) else none)

/-- The local time of the frame start: t_ref − (vtb.tss + 1) × 50 ns − vtb.delay (R357). -/
def State.frameStart (s : State) (f : VtbIn) : Ns := f.first + (s.vtbRead f).1 - (s.pn P.vtbTss + 1) * 50 - s.pn P.vtbDelay

/-! ## Channels and states (R360 to R363, R370, R371) -/

/-- The number of a channel. -/
def chanNo : Chan → Fin 2
  | .x => 0 | .y => 1

/-- One channel changed. -/
def State.modChan (s : State) (c : Fin 2) (f : VChan → VChan) : State := s.modVtb fun v => { v with chan := vmod v.chan c f }

/-- STATE of VTBSTAT (R370). -/
def VtbSt.code : VtbSt → Word
  | .off => 0 | .listen => 1 | .coldstart => 2 | .integrate => 3 | .sync => 4 | .passive => 5

/-- The global-time line goes on from its present count where the node leaves its grid for a state: the grid bends it no more (R367). -/
def State.anchor (s : State) (t : VtbSt) : State :=
  if s.vtb.follows && !{ s.vtb with st := t }.follows then
    let g := s.gt
    s.modClk fun c => { c with gbase := g, lbase := c.lclk }
  else s

/-- The VTB enters a state, with the events of entering and leaving SYNC; CSATT clears in SYNC, LISTEN restarts its timeout, and OFF
takes the channels down (R363, R371, R375). -/
def State.vtbTo (s : State) (t : VtbSt) : State :=
  let o := s.vtb.st
  let s := s.anchor t
  let s := s.modVtb fun v => { v with st := t, okRun := 0, syncLost := 0, passRun := 0, exceedRuns := 0,
                                      csatt := if t = .sync then 0 else v.csatt,
                                      listenAt := if t = .listen then s.clk.lclk else v.listenAt }
  let s := if t = .off then s.modVtb fun v => { v with chan := v.chan.map fun (c : VChan) => { c with up := false, silent := 0 } } else s
  if t = .sync ∧ o ≠ .sync then s.raise 0xB005 .grey none []
  else if o = .sync ∧ t ≠ .sync then s.raise 0xB006 .amber none [t.code]
  else s

/-- A channel goes down from up (R363). -/
def State.chanDown (s : State) (c : Fin 2) : State :=
  if s.vtb.chan[c].up then
    (s.modChan c fun x => { x with up := false, silent := 0 }).raise 0xB003 .amber none [BitVec.ofNat 32 c.val]
  else s

/-- A valid frame of another node on a channel: it comes up, unless its guardian has disabled it (R363). -/
def State.chanHeard (s : State) (c : Fin 2) : State :=
  let x := s.vtb.chan[c]
  let s := s.modChan c fun x => { x with heard := true, silent := 0 }
  if !x.up && !x.gd then (s.modChan c fun x => { x with up := true }).raise 0xB004 .grey none [BitVec.ofNat 32 c.val] else s

/-- A guardian disables its channel: 0 attempts, 1 marks, 2 schedule CRC; only the marks can enable it again (R360 to R362). -/
def State.guardOff (s : State) (c : Fin 2) (cause : Nat) : State :=
  let was := s.vtb.chan[c].gd
  let s := s.modChan c fun x => { x with gd := true, gdHard := x.gdHard || decide (cause ≠ 1) }
  let s := if was then s else s.raise 0xB002 .amber none [BitVec.ofNat 32 c.val, BitVec.ofNat 32 cause]
  s.chanDown c

/-- The counter index of a channel (R507). -/
def chanCnt (c : Fin 2) (k : Nat) : Nat := 0xB000 + 256 * c.val + k

/-- GUARDIAN_ATTEMPT (R362). -/
def State.guardAttempt (s : State) (c : Fin 2) : State :=
  let s := (s.bump (chanCnt c 3)).modChan c fun x => { x with attempts := x.attempts + 1 }
  if s.pn P.vtbGdn ≤ s.vtb.chan[c].attempts ∧ !s.vtb.chan[c].gdHard then s.guardOff c 0 else s

/-- The LINK domain works, and the VTB is not OFF. -/
def State.vtbOn (s : State) : Bool := s.linkOn && !s.underTest.getLsbD 6 && s.vtb.st != VtbSt.off

/-- The guardian of a channel opens its driver at this time: in a slot that the lane owns in the cycle, from 1 µs before the action point to
0.5 µs before the slot end, and around the announcement of a cold start (R359, R374, log entry 48). -/
def State.guardOpen (s : State) (c : Fin 2) : Bool :=
  let t := s.gt - s.vtb.cst
  let ann := s.vtb.st == VtbSt.coldstart && s.vtb.first
  let grid := s.vtb.follows || ann
  grid && s.slots.any fun e =>
    decide ((slotCh e.word / 2 ^ c.val) % 2 = 1) && ((s.ownsSlot e.word && slotUsed e.word s.vtb.cyc.toNat) || (ann && e.slot == 0)) &&
      decide (((e.start + 1000 : Nat) : Int) ≤ t ∧ t + 500 ≤ ((e.start + slotLen e.word : Nat) : Int))

/-- GUARDIAN_ATTEMPT: TXEN outside every window (R362). -/
def execGuardianAttempt (ch : Chan) (now : Ns) (s : State) : Out :=
  let s := s.at now
  .next (if s.linkOn && !s.guardOpen (chanNo ch) then s.guardAttempt (chanNo ch) else s)

/-- The CRC-32 over the schedule table (R361). -/
def State.schedCrc (s : State) : Word := crc32 (bytesOf ((List.range 64).map fun i => s.pw P.vtbSlot 0 i))

/-- GUARDIAN_SCHEDULE_CRC: a guardian's copy that is not the table disables its channel until the next start (R361). -/
def execGuardianScheduleCrc (ch : Chan) (crc : Word) (now : Ns) (s : State) : Out :=
  let s := s.at now
  .next (if s.linkOn ∧ crc ≠ s.schedCrc ∧ !s.vtb.chan[chanNo ch].gdHard then s.guardOff (chanNo ch) 2 else s)

/-- A channel silent for 8 consecutive cycles of SYNC (R363). -/
def State.chanSilent (s : State) (c : Fin 2) : State :=
  if s.vtb.st = .sync ∧ 8 ≤ s.vtb.chan[c].silent then s.chanDown c else s

/-- VTB_CHANNEL_DOWN (R363). -/
def execVtbChannelDown (ch : Chan) (now : Ns) (s : State) : Out := .next ((s.at now).chanSilent (chanNo ch))

/-- No sync frame of another node in 8 consecutive cycles (R371). -/
def State.syncGone (s : State) : State :=
  if (s.vtb.st = .sync ∨ s.vtb.st = .passive) ∧ 8 ≤ s.vtb.syncLost then s.vtbTo .listen else s

/-- Two consecutive exceeding rounds take the node out of the sync set (R368). -/
def State.exceedOut (s : State) : State :=
  if s.vtb.st = .sync ∧ 2 ≤ s.vtb.exceedRuns then s.vtbTo .passive else s

/-- VTB_SYNC_LOST (R368, R371). -/
def execVtbSyncLost (now : Ns) (s : State) : Out := .next (s.at now).exceedOut.syncGone

/-! ## Sending (R351, R356, R375) -/

/-- A collision of a coldstart node: CSATT counts, and the node listens; the eighth ends its announcements (R375, R376). -/
def State.coldCollide (s : State) : State :=
  let n := min 8 (s.vtb.csatt.toNat + 1)
  let s := ((s.modVtb fun v => { v with csatt := BitVec.ofNat 4 n }).modLife fun f => { f with reason := f.reason ||| 0x10 }).vtbTo .listen
  if n = 8 ∧ !s.vtb.csabort then (s.modVtb fun v => { v with csabort := true }).raise 0xB007 .amber none [] else s

/-- A committed block as it is written to the bus: a lane without authority clears AUTH (R328). -/
def State.blockNow (s : State) (pl : List Word) : List Word :=
  if s.auth then pl else match pl with | [] => [] | w :: r => (w &&& ~~~1) :: r

/-- The block of a publication slot that starts at a global time: a message of the lane's connection, in the first slot of its kind in
the vehicle cycle that it was committed for, and only when the commit came before the slot's start (R351). -/
def State.blockData (s : State) (k : Fin 3) (start : Int) (fits : Nat → Bool) : Option (List Word) × State :=
  let c := start / 1000000
  let ready := s.life.st.operating && !s.split && s.vote.commitFor == c && s.vtb.slotSeen[k] != some c &&
    decide (s.life.cycEnd / 8 < s.localOf start / 8)
  let s := s.modVtb fun v => { v with slotSeen := vset v.slotSeen k (some c) }
  match s.vote.commit[k] with
  | none => (none, s)
  | some pl =>
    if !ready || !fits (pl.length + 3) then (none, s)
    else
      let pl := s.blockNow pl
      let t := s.nov.own.next (s.pn P.nvPubcid + s.idx.val) s.gtUs pl
      let s := (s.modNov fun n => { n with own := t }).modVtb fun v => { v with sentBlk := vset v.sentBlk k true }
      (some (wordsOf t.msg), s.modVote fun v => { v with commit := vset v.commit k (some pl) })

/-- Descriptor word 0 of a network slot. -/
def QEntry.desc (e : QEntry) : Word := e.slot.getD 4 0

/-- LEN of a VTB descriptor. -/
def descLen (w : Word) : Nat := (w.toNat / 4096) % 32

/-- The first message of the VTB TX queue that fits, with the entries that stay; a first slot without its second, or a broken
descriptor, is dropped (R356, R407). -/
def takeTx (fits : Nat → Bool) : Nat → List QEntry → Option (List Word) × List QEntry × Nat
  | 0, es => (none, es, 0)
  | _, [] => (none, [], 0)
  | n + 1, e :: r =>
    let w := e.desc
    let len := descLen w
    let body := (e.slot.drop 6).take 10
    if w.getLsbD 17 ∨ 16 < len then
      let (m, q, k) := takeTx fits n r
      (m, q, k + 1)
    else if len ≤ 10 then
      if fits len then (some (body.take len), r, 0)
      else
        let (m, q, k) := takeTx fits n r
        (m, e :: q, k)
    else match r with
      | [] => (none, [e], 0)
      | e2 :: r2 =>
        if !e2.desc.getLsbD 17 then
          let (m, q, k) := takeTx fits n (e2 :: r2)
          (m, q, k + 1)
        else if fits len then (some ((body ++ e2.slot.drop 6).take len), r2, 0)
        else
          let (m, q, k) := takeTx fits n r2
          (m, e :: e2 :: q, k)

/-- The message of a TX-queue slot (R356). -/
def State.txData (s : State) (fits : Nat → Bool) : Option (List Word) × State :=
  let q := s.mb.queues[(10 : Fin 16)]
  let (m, es, k) := takeTx fits 40 q.entries
  let gone := q.entries.length - es.length
  let s := s.modMb fun b => { b with queues := vmod b.queues 10 fun x =>
    { x with entries := es, rptr := (x.rptr + gone) % 32, dropped := x.dropped && !es.isEmpty } }
  (m, s.bumpN 0xBF00 k)

/-- The channels of a slot whose guardians pass its frame (R339, R359). -/
def State.openChans (s : State) (ch : Nat) : List (Fin 2) :=
  (fins 2).filter fun c => !s.vtb.chan[c].gd && decide ((ch / 2 ^ c.val) % 2 = 1)

/-- Every bit came back as sent on the channels that carry the frame (R375). -/
def State.echoOk (s : State) (ch : Nat) (echo : Vector (List Bool) 2) (bs : List Byte) : Bool :=
  (s.openChans ch).all fun c => echo[c] == vtbBits (s.pn P.vtbTss) bs

/-- The lane sends in a slot it owns; a guardian that has disabled its channel passes nothing (R351, R356, R359). -/
def State.sendSlot (s : State) (e : SlotEnt) (echo : Vector (List Bool) 2) : State :=
  let sync := s.syncSlots.contains e
  let cold := decide (s.vtb.st = .coldstart)
  let fits := fun (len : Nat) => s.fitsSlot e.word (frameLen len sync)
  if (s.openChans (slotCh e.word)).isEmpty then s
  else
    let (data, s) : Option (List Word) × State :=
      match slotKind e.word with
      | 3 => s.txData fits
      | k => s.blockData ⟨k % 3, Nat.mod_lt _ (by decide)⟩ (s.vtb.cst + e.start) fits
    if data.isNone ∧ !fits 0 then s
    else
      let f := vtbFrame (BitVec.ofNat 6 e.slot) s.vtb.cyc data.isNone (sync && cold) (if sync then some s.vtb.cst else none)
        (data.getD [])
      let s := s.modVtb fun v => { v with sent := some (BitVec.ofNat 6 e.slot, f), sentSync := v.sentSync || sync }
      if sync && cold && !s.echoOk (slotCh e.word) echo f then s.coldCollide else s

/-- VTB_SLOT_TRANSMIT: the action point of a slot of the lane, to a LINK tick, in COLDSTART past its announcement, or in SYNC (R349, R356,
R371, R374). -/
def State.slotTransmit (s : State) (slot : BitVec 6) (echo : Vector (List Bool) 2) : State :=
  match s.slotOf slot.toNat with
  | none => s
  | some e =>
    let may := s.vtb.st == VtbSt.sync || (s.vtb.st == VtbSt.coldstart && !s.vtb.first)
    let t := s.gt - (s.vtb.cst + e.start + 2000)
    if s.vtbOn && may && s.ownsSlot e.word && slotUsed e.word s.vtb.cyc.toNat && decide (t.natAbs < 8) then s.sendSlot e echo else s

/-- VTB_SLOT_TRANSMIT. -/
def execVtbSlotTransmit (slot : BitVec 6) (echo : Vector (List Bool) 2) (now : Ns) (s : State) : Out :=
  .next ((s.at now).slotTransmit slot echo)

/-! ## Receiving (R357, R358, R364, R372, R407) -/

/-- The two slots of a received payload (R407). -/
def rxSlots (slot cyc : BitVec 6) (x y : Bool) (start : Word) (pl : List Word) : List QEntry :=
  let d := fun (seg : Bool) (ws : List Word) =>
    (⟨.spi, mkLaneSlot (8 + 4 * ws.length) 0
      ((slot.setWidth 32 ||| (cyc.setWidth 32 <<< 6) ||| (BitVec.ofNat 32 pl.length <<< 12) ||| bitAt seg 17 ||| bitAt x 18 ||| bitAt y 19) ::
        start :: ws)⟩ : QEntry)
  if pl.length ≤ 10 then [d false pl] else [d false (pl.take 10), d true (pl.drop 10)]

/-- A payload for the VTB RX queue. The X copy is the one queued; Y is set beside it only for an equal copy (R407). -/
def State.rxQueue (s : State) (ch : Chan) (h : VtbHdr) (bs : List Byte) (start : Word) : State :=
  let key := h.slot.setWidth 32 ||| (h.cyc.setWidth 32 <<< 6)
  let mine := fun (e : QEntry) => e.desc &&& 0xFFF == key
  let swap := fun (s : State) (es : List QEntry) =>
    s.modMb fun b => { b with queues := vmod b.queues 11 fun q =>
      { q with entries := q.entries.filter (fun e => !mine e) ++ (if q.entries.any mine then es else []) } }
  match s.vtb.rxCopy with
  | some (sl, c, old) =>
    if sl = h.slot ∧ c ≠ ch then
      let same := old == bs
      let s := s.modVtb fun v => { v with rxCopy := none }
      if ch = .x then swap s (rxSlots h.slot h.cyc true same start h.payload)
      else if same then swap s (rxSlots h.slot h.cyc true true start h.payload)
      else s
    else
      (rxSlots h.slot h.cyc (decide (ch = .x)) (decide (ch = .y)) start h.payload).foldl (fun s e => s.push 11 e)
        (s.modVtb fun v => { v with rxCopy := some (h.slot, ch, bs) })
  | none =>
    (rxSlots h.slot h.cyc (decide (ch = .x)) (decide (ch = .y)) start h.payload).foldl (fun s e => s.push 11 e)
      (s.modVtb fun v => { v with rxCopy := some (h.slot, ch, bs) })

/-- A valid data frame is delivered: publications and receive connections to the Novmi checks, the rest to the RX queue (R358, R378). -/
def State.vtbDeliver (s : State) (ch : Chan) (e : SlotEnt) (h : VtbHdr) (bs : List Byte) (start : Word) : State :=
  let o := slotOwner e.word
  let k := slotKind e.word
  let m := bytesOf h.payload
  if hk : 1 ≤ o ∧ o ≤ 6 ∧ k < 3 then
    if o = s.idx.val + 1 then s else s.pubReceive ⟨o - 1, by omega⟩ ⟨k, hk.2.2⟩ m
  else match s.connOf (nvCid m) with
    | some c => s.nvReceive c m
    | none => s.rxQueue ch h bs start

/-- Check 5 of R357. -/
def State.lenOk (s : State) (e : SlotEnt) (h : VtbHdr) : Bool :=
  let o := slotOwner e.word
  let k := slotKind e.word
  if h.null then h.len == 0
  else if 1 ≤ o ∧ o ≤ 6 ∧ k < 3 then h.len == blockLen k
  else s.fitsSlot e.word (frameLen h.len h.sync)

/-- A frame that starts in a slot of the grid passes checks 1 to 6, or fails with its counter (R357). -/
def State.vtbChecks (s : State) (e : SlotEnt) (dev : Int) (bs : Option (List Byte)) : Sum Nat VtbHdr :=
  if dev < -1000 ∨ 1000 < dev then .inl 0
  else match bs with
    | none => .inl 1
    | some bs =>
      match parseHdr bs with
      | none => .inl 1
      | some h =>
        if h.slot ≠ BitVec.ofNat 6 e.slot ∨ h.cyc ≠ s.vtb.cyc ∨ (h.sync ∧ h.cst ≠ s.vtb.cst) then .inl 2
        else if !s.lenOk e h then .inl 2
        else if !frameCrcOk bs then .inl 1
        else .inr h

/-- A valid frame of the grid: the channel is heard, a sync frame gives its deviation, and a data frame is delivered; the lane's own frames
are no other node's (R358, R363, R364, R371). -/
def State.vtbValid (s : State) (ch : Chan) (e : SlotEnt) (h : VtbHdr) (dev : Int) (bs : List Byte) : State :=
  if s.ownsSlot e.word then s
  else
    let s := s.chanHeard (chanNo ch)
    let start := BitVec.ofInt 32 (s.vtb.cst + e.start + 2000 + dev)
    let s := if h.sync && s.syncSlots.contains e && !s.vtb.first then
        s.modVtb fun v => { v with dev := v.dev ++ [(syncKey e, dev)], otherSync := true }
      else s
    if h.null ∨ s.vtb.st = .integrate then s else s.vtbDeliver ch e h bs start

/-- A frame on a grid the node follows; one that starts in no slot meets no check (R357, R358, R364). -/
def State.vtbGrid (s : State) (ch : Chan) (f : VtbIn) : State :=
  let t := s.gtAt (s.frameStart f) - s.vtb.cst
  match s.slotAt t with
  | none => s
  | some e =>
    let dev := t - (e.start + 2000)
    let bs := (s.vtbRead f).2
    match s.vtbChecks e dev bs with
    | .inl k => s.bump (chanCnt (chanNo ch) k)
    | .inr h => s.vtbValid ch e h dev (bs.getD [])

/-- The adoption of a grid and of the network's time from a frame that has just ended: its start is the action point of its slot (R372,
R373). -/
def State.adopt (s : State) (h : VtbHdr) (at_ : Ns) (start : Nat) : State :=
  let g := s.gt
  let nit := s.nitFrom
  let s := s.modClk fun c => { c with gbase := h.cst + start + 2000, lbase := at_ }
  let s := s.vtbTo .integrate
  let s := s.modVtb fun v => { v with cyc := h.cyc, cst := h.cst, nitStart := nit, first := true, dev := [], vals := [], applied := 0,
                                      otherSync := false, sentSync := false, rxCopy := none }
  let step := s.gt - g
  if step < 0 then s.raise 0xB008 .amber none [loW step, hiW step] else s

/-- A frame met in LISTEN: its coding, header, length and CRC, but no timing. An announcement or a sync frame whose CST and CYC agree is
adopted (R372). -/
def State.vtbListen (s : State) (ch : Chan) (f : VtbIn) : State :=
  let bs := (s.vtbRead f).2.getD []
  match parseHdr bs with
  | none => s
  | some h =>
    let c := s.vtbCycleNs
    let ann := h.null && h.sync && h.startup && h.cyc == 0 && h.len == 0
    let e := s.slotOf h.slot.toNat
    let long := match e with | some e => s.lenOk e h | none => ann
    if !frameCrcOk bs ∨ !long then s
    else
      let s := s.chanHeard (chanNo ch)
      let fit := h.sync && decide (c ≠ 0 ∧ h.cst % c = 0 ∧ (h.cst / c) % 64 = h.cyc.toNat)
      let start := if ann then some 0 else e.map SlotEnt.start
      match start with
      | some t => if fit then s.adopt h (s.frameStart f) t else s
      | none => s

/-- VTB_FRAME_RECEIVED (R357, R372). -/
def execVtbFrameReceived (ch : Chan) (f : VtbIn) (now : Ns) (s : State) : Out :=
  let s := s.at now
  .next (if !s.vtbOn then s else if s.vtb.st = .listen then s.vtbListen ch f else s.vtbGrid ch f)

/-! ## Synchronisation (R364 to R368) -/

/-- The drift of each node with a value in this cycle and the one before (R366). -/
def drifts (applied : Q) (now prev : List (Nat × Q)) : List Q :=
  now.filterMap fun (k, d) => (prev.find? fun p => p.1 == k).map fun p => d - p.2 + applied

/-- Offset and rate at the end of a cycle, and whether the cycle exceeded the limits; the global-time line goes on from its present count
with the new rate (R365 to R368, R370). -/
def State.correct (s : State) : State :=
  let v := s.vtb
  let vals := v.syncVals
  let o := v.needed
  let ap := s.nitOffset
  let g := s.gt
  let raw := s.clk.rate - 1 / 2 * divF (trimmed (drifts v.applied vals v.vals)) (s.vtbCycleNs : Q)
  let bad := decide (2000 < |o| ∨ 1 / 2000 < |raw|)
  let s := s.modClk fun c => { c with rate := clampQ raw (-1 / 2000) (1 / 2000), gbase := g, lbase := c.lclk }
  s.modVtb fun v => { v with nsync := min 8 vals.length, offs := o, applied := ap, vals := vals, exceed := v.exceed || bad }

/-- The end of a round: the exceeding rounds and the attempts of the guardians (R362, R368). -/
def State.roundEnd (s : State) : State :=
  let s := s.modVtb fun v => { v with exceedRound := v.exceed, exceedRuns := if v.exceed then v.exceedRuns + 1 else 0, exceed := false,
                                      chan := v.chan.map fun (c : VChan) => { c with attempts := 0 } }
  s.exceedOut

/-- The changes of state that the cycle that ends calls for (R371). Its first, partial cycle calls for none. -/
def State.vtbStep (s : State) : State :=
  let v := s.vtb
  if v.first then s
  else
    let ok := v.otherSync
    let calm := decide (|v.offs| ≤ 2000)
    let s := s.modVtb fun v => { v with okRun := if ok then v.okRun + 1 else 0, syncLost := if ok then 0 else v.syncLost + 1,
                                        passRun := if ok && calm then v.passRun + 1 else 0 }
    match v.st with
    | .coldstart => if 2 ≤ s.vtb.okRun then s.vtbTo .sync else s
    | .integrate => if !ok then s.vtbTo .listen else if 2 ≤ s.vtb.okRun then s.vtbTo .sync else s
    | .passive => if 2 ≤ s.vtb.passRun then s.vtbTo .sync else s.syncGone
    | .sync => s.syncGone
    | _ => s

/-- The guardian accepts a start mark: its ticks of nominally 10 ns lie within 2 % of vtb.cycle, and the scale differs from the previous one by
at most 0.1 % (R360). -/
def State.markOk (s : State) (c : Fin 2) (ticks : Nat) : Bool :=
  let n := s.vtbCycleNs
  decide (50 * (10 * (ticks : Int) - n).natAbs ≤ n) &&
    (match s.vtb.chan[c].scale with | some p => decide (1000 * ((p : Int) - ticks).natAbs ≤ ticks) | none => true)

/-- A channel at a cycle start: a silent cycle of SYNC counts, and the guardian judges the start mark (R360, R363). -/
def State.chanCycle (s : State) (c : Fin 2) (ticks : Nat) : State :=
  let inSync := decide (s.vtb.st = .sync)
  let ok := s.markOk c ticks
  let s := s.modChan c fun x =>
    { x with silent := if inSync && !x.heard then x.silent + 1 else 0, heard := false, scale := if ok then some ticks else x.scale,
             rejected := if ok then 0 else x.rejected + 1, accepted := if ok && inSync then x.accepted + 1 else 0 }
  let s := s.chanSilent c
  let x := s.vtb.chan[c]
  if 4 ≤ x.rejected ∧ !x.gd then s.guardOff c 1
  else if x.gd ∧ !x.gdHard ∧ 2 ≤ x.accepted then s.modChan c fun x => { x with gd := false }
  else s

/-- The next cycle of the grid begins; global time stands at a multiple of vtb.cycle (R347, R366, R367). -/
def State.cycleStart (s : State) : State :=
  let t := s.vtb.cst + s.vtbCycleNs
  s.modVtb fun v => { v with cyc := v.cyc + 1, cst := t, first := false, dev := [], sentSync := false, otherSync := false, rxCopy := none }

/-- A cycle ends and the next begins: the corrections, the states and the channels; the last cycle of a round ends the round (R360, R363 to
R371). -/
def State.vtbTurn (s : State) (ticks : Vector Nat 2) : State :=
  let s := if s.vtb.first then s else s.correct
  let s := s.vtbStep
  let s := forFin 2 (fun c s => s.chanCycle c ticks[c]) s
  let s := s.cycleStart
  if s.vtb.cyc = 0 then s.roundEnd else s

/-- VTB_CYCLE_START, once global time has reached the end of the cycle (R347). -/
def execVtbCycleStart (ticks : Vector Nat 2) (now : Ns) (s : State) : Out :=
  let s := s.at now
  .next (if !s.vtbOn ∨ s.vtb.st = .listen ∨ s.gt < s.vtb.cst + s.vtbCycleNs then s else s.vtbTurn ticks)

/-! ## Cold start (R374 to R376) -/

/-- The lane is a coldstart node that has not given up (R374, R376). -/
def State.coldNode (s : State) : Bool := (s.pw P.vtbCold).getLsbD s.idx.val && s.ownSync.isSome && !s.vtb.csabort

/-- The listen timeout, ns. -/
def State.listenNs (s : State) : Nat := 2 * s.vtbCycleNs + 1000 * s.pn P.vtbCsoff 0 s.idx.val

/-- COLDSTART_TIMEOUT: cycle 0 starts at the next multiple of 64 cycles, and the announcement goes out on every channel whose guardian
admits it (R374, R375). -/
def State.coldTimeout (s : State) (echo : Vector (List Bool) 2) : State :=
  match s.ownSync with
  | none => s
  | some e =>
    if !s.vtbOn ∨ s.vtb.st ≠ .listen ∨ !s.coldNode ∨ !s.since s.vtb.listenAt s.listenNs then s
    else
      let r : Int := 64 * s.vtbCycleNs
      let t := if r = 0 then s.gt else -(-s.gt / r) * r
      let slot := BitVec.ofNat 6 e.slot
      let f := vtbFrame slot 0 true true (some t) []
      let nit := s.nitFrom
      let s := s.modClk fun c => { c with gbase := t, lbase := c.lclk }
      let s := s.vtbTo .coldstart
      let s := s.modVtb fun v => { v with cyc := 0, cst := t, nitStart := nit, first := true, dev := [], vals := [], applied := 0,
                                          sentSync := false, otherSync := false, rxCopy := none, sent := some (slot, f) }
      if s.echoOk 3 echo f && !(s.openChans 3).isEmpty then s else s.coldCollide

/-- COLDSTART_TIMEOUT. -/
def execColdstartTimeout (echo : Vector (List Bool) 2) (now : Ns) (s : State) : Out := .next ((s.at now).coldTimeout echo)

/-- VTB_BUS_ACTIVITY_END: a listening node restarts its timeout (R374). -/
def execVtbBusActivityEnd (now : Ns) (s : State) : Out :=
  let s := s.at now
  .next (if s.vtb.st = .listen then s.modVtb fun v => { v with listenAt := s.clk.lclk } else s)

/-! ## Status (R379, R380) -/

/-- VTBSTAT (R379). -/
def State.vtbstat (s : State) : Word :=
  let v := s.vtb
  (v.st.code <<< 28) ||| (v.cyc.setWidth 32 <<< 22) ||| (BitVec.ofNat 32 v.nsync <<< 18) ||| bitAt v.chan[(0 : Fin 2)].up 17 |||
    bitAt v.chan[(1 : Fin 2)].up 16 ||| bitAt v.chan[(0 : Fin 2)].gd 15 ||| bitAt v.chan[(1 : Fin 2)].gd 14 ||| bitAt v.csabort 13 |||
    bitAt v.exceedRound 12 ||| (v.csatt.setWidth 32 <<< 8)

/-- VTBCORR (R380). -/
def State.vtbcorr (s : State) : Word :=
  let r : BitVec 16 := BitVec.ofInt 16 (roundQ (s.clk.rate * 50000000))
  let o : BitVec 16 := BitVec.ofInt 16 (max (-32767) (min 32767 (roundQ s.vtb.offs)))
  (r.setWidth 32 <<< 16) ||| o.setWidth 32

/-- OP_VTB_STATUS (R409). -/
def specVtbStatus : OpSpec := { opc := 0x0901, classes := [3] }
/-- VTBSTAT, VTBCORR and the counters of R380, channel X first (log entry 25). -/
def bodyVtbStatus : Body := fun _ s =>
  Ans.ok s ([s.vtbstat, s.vtbcorr] ++ (fins 2).flatMap fun c => (List.range 4).map fun k => s.counterWord (chanCnt c k))
/-- OP_VTB_STATUS. -/
def execOpVtbStatus (r : Req) (s : State) : Out := .next (s.serve specVtbStatus bodyVtbStatus r)

end Sys2Proof.Machine
end

