-- ==== Sys2Proof/Machine/Power.lean ====
section
/-!
DEFINITION. Performance levels, the regulator handshake, the supply watch and the bookings of the DIE ledger (R418 to R425, R452 to
R454, R515).
-/

namespace Sys2Proof.Machine

/-! ## Domains and bookings (R418, R419, R452) -/

/-- The domains a start powers besides SUP: LINK, SIG and each pair with an allocated axis (R419, R467). -/
def State.startDomains (s : State) : BitVec 7 :=
  (fins 4).foldl (fun m k => if s.pairAlloc k then m ||| ((1 : BitVec 7) <<< (k.val + 1)) else m) 0x61

/-- A domain is under test, or its test has been granted (R454). -/
def State.tested (s : State) (d : Fin 7) : Bool :=
  match s.st.run with
  | some r => r.under.getLsbD d.val || r.granted == some d
  | none => false

/-- The level that SUP books: a granted raise counts from its grant, a fall once it is done (R452, R453). -/
def State.bookedLevel (s : State) : Nat :=
  match s.life.plc with
  | some c => if !c.waiting && decide (c.old.toNat < c.target.toNat) then c.target.toNat else s.life.pl.toNat
  | none => s.life.pl.toNat

/-- What a domain books, W, with U for the signal unit (R452). -/
def State.bookOf (s : State) (u : Q) (d : Fin 7) : Q :=
  let base : Q := if d = 0 then 9 / 20 else if d = 5 then 1 / 5 + 2 / 5 * u else if d = 6 then 7 / 20 else 3 / 10
  if s.tested d then 3 * base
  else if d = 0 then supBook s.bookedLevel
  else if s.life.domains.getLsbD d.val then base + (if s.arb.waking.getLsbD d.val then 1 / 5 else 0)
  else 0

/-- The DIE booking, W. -/
def State.dieBooked (s : State) : Q := (fins 7).foldl (fun x d => x + s.bookOf s.arb.u d) 0

/-- An increase fits the DIE budget (R453). -/
def State.dieFits (s : State) (more : Q) : Bool := decide (s.dieBooked + more ≤ s.pq P.arbBdie)

/-! ## Levels (R421, R422) -/

/-- The voltage of a level, mV (R421). -/
def levelMv (l : BitVec 2) : Nat := match l.toNat with | 0 => 700 | 1 => 780 | 2 => 860 | _ => 940

/-- 2^N of VOUT_MODE (R423). -/
def voutStep (m : BitVec 8) : Q :=
  let n : Int := (m.setWidth 5 : BitVec 5).toInt
  if 0 ≤ n then (2 ^ n.toNat : Nat) else 1 / ((2 ^ (-n).toNat : Nat) : Q)

/-- The VOUT_COMMAND of a level: round(V × 2^(−N)) (R423). -/
def State.voutWord (s : State) (l : BitVec 2) : Word := BitVec.ofInt 32 (roundQ (divF ((levelMv l : Q) / 1000) (voutStep s.life.voutMode)))

/-- A level change is asked for; a raise waits for its DIE grant (R423, R454). -/
def State.requestLevel (s : State) (t : BitVec 2) (op : Option AccOp) : State :=
  if s.life.pl = t ∨ !s.life.voutLinear then s
  else
    let old := s.life.pl
    s.modLife fun f =>
      { f with plc := some { target := t, old := old, op := op, waiting := decide (old.toNat < t.toNat), since := s.clk.lclk } }

/-- A change of level ends: the cycles that waited may run, and a PGOOD that stands low is watched from now on (R423, R425). -/
def State.endLevel (s : State) (op : Option AccOp) (code : Word) : State :=
  (s.modLife fun f => { f with plc := none, plEnd := s.clk.lclk, pgoodLow := f.pgoodLow.map fun _ => s.clk.lclk }).completeIf op 0 [code]

/-- The regulator is confirmed at the new level; going up the divider follows (R423). -/
def State.levelDone (s : State) (c : PlChange) : State :=
  (s.modLife fun f => { f with pl := c.target, divider := c.target, restore := false }).endLevel c.op 0

/-- A change that has been stopped or has failed: the old voltage is commanded, and a lowered divider stays until a READ_VOUT confirms
it (R424). -/
def State.revertLevel (s : State) (c : PlChange) : State :=
  let w := s.voutWord c.old
  let down := decide (c.target.toNat < c.old.toNat)
  s.modLife fun f => { f with voutCmd := w, restore := f.restore || (c.started && down) }

/-- One attempt fails; the fourth ends the change (R424, R438). -/
def State.attemptFails (s : State) (c : PlChange) : State :=
  if c.attempts < 4 then s.modLife fun f => { f with plc := some { c with attempts := c.attempts + 1, ack := none } }
  else
    let s := ((s.revertLevel c).modLife fun f => { f with reason := f.reason ||| 0x40 }).bump 0xDF00
    (s.raise 0xD001 .amber none [c.target.setWidth 32]).endLevel c.op 1

/-- The confirmation by PGOOD: high at least pmb.tpg after the ACK (R423). -/
def State.levelPoll (s : State) : State :=
  match s.life.plc with
  | some c =>
    match c.ack with
    | some t =>
      if c.started ∧ s.pn P.pmbConf = 1 ∧ s.life.pgood ∧ s.since t (us (s.pn P.pmbTpg)) then s.levelDone c else s
    | none => s
  | none => s

/-- LEVEL_RAISE_NO_BUDGET: a raise ungranted 10 ms after its request (R454). -/
def execLevelRaiseNoBudget (now : Ns) (s : State) : Out :=
  let s := s.at now
  match s.life.plc with
  | some c => .next (if c.waiting ∧ s.since c.since (ms 10) then s.endLevel c.op 3 else s)
  | none => .next s

/-! ## The supply watch (R425) -/

/-- READ_VOUT has stood outside its window in 3 consecutive cycles: the lane yields and goes fail-silent. -/
def State.voutWindow (s : State) : State := if 3 ≤ s.life.pollOut then s.fail 8 2 else s

/-- Polls have failed in 3 consecutive cycles: EV_PMBUS_FAULT, and level requests are refused until one succeeds. -/
def State.voutPoll (s : State) : State :=
  if 3 ≤ s.life.pollFails ∧ !s.life.pollBad then
    (s.modLife fun f => { f with pollBad := true, reason := f.reason ||| 0x40 }).raise 0xD003 .amber none []
  else s

/-- A level change runs: the cycle's work waits, and the supply is not watched (R423, R425). -/
def State.changing (s : State) : Bool := match s.life.plc with | some c => c.started | none => false

/-- PGOOD has been low for 10 µs or longer outside a level change, with pmb.conf = 1: a supply fault (R425). -/
def State.pgoodWatch (s : State) : State :=
  match s.life.pgoodLow with
  | some t => if s.fwOn && s.pn P.pmbConf == 1 && !s.changing && s.since t 10000 then s.fail 8 2 else s
  | none => s

/-- VOUT_FAULT (R425). -/
def execVoutFault (kind : VoutFaultKind) (now : Ns) (s : State) : Out :=
  let s := s.at now
  .next (match kind with
    | .pgood => s.pgoodWatch
    | .window => if !s.fwOn ∨ s.pn P.pmbConf = 1 then s else s.voutWindow
    | .poll => if !s.fwOn ∨ s.pn P.pmbConf = 1 then s else s.voutPoll)

/-- READ_VOUT confirms the old voltage: the divider that a failed fall left low is restored (R424). -/
def State.dividerBack (s : State) (d : Q) : State :=
  let back := s.life.restore && decide (d ≤ s.pq P.pmbWin)
  s.modLife fun f => { f with restore := f.restore && !back, divider := if back then f.pl else f.divider }

/-- A successful READ_VOUT outside a level change: the divider, and with pmb.conf = 0 the window (R424, R425). -/
def State.voutRead (s : State) (mv : Q) : State :=
  let d := |mv - levelMv s.life.pl|
  let s := s.dividerBack d
  if s.pn P.pmbConf = 1 then s
  else
    (s.modLife fun f =>
      { f with pollFails := 0, pollBad := false, pollOut := if 2 * s.pq P.pmbWin < d then f.pollOut + 1 else 0 }).voutWindow

/-- A failed READ_VOUT outside a level change counts (R425). -/
def State.voutMissed (s : State) : State :=
  ((s.bump 0xDF00).modLife fun f => { f with pollFails := f.pollFails + 1 }).voutPoll

/-- READ_VOUT in mV. -/
def State.voutMv (s : State) (d : BitVec 16) : Q := (d.toNat : Q) * voutStep s.life.voutMode * 1000

/-- A transaction with the regulator (R423 to R425). -/
def State.pmbus (s : State) (kind : PmbKind) (result : PmbResult) : State :=
  let act := s.life.plc.filter fun c => c.started
  match kind, result with
  | .voutMode, .ack d =>
    let m : BitVec 8 := d.setWidth 8
    let lin := decide (m >>> 5 = 0)
    let s := s.modLife fun f => { f with voutMode := m, voutLinear := lin }
    if lin then s
    else (s.modLife fun f => { f with reason := f.reason ||| 0x40 }).raise 0xD002 .amber none [m.setWidth 32]
  | .voutMode, _ => s
  | .voutCommand, .ack _ =>
    match act with
    | some c => if c.ack.isNone then s.modLife fun f => { f with plc := some { c with ack := some s.clk.lclk } } else s
    | none => s
  | .voutCommand, _ => match act with | some c => s.attemptFails c | none => s
  | .readVout, .ack d =>
    let mv := s.voutMv d
    let s := s.modLife fun f => { f with vout := (roundQ mv).toNat }
    match act with
    | some c =>
      if c.ack.isSome ∧ s.pn P.pmbConf = 0 ∧ |mv - levelMv c.target| ≤ s.pq P.pmbWin then s.levelDone c else s
    | none => s.voutRead mv
  | .readVout, _ =>
    match act with
    | some c => s.attemptFails c
    | none => if s.pn P.pmbConf = 0 then s.voutMissed else s

/-- OP_PWR_LEVEL (R422, R424, R425). -/
def specPwrLevel : OpSpec := { opc := 0x0401, classes := [1] }
/-- A change or a sleep entry in progress comes first, then the regulator, then the level itself. -/
def bodyPwrLevel : Body := fun r s =>
  let t := Config.levelOf r.arg0 r.payload
  let f := s.life
  let runs := match f.st with | .pairing | .active | .standby | .drive | .safeStop => true | _ => false
  if f.plc.isSome ∨ f.entry.isSome ∨ f.shutdown.isSome then Ans.refuse s 0x11
  else if !f.voutLinear ∨ f.pollBad then Ans.refuse s 0x30
  else if runs && decide (t.toNat < s.pn P.pwrPlmin) then Ans.refuse s 0x31
  else if t = f.pl then Ans.ok s
  else Ans.accepted (s.requestLevel t (some { opc := 0x0401, req := r }))
/-- OP_PWR_LEVEL. -/
def execOpPwrLevel (r : Req) (s : State) : Out := .next (s.serve specPwrLevel bodyPwrLevel r)

/-! ## Rails (R515) -/

/-- VDDIO_PAD_RESET: torque-off on all pairs while VDDIO stands below its threshold (R262, R515). -/
def execVddioPadReset (low : Bool) (now : Ns) (s : State) : Out :=
  let s := { (s.at now) with padReset := low }
  .next (if low then forFin 4 (fun k s => s.torqueOff k) s else s)

/-- VDD_FIX_DROP: isolation of AXP0 to AXP3, SIG and LINK; the lane yields and goes fail-silent (R515). -/
def execVddFixDrop (now : Ns) (s : State) : Out :=
  let s := s.at now
  let s := s.modLife fun f => { f with isolated := f.domains &&& 0x7E }
  .next (if s.fwOn then s.fail 8 3 else s)

end Sys2Proof.Machine
end

