-- ==== Sys2Proof/Machine/Lifecycle.lean ====
section
/-!
DEFINITION. Sleep entry, wake, resume and boot (R291 to R293, R422, R426 to R436, R506, R512 to R516).
-/

namespace Sys2Proof.Machine

/-! ## What a start keeps and what it begins anew (R435, R502, R505) -/

/-- An engine at a start: no run, and the committed regions as flash holds them (R176, R200). -/
def Engine.loaded (g : Engine) : Engine :=
  { progFlash := g.progFlash, operFlash := g.operFlash, progFlashCrc := g.progFlashCrc, operFlashCrc := g.operFlashCrc,
    prog := g.progFlash, oper := g.operFlash, progCrc := g.progFlashCrc, operCrc := g.operFlashCrc }

/-- An axis cell after the loss of its state: flash keeps the offsets and the committed regions (R51, R200). -/
def Axis.rebooted (a : Axis) : Axis := { cur := { offStored := a.cur.offStored }, eng := a.eng.loaded }

/-- A diagnostic counter of the always-on domain: FSCNT and the near-miss counters (R505). -/
def aonCounter (i : Nat) : Bool := i == 0x0F09 || (decide (0xAF00 ≤ i) && decide (i < 0xAF06))

/-- The counters that a start keeps. -/
def keptCounters (c : Counters) : Counters := c.filter fun x => aonCounter x.1

/-- The stored values take effect; a posted write of the always-on domain still waits for its tick (R6, R435, R491). -/
def State.loadPars (s : State) : State :=
  let w := s.eff P.pwrWake.base
  let t := s.eff P.pwrWtimer.base
  let s := s.modPar fun p => { p with eff := p.stored, written := [], posted := [] }
  let s := if s.aon.postWake.isSome then s.setEff P.pwrWake.base w else s
  if s.aon.postTimer.isSome then s.setEff P.pwrWtimer.base t else s

/-- The lane after the loss of everything but flash, the always-on domain and the straps: the beginning of a cold boot. -/
def State.rebooted (s : State) : State :=
  { ident := { lane := s.ident.lane, straps := s.ident.straps, crystal := s.ident.crystal }
    clk := { lclk := s.clk.lclk, lbase := s.clk.lclk }
    mb := { log := s.mb.log, logNext := s.mb.logNext }
    par := { stored := s.par.stored, eff := s.par.eff }
    cnt := keptCounters s.cnt
    regs := { scratch := s.regs.scratch, inten := s.regs.inten, flash := s.regs.flash,
              intstat := (s.regs.intstat &&& 0x00010000) ||| 0x00400000 }
    aon := s.aon
    ax := s.ax.map Axis.rebooted
    pair := s.pair.map fun (p : Pair) => { chopf := p.chopf }
    su := { eng := s.su.eng.loaded }
    brake := { led := s.brake.ledSaved, ledSaved := s.brake.ledSaved, ledAt := s.clk.lclk }
    life := { failPend := s.life.failPend, mustFull := s.life.mustFull, nrstLow := s.life.nrstLow, pgood := s.life.pgood,
              pgoodAt := s.life.pgoodAt, pgoodLow := s.life.pgoodLow, wakeAt := s.clk.lclk }
    padReset := s.padReset
    free := s.free
    pending := s.pending }

/-- A cold boot from a step of R435; 0 waits for the core supply (R514). -/
def State.coldBoot (s : State) (step : Nat) : State := s.rebooted.modLife fun f => { f with step := step }

/-- The lane is OFF, with no switched domain powered. -/
def State.powerOff (s : State) : State :=
  s.rebooted.modLife fun f => { f with st := .off, step := 0, domains := 0 }

/-- The axis cell at a start that keeps its state: no sample, no mirror and no result since the start, CVAL clear (R103). -/
def Axis.newStart (a : Axis) : Axis :=
  { a.cut with
    heldOff := false
    com := { a.cut.com with cval := false }
    cur := { a.cut.cur with calDue := false, calDone := false, calN := 0, calSum := Vector.replicate 3 0, calMag := Vector.replicate 3 0 }
    pwm := { a.cut.pwm with run := false, lock := false, unlocked := false, lockSince := none }
    sch := {}
    fb := { a.fb with zrec := [], tickRec := [], lost := false, lossAct := false }
    del := {}
    win := {}
    mir := {}
    ss := {}
    eng := a.eng.loaded }

/-- The braking function at a start that keeps its state: the parking state and the ledger stay, contact references and the counts of
the functions begin anew (R219, R230, R250). -/
def Brake.newStart (b : Brake) (now : Ns) : Brake :=
  { park := b.park, parkAt := now, latched := b.latched, led := b.ledSaved, ledSaved := b.ledSaved, ledAt := now, pc := b.pc }

/-- What every start begins anew, where the state is retained (R435, R502, R505). -/
def State.newStart (s : State) : State :=
  let u := s.su.enabled
  let sig := s.life.domains.getLsbD 5
  let s := { s.loadPars with
    mb := { s.mb with eseq := 0, reported := [] }
    cnt := keptCounters s.cnt
    regs := { s.regs with intstat := s.regs.intstat ||| 0x00400000 }
    ax := s.ax.map Axis.newStart
    pair := s.pair.map fun (p : Pair) => { p with toDemand := false, stFail := false }
    su := { eng := s.su.eng.loaded, enabled := if sig then u else 0 }
    safe := {}
    nov := {}
    twin := {}
    integ := { wdog := Vector.replicate 2 s.clk.lclk, sram := s.integ.sram }
    ports := s.ports.map fun (p : Port) => { p with lastAt := s.clk.lclk, timedOut := false, busy := false, trigDue := none }
    vote := {}
    steer := { corr := s.steer.corr }
    brake := s.brake.newStart s.clk.lclk
    vtb := {}
    arb := { u := if sig then s.arb.u else 0 }
    st := {}
    life := { s.life with ps := .run, pl := 1, divider := 1, drdy := false, full := false, reason := 0,
                          testFail := false, checksOk := false, plc := none, cycWait := [], restore := false, entry := none,
                          shutdown := none, pollFails := 0, pollOut := 0, pollBad := false, lagRep := false, cycLag := 0,
                          cycles := 0, cycStart := s.clk.lclk, cycEnd := s.clk.lclk,
                          step := if s.split then 5 else 4, wakeAt := s.life.wakeAt } }
  s.setSt .boot

/-- FAILREC with FSCNT and SAT (R293). -/
def State.failrecWord (s : State) : Word :=
  let c := s.counter 0x0F09
  s.aon.failrec ||| (c &&& 0xFFFF) ||| bitAt (c.getLsbD 16) 30

/-- Firmware runs: the events that waited are raised, a fail-silent entry is reported, and the request that ended in sleep completes as the
first response (R292, R432, R506). -/
def State.firmwareUp (s : State) : State :=
  let l := s.aon.late
  let s := l.foldl (fun s e => s.queueEvent e) (s.modAon fun a => { a with late := [] })
  let s := if s.life.failPend then
      (s.modLife fun f => { f with failPend := false }).raise 0x0010 .crimson none
        [s.failrecWord, loW s.aon.failtime, hiW s.aon.failtime]
    else s
  match s.aon.keptOp with
  | some o => (s.modAon fun a => { a with keptOp := none }).complete o 0 [0]
  | none => s

/-! ## Wake sources (R427, R428) -/

/-- The bit of a source in WAKESRC (R428). -/
def wakeBit : WakeSrc → Nat
  | .si n => 8 + n.val
  | .wake => 0 | .key => 1 | .vtbx => 2 | .vtby => 3 | .timer => 4 | .spi => 5 | .twin => 6

/-- The wake enables in force once a posted write has taken effect. -/
def State.wakeMask (s : State) : Word := s.aon.postWake.getD (s.pw P.pwrWake)

/-- A pair of safety inputs wakes the lane (R259). -/
def State.siWakes (s : State) (n : Fin 6) : Bool := s.pn P.siWake 0 n == 1 && s.pn P.siMode 0 n != 0

/-- A source is enabled (R427). -/
def State.wakeEnabled (s : State) (w : WakeSrc) : Bool :=
  match w with
  | .si n => s.siWakes n
  | .timer => (s.pw P.pwrWake).getLsbD 4 && s.pn P.pwrWtimer != 0
  | w => (s.pw P.pwrWake).getLsbD (wakeBit w)

/-- Some source is enabled, with the posted values (R429). -/
def State.anyWake (s : State) : Bool :=
  let m := s.wakeMask
  (m &&& 0x6F) != 0 || (m.getLsbD 4 && (s.aon.postTimer.getD (s.pw P.pwrWtimer)) != 0) || ((fins 6).any fun n => s.siWakes n)

/-- The lane wakes: EV_WAKE and INTSTAT.WAKE, and the latch rests (R428, R495). -/
def State.noteWake (s : State) : State :=
  let s := ((s.raise 0xD004 .grey none [s.aon.wakesrc]).intr 0x00010000).modAon fun a =>
    { a with armed := false, timer := none }
  s.modLife fun f => { f with wakeAt := s.clk.lclk }

/-- CONTROL rises. -/
def State.controlUp (s : State) : State := s.modAon fun a => { a with control := true, controlAt := s.clk.lclk }

/-- The wake by power state: DOZE resumes at once, SLEEP waits for its supply, SHUTDOWN boots cold (R426, R435, R440). No wake leaves
FAIL_SILENT (R292). -/
def State.wakeUp (s : State) : State :=
  if s.life.st = .failSilent then s
  else match s.life.ps with
  | .doze => s.noteWake.newStart.firmwareUp
  | .sleep => if s.aon.control then s else s.noteWake.controlUp
  | .shutdown => if s.life.st = .off ∧ !s.aon.control then s.noteWake.controlUp.coldBoot 0 else s
  | _ => s

/-- The lane sleeps, with the regulator off for less than 500 µs (R431). -/
def State.tooSoon (s : State) : Bool :=
  (s.life.ps == PState.sleep || s.life.ps == PState.shutdown) && !s.aon.control && !s.since s.aon.controlAt 500000

/-- A source is latched: during entry it waits for an abort point, in DOZE, SLEEP and SHUTDOWN it wakes the lane; a source that
follows AP4 too closely is kept for a replay, and one in a shut-down test stops it (R427, R431, R476). -/
def State.latchWake (s : State) (w : WakeSrc) : State :=
  if !s.aon.armed ∨ !s.wakeEnabled w then s
  else
    let t := (s.gt).toNat
    let b := wakeBit w
    let s := s.modAon fun a => { a with wakesrc := a.wakesrc ||| ((1 : Word) <<< b), capture := t }
    let s := match s.st.run with | some r => if r.origin = Origin.shutdown then s.stopRun .wake else s | none => s
    if s.tooSoon then s.modAon fun a => { a with replay := some (a.replay.getD (b, t)) } else s.wakeUp

/-- WAKE_SOURCE (R427). -/
def execWakeSource (w : WakeSrc) (now : Ns) (s : State) : Out := .next ((s.at now).latchWake w)

/-- The always-on timer has run for pwr.wtimer (R427). -/
def State.timerWake (s : State) : State :=
  match s.aon.timer with
  | some n => if s.pn P.pwrWtimer ≠ 0 ∧ 32768 * s.pn P.pwrWtimer ≤ n then s.latchWake .timer else s
  | none => s

/-- WAKE_TIMER (R427). -/
def execWakeTimer (now : Ns) (s : State) : Out := .next ((s.at now).timerWake)

/-- The wake of a replayed source: EV_WAKE_REPLAYED with its bit as WAKESRC shows it and its capture time (R431). -/
def State.replayWake (s : State) : State :=
  match s.aon.replay with
  | none => s
  | some (b, t) =>
    if s.tooSoon then s
    else
      ((s.modAon fun a => { a with replay := none }).raise 0xD005 .grey none [(1 : Word) <<< b, loW t, hiW t]).wakeUp

/-- WAKE_REPLAYED (R431). -/
def execWakeReplayed (now : Ns) (s : State) : Out := .next ((s.at now).replayWake)

/-! ## Sleep entry (R429 to R432) -/

/-- The lane with authority of the group is in DRIVE, as the twin link tells (R36). -/
def State.twinDrives (s : State) : Bool := s.twin.linkup && s.twin.tstate == 7

/-- The answer to a sleep or shut-down request (R429). A transition that has been accepted and not finished counts as one in progress. -/
def State.sleepAnswer (s : State) : Nat :=
  let f := s.life
  let busy : Bool := match f.st with | .boot | .selftest | .pairing => true | _ => false
  if busy ∨ f.plc.isSome ∨ f.entry.isSome ∨ f.shutdown.isSome ∨ s.st.waiting.isSome ∨ s.castlePlanned then 0x11
  else if f.st = .drive ∨ (f.st = .standby ∧ s.twinDrives) ∨ (f.st = .safeStop ∧ s.safe.phase ≠ .steeroff) then 0x30
  else if !s.anyWake then 0x31
  else 1

/-- The entry that a request asks for. -/
def State.newEntry (s : State) (kind : SleepKind) (op : AccOp) : Entry :=
  { kind := kind, op := op, from_ := s.life.st, pl := s.life.pl, since := s.clk.lclk, doms := s.life.domains }

/-- E1: the ledger is saved and PL1 commanded; the always-on timer counts from the acceptance (R427, R430). -/
def State.startEntry (s : State) (e : Entry) : State :=
  (s.ledgerWrite.modLife fun f => { f with entry := some e }).requestLevel 1 none

/-- OP_PWR_SLEEP for a kind of sleep. -/
def State.admitSleep (s : State) (kind : SleepKind) (r : Req) : Ans :=
  let c := s.sleepAnswer
  if c ≠ 1 then Ans.refuse s c
  else
    let e := s.newEntry kind { opc := 0x0402, req := r }
    Ans.accepted ((s.modAon fun a => { a with timer := some 0 }).startEntry e)

/-- OP_PWR_SLEEP (R429). -/
def specPwrSleep : OpSpec := { opc := 0x0402, classes := [1] }
/-- ARG0[0] = 1: SLEEP. -/
def bodyPwrSleep : Body := fun r s => s.admitSleep .sleep r
/-- OP_PWR_SLEEP. -/
def execOpPwrSleep (r : Req) (s : State) : Out := .next (s.serve specPwrSleep bodyPwrSleep r)
/-- ARG0[0] = 0: DOZE. -/
def bodyPwrSleepDoze : Body := fun r s => s.admitSleep .doze r
/-- OP_PWR_SLEEP_DOZE. -/
def execOpPwrSleepDoze (r : Req) (s : State) : Out := .next (s.serve specPwrSleep bodyPwrSleepDoze r)

/-- The latch is armed at an always-on tick, once no posted write of a wake enable waits (R430, R431). -/
def State.armLatch (s : State) : State :=
  let want := (match s.life.entry with | some e => e.arming | none => false) ||
    (match s.life.shutdown with | some e => e.arming | none => false)
  if want && s.aon.postWake.isNone && s.aon.postTimer.isNone then
    let s := s.modAon fun a => { a with wakesrc := 0, armed := true }
    s.modLife fun f => { f with entry := f.entry.map fun (e : Entry) => { e with arming := false },
                                shutdown := f.shutdown.map fun (e : Entry) => { e with arming := false } }
  else s

/-- Entry is abandoned at an abort point: the steps done are reversed, and the request completes (R411, R431). -/
def State.abandonEntry (s : State) (e : Entry) (ap : Nat) : State :=
  let words : List Word := if e.abort then [0xFFFFFFFF] else [2, BitVec.ofNat 32 ap ||| (s.aon.wakesrc <<< 16)]
  let s := s.modLife fun f => { f with entry := none, shutdown := none, plc := none, domains := e.doms, isolated := 0 }
  let s := s.modAon fun a => { a with armed := false, timer := none, sigValid := false }
  let s := if 1 ≤ e.passed ∧ e.doms.getLsbD 6 then
      s.vtbTo .listen
    else s
  let s := if s.life.st = .selftest then s.setSt e.from_ else s
  (s.requestLevel e.pl none).complete e.op 0 words

/-- The clock of an axis cell stops, or its domain loses its power: CVAL clears, with it CREF of an encoder-commutated axis, and the carrier
stands (R103, R230). -/
def State.axClockStops (s : State) (l : AxisNo) : State :=
  let s := s.modAx l fun a => { a with com := { a.com with cval := false }, pwm := { a.pwm with run := false } }
  if s.src l = 1 then s.modBrake fun b => { b with cref := vset b.cref l false } else s

/-- The axis clocks stop (R103, R230). -/
def State.clearCval (s : State) : State := forFin 8 (fun l s => s.axClockStops l) s

/-- The clocks of a pair's cells stop (R465, R472). -/
def State.pairClockStops (s : State) (k : PairNo) : State := forFin 8 (fun l s => if pairOf l = k then s.axClockStops l else s) s

/-- E2: a lane with authority sends YIELD and stops claiming, the VTB goes OFF, and the clocks stop; DOZE is reached (R430, R432). -/
def State.entryE2 (s : State) (e : Entry) : State :=
  let s := if s.auth then (s.sendTwin 1 0xFF []).giveUp.toStandby else s
  let s := s.clearCval.vtbTo .off
  let s := s.modLife fun f => { f with entry := some { e with passed := 1 } }
  if e.kind = .doze then
    let s := (s.commitOp e.op).setSt .sleep
    let s := s.modLife fun f => { f with ps := .doze, entry := none, drdy := false }
    s.modAon fun a => { a with keptOp := some e.op }
  else s

/-- E5: SUP goes to retention and CONTROL low; SHUTDOWN keeps nothing (R430, R432). -/
def State.entryE5 (s : State) (e : Entry) : State :=
  let off := decide (e.kind = .shutdown)
  let s := (s.commitOp e.op).setSt (if off then .off else .sleep)
  let s := s.modLife fun f => { f with ps := if off then .shutdown else .sleep, entry := none, drdy := false, domains := 0,
                                       isolated := 0 }
  s.modAon fun a => { a with keptOp := some e.op, control := false, controlAt := s.clk.lclk, sigValid := a.sigValid && !off,
                             replay := none }

/-- E3: the 28 signatures of a sleep, whose polynomial the manual does not give, are free words; a shut-down computes none (R430, R433). -/
def State.saveGroups (s : State) (sleep : Bool) : State :=
  if sleep then
    let n := s.free
    { s with free := n + 28, aon := { s.aon with sigs := Vector.ofFn fun i => Config.freeWord (n + i.val), sigValid := true, sigerr := false } }
  else s.modAon fun a => { a with sigValid := false }

/-- An abort point is reached: the latch is sampled, and the next step runs (R430, R431). -/
def State.abortPoint (s : State) (ap : Fin 4) : State :=
  match s.life.entry with
  | none => s
  | some e =>
    if e.passed ≠ ap.val ∨ e.arming ∨ (ap = 0 ∧ s.life.plc.isSome) ∨ s.life.st = .selftest ∧ s.st.run.isSome then s
    else if s.aon.wakesrc ≠ 0 ∨ e.abort then s.abandonEntry e (ap.val + 1)
    else if ap = 0 then s.entryE2 e
    else if ap = 1 then
      (s.modLife fun f => { f with entry := some { e with passed := 2 } }).saveGroups (decide (e.kind = .sleep))
    else if ap = 2 then s.modLife fun f => { f with entry := some { e with passed := 3 }, domains := f.domains &&& 1, isolated := 0 }
    else s.entryE5 e

/-- SLEEP_ENTRY_ABORT_POINT (R431). -/
def execSleepEntryAbortPoint (ap : Fin 4) (now : Ns) (s : State) : Out := .next ((s.at now).abortPoint ap)

/-- SLEEP_GRANT_TIMEOUT: the level raise of E1, or of a shut-down test, found no grant within 10 ms and is dropped (R430, R471). -/
def execSleepGrantTimeout (now : Ns) (s : State) : Out :=
  let s := s.at now
  let f := s.life
  match f.plc with
  | some c =>
    .next (if (f.entry.isSome ∨ f.shutdown.isSome) ∧ c.waiting ∧ s.since c.since (ms 10) then
      s.modLife fun f => { f with plc := none } else s)
  | none => .next s

/-! ## Resume (R433, R434) -/

/-- The bits of a lost mask that force a cold boot: CODE banks 0 to 5, groups 10 and 11 (R434). -/
def lostCold : BitVec 28 := 0x0C00003F
/-- SAFETY banks 6 to 11. -/
def lostSafety : BitVec 28 := 0x0000FC0

/-- Supervisor SRAM without the lost banks of class PLAIN, 12 to 15, which are zeroed (R434); a bank holds 16,384 words. -/
def sramKept (lost : BitVec 28) (m : Cells) : Cells :=
  m.filter fun c => !(decide (12 ≤ c.1 / 16384) && lost.getLsbD (c.1 / 16384))

/-- An axis cell whose retention is lost: its state begins anew, and its memories are being reloaded (R300, R434). With CVAL its contact
reference goes (R230). -/
def State.reinitAxis (s : State) (l : AxisNo) : State :=
  let t := s.clk.lclk
  let s := s.modAx l fun a => { a.rebooted with eng := { a.rebooted.eng with reloadAt := some t } }
  s.modBrake fun b => { b with cref := vset b.cref l false }

/-- The banks, the axis cells, the signal unit and the links re-initialised where their retention is lost (R434). -/
def State.reinit (s : State) (lost : BitVec 28) : State :=
  let s := s.modInteg fun g => { g with sram := sramKept lost g.sram }
  let s := if lost &&& lostSafety = 0 then s
    else { s with vote := {}, nov := {}, safe := {}, brake := { led := s.brake.ledSaved, ledSaved := s.brake.ledSaved } }
  let s := forFin 8 (fun l s => if lost.getLsbD (16 + l.val) then s.reinitAxis l else s) s
  let s := if lost.getLsbD 24 then { s with su := { eng := s.su.eng.loaded } } else s
  if lost.getLsbD 25 then { s with can := Vector.replicate 2 {}, eth := {}, vtb := {}, ports := Vector.replicate 3 {} } else s

/-- The mask of the banks and groups whose signature, computed again at the wake, is not the stored one, or whose stored signature has a
parity error (R433). -/
def State.lostMask (s : State) (sigs : Vector Word 28) (par : BitVec 28) : BitVec 28 :=
  (fins 28).foldl (fun (m : BitVec 28) (i : Fin 28) => if sigs[i] ≠ s.aon.sigs[i] ∨ par.getLsbD i.val then m ||| ((1 : BitVec 28) <<< i.val) else m) 0

/-- The retention check of a lane whose supply is confirmed (R433 to R435). -/
def State.resumeCheck (s : State) (lost : BitVec 28) : State :=
  let s := s.modAon fun a => { a with lost := lost, sigValid := false }
  let s := if lost = 0 then s else s.raise 0xD006 .amber none [lost.setWidth 32]
  if lost &&& lostCold ≠ 0 then (s.coldBoot 1).modLife fun f => { f with reason := 2 }
  else
    let bad := lost &&& lostSafety != 0
    let s := { s with can := Vector.replicate 2 {}, eth := {} }
    let s := (s.modLife fun f => { f with domains := 1, isolated := 0 }).newStart.reinit lost
    (s.modLife fun f => { f with reason := if bad then 2 else 0 }).firmwareUp

/-- RESUME_SUPPLY_CONFIRMED: the signatures are computed again and compared; a cold boot begins where SHUTDOWN left no retention (R433,
R435). -/
def execResumeSupplyConfirmed (sigs : Vector Word 28) (par : BitVec 28) (now : Ns) (s : State) : Out :=
  let s := s.at now
  .next (if s.life.st = .sleep ∧ s.life.ps = .sleep ∧ s.aon.control then s.resumeCheck (s.lostMask sigs par) else s)

/-! ## Reset and power (R512 to R515) -/

/-- The core supply stands: the lane leaves the wait of R514. -/
def State.supplyUp (s : State) : State :=
  if s.life.st = .boot ∧ s.life.step = 0 then s.modLife fun f => { f with step := 1 } else s

/-- An edge of PGOOD: a rise starts the ROM and confirms a level; a low that it ends, of 10 µs or longer, is a supply fault (R423, R425,
R514). -/
def State.pgoodEdge (s : State) (high : Bool) : State :=
  if high then
    let s := s.pgoodWatch
    (s.modLife fun f => { f with pgood := true, pgoodLow := none, pgoodAt := s.clk.lclk }).supplyUp.levelPoll
  else s.modLife fun f => { f with pgood := false, pgoodLow := some s.clk.lclk }

/-- PGOOD_WAIT_TIMEOUT: 2 ms from CONTROL without a rise of PGOOD (R514). -/
def execPgoodWaitTimeout (now : Ns) (s : State) : Out :=
  let s := s.at now
  .next (if s.aon.control ∧ s.since s.aon.controlAt (ms 2) then s.supplyUp else s)

/-- nRST asserted: torque-off, every switched domain reset, CONTROL low; the host's own registers with it (R262, R516). -/
def State.resetLow (s : State) : State :=
  let s := { s with aon := { s.aon with control := false, controlAt := s.clk.lclk, armed := false, timer := none,
                                        replay := none, sigValid := false },
                    regs := { s.regs with scratch := 0, inten := 0 } }
  s.powerOff.modLife fun f => { f with nrstLow := true }

/-- nRST released: the straps are sampled, and CONTROL rises (R35, R514). -/
def State.resetHigh (s : State) (straps : Straps) : State :=
  let s := s.modLife fun f => { f with nrstLow := false }
  if s.aon.powered then ({ s with ident := { s.ident with straps := straps } }.controlUp).coldBoot 0 else s

/-- NRST (R514, R516). A release without a reset before it changes nothing. -/
def execNrst (released : Bool) (straps : Straps) (now : Ns) (s : State) : Out :=
  let s := s.at now
  .next (if !released then s.resetLow else if s.life.nrstLow then s.resetHigh straps else s)

/-- VDD_AON_APPLIED: the always-on store takes its reset values and the clock is selected; with nRST released the lane boots (R440, R468,
R505, R512). -/
def execVddAonApplied (crystal : Bool) (lane : BitVec 2) (s : State) : Out :=
  let s := { s with aon := {}, cnt := [], ident := { s.ident with crystal := crystal, lane := lane } }
  let s := s.modLife fun f => { f with failPend := false, mustFull := false }
  let s := { s with regs := { s.regs with intstat := 0, scratch := 0, inten := 0 } }
  .next (if s.life.nrstLow then s.powerOff.modAon fun a => { a with control := false } else s.controlUp.coldBoot 0)

/-- VDD_AON_LOST (R440, R515). -/
def execVddAonLost (s : State) : Out :=
  let s := { s with aon := { powered := false, control := false }, cnt := [] }
  let s := s.modLife fun f => { f with failPend := false, mustFull := false }
  .next s.powerOff

/-! ## The ROM (R435, R436, R497) -/

/-- The bank with the higher version is B; a header that cannot be read counts lowest (R436). -/
def higherB (verA verB : BitVec 16) (headA headB : Bool) : Bool :=
  headB && (!headA || decide (verA.toNat < verB.toNat))

/-- A valid bank runs: BSTATE, FWVER, and the fallback to the older bank (R436, R497). -/
def State.runBank (s : State) (bankB : Bool) (ver : BitVec 16) (older : Bool) : State :=
  let s := { s with ident := { s.ident with fallback := older, bank := bankB, version := ver },
                    regs := { s.regs with bstate := 2 } }
  let s := (s.modLife fun f => { f with step := 3, reason := if older then f.reason ||| 4 else f.reason }).firmwareUp
  if older then s.raise 0xD007 .amber none [bitAt bankB 0] else s

/-- No bank is valid: the lane stays in BOOT, and the target is the bank with the lower header version (R436, R497). -/
def State.noBank (s : State) (verA verB : BitVec 16) (headA headB : Bool) : State :=
  let b := headA && (!headB || decide (verB.toNat < verA.toNat))
  (s.modLife fun f => { f with step := 2 }).modRegs fun r =>
    { r with bstate := if s.ident.straps.bootsrc then 4 else 3, tbank := b }

/-- FIRMWARE_IMAGE_CHECK (R436). -/
def execFirmwareImageCheck (verA verB : BitVec 16) (headA headB okA okB : Bool) (now : Ns) (s : State) : Out :=
  let s := s.at now
  if s.life.st ≠ .boot ∨ (s.life.step ≠ 1 ∧ s.life.step ≠ 2) ∨ 3 ≤ s.regs.bstate.toNat then .next s
  else
    let b := higherB verA verB headA headB
    .next (if b then
        (if okB then s.runBank true verB false else if okA then s.runBank false verA true else s.noBank verA verB headA headB)
      else
        (if okA then s.runBank false verA false else if okB then s.runBank true verB true else s.noBank verA verB headA headB))

/-- CONFIGURATION_LOAD: the stored parameters take effect; the committed regions and the ledger stand as flash holds them since the
cold boot began (R200, R250, R435). -/
def execConfigurationLoad (now : Ns) (s : State) : Out :=
  let s := s.at now
  .next (if s.life.st = .boot ∧ s.life.step = 3 then
    s.loadPars.modLife fun f => { f with step := if s.split then 5 else 4 } else s)

end Sys2Proof.Machine
end

