-- ==== Sys2Proof/Machine/Arbiter.lean ====
section
/-!
DEFINITION. The budget arbiter: the DRIVE budget and its grants, broken floors, the DIE requests, and ARBSTAT (R442 to R457).
-/

namespace Sys2Proof.Machine

/-! ## The DRIVE budget (R446, R447) -/

/-- The axis holds a floor (R446). -/
def State.holdsFloor (s : State) (l : AxisNo) : Bool := s.allocated l && s.ax[l].fault == 0

/-- The floor an axis holds, W. -/
def State.floorOf (s : State) (l : AxisNo) : Q := if s.holdsFloor l then s.pq P.arbFloor l else 0

/-- F, the sum of the floors held. -/
def State.floorsHeld (s : State) : Q := (fins 8).foldl (fun x l => x + s.floorOf l) 0

/-- B_veh (R447). -/
def State.bVeh (s : State) : Q :=
  let b := s.pq P.arbBdrive
  match s.connOf (s.pn P.arbSupcid) with
  | none => b
  | some c =>
    let x := s.nov.rx[c]
    if x.st = .init ∧ x.payload.isEmpty then b else (((s.nvPayload c).getD s.grp.val 0).toNat : Q)

/-- V_min: the lowest link voltage of the period, over pairs with an allocated axis and a known voltage (R447). -/
def State.vMin (s : State) : Option Q :=
  (fins 4).foldl (fun m k =>
    if s.pairAlloc k && !s.pair[k].vunk then
      (match m, s.arb.vmin[k] with | some a, some b => some (min a b) | none, b => b | a, none => a)
    else m) none

/-- B_sag (R447). -/
def State.bSag (s : State) : Q :=
  let b := s.pq P.arbBdrive
  match s.vMin with
  | none => b
  | some v => b * clampQ (divF (v - s.pq P.arbVcut) (s.pq P.arbVsag - s.pq P.arbVcut)) 0 1

/-! ## Grants (R448, R449) -/

/-- The sum of a weight over the local axes. -/
def sumAx (w : AxisNo → Q) : Q := (fins 8).foldl (fun x l => x + w l) 0

/-- A surplus shared in proportion to weights: what each axis gains, and what is left. A sum of zero takes nothing. -/
def spread (S : Q) (w : AxisNo → Q) (g : Vector Q 8) : Vector Q 8 × Q :=
  let t := sumAx w
  if t = 0 then (g, S)
  else
    let give := min S t
    (Vector.ofFn fun (l : Fin 8) => g[l] + give * w l / t, S - give)

/-- The grants with every floor covered (R448): floors, demand above them by class, and the surplus as headroom. -/
def State.fullGrants (s : State) (req : Vector Q 8) (b : Q) : Vector Q 8 :=
  let g0 : Vector Q 8 := Vector.ofFn fun (l : Fin 8) => s.floorOf l
  let ceil_ := fun (l : AxisNo) => s.pq P.arbCeil l
  let (g, r) := (fins 4).foldl (fun (x : Vector Q 8 × Q) c =>
    spread x.2 (fun l => if s.holdsFloor l && s.classOf l == c then max 0 (min req[l] (ceil_ l) - x.1[l]) else 0) x.1)
    (g0, b - s.floorsHeld)
  (spread r (fun l => if s.holdsFloor l then ceil_ l - g[l] else 0) g).1

/-- F_c, the floors of a class. -/
def State.classFloor (s : State) (c : Fin 4) : Q := sumAx fun l => if s.classOf l = c then s.floorOf l else 0

/-- The deficit taken from the classes, P3 first: the factor of each class (R449). -/
def State.scales (s : State) (d : Q) : Vector Q 4 :=
  (([3, 2, 1, 0] : List (Fin 4)).foldl (fun (x : Vector Q 4 × Q) c =>
    let f := s.classFloor c
    if 0 < f then
      let cut := min x.2 f
      (vset x.1 c ((f - cut) / f), x.2 - cut)
    else x) (Vector.replicate 4 1, d)).1

/-- The axes of a class with a non-zero floor. -/
def State.classMask (s : State) (c : Fin 4) : BitVec 8 :=
  (fins 8).foldl (fun m l => if s.classOf l = c ∧ s.floorOf l ≠ 0 then m ||| ((1 : BitVec 8) <<< l.val) else m) 0

/-! ## Broken floors (R450, R455) -/

/-- A class is broken at a grant: it and its axes are flagged, a new break counts, and the event names a changed set; the lane that has
just claimed names every broken class, a standby lane none (R450, R455). -/
def State.breakClass (s : State) (c : Fin 4) (first : Bool) : State :=
  let m := s.classMask c
  let new := !s.arb.brkcls.getLsbD c.val
  let say := !s.standby && (first || new || s.arb.brkset[c] != m)
  let s := s.modArb fun b =>
    { b with brkcls := b.brkcls ||| ((1 : BitVec 4) <<< c.val), brkset := vset b.brkset c m }
  if say then s.raise 0xD010 .amber none [BitVec.ofNat 32 c.val, m.setWidth 32] else s

/-- The flags at a grant that breaks floors by these factors. -/
def State.breaks (s : State) (sc : Vector Q 4) : State :=
  let first := s.auth && !s.arb.firstDone
  let fresh := (fins 4).any fun c => sc[c] ≠ 1 && !s.arb.brkcls.getLsbD c.val
  let s := forFin 4 (fun c s => if sc[c] = 1 then s else s.breakClass c first) s
  let s := s.modArb fun b => { b with brkmask := (fins 4).foldl (fun m c => m ||| b.brkset[c]) 0, okN := 0 }
  if fresh then s.bump 0xDF01 else s

/-- The tenth consecutive grant with F ≤ B clears the flags (R450). -/
def State.restoreGuarantee (s : State) : State :=
  if 10 ≤ s.arb.okN ∧ s.arb.brkcls ≠ 0 then
    let s := s.modArb fun b => { b with brkcls := 0, brkmask := 0, brkset := Vector.replicate 4 0 }
    if s.standby then s else s.raise 0xD011 .grey none []
  else s

/-- GUARANTEE_RESTORED (R450). -/
def execGuaranteeRestored (now : Ns) (s : State) : Out := .next ((s.at now).restoreGuarantee)

/-- The grant boundary passed last, in periods of 100 µs of global time (R443). -/
def State.grantNo (s : State) : Int := s.gt / 100000

/-- The DRIVE ledger at a grant boundary (R444, R446 to R450). -/
def State.driveGrant (s : State) : State :=
  let req : Vector Q 8 := Vector.ofFn fun (l : Fin 8) => s.ax[l].cur.reqMax
  let lim := s.pq P.arbBdrive
  let veh := s.bVeh
  let sag := s.bSag
  let b := min lim (min veh sag)
  let f := s.floorsHeld
  let vl := decide (veh < lim ∧ veh ≤ sag)
  let sl := decide (sag < lim ∧ sag < veh)
  let sc : Vector Q 4 := if f ≤ b then Vector.replicate 4 1 else s.scales (f - b)
  let g : Vector Q 8 := if f ≤ b then s.fullGrants req b else Vector.ofFn fun (l : Fin 8) => s.floorOf l * sc[s.classOf l]
  let s := s.mapAx fun a => { a with cur := { a.cur with reqMax := 0 } }
  let s := s.modArb fun a =>
    { a with req := req, grant := g, scale := sc, published := true, last := some s.grantNo, lastAt := s.clk.lclk, b := b, floors := f, vmin := Vector.replicate 4 none,
             vehlim := vl, saglim := sl, okN := if f ≤ b then min 10 (a.okN + 1) else 0 }
  let s := if f ≤ b then s.restoreGuarantee else s.breaks sc
  s.modArb fun a => { a with firstDone := true }

/-! ## DIE requests (R452 to R454) -/

/-- The grant boundary is a vehicle-cycle boundary: a whole millisecond (R443). -/
def State.vehBoundary (s : State) : Bool := s.grantNo % 10 == 0

/-- SUP level raises, at vehicle-cycle boundaries (R453). -/
def State.grantRaise (s : State) : State :=
  match s.life.plc with
  | some c =>
    if c.waiting ∧ s.dieFits (supBook c.target.toNat - supBook c.old.toNat) then
      s.modLife fun f => { f with plc := some { c with waiting := false } }
    else s
  | none => s

/-- What a wake asks for, W (R452). -/
def State.wakeAsk (s : State) (d : Fin 7) : Q :=
  if d = 5 then 2 / 5 + 2 / 5 * s.suLoad s.suWant else if d = 6 then 11 / 20 else 1 / 2

/-- The first waiting wake, in the order LINK, SIG, AXP0 to AXP3 (R453). -/
def State.firstWake (s : State) : Option (Fin 7) :=
  ([6, 5, 1, 2, 3, 4] : List (Fin 7)).find? fun d => s.arb.wait.getLsbD d.val

/-- A domain is powered, behind its isolation; the signal unit with the activations enabled at this moment (R418, R452). -/
def State.powerDomain (s : State) (d : Fin 7) : State :=
  let bit : BitVec 7 := (1 : BitVec 7) <<< d.val
  let w := s.suWant
  let u := s.suLoad w
  let s := s.modLife fun f => { f with domains := f.domains ||| bit, isolated := f.isolated ||| bit }
  let s := s.modArb fun b => { b with wait := b.wait &&& ~~~bit, waking := b.waking ||| bit }
  if d = 5 then (s.modArb fun b => { b with u := u, loadWait := false }).modSu fun x => { x with enabled := w, check := true } else s

/-- Domain wakes: one in a grant period, in order (R453). -/
def State.grantWake (s : State) : State :=
  match s.firstWake with
  | some d => if s.dieFits (s.wakeAsk d) then s.powerDomain d else s
  | none => s

/-- Signal-unit load raises, at vehicle-cycle boundaries (R453, R454). -/
def State.grantLoad (s : State) : State :=
  let w := s.suWant
  let u := s.suLoad w
  if s.arb.loadWait && s.dieFits (2 / 5 * (u - s.arb.u)) then
    (s.modArb fun b => { b with u := u, loadWait := false }).modSu fun x => { x with enabled := w, check := true }
  else s

/-- The domain that a run tests next: in the order of R466, SUP alone and last; none while a granted one has not begun. -/
def Run.nextTest (r : Run) : Option (Fin 7) :=
  if r.stop.isSome ∨ r.granted.isSome then none
  else
    match (([1, 2, 3, 4, 5, 6] : List (Fin 7)).find? fun d => r.doms.getLsbD d.val && !r.started.getLsbD d.val) with
    | some d => some d
    | none => if r.doms.getLsbD 0 && !r.started.getLsbD 0 && r.under == 0 && (r.doms &&& ~~~(r.ended ||| 1)) == 0 then some 0 else none

/-- A request of steps 1 to 3 of R453 waits. -/
def State.dieWaits (s : State) : Bool :=
  (match s.life.plc with | some c => c.waiting | none => false) || s.arb.wait != 0 || s.arb.loadWait

/-- The test booking of a domain, W: three times its figure, for SUP its PL1 figure (R452). -/
def State.testBook (s : State) (d : Fin 7) : Q :=
  3 * (if d = 0 then 9 / 20 else if d = 5 then 1 / 5 + 2 / 5 * s.suLoad s.suWant else if d = 6 then 7 / 20 else 3 / 10)

/-- A self-test of a domain: one start in a grant period, while nothing else waits; a shut-down test follows its level change (R453,
R466, R471). -/
def State.grantTest (s : State) : State :=
  match s.st.run with
  | none => s
  | some r =>
    match r.nextTest with
    | none => s
    | some d =>
      let u := s.suLoad s.suWant
      if s.dieWaits || (r.origin == Origin.shutdown && s.life.plc.isSome) || !s.dieFits (s.testBook d - s.bookOf s.arb.u d) then s
      else
        let s := if d = 5 ∧ !s.life.domains.getLsbD 5 then s.modArb fun b => { b with u := u } else s
        s.modSt fun t => { t with run := some { r with granted := some d } }

/-- The DIE ledger at a grant boundary (R453). -/
def State.dieGrant (s : State) : State :=
  let veh := s.vehBoundary
  let s := s.modArb fun b => { b with waking := 0 }
  let s := if veh then s.grantRaise else s
  let s := s.grantWake
  let s := if veh then s.grantLoad else s
  s.grantTest

/-- The arbiter grants: firmware runs, the lane does not sleep, SUP is not under test, and a boundary has passed since the last grant
(R442, R443, R466). -/
def State.arbOn (s : State) : Bool := s.fwOn && !s.underTest.getLsbD 0 && s.arb.last != some s.grantNo

/-- Both ledgers at a grant boundary (R443). -/
def State.arbGrant (s : State) : State := if s.arbOn then s.driveGrant.dieGrant else s

/-! ## LANESTAT, ARBSTAT and OP_PWR_STATUS (R457, R486, R487, R526) -/

/-- The slave serves a reduced set: any row of R487 but the first. -/
def State.shadow (s : State) : Bool :=
  (match s.life.st with | .off | .boot | .sleep | .failSilent => true | _ => false) ||
    (s.underTest &&& 0x41) != 0 || (s.life.domains &&& 0x41) != 0x41 || (s.life.isolated &&& 0x41) != 0

/-- PSTATE (R486). -/
def PState.code : PState → Word
  | .run => 0 | .idle => 1 | .doze => 2 | .sleep => 3 | .shutdown => 4

/-- LANESTAT (R486). -/
def State.lanestat (s : State) : Word :=
  (s.life.st.code.setWidth 32 <<< 28) ||| (s.life.ps.code <<< 25) ||| (s.life.pl.setWidth 32 <<< 23) ||| bitAt s.life.drdy 22 |||
    bitAt s.auth 21 ||| bitAt s.shadow 20 ||| bitAt s.st.run.isSome 19

/-- ARBSTAT (R457). -/
def State.arbstat (s : State) : Word :=
  let b := s.arb
  let lw := match s.life.plc with | some c => c.waiting | none => false
  let tw := match s.st.run with | some r => r.nextTest.isSome | none => false
  (b.brkmask.setWidth 32 <<< 16) ||| (b.brkcls.setWidth 32 <<< 12) ||| bitAt b.vehlim 11 ||| bitAt b.saglim 10 ||| bitAt lw 9 |||
    bitAt (b.wait != 0) 8 ||| bitAt b.loadWait 7 ||| bitAt tw 6

/-- OP_PWR_STATUS (R409). -/
def specPwrStatus : OpSpec := { opc := 0x0404, classes := [1, 3] }
/-- The power slot and the arbiter slot (R457, R526). -/
def bodyPwrStatus : Body := fun _ s =>
  { st := s
    slots := [[s.lanestat, s.life.domains.setWidth 32, if s.pn P.pmbConf = 1 then 0 else BitVec.ofNat 32 s.life.vout,
                s.counterWord 0xDF00],
              [s.arbstat, toFix 0 s.arb.b, toFix 0 s.arb.floors] ++ ((fins 8).map fun l => toFix 0 (s.grantOf l)) ++
                [toFix 0 (1000 * s.dieBooked)]] }
/-- OP_PWR_STATUS. -/
def execOpPwrStatus (r : Req) (s : State) : Out := .next (s.serve specPwrStatus bodyPwrStatus r)

end Sys2Proof.Machine
end

