-- ==== Sys2Proof/Machine/SelfTest.lean ====
section
/-!
DEFINITION. The self-test: runs, domain tests, results, the verdict record, and the requests that ask for a run (R460 to R476).
-/

namespace Sys2Proof.Machine

/-! ## Runs (R465 to R467, R471 to R473) -/

/-- The domains that the lane powers at start (R467). -/
def State.allDomains (s : State) : BitVec 7 := s.startDomains ||| 1

/-- Patterns of st.npat in units of 1,024 (R477). -/
def State.npatUnits (s : State) : Nat := s.pn P.stNpat / 1024

/-- A run begins: the lane is in SELFTEST and does not claim (R473). -/
def State.beginTests (s : State) (r : Run) : State :=
  let s := s.setSt .selftest
  let s := if s.twin.claim then s.stopClaim else s
  s.modSt fun t => { t with run := some r, waiting := none, latched := false }

/-- A run of full length over the powered domains ahead of sleep: logic tests only (R471). -/
def State.beginShutdown (s : State) (e : Entry) : State :=
  let auth := s.auth
  let s := if auth then (s.sendTwin 1 0xFF []).giveUp else s
  let e := if auth ∧ e.from_ ≠ .safeStop then { e with from_ := .standby } else e
  let s := ((s.modAon fun a => { a with timer := some 0 }).modLife fun f => { f with shutdown := some e }).requestLevel 1 none
  s.beginTests { origin := .shutdown, doms := s.life.domains, npat := s.npatUnits, mem := false, from_ := e.from_ }

/-- A result of a domain test recorded. -/
def Run.setRes (r : Run) (d : Fin 7) (x : DomRes) : Run := { r with res := vset r.res d (some x) }

/-- SELFTEST_DOMAIN_START: a granted test begins; the domain is isolated, and an unpowered one is powered; the clocks of a pair's cells stop
(R103, R462, R465). -/
def State.domainStart (s : State) (d : Fin 7) : State :=
  match s.st.run with
  | none => s
  | some r =>
    if r.granted ≠ some d ∨ r.stop.isSome then s
    else
      let bit : BitVec 7 := (1 : BitVec 7) <<< d.val
      let off := !s.life.domains.getLsbD d.val
      let extra := off && !s.allDomains.getLsbD d.val
      let w := s.suWant
      let r := { r with granted := none, started := r.started ||| bit, under := r.under ||| bit,
                        tmp := if extra then r.tmp ||| bit else r.tmp }
      let s := s.modSt fun t => { t with run := some r }
      let s := s.modLife fun f => { f with domains := f.domains ||| bit, isolated := f.isolated ||| bit }
      let s := if off ∧ d = 5 then s.modSu fun x => { x with enabled := w, check := true } else s
      if h : 1 ≤ d.val ∧ d.val ≤ 4 then
        let k : PairNo := ⟨d.val - 1, by omega⟩
        (s.torqueOff k).pairClockStops k
      else s

/-- SELFTEST_DOMAIN_START. -/
def execSelftestDomainStart (d : Fin 7) (now : Ns) (s : State) : Out := .next ((s.at now).domainStart d)

/-- SELFTEST_CHECKPOINT: a mismatch ends the domain's test (R463). -/
def State.checkpoint (s : State) (d : Fin 7) (ok : Bool) : State :=
  match s.st.run with
  | none => s
  | some r =>
    if !r.under.getLsbD d.val ∨ r.stop.isSome ∨ r.res[d].isSome then s
    else s.modSt fun t => { t with run := some (if ok then { r with pats := vset r.pats d (min r.npat (r.pats[d] + 1)) } else r.setRes d .fail) }

/-- SELFTEST_CHECKPOINT. -/
def execSelftestCheckpoint (d : Fin 7) (ok : Bool) (now : Ns) (s : State) : Out := .next ((s.at now).checkpoint d ok)

/-- The result of a domain whose test ends (R464, R467). -/
def State.domainResult (s : State) (r : Run) (d : Fin 7) (marchOk restoreOk : Bool) : DomRes :=
  if r.res[d] = some .fail ∨ (r.mem ∧ d ≠ 6 ∧ !marchOk ∧ r.pats[d] = r.npat) ∨ !restoreOk then .fail
  else if r.pats[d] < r.npat then .aborted
  else if r.pats[d] < s.npatUnits then .incomplete
  else .pass

/-- The reaction of R434 to the groups of a domain that is not restored; SUP's lead to a cold boot (R465). -/
def restoreMask (d : Fin 7) : BitVec 28 :=
  if d = 0 then 0x0C000000 else if d = 5 then 0x01000000 else if d = 6 then 0x02000000
  else (3 : BitVec 28) <<< (16 + 2 * (d.val - 1))

/-- A domain leaves its test: reset, restored, its isolation off; a pair powered for the test goes off again (R419, R465). A LINK test
sends a VTB that runs to LISTEN (R473). -/
def State.domainBack (s : State) (r : Run) (d : Fin 7) (restoreOk : Bool) : State :=
  let bit : BitVec 7 := (1 : BitVec 7) <<< d.val
  let s := s.modLife fun f =>
    { f with isolated := f.isolated &&& ~~~bit, domains := if r.tmp.getLsbD d.val then f.domains &&& ~~~bit else f.domains }
  let s := if d = 6 ∧ s.vtb.st ≠ .off then s.vtbTo .listen else s
  if restoreOk then s else s.reinit (restoreMask d)

/-- A domain test ends with its result (R465, R467). A test that has neither run its patterns nor failed nor been stopped goes on. -/
def State.domainEnd (s : State) (d : Fin 7) (marchOk restoreOk : Bool) : State :=
  match s.st.run with
  | none => s
  | some r =>
    let bit : BitVec 7 := (1 : BitVec 7) <<< d.val
    if !r.under.getLsbD d.val ∨ (r.stop.isNone ∧ r.res[d].isNone ∧ r.pats[d] < r.npat) then s
    else
      let r := { r.setRes d (s.domainResult r d marchOk restoreOk) with under := r.under &&& ~~~bit, ended := r.ended ||| bit }
      (s.modSt fun t => { t with run := some r }).domainBack r d restoreOk

/-! ## The end of a run (R467, R468, R470) -/

/-- The domains with a result. -/
def Run.mask (r : Run) (x : DomRes) : BitVec 7 :=
  (fins 7).foldl (fun m d => if r.res[d] = some x then m ||| ((1 : BitVec 7) <<< d.val) else m) 0

/-- VERDICT of a run (R467). -/
def State.verdict (s : State) (r : Run) : Nat :=
  if r.mask .fail ≠ 0 then 2
  else if r.stop.isSome then 4
  else if r.mask .incomplete ≠ 0 ∨ s.allDomains &&& ~~~r.doms ≠ 0 then 3
  else 1

/-- ORIGIN (R468). -/
def Origin.code : Origin → Word
  | .shutdown => 0 | .fullStart => 1 | .demand => 2

/-- The number of a stop cause (R503). -/
def stopCode : StopCause → Word
  | .request => 0 | .safetyInput => 1 | .twinClaim => 2 | .wake => 3 | .opAbort => 4

/-- TESTREC of a run; DOMAINS holds the domains whose test has begun (R468). -/
def State.testrecOf (s : State) (r : Run) : Word :=
  (BitVec.ofNat 32 (s.verdict r) <<< 28) ||| (r.origin.code <<< 26) ||| bitAt r.mem 25 ||| (r.started.setWidth 32 <<< 16) |||
    ((r.mask .fail).setWidth 32 <<< 8) ||| BitVec.ofNat 32 (r.npat % 256)

/-- The failed domains, counted. -/
def Run.fails (r : Run) : Nat := ((fins 7).filter fun d => r.res[d] = some .fail).length

/-- The record is written with TESTAGE zero, and the events of the run follow (R468, R470). -/
def State.writeRecord (s : State) (r : Run) : State :=
  let w := s.testrecOf r
  let f := r.mask .fail
  let s := s.modAon fun a => { a with testrec := w, testage := 0, testerr := false }
  let s := (s.bumpN 0xEF02 r.fails).raise 0xE001 .grey none [w]
  let s := if f = 0 then s
    else s.raise 0xE002 (if r.origin = .fullStart then .crimson else .amber) none [f.setWidth 32]
  match r.stop with
  | some c => if f = 0 then s.raise 0xE003 .amber none [stopCode c] else s
  | none => s

/-- What follows a full start's run: failed pairs stay off, and a failed SUP, SIG or LINK keeps the lane in CONFIGURED (R472). -/
def State.afterFull (s : State) (r : Run) : State :=
  let f := r.mask .fail
  let s := forFin 4 (fun k s =>
    if f.getLsbD (k.val + 1) then
      let bit : BitVec 7 := (1 : BitVec 7) <<< (k.val + 1)
      (((s.modPair k fun p => { p with stFail := true }).modLife fun g => { g with domains := g.domains &&& ~~~bit }).torqueOff k).pairClockStops k
    else s) s
  s.modLife fun g => { g with testFail := f &&& 0x61 != 0 }

/-- What follows an on-demand run: the state it left, or castling where the twin's claim has ended; a lane that held authority claims
anew (R473, R475). -/
def State.afterDemand (s : State) (r : Run) : State :=
  let code := s.verdict r
  let s := s.completeIf r.op 0 [if r.stop = some .opAbort then 0xFFFFFFFF else BitVec.ofNat 32 code]
  let s := s.modLife fun f => { f with cycStart := s.clk.lclk, cycEnd := s.clk.lclk, cycles := 0 }
  if r.stop = some .twinClaim ∧ (r.from_ = .standby ∨ r.from_ = .active) then (s.setSt .standby).startCastle 2
  else
    let s := s.setSt r.from_
    if r.again then s.modTwin fun n => { n with retry := true } else s

/-- What follows a shut-down run: entry at E1, or its abandonment at AP1 (R471, R476). -/
def State.afterShutdown (s : State) (r : Run) : State :=
  match s.life.shutdown with
  | none => s.setSt r.from_
  | some e =>
    let s := s.modLife fun f => { f with shutdown := none }
    let e := { e with abort := decide (r.stop = some .opAbort) }
    if r.stop.isSome then s.abandonEntry e 1 else s.startEntry e

/-- The lane enters CONFIGURED: step 6 has ended, and the VTB listens where LINK is powered (R371, R440). -/
def State.enterConfigured (s : State) : State :=
  let s := (s.setSt .configured).modLife fun f => { f with step := 7 }
  if s.linkOn then s.vtbTo .listen else s

/-- A run ends: its record, its events and what follows; a SUP that was not restored boots cold (R465). -/
def State.endRun (s : State) (r : Run) (cold : Bool) : State :=
  let s := (s.writeRecord r).modSt fun t => { t with run := none }
  if cold then (s.coldBoot 1).modLife fun f => { f with reason := 2 }
  else match r.origin with
    | .fullStart => (s.afterFull r).enterConfigured
    | .demand => s.afterDemand r
    | .shutdown => s.afterShutdown r

/-- A run whose domains have all ended, or that has been stopped with none under test, ends. -/
def State.runOver (s : State) (cold : Bool) : State :=
  match s.st.run with
  | none => s
  | some r => if r.under = 0 ∧ (r.stop.isSome ∨ r.doms &&& ~~~r.ended = 0) then s.endRun r cold else s

/-- SELFTEST_DOMAIN_DONE (R465, R468). -/
def State.domainDone (s : State) (d : Fin 7) (marchOk restoreOk : Bool) : State :=
  let was := match s.st.run with | some r => r.under.getLsbD d.val | none => false
  (s.domainEnd d marchOk restoreOk).runOver (was && !restoreOk && d == 0)

/-- SELFTEST_STOP: the controller has ended the pattern in progress and restored every domain under test (R475). -/
def State.stopDone (s : State) (cause : StopCause) : State :=
  if !s.runStops then s
  else
    let s := s.stopRun cause
    let s := forFin 7 (fun d s => s.domainEnd d true true) s
    s.runOver false

/-! ## Requests (R471, R473) -/

/-- OP_PWR_SHUTDOWN (R429). -/
def specPwrShutdown : OpSpec := { opc := 0x0403, classes := [1] }
/-- ARG0[0]: 0 SHUTDOWN, 1 SLEEP. -/
def bodyPwrShutdown : Body := fun r s =>
  let c := s.sleepAnswer
  if c ≠ 1 then Ans.refuse s c
  else
    let k : SleepKind := if r.arg0.getLsbD 0 then .sleep else .shutdown
    Ans.accepted (s.beginShutdown (s.newEntry k { opc := 0x0403, req := r }))
/-- OP_PWR_SHUTDOWN. -/
def execOpPwrShutdown (r : Req) (s : State) : Out := .next (s.serve specPwrShutdown bodyPwrShutdown r)

/-- Every allocated axis is at standstill with its gates low (R473). -/
def State.standsStill (s : State) : Bool :=
  (fins 8).all fun l => !s.allocated l || (!s.ax[l].pwm.gates && decide (|s.ax[l].cas.wAct| ≤ s.pq P.ssWstop l))

/-- How a test request is answered (R473): a code, 1 to run at once, 2 to castle first. -/
def State.testAnswer (s : State) : Nat :=
  let f := s.life
  let busy : Bool := match f.st with | .boot | .selftest | .pairing => true | _ => false
  let castle := s.twin.tready && !s.split
  if busy ∨ f.plc.isSome ∨ f.entry.isSome ∨ f.shutdown.isSome ∨ s.st.waiting.isSome ∨ s.castlePlanned then 0x11
  else match f.st with
    | .drive => if castle then 2 else 0x11
    | .active => if s.auth || s.split then (if castle then 2 else if s.standsStill then 1 else 0x11) else 1
    | .standby => if s.twinDrives then 0x30 else 1
    | .configured => 1
    | .safeStop => if s.safe.phase = .steeroff then 1 else 0x30
    | _ => 0x30

/-- The run a test request asks for. -/
def State.demandRun (s : State) (op : AccOp) : Run :=
  let a := op.req.arg0
  let n := (a.toNat / 256) % 128
  { origin := .demand, doms := if a &&& 0x7F = 0 then s.allDomains else a.setWidth 7, npat := if n = 0 then s.npatUnits else n,
    mem := a.getLsbD 7, from_ := s.life.st, op := some op, again := s.auth && s.life.st != LaneSt.safeStop }

/-- OP_ST_START (R473). -/
def specStStart : OpSpec := { opc := 0x0501, classes := [2] }
/-- OP_ST_START: state, then range; with authority and a READY twin a planned castling runs first. -/
def bodyStStart : Body := fun r s =>
  let c := s.testAnswer
  let op : AccOp := { opc := 0x0501, req := r }
  if c ≠ 1 ∧ c ≠ 2 then Ans.refuse s c
  else if 64 < (r.arg0.toNat / 256) % 128 then Ans.refuse s 0x31
  else if c = 1 then Ans.accepted (s.beginTests (s.demandRun op))
  else Ans.accepted ((s.planCastle none).modSt fun t => { t with waiting := some op })
/-- OP_ST_START. -/
def execOpStStart (r : Req) (s : State) : Out := .next (s.serve specStStart bodyStStart r)

/-- A test that waits for its castling begins once the lane stands in STANDBY; a castling that was lost leaves the test to the lane
without authority (R473). -/
def State.pollTest (s : State) : State :=
  match s.st.waiting with
  | none => s
  | some op =>
    if s.castlePlanned then s
    else match s.life.st with
      | .standby => s.beginTests (s.demandRun op)
      | _ => if s.auth then s else (s.modSt fun t => { t with waiting := none }).complete op 0x30 []

/-- OP_ST_STATUS (R526). -/
def specStStatus : OpSpec := { opc := 0x0502, classes := [2, 3] }
/-- TESTREC and TESTAGE in seconds. -/
def State.testageWord (s : State) : Word := BitVec.ofNat 32 (min 0xFFFFFFFF (s.aon.testage / 32768))
/-- The two words. -/
def bodyStStatus : Body := fun _ s => Ans.ok s [s.aon.testrec, s.testageWord]
/-- OP_ST_STATUS. -/
def execOpStStatus (r : Req) (s : State) : Out := .next (s.serve specStStatus bodyStStatus r)

/-- ARBITER_GRANT: both ledgers, and what waits for a boundary: a level change confirmed by PGOOD, a test that follows its castling (R443,
R473). -/
def execArbiterGrant (now : Ns) (s : State) : Out := .next (s.at now).arbGrant.levelPoll.pollTest

end Sys2Proof.Machine
end

