-- ==== Sys2Proof/Machine/Start.lean ====
section
/-!
DEFINITION. The start of the lane from the verdict check on: the quick and the full start, the start checks, drive-ready, and the restart
request (R17, R38, R203, R228, R274, R435 to R440, R469, R472, R486).
-/

namespace Sys2Proof.Machine

/-! ## Step 5: the verdict record (R437, R469) -/

/-- The record reads PASS and lies within the maximum age (R469). -/
def State.recordPass (s : State) : Bool :=
  let w := s.aon.testrec
  (w >>> 28 == 1) && !s.aon.testerr &&
    decide (s.aon.testage ≤ s.pn P.stMaxage * 3600 * 32768) &&
    decide (s.pn P.stNpat ≤ (w.toNat % 256) * 1024) &&
    (s.allDomains &&& ~~~((w >>> 16).setWidth 7)) == 0

/-- The quick start: the switched domains that have no power are asked for in turn (R435). -/
def State.quickStart (s : State) : State :=
  let w := s.startDomains &&& ~~~s.life.domains
  let s := (s.modLife fun f => { f with step := 6 }).modArb fun b => { b with wait := w }
  if w = 0 ∧ s.life.isolated = 0 then s.enterConfigured else s

/-- The full start: a run over every domain of the start, with the memory tests (R472). -/
def State.fullStart (s : State) : State :=
  let s := s.modLife fun f => { f with step := 6, full := true, mustFull := false, reason := f.reason ||| 1 }
  s.beginTests { origin := .fullStart, doms := s.allDomains, npat := s.npatUnits, mem := true, from_ := .configured }

/-- VERDICT_CHECK: after FAIL_SILENT the start is full whatever the record says (R292, R437). -/
def execVerdictCheck (now : Ns) (s : State) : Out :=
  let s := s.at now
  .next (if s.life.st ≠ .boot ∨ s.life.step ≠ 5 then s
    else if s.recordPass ∧ !s.life.mustFull then s.quickStart else s.fullStart)

/-- The isolation of a powered domain is released; with the last one step 6 of a quick start is complete (R418, R435, R440). -/
def State.releaseIso (s : State) (d : Fin 7) : State :=
  if !s.fwOn ∨ !s.life.isolated.getLsbD d.val ∨ s.underTest.getLsbD d.val then s
  else
    let s := s.modLife fun f => { f with isolated := f.isolated &&& ~~~((1 : BitVec 7) <<< d.val) }
    if s.life.st = .boot ∧ s.life.step = 6 ∧ s.life.isolated = 0 ∧ s.arb.wait = 0 then s.enterConfigured else s

/-- ISOLATION_RELEASE (R418). -/
def execIsolationRelease (d : Fin 7) (now : Ns) (s : State) : Out := .next ((s.at now).releaseIso d)

/-! ## Step 7: the start checks -/

/-- A package axis breaks a rule of R17 against an earlier one: the same winding, the same group, or another kind. -/
def State.allocClash (s : State) (p q : Nat) : Bool :=
  s.kindP q != 0 && s.motorP q == s.motorP p &&
    (s.wdgP q == s.wdgP p || q / 8 == p / 8 || s.kindP q != s.kindP p)

/-- The first offending package axis of the allocation table (R17). -/
def State.allocBad (s : State) : Option Nat :=
  (List.range 24).find? fun p => s.kindP p != 0 && (List.range p).any fun q => s.allocClash p q

/-- The failures of an axis among the START-class set: PIDs of its rate, double-update, phase and pair-frequency checks (R20, R37, R69). -/
def State.axisBad (s : State) (l : Nat) : List Nat :=
  let half := s.pn P.pwmHalf l
  (if s.pn P.casN2 l % s.pn P.casN1 l ≠ 0 then [P.casN2.pid l 0] else []) ++
    (if s.pn P.pwmUpdate l = 2 ∧ half < 5000 then [P.pwmUpdate.pid l 0] else []) ++
    (if 2 * half - 1 < s.pn P.pwmPhase l then [P.pwmPhase.pid l 0] else []) ++
    (if l % 2 = 1 ∧ half ≠ s.pn P.pwmHalf (l - 1) then [P.pwmHalf.pid l 0] else [])

/-- The least of some numbers. -/
def leastOf : List Nat → Option Nat
  | [] => none
  | a :: r => some (r.foldl min a)

/-- The receive connections whose ID lies inside the publication range (R280). -/
def State.cidBad (s : State) : List Nat :=
  let b := s.pn P.nvPubcid
  ((List.range 16).filter fun c => let n := s.pn P.nvCid 0 c; decide (n ≠ 0 ∧ b ≤ n ∧ n < b + 6)).map fun c => P.nvCid.pid 0 c

/-- The first offending PID of the set of R38. -/
def State.setBad (s : State) : Option Nat :=
  leastOf ((List.range 8).flatMap (fun l => s.axisBad l) ++ s.cidBad ++
    (if s.floorSum ≤ s.pq P.arbBdrive then [] else [P.arbBdrive.base]) ++
    (if s.dieFloor ≤ s.pq P.arbBdie then [] else [P.arbBdie.base]))

/-- The PID that breaks R203: the loop of a road-wheel or hand-wheel axis, or the motor of an enabled axle. -/
def State.steerBad (s : State) : Option Nat :=
  let loops := (fins 8).filterMap fun (l : AxisNo) =>
    if ((s.axle l).isSome && s.pn P.casLoop l != 2) || (s.hand l && s.pn P.casLoop l != 0) then some (P.casLoop.pid l 0) else none
  let motors := (fins 3).filterMap fun (n : Fin 3) =>
    if (s.pw P.sbwEn).getLsbD n.val && (s.windings 1 (s.pn P.sbwMotor 0 n)).isEmpty then some (P.sbwMotor.pid 0 n) else none
  leastOf (loops ++ motors)

/-- The PID that breaks R228: the loop of a caliper axis, or the motor of an enabled wheel. -/
def State.brakeBad (s : State) : Option Nat :=
  let loops := (fins 8).filterMap fun (l : AxisNo) =>
    if (s.wheel l).isSome && s.pn P.casLoop l != 3 then some (P.casLoop.pid l 0) else none
  let motors := (fins 8).filterMap fun (w : Fin 8) =>
    if (s.pw P.bwEn).getLsbD w.val && (s.windings 3 (s.pn P.bwMotor 0 w)).isEmpty then some (P.bwMotor.pid 0 w) else none
  leastOf (loops ++ motors)

/-- The connections that functions of the lane receive (R274). -/
def rxFunctions : List PSpec := [P.sbwArtcid, P.bwExtcid, P.bwInvcid, P.bwLatchcid, P.bwParkcid, P.arbSupcid]

/-- The PID that breaks R274 or R459: a named connection without its nv.cid, or a supply connection that is too short. -/
def State.connBad (s : State) : Option Nat :=
  leastOf ((rxFunctions.filter fun p => s.pn p != 0 && (s.connOf (s.pn p)).isNone).map (fun (p : PSpec) => p.base) ++
    (match s.connOf (s.pn P.arbSupcid) with | some c => if s.nvLen c < 3 then [P.arbSupcid.base] else [] | none => []))

/-- The first start check that fails: its status and its package axis or PID (R17, R38, R203, R228, R274). -/
def State.startBad (s : State) : Option (Nat × Nat) :=
  match s.allocBad with
  | some p => some (0x40, p)
  | none =>
    match s.setBad with
    | some p => some (0x31, p)
    | none =>
      match s.steerBad, s.brakeBad, s.connBad with
      | some p, _, _ => some (0x40, p)
      | none, some p, _ => some (0x40, p)
      | none, none, some p => some (0x40, p)
      | none, none, none => none

/-- The current calibration becomes due on every axis of a powered pair (R51). -/
def State.calibrateAll (s : State) : State :=
  forFin 8 (fun l s => if s.pairOn (pairOf l) then s.modAx l fun a => 
      { a with cur := { a.cur with calDue := true, calN := 0, calSum := Vector.replicate 3 0, calMag := Vector.replicate 3 0 } } else s) s

/-- The checks have passed: PAIRING, with its level and its calibration; a split lane does not pair (R36, R51, R422, R440). -/
def State.checksPass (s : State) : State :=
  let s := s.modLife fun f => { f with checksOk := true, pairAt := s.clk.lclk }
  let s := (s.setSt (if s.split then .active else .pairing)).calibrateAll
  s.requestLevel ((s.pw P.pwrPl).setWidth 2) none

/-- The start checks (R38): the safety inputs in DEMAND act first, the schedule findings are reported, and a failed check keeps the lane in
CONFIGURED (R17, R259, R350). -/
def State.startChecks (s : State) : State :=
  let s := (s.modLife fun f => { f with step := 8 }).siStart.schedCheck
  match s.startBad with
  | some (c, x) => s.raise 0x0001 .crimson none [BitVec.ofNat 32 c, BitVec.ofNat 32 x]
  | none => s.checksPass

/-- START_CHECKS. A lane whose SUP, SIG or LINK failed the full start's test does not go on (R472). -/
def execStartChecks (now : Ns) (s : State) : Out :=
  let s := s.at now
  .next (if s.life.st = .configured ∧ s.life.step = 7 ∧ !s.life.testFail then s.startChecks else s)

/-! ## Step 8: drive-ready (R438) -/

/-- The calibration of R51 is complete on every powered axis. -/
def State.calibrated (s : State) : Bool := (fins 8).all fun l => !s.pairOn (pairOf l) || s.ax[l].cur.calDone

/-- The lane is drive-ready (R438). -/
def State.readyToDrive (s : State) : Bool :=
  (s.life.st == LaneSt.active || (s.life.st == LaneSt.standby && s.ready)) && s.vtb.st == VtbSt.sync && s.life.checksOk && s.calibrated

/-- The reason mask of EV_DRIVE_READY (R438). -/
def State.reasons (s : State) : BitVec 7 :=
  s.life.reason ||| (if (fins 3).any (fun n => s.steer.search[n].isSome) then 0x20 else 0)

/-- DRIVE_READY: DRDY with its interrupt and its event; a recorded fail-silent entry is no longer valid (R293, R438, R495). -/
def State.driveReady (s : State) : State :=
  if !s.readyToDrive ∨ s.life.drdy then s
  else
    let m := s.reasons
    let t := (s.clk.lclk - s.life.wakeAt) / 1000
    let s := (s.modLife fun f => { f with drdy := true, reason := m }).intr 0x00100000
    let s := s.modAon fun a => { a with failrec := a.failrec &&& 0x7FFFFFFF }
    s.raise 0xD008 .grey none [BitVec.ofNat 32 t, m.setWidth 32]

/-- DRIVE_READY. -/
def execDriveReady (now : Ns) (s : State) : Out := .next ((s.at now).driveReady)

/-! ## The host restart (R292, R486) -/

/-- The lane honours a restart request. -/
def State.mayRestart (s : State) : Bool :=
  match s.life.st with | .failSilent | .boot | .configured => true | _ => false

/-- The lane restarts from step 1 with its always-on domain kept (R486). -/
def State.restart (s : State) : State := s.coldBoot 1

end Sys2Proof.Machine
end

