-- ==== Sys2Proof/Machine/Net.lean ====
section
/-!
DEFINITION. The vehicle networks: the two CAN controllers, the Ethernet MAC but for its tunnel, the network status requests, and the
sending of produced Novmi messages (R382 to R395, R526).
-/

namespace Sys2Proof.Machine

/-- The network blocks work: LINK is powered and not under test, firmware runs, and FAIL has not stopped them (R289, R418, R476). -/
def State.netOn (s : State) : Bool := s.linkOn && !s.underTest.getLsbD 6 && s.fwOn

/-! ## CAN: data lengths and descriptors (R385) -/

/-- Data bytes of a DLC. -/
def dlcLen (dlc : BitVec 4) : Nat :=
  match dlc.toNat with
  | 9 => 12 | 10 => 16 | 11 => 20 | 12 => 24 | 13 => 32 | 14 => 48 | 15 => 64 | n => n

/-- The least DLC that holds a number of bytes (R392). -/
def dlcFor (n : Nat) : BitVec 4 :=
  if n ≤ 8 then BitVec.ofNat 4 n else if n ≤ 12 then 9 else if n ≤ 16 then 10 else if n ≤ 20 then 11 else if n ≤ 24 then 12
  else if n ≤ 32 then 13 else if n ≤ 48 then 14 else 15

/-- The slots of a frame: descriptor and data bytes 0 to 39, and a second slot for bytes 40 to 63 (R385). -/
def canSlots (n : Fin 2) (f : CanIn) (w2 : Word) : List Slot :=
  let w0 : Word := f.id.setWidth 32 ||| bitAt f.ide 29 ||| bitAt f.fdf 30 ||| bitAt f.brs 31
  let w1 := fun (seg : Bool) => f.dlc.setWidth 32 ||| bitAt f.esi 4 ||| bitAt seg 5 ||| bitAt (n == 1) 6
  let mk := fun (seg : Bool) (bs : List Byte) => mkLaneSlot (8 + 4 * (wordsOf bs).length) w2 (w0 :: w1 seg :: wordsOf bs)
  if f.data.length ≤ 40 then [mk false f.data] else [mk false (f.data.take 40), mk true (f.data.drop 40)]

/-- A TX entry with the time of its placement. -/
abbrev CanEnt := QEntry × Ns

/-- Descriptor word 1 of an entry. -/
def CanEnt.w1 (e : CanEnt) : Word := e.1.slot.getD 5 0
/-- CTL: the controller of an entry. -/
def CanEnt.ctl (e : CanEnt) : Fin 2 := if (CanEnt.w1 e).getLsbD 6 then 1 else 0
/-- SEG. -/
def CanEnt.seg (e : CanEnt) : Bool := (CanEnt.w1 e).getLsbD 5
/-- The data bytes of the slot. -/
def CanEnt.data (e : CanEnt) : List Byte := bytesOf ((e.1.slot.drop 6).take 10)

/-- The frame that an entry asks for, with the second slot's bytes. -/
def CanEnt.frame (e : CanEnt) (more : List Byte) : CanIn :=
  let w0 := e.1.desc
  let dlc : BitVec 4 := (CanEnt.w1 e).setWidth 4
  { id := w0.setWidth 29, ide := w0.getLsbD 29, fdf := w0.getLsbD 30, brs := w0.getLsbD 31, esi := false, rtr := false, dlc := dlc,
    data := (CanEnt.data e ++ more).take (dlcLen dlc), ok := true }

/-- An entry that is dropped at once: a second slot without its first, FDF clear with DLC above 8, or BRS on a classical controller
(R386). -/
def CanEnt.bad (e : CanEnt) (mode : Nat) : Bool :=
  let f := CanEnt.frame e []
  CanEnt.seg e || (!f.fdf && decide (8 < f.dlc.toNat)) || (f.brs && mode == 1)

/-- A frame of 48 or 64 bytes takes two slots. -/
def CanEnt.long (e : CanEnt) : Bool := decide (40 < dlcLen ((CanEnt.w1 e).setWidth 4))

/-- The entries with the refused ones at the head of a controller's order removed, and how many they were; a first slot at the queue's
end waits for its second (R386). -/
def canPurge (n : Fin 2) (mode : Nat) : Nat → List CanEnt → List CanEnt × Nat
  | 0, es => (es, 0)
  | k + 1, es =>
    match es.findIdx? (fun e => CanEnt.ctl e == n) with
    | none => (es, 0)
    | some i =>
      let drop := let (r, d) := canPurge n mode k (es.eraseIdx i); (r, d + 1)
      match es[i]?, es[i + 1]? with
      | some e, some e2 =>
        if CanEnt.bad e mode then drop
        else if CanEnt.long e && !(CanEnt.ctl e2 == n && CanEnt.seg e2) then drop
        else (es, 0)
      | some e, none => if CanEnt.bad e mode then drop else (es, 0)
      | none, _ => (es, 0)

/-- The next message of a controller: its place, its slots, its frame and the time of its placement. -/
def canHead (n : Fin 2) (es : List CanEnt) : Option (Nat × Nat × CanIn × Ns) :=
  match es.findIdx? (fun e => CanEnt.ctl e == n) with
  | none => none
  | some i =>
    match es[i]? with
    | none => none
    | some e =>
      if CanEnt.long e then
        (match es[i + 1]? with
         | some e2 => some (i, 2, CanEnt.frame e (CanEnt.data e2), e.2)
         | none => some (i, 1, CanEnt.frame e [], e.2))
      else some (i, 1, CanEnt.frame e [], e.2)

/-- The TX queue with the times of its entries. -/
def State.canQueue (s : State) : List CanEnt := s.mb.queues[(12 : Fin 16)].entries.zip (s.mb.canAt ++ List.replicate 32 0)

/-- The TX queue with entries removed; RPTR advances by their number (R494). -/
def State.setCanQueue (s : State) (es : List CanEnt) : State :=
  s.modMb fun m =>
    { m with canAt := es.map (fun (e : CanEnt) => e.2)
             queues := vmod m.queues 12 fun q =>
               { q with entries := es.map (fun (e : CanEnt) => e.1), rptr := (q.rptr + (q.entries.length - es.length)) % 32,
                        dropped := q.dropped && !es.isEmpty } }

/-- Mode of a controller: 0 off, 1 classical, 2 FD. -/
def State.canMode (s : State) (n : Fin 2) : Nat := s.pn P.canMode 0 n

/-- Refused entries at the head of a controller's order are dropped and counted (R386). -/
def State.canClean (s : State) (n : Fin 2) : State :=
  let (es, k) := canPurge n (s.canMode n) 32 s.canQueue
  if k = 0 then s else (s.setCanQueue es).bumpN (0xC002 + 256 * n.val) k

/-- A controller takes part in the bus: it is on and not in bus-off. -/
def State.canOn (s : State) (n : Fin 2) : Bool := s.netOn && s.canMode n != 0 && !s.can[n].busoff

/-- One controller changed. -/
def State.modCan (s : State) (n : Fin 2) (f : Can → Can) : State := { s with can := vmod s.can n f }

/-- CAN_FRAME_SENT: the next message of the controller, in queue order, has been sent; an FD frame needs an FD controller, and a first
slot waits for its second (R382, R386). -/
def execCanFrameSent (n : Fin 2) (now : Ns) (s : State) : Out :=
  let s := (s.at now).canClean n
  match canHead n s.canQueue with
  | some (i, k, f, _) =>
    .next (if s.canOn n ∧ (f.fdf → s.canMode n = 2) ∧ (40 < dlcLen f.dlc → k = 2) then
      (s.setCanQueue (s.canQueue.take i ++ s.canQueue.drop (i + k))).modCan n fun c => { c with sent := some f }
    else s)
  | none => .next s

/-- CAN_TX_TIMEOUT: a message unsent for cann.txtmo is dropped and counted (R386). -/
def execCanTxTimeout (n : Fin 2) (now : Ns) (s : State) : Out :=
  let s := s.at now
  let s := if s.netOn then s.canClean n else s
  match canHead n s.canQueue with
  | some (i, k, _, t) =>
    .next (if s.netOn ∧ s.since t (ms (s.pn P.canTxtmo 0 n)) then
      (s.setCanQueue (s.canQueue.take i ++ s.canQueue.drop (i + k))).bumpN (0xC002 + 256 * n.val) k
    else s)
  | none => .next s

/-- CAN_BUSOFF (R383). -/
def execCanBusoff (n : Fin 2) (now : Ns) (s : State) : Out :=
  let s := s.at now
  .next (if s.canOn n then (s.modCan n fun c => { c with busoff := true }).raise 0xC001 .amber none [BitVec.ofNat 32 n.val] else s)

/-- CAN_RECOVERED (R382, R383). -/
def execCanRecovered (n : Fin 2) (now : Ns) (s : State) : Out :=
  let s := s.at now
  .next (if s.netOn ∧ s.can[n].busoff then
    (s.modCan n fun c => { c with busoff := false }).raise 0xC002 .grey none [BitVec.ofNat 32 n.val] else s)

/-- The word of an acceptance filter, and the mask beside it (R384, R395). -/
def State.canFilter (s : State) (n : Fin 2) (f : Nat) : Word × Word := (s.pw P.canFid 0 (16 * n.val + f), s.pw P.canFmsk 0 (16 * n.val + f))

/-- A filter matches a frame (R384). -/
def State.canMatch (s : State) (n : Fin 2) (x : CanIn) (f : Nat) : Bool :=
  let (w, m) := s.canFilter n f
  w.getLsbD 31 && w.getLsbD 29 == x.ide && ((x.id.setWidth 32 ^^^ w) &&& m &&& 0x1FFFFFFF) == 0

/-- CAN_FRAME_RECEIVED: errors and remote frames count, and the first filter that matches decides (R382 to R385, R392). -/
def execCanFrameReceived (n : Fin 2) (f : CanIn) (now : Ns) (s : State) : Out :=
  let s := s.at now
  .next (if !s.canOn n then s
    else if !f.ok then s.bump (0xC000 + 256 * n.val)
    else if f.rtr then s.bump (0xC001 + 256 * n.val)
    else match (List.range 16).find? (s.canMatch n f) with
      | none => s.bump (0xC001 + 256 * n.val)
      | some k =>
        if (s.canFilter n k).1.getLsbD 30 then s.nvNetwork n.val f.data true
        else (canSlots n f s.gtUs).foldl (fun s w => s.push 13 ⟨.spi, w⟩) s)

/-! ## Ethernet (R387 to R390) -/

/-- The lane's IPv4 address (R389). -/
def State.ownIp (s : State) : Word := s.pw P.ethIp + BitVec.ofNat 32 s.idx.val
/-- The lane's MAC address (R389, R395). -/
def State.ownMac (s : State) : BitVec 48 :=
  ((s.pw P.ethMacHi).setWidth 16 ++ (s.pw P.ethMacLo + BitVec.ofNat 32 s.idx.val) : BitVec 48)

/-- The MAC works. -/
def State.macOn (s : State) : Bool := s.netOn && !s.eth.stopped

/-- The receive filter: the own address or broadcast, untagged or of an enabled VID (R387). -/
def State.ethAccepts (s : State) (f : EthIn) : Bool :=
  f.ok && (f.dst == s.ownMac || f.dst == 0xFFFFFFFFFFFF) &&
    (match f.vid with
     | none => true
     | some v => (List.range 8).any fun i => let w := s.pw P.ethVid 0 i; w.getLsbD 15 && w.setWidth 12 == v)

/-- A datagram for the Ethernet RX queue (R390). -/
def State.rxDatagram (s : State) (ip : Word) (port lport : BitVec 16) (data : List Byte) : State :=
  if 40 < data.length then s.bump 0xC200
  else s.push 15 ⟨.spi, mkLaneSlot (8 + 4 * (wordsOf data).length) 0
    (ip :: (port.setWidth 32 ||| (lport.setWidth 32 <<< 16)) :: wordsOf data)⟩

/-- The lane's own message slot: DIR is set (R401). -/
def laneSlot (w : Slot) : Bool := (w.getD 0 0).getLsbD 26

/-- The VLAN tag of the lane's frames: PCP and VID, when the tag is on (R387, R395). -/
def State.vlanTag (s : State) : Option (BitVec 16) :=
  let v := s.pw P.ethVlan
  if v.getLsbD 15 then some (v.setWidth 16 &&& 0x7FFF) else none

/-- The host that a datagram is sent to: its destination on the lane's own network, else the gateway; with no gateway the destination
(R395). -/
def State.nextHop (s : State) (ip : Word) : Word :=
  let m := s.pw P.ethNetmask
  if ip &&& m == s.ownIp &&& m ∨ s.pw P.ethGw = 0 then ip else s.pw P.ethGw

/-- A timestamp of the MAC: global time, to 8 ns (R387, R388). -/
def State.macTime (s : State) : Int := s.gt / 8 * 8

/-- A datagram leaves: tagged, to its next hop, with its timestamp (R387, R389, R395). -/
def State.ethSend (s : State) (ip : Word) : State :=
  s.modEth fun x => { x with sentTag := s.vlanTag, sentHop := s.nextHop ip, sentAt := s.macTime }

/-- ETH_DATAGRAM_SENT: the oldest entry of the Ethernet TX queue leaves from eth.dport, a Novmi message of the lane from eth.nport (R390,
R394). -/
def execEthDatagramSent (now : Ns) (s : State) : Out :=
  let s := s.at now
  match s.mb.queues[(14 : Fin 16)].entries with
  | [] => .next s
  | e :: _ =>
    let port := s.pw (if laneSlot e.slot then P.ethNport else P.ethDport)
    let n := ((e.slot.getD 0 0).toNat / 2 ^ 20) % 64
    let data := (bytesOf (e.slot.drop 6)).take (n - 8)
    .next (if s.macOn then
      ((s.pop 14).ethSend (e.slot.getD 4 0)).modEth fun x =>
        { x with sent := some (port.setWidth 16, e.slot.getD 4 0, (e.slot.getD 5 0).setWidth 16, data) }
    else s)

/-! ## Produced messages (R273, R392, R394) -/

/-- The first transmit entry that carries a CID: its network and address (R394). -/
def State.netEntry (s : State) (cid : Nat) : Option (Nat × Word) :=
  ((List.range 8).find? fun j => (s.pn P.netTxcid 0 j) % 65536 = cid).map fun j =>
    ((s.pn P.netTxcid 0 j / 65536) % 8, s.pw P.netTxaddr 0 j)

/-- A slot of the lane's own for a host-to-lane queue; a full queue drops it and counts (R399). -/
def State.enqueue (s : State) (q : Fin 16) (w : Slot) : State := if s.room q = 0 then s.bump (qCnt q) else s.place q ⟨.spi, w⟩

/-- A message on one controller: the smallest FD length that holds it, zeros beyond (R392). -/
def State.sendCan (s : State) (n : Fin 2) (addr : Word) (msg : List Byte) : State :=
  let dlc := dlcFor msg.length
  let f : CanIn :=
    { id := addr.setWidth 29, ide := addr.getLsbD 29, fdf := true, brs := Config.netBrs, esi := false, rtr := false, dlc := dlc,
      data := (msg ++ List.replicate 64 0).take (dlcLen dlc), ok := true }
  (canSlots n f 0).foldl (fun s w => s.enqueue 12 w) s

/-- A message goes to its network, or to the VTB TX queue where no entry names it (R394). -/
def State.sendMsg (s : State) (cid : Nat) (msg : List Byte) : State :=
  let ws := wordsOf msg
  let vtb := fun (s : State) => s.enqueue 10 (mkLaneSlot (8 + 4 * ws.length) 0 ((0x3F ||| (BitVec.ofNat 32 ws.length <<< 12)) :: 0 :: ws))
  match s.netEntry cid with
  | some (1, a) => s.sendCan 0 a msg
  | some (2, a) => s.sendCan 1 a msg
  | some (3, a) => (s.sendCan 0 a msg).sendCan 1 a msg
  | some (4, a) => s.enqueue 14 (mkLaneSlot (8 + 4 * ws.length) 0 (a :: s.pw P.ethNport :: ws))
  | _ => vtb s

/-- The next message of a produced connection is formed and sent; an ID of zero names no connection (R272, R273). -/
def State.produce (s : State) (k : Fin 8) (cid : Nat) (pl : List Word) : State :=
  if cid = 0 then s
  else
    let t := s.nov.tx[k].next cid s.gtUs pl
    (s.modNov fun n => { n with tx := vset n.tx k t }).sendMsg cid t.msg

/-! ## Requests (R383, R387, R409, R526) -/

/-- OP_CAN_STATUS. -/
def specCanStatus : OpSpec := { opc := 0x0902, classes := [3] }
/-- For each controller its state and its three counters (R383). -/
def bodyCanStatus : Body := fun _ s =>
  Ans.ok s ((fins 2).flatMap fun n =>
    Config.canState (s.canMode n) s.can[n].busoff :: (List.range 3).map fun k => s.counterWord (0xC000 + 256 * n.val + k))
/-- OP_CAN_STATUS. -/
def execOpCanStatus (r : Req) (s : State) : Out := .next (s.serve specCanStatus bodyCanStatus r)

/-- OP_ETH_STATUS. -/
def specEthStatus : OpSpec := { opc := 0x0903, classes := [3] }
/-- The link state as the PHY reports it, the addresses and the tunnel and UDP counters. -/
def bodyEthStatus : Body := fun _ s =>
  let mac := s.ownMac
  Ans.ok s.tickFree [Config.freeWord s.free, (mac >>> 32).setWidth 32, mac.setWidth 32, s.ownIp, s.counterWord 0x0F08,
    s.counterWord 0xC201, s.counterWord 0xC200]
/-- OP_ETH_STATUS. -/
def execOpEthStatus (r : Req) (s : State) : Out := .next (s.serve specEthStatus bodyEthStatus r)

/-- OP_MDIO (R387). -/
def specMdio : OpSpec := { opc := 0x0904, classes := [2] }
/-- One MDIO read: the PHY is outside the lane. -/
def bodyMdioRead : Body := fun r s =>
  let (phy, reg) := Config.mdioAddr r.arg0 r.payload
  Ans.ok s.tickFree [(Config.mdioData phy reg s.free).setWidth 32]
/-- One MDIO write. -/
def bodyMdioWrite : Body := fun r s =>
  let (phy, reg) := Config.mdioAddr r.arg0 r.payload
  Ans.ok (s.modEth fun x => { x with mdio := some (phy, reg, Config.mdioValue r.arg0 r.payload) })
/-- OP_MDIO as its slot asks. -/
def bodyMdio : Body := fun r s => if Config.mdioWrites r.arg0 r.payload then bodyMdioWrite r s else bodyMdioRead r s
/-- OP_MDIO_READ. -/
def execOpMdioRead (r : Req) (s : State) : Out := .next (s.serve specMdio bodyMdioRead r)
/-- OP_MDIO_WRITE. -/
def execOpMdioWrite (r : Req) (s : State) : Out := .next (s.serve specMdio bodyMdioWrite r)

/-- The code of a connection state (R526). -/
def NvState.code : NvState → Word
  | .init => 0 | .valid => 1 | .subst => 2 | .default => 3

/-- The four words of a connection (R526). -/
def State.connWords (s : State) (cid : Nat) (st : Word) (seq : BitVec 16) (base : Nat) : List Word :=
  let c := fun (k : Nat) => s.counter (base + k)
  let v := fun (k : Nat) => c k &&& 0xFFFF
  let sat := (List.range 4).foldl (fun (w : Word) k => w ||| bitAt ((c k).getLsbD 16) (18 + k)) 0
  [BitVec.ofNat 32 cid ||| (st <<< 16) ||| sat, seq.setWidth 32, v 0 ||| (v 1 <<< 16), v 2 ||| (v 3 <<< 16)]

/-- OP_NOVMI_STATUS. -/
def specNovmiStatus : OpSpec := { opc := 0x0905, classes := [3] }
/-- The 22 connections, three to a slot (R526). -/
def bodyNovmiStatus : Body := fun _ s =>
  let rx := (fins 16).flatMap fun (c : Fin 16) =>
    s.connWords (s.pn P.nvCid 0 c) (NvState.code s.nov.rx[c].st) s.nov.rx[c].seq (0xAF40 + 4 * c.val)
  let pub := (fins 6).flatMap fun (i : Fin 6) =>
    s.connWords (s.pn P.nvPubcid + i.val) (bitAt s.nov.pub[i].got 0) s.nov.pub[i].seq (0xAF80 + 4 * i.val)
  { st := s, slots := chunk12 8 (rx ++ pub) }
/-- OP_NOVMI_STATUS. -/
def execOpNovmiStatus (r : Req) (s : State) : Out := .next (s.serve specNovmiStatus bodyNovmiStatus r)

end Sys2Proof.Machine
end

