-- ==== Sys2Proof/Machine/Requests.lean ====
section
/-!
DEFINITION. The service of raw slots: the opcode table, the checks of a slot, the queues, the doorbells, the tunnel, OP_ABORT, and the
requests that a self-test run held back (R391, R396 to R411, R475, R476, R492 to R494).
-/

namespace Sys2Proof.Machine

/-! ## OP_ABORT (R411) -/

/-- An operation ended by OP_ABORT: its completion carries ABORTED. -/
def State.aborted (s : State) (o : AccOp) : State := s.complete o 0 [0xFFFFFFFF]

/-- The alignment run of a request ends, and its vector with it. -/
def State.abortAlign (s : State) (o : AccOp) : State :=
  match (fins 8).find? fun l => (match s.ax[l].com.alignOp with | some a => a.same o | none => false) with
  | some l => (s.modAx l fun a => { a with com := { a.com with align := none, alignOp := none, olI := 0 } }).aborted o
  | none => s

/-- The level change of a request stops, and the old voltage is commanded again; the cycles that waited for it may run (R423, R424). -/
def State.abortLevel (s : State) (o : AccOp) : State :=
  match s.life.plc with
  | some c => ((s.revertLevel c).modLife fun f => { f with plc := none, plEnd := s.clk.lclk }).aborted o
  | none => s

/-- Sleep entry is abandoned at its next abort point; a shut-down test stops first (R431, R471). -/
def State.abortSleep (s : State) : State :=
  if s.life.entry.isSome then s.modLife fun f => { f with entry := f.entry.map fun (e : Entry) => { e with abort := true } }
  else s.stopRun .opAbort

/-- A test run stops with its record ABORTED; one that waits for its castling is dropped with it (R411, R473). -/
def State.abortTest (s : State) (o : AccOp) : State :=
  match s.st.waiting with
  | some _ => ((s.modSt fun t => { t with waiting := none }).modTwin fun n => { n with forTest := false, dueYield := false }).aborted o
  | none => s.stopRun .opAbort

/-- A planned castling whose YIELD has not left ends (R330). -/
def State.abortCastle (s : State) (o : AccOp) : State :=
  (s.modTwin fun n => { n with planned := none, dueYield := false }).aborted o

/-- A park or release request ends, and the parking state it left returns (R246). -/
def State.abortPark (s : State) (o : AccOp) : State :=
  let others := fun (os : List AccOp) => os.filter fun (x : AccOp) => !x.same o
  (s.parkAbort.modBrake fun b => { b with parkOps := others b.parkOps, relOps := others b.relOps }).aborted o

/-- An operation that has not reached its commit point stops. -/
def State.abortOp (s : State) (o : AccOp) : State :=
  let k := o.opc.toNat
  if k = 0x0209 then s.abortAlign o
  else if k = 0x0401 then s.abortLevel o
  else if k = 0x0402 ∨ k = 0x0403 then s.abortSleep
  else if k = 0x0501 then s.abortTest o
  else if k = 0x0602 then s.abortCastle o
  else if k = 0x0703 then s.abortPark o
  else s

/-- The record that ARG0 names: TAG and class; moves have their own abort (R411). -/
def State.abortTarget (s : State) (w : Word) : Option AccOp :=
  s.mb.accepted.find? fun o => o.req.tag == w.setWidth 16 && o.req.cls == (w >>> 16).setWidth 4 && o.opc != 0x0203

/-- OP_ABORT. -/
def specAbort : OpSpec := { opc := 0x0F05, classes := [0, 1, 2, 3] }
/-- No record, too late, or stopped (R411). -/
def bodyAbort : Body := fun r s =>
  match s.abortTarget r.arg0 with
  | none => Ans.refuse s 0x31
  | some o => if o.committed then { st := s, code := 2 } else Ans.ok (s.abortOp o)
/-- OP_ABORT. -/
def execOpAbort (r : Req) (s : State) : Out := .next (s.serve specAbort bodyAbort r)

/-! ## The opcode table (R409) -/

/-- OP_PWR_SLEEP as ARG0[0] asks (R429). -/
def bodyPwrSleepAny : Body := fun r s => if r.arg0.getLsbD 0 then bodyPwrSleep r s else bodyPwrSleepDoze r s

/-- Opcodes of groups 01h to 04h. -/
def opsLow : List (OpSpec × Body) :=
  [(specNop, bodyNop), (specParRead, bodyParRead), (specParWrite, bodyParWrite), (specParInfo, bodyParInfo),
   (specDigestRead, bodyDigestRead), (specAxEnable, bodyAxEnable), (specAxDisable, bodyAxDisable), (specAxMove, bodyAxMove),
   (specAxAbort, bodyAxAbort), (specAxRelease, bodyAxRelease), (specAxSetpos, bodyAxSetpos), (specAxArm, bodyAxArm),
   (specAxPreset, bodyAxPreset), (specAxAlign, bodyAxAlign), (specAxCmp, bodyAxCmp), (specAxSetpoint, bodyAxSetpoint),
   (specAxStatus, bodyAxStatus), (specSiClear, bodySiClear), (specSsAxis, bodySsAxis), (specSsVehicle, bodySsVehicle),
   (specSsRelease, bodySsRelease), (specPwrLevel, bodyPwrLevel), (specPwrSleep, bodyPwrSleepAny), (specPwrShutdown, bodyPwrShutdown),
   (specPwrStatus, bodyPwrStatus), (specChopfClear, bodyChopfClear)]

/-- Opcodes of groups 05h to 0Fh. -/
def opsHigh : List (OpSpec × Body) :=
  [(specStStart, bodyStStart), (specStStatus, bodyStStatus), (specTwinStatus, bodyTwinStatus), (specTwinCastle, bodyTwinCastle),
   (specVfSteer, bodyVfSteer), (specVfBrake, bodyVfBrake), (specVfPark, bodyVfPark), (specLedgerRead, bodyLedgerRead),
   (specLedgerClear, bodyLedgerClear), (specSuWrite, bodySuWrite), (specSuRead, bodySuRead), (specSuCommit, bodySuCommit),
   (specSuStatus, bodySuStatus), (specVtbStatus, bodyVtbStatus), (specCanStatus, bodyCanStatus), (specEthStatus, bodyEthStatus),
   (specMdio, bodyMdio), (specNovmiStatus, bodyNovmiStatus), (specDiagIdent, bodyDiagIdent), (specDiagCounters, bodyDiagCounters),
   (specLogRead, bodyLogRead), (specEventRead, bodyEventRead), (specAbort, bodyAbort), (specNetSend, bodyNetSend)]

/-- An opcode's row; an undefined one fails check 4 (R404). -/
def opRow (opc : BitVec 16) : OpSpec × Body :=
  ((opsLow ++ opsHigh).find? fun x => x.1.opc == opc).getD ({ opc := opc, classes := [], unknown := true }, bodyNop)

/-- Serve a request by its opcode. -/
def State.serveReq (s : State) (opc : BitVec 16) (r : Req) : State := s.serve (opRow opc).1 (opRow opc).2 r

/-! ## Slots (R401 to R404) -/

/-- The slot CRC is right (R402). -/
def slotCrcOk (w : Slot) : Bool := w.getD 3 0 == crc32 (bytesOf (w.take 3 ++ [0] ++ w.drop 4))

/-- OPC of a slot. -/
def slotOpc (w : Slot) : BitVec 16 := (w.getD 0 0).setWidth 16

/-- The request in a slot. A LEN above 48 or not a multiple of 4 fits no opcode and shows as thirteen words (R404). -/
def slotReq (src : Source) (w : Slot) : Req :=
  let h := w.getD 0 0
  let len := (h.toNat / 2 ^ 20) % 64
  { src := src
    cls := (h >>> 16).setWidth 4
    noseq := h.getLsbD 29
    tag := (w.getD 1 0).setWidth 16
    seq := (w.getD 1 0 >>> 16).setWidth 16
    arg0 := w.getD 2 0
    payload := if len % 4 ≠ 0 ∨ 48 < len then List.replicate 13 0 else (w.drop 4).take (len / 4) }

/-- The class of a request queue. -/
def queueCls (q : Fin 4) : BitVec 4 := BitVec.ofNat 4 q.val

/-- A slot that fails check 1 is answered with its header as received, DIR set and the class of its queue (R404). -/
def State.badCrc (s : State) (q : BitVec 4) (e : QEntry) : State :=
  let h := ((e.slot.getD 0 0) &&& 0xFFF0FFFF) ||| (q.setWidth 32 <<< 16) ||| 0x04000000
  (s.countRefusal 0x21 (slotOpc e.slot) e.src).deliver e.src q (mkSlot h (e.slot.getD 1 0) (statusWord 0x21 0xFF) [])

/-- Serve a slot of a request queue: checks 1 and 2, then its opcode (R404). -/
def State.serveSlot (s : State) (q : Fin 4) (e : QEntry) : State :=
  let r := slotReq e.src e.slot
  let opc := slotOpc e.slot
  if !slotCrcOk e.slot then s.badCrc (queueCls q) e
  else if r.cls ≠ queueCls q then (s.countRefusal 0x24 opc e.src).deliver e.src (queueCls q) (respSlot r opc 0x24 0xFF false false [])
  else s.serveReq opc r

/-- The request queue of a class. -/
def reqQ (q : Fin 4) : Fin 16 := ⟨q.val, by omega⟩

/-- Serve up to `n` slots of a queue, oldest first (R400). -/
def State.serveQueue (s : State) (q : Fin 4) : Nat → State
  | 0 => s
  | n + 1 =>
    match s.mb.queues[reqQ q].entries with
    | [] => s
    | e :: _ => ((s.pop (reqQ q)).serveSlot q e).serveQueue q n

/-- CONFIG and DIAG in alternation, at most eight of each (R400). -/
def State.serveBoth (s : State) : Nat → State
  | 0 => s
  | n + 1 =>
    let a : Fin 4 := if s.mb.diagNext then 3 else 2
    let b : Fin 4 := if s.mb.diagNext then 2 else 3
    ((s.serveQueue a 1).serveQueue b 1).serveBoth n

/-- The queues that wait for the end of a cycle's work (R400). The queue served last in one cycle waits first in the next. -/
def State.serveCycle (s : State) : State :=
  let s := (s.serveQueue 1 32).serveBoth 8
  s.modMb fun m => { m with diagNext := !m.diagNext }

/-- A request waits in a queue. -/
def State.anyRequest (s : State) : Bool := (fins 4).any fun q => !s.mb.queues[reqQ q].entries.isEmpty

/-- A request arrives: the supervisor leaves IDLE (R426). -/
def State.leaveIdle (s : State) : State := if s.life.ps = .idle then s.modLife fun f => { f with ps := .run } else s

/-- A slot that has entered a request queue: SAFETY is served at arrival, and a CONTROL request that names a domain under test stops the
run at once (R400, R475). -/
def State.arrived (s : State) (q : Fin 4) (e : QEntry) : State :=
  let s := s.leaveIdle
  if q = 0 then s.serveQueue 0 32
  else if q = 1 ∧ s.runStops ∧ slotCrcOk e.slot ∧ s.domains (slotOpc e.slot) (slotReq e.src e.slot) &&& s.underTest ≠ 0 then
    s.stopRun .request
  else s

/-- A slot for a full queue: dropped and counted, and a request is answered ST_QUEUE_FULL when its response queue has room (R399). -/
def State.dropFull (s : State) (q : Fin 16) (e : QEntry) : State :=
  let s := s.bump (qCnt q)
  match clsFin (BitVec.ofNat 4 q.val) with
  | none => s
  | some c =>
    let r := { slotReq e.src e.slot with cls := queueCls c }
    let s := s.countRefusal 0x20 (slotOpc e.slot) e.src
    let room := if isTunnel e.src then decide (s.mb.tunnel.length < 32) else decide (0 < s.room (respQ (queueCls c)))
    if room then s.deliver e.src (queueCls c) (respSlot r (slotOpc e.slot) 0x20 0xFF false false []) else s

/-- A slot for a host-to-lane queue (R396, R399). -/
def State.accept_ (s : State) (q : Fin 16) (e : QEntry) : State :=
  if s.room q = 0 then s.dropFull q e
  else
    let s := s.place q e
    match clsFin (BitVec.ofNat 4 q.val) with
    | some c => s.arrived c e
    | none => s

/-! ## Doorbells (R492 to R494) -/

/-- WPTR and RPTR of a queue. -/
def State.wptrOf (s : State) (q : Fin 16) : Nat := s.mb.queues[q].wptr (qDepth q)

/-- SUP or LINK is under test in a run that can be stopped: doorbells go to the always-on latch (R476). -/
def State.testDoors (s : State) : Bool := s.runStops && (s.underTest &&& 0x41) != 0

/-- A doorbell while SUP or LINK is under test: SAFETY and CONTROL stop the run, CONFIG and DIAG count a drop; the slot is lost
(R476). -/
def State.testDoor (s : State) (q : Fin 16) : State :=
  if q.val < 2 then (s.stopRun .request).modSt fun t => { t with latched := true }
  else if q.val < 4 then s.bump (qCnt q)
  else s

/-- A push doorbell: the staging slot is copied where PTR is the present WPTR; whether it was (R493). -/
def State.pushDoor (s : State) (q : Fin 16) (ptr : Nat) : State × Bool :=
  if ptr = s.wptrOf q then (s.accept_ q ⟨.spi, s.mb.staging[q]⟩, true) else (s, false)

/-- A pop doorbell: the entry at RPTR is removed where PTR is the present RPTR; whether it was (R494). -/
def State.popDoor (s : State) (q : Fin 16) (ptr : Nat) : State × Bool :=
  if ptr = s.mb.queues[q].rptr then (s.pop q, true) else (s, false)

/-! ## The tunnel (R391, R396, R397) -/

/-- A slot of a datagram: queued by its class, or answered by datagram where its class names no queue (R391, R404). -/
def State.tunnelSlot (s : State) (src : Source) (w : Slot) : State :=
  let r := slotReq src w
  match clsFin r.cls with
  | some c => s.accept_ (reqQ c) ⟨src, w⟩
  | none => if slotCrcOk w then s.turnAway r (slotOpc w) 0x24 else s.badCrc r.cls ⟨src, w⟩

/-- The slots of a datagram's words. -/
def slotsOf : Nat → List Word → List Slot
  | 0, _ => []
  | n + 1, ws => if ws.isEmpty then [] else ws.take 16 :: slotsOf n (ws.drop 16)

/-- A tunnel datagram: 1 to 22 whole slots, or dropped whole and counted (R391). -/
def State.tunnelDatagram (s : State) (ip : Word) (port : BitVec 16) (data : List Byte) : State :=
  if data.length % 64 ≠ 0 ∨ data.length = 0 ∨ 1408 < data.length then s.bump 0xC201
  else (slotsOf 22 (wordsOf data)).foldl (fun s w => s.tunnelSlot (.tunnel ip port) w) s

/-- TUNNEL_RESPONSE_SEND: the oldest response of the buffer leaves in a datagram of its own (R391, R396). -/
def execTunnelResponseSend (s : State) : Out :=
  match s.mb.tunnel with
  | [] => .next s
  | e :: r =>
    let ip : Word := match e.src with | .tunnel ip _ => ip | .spi => 0
    .next (if s.macOn then (s.ethSend ip).modMb fun m => { m with tunnel := r, tunnelSent := some e } else s)

/-- A frame for the lane takes its timestamp and is handled by what it carries (R387, R390). -/
def State.ethReceive (s : State) (k : EthKind) : State :=
  let s := s.modEth fun x => { x with recvAt := s.macTime }
  match k with
  | .udp ip sp dp frag data =>
    if frag then s
    else if dp.toNat = s.pn P.ethTport then s.tunnelDatagram ip sp data
    else if dp.toNat = s.pn P.ethNport then s.nvNetwork 2 data false
    else if dp.toNat = s.pn P.ethDport then s.rxDatagram ip sp dp data
    else s.bump 0xC200
  | .arp ip => if ip = s.ownIp then s.modEth fun x => { x with answered := x.answered + 1, sentTag := s.vlanTag, sentAt := s.macTime } else s
  | .echo ip => if ip = s.ownIp then s.modEth fun x => { x with answered := x.answered + 1, sentTag := s.vlanTag, sentAt := s.macTime } else s
  | .other => s

/-- ETH_FRAME_RECEIVED (R387, R390). -/
def execEthFrameReceived (f : EthIn) (now : Ns) (s : State) : Out :=
  let s := s.at now
  .next (if s.macOn && s.ethAccepts f then s.ethReceive f.kind else s)

/-! ## Requests held back by a run (R475) -/

/-- After the end of a run the requests that stopped it are served, oldest first. -/
def State.serveHeld (s : State) : State :=
  if s.st.run.isSome then s
  else
    let h := s.st.held
    h.foldl (fun s x => s.serveReq x.1 x.2) (s.modSt fun t => { t with held := [], latched := false })

/-- SELFTEST_DOMAIN_DONE (R465, R468). -/
def execSelftestDomainDone (d : Fin 7) (marchOk restoreOk : Bool) (now : Ns) (s : State) : Out :=
  .next ((s.at now).domainDone d marchOk restoreOk).serveHeld

/-- SELFTEST_STOP (R475). -/
def execSelftestStop (cause : StopCause) (now : Ns) (s : State) : Out := .next ((s.at now).stopDone cause).serveHeld

end Sys2Proof.Machine
end

