-- ==== Sys2Proof/Machine/Registers.lean ====
section
/-!
DEFINITION. The host SPI slave and its register map, the boot block, and the always-on tick (R255, R427, R478 to R497).
-/

namespace Sys2Proof.Machine

/-! ## Conditions and served words (R484, R487) -/

/-- The condition of the slave: a row of R487, from 0. -/
def State.spiRow (s : State) : Nat :=
  match s.life.st with
  | .failSilent => 1
  | .boot => 2
  | _ => if s.shadow then 3 else 0

/-- The blocks of the map. -/
inductive RegBlock where
  | ident | status | gtime | intr | parity | aon | queue | window | boot | reserved
  deriving DecidableEq, Repr

/-- The block of a word address (R484). -/
def regBlock (a : Nat) : RegBlock :=
  if a < 4 then .ident
  else if a = 0x10 ∨ a = 0x11 then .status
  else if a = 0x14 ∨ a = 0x15 then .gtime
  else if a = 0x20 ∨ a = 0x21 then .intr
  else if a = 0x28 ∨ a = 0x2A ∨ a = 0x2B then .parity
  else if 0x80 ≤ a ∧ a < 0x8B then .aon
  else if 0x100 ≤ a ∧ a < 0x140 ∧ a % 4 ≠ 3 then .queue
  else if 0x200 ≤ a ∧ a < 0x300 then .window
  else if (0x300 ≤ a ∧ a < 0x303) ∨ (0x304 ≤ a ∧ a < 0x344) then .boot
  else .reserved

/-- A block is served in a row of R487. -/
def servedIn (row : Nat) (b : RegBlock) : Bool :=
  match b with
  | .ident | .status | .intr | .aon | .reserved => true
  | .gtime | .parity => row == 0 || row == 1
  | .boot => row == 0 || row == 2
  | .queue | .window => row == 0

/-! ## Results of a frame (R483) -/

/-- RANGE. -/
def resRange : Byte := 0x40
/-- DBMIS. -/
def resDbmis : Byte := 0x20
/-- LENERR. -/
def resLen : Byte := 0x10
/-- SHDW. -/
def resShdw : Byte := 0x08
/-- ROWR. -/
def resRowr : Byte := 0x04
/-- DCRC. -/
def resDcrc : Byte := 0x02

/-! ## Reading (R485 to R496) -/

/-- A flag of an AONPAR or AONPEND word. -/
def State.aonpend (s : State) : Word := bitAt s.aon.postTimer.isSome 1 ||| bitAt s.aon.postWake.isSome 0
/-- AONPAR (R489). -/
def State.aonpar (s : State) : Word := bitAt s.aon.sigerr 2 ||| bitAt s.aon.failerr 1 ||| bitAt s.aon.testerr 0

/-- QNE (R495). -/
def State.qne (s : State) : Word :=
  (fins 16).foldl (fun w q => w ||| bitAt (qToHost q && !s.mb.queues[q].entries.isEmpty) q.val) 0

/-- INTSTAT (R495). -/
def State.intstatWord (s : State) : Word := s.regs.intstat ||| bitAt (s.life.st == LaneSt.failSilent) 23 ||| s.qne

/-- nIRQ is asserted: any enabled bit, and outside the first row of R487 only the always-on ones (R495). -/
def State.nirq (s : State) : Bool :=
  (s.intstatWord &&& s.regs.inten &&& (if s.spiRow = 0 then 0x00FFFFFF else 0x00C10000)) != 0

/-- FWVER; the version shows while firmware runs (R485). -/
def State.fwverShown (s : State) : Word := if s.fwOn then s.fwverWord else s.fwverWord &&& 0x00030000

/-- CNTVAL (R496). -/
def State.cntval (s : State) : Word :=
  let i := s.regs.cntidx.toNat
  if isCounter i then s.counter i &&& 0x1FFFF else 0x80000000

/-- QSTATq (R492). -/
def State.qstat (s : State) (q : Fin 16) : Word :=
  let x := s.mb.queues[q]
  (BitVec.ofNat 32 (x.wptr (qDepth q)) <<< 24) ||| (BitVec.ofNat 32 x.rptr <<< 16) ||| (BitVec.ofNat 32 x.entries.length <<< 8) |||
    BitVec.ofNat 32 (qDepth q)

/-- A word of QWINq: the staging slot, or the entry at RPTR (R493, R494). -/
def State.qwin (s : State) (q : Fin 16) (k : Nat) : Word :=
  if qToHost q then
    (match s.mb.queues[q].entries with | e :: _ => e.slot.getD k 0 | [] => 0)
  else (s.mb.staging[q]).getD k 0

/-- BOOTSTAT (R497). -/
def State.bootstat (s : State) : Word := (s.regs.bstate.setWidth 32 <<< 28) ||| bitAt s.regs.tbank 27 ||| s.regs.page.setWidth 32

/-- The queue of a word address in the queue control block or the windows. -/
def queueAt (a : Nat) (stride : Nat) : Fin 16 := ⟨(a / stride) % 16, Nat.mod_lt _ (by decide)⟩

/-- A word of the always-on block (R489). -/
def State.aonWord (s : State) (a : Nat) : Word :=
  match a with
  | 0x80 => s.sistat
  | 0x81 => s.aon.wakesrc
  | 0x82 => s.failrecWord
  | 0x83 => BitVec.ofNat 32 s.aon.failtime
  | 0x84 => BitVec.ofNat 32 (s.aon.failtime / 2 ^ 32)
  | 0x85 => s.aon.testrec
  | 0x86 => s.testageWord
  | 0x87 => s.pw P.pwrWake
  | 0x88 => s.pw P.pwrWtimer
  | 0x89 => s.aonpend
  | _ => s.aonpar

/-- The value of a served word. -/
def State.regWord (s : State) (a : Nat) : Word :=
  match regBlock a with
  | .ident => if a = 0 then identWord else if a = 1 then s.strapsWord else if a = 2 then s.fwverShown else s.regs.scratch
  | .status => if a = 0x10 then s.lanestat else 0
  | .gtime => if a = 0x14 then loW s.gt else s.regs.gtimeh
  | .intr => if a = 0x20 then s.intstatWord else s.regs.inten
  | .parity => if a = 0x28 then s.regs.parrec else if a = 0x2A then s.regs.cntidx.setWidth 32 else s.cntval
  | .aon => s.aonWord a
  | .queue =>
    let q := queueAt a 4
    if a % 4 = 0 then s.qstat q else if a % 4 = 2 then s.counter (qCnt q) &&& 0x1FFFF else 0
  | .window => s.qwin (queueAt a 16) (a % 16)
  | .boot =>
    if a = 0x300 then s.bootstat else if a = 0x301 then 0 else if a = 0x302 then s.regs.bootpage.setWidth 32
    else Cells.read zeroD s.regs.bootwin (a - 0x304)
  | .reserved => 0

/-- A read of GTIMEL latches the upper half (R486). -/
def State.latchTime (s : State) : State := s.modRegs fun r => { r with gtimeh := hiW s.gt }

/-- A read of a word: what it shows, the result bits, and the latch of GTIMEH (R486, R487). -/
def State.readReg (s : State) (a : Nat) : State × Word × Byte :=
  if !servedIn s.spiRow (regBlock a) then (s, 0, resShdw)
  else (if a = 0x14 then s.latchTime else s, s.regWord a, 0)

/-! ## Boot commands (R497) -/

/-- Erased flash reads as ones. -/
def flashD : Nat → Word := fun _ => 0xFFFFFFFF

/-- The window programmed into a page. -/
def State.programPage (s : State) (page : Nat) : State :=
  s.modRegs fun r => { r with flash := (List.range 64).foldl (fun c i =>
    Cells.write flashD c (64 * page + i) (Cells.read zeroD r.bootwin i)) r.flash }

/-- A boot command: key, state and command are checked; CMD 3 checks the target bank and boots it cold (R436, R497). -/
def State.bootCommand (s : State) (key : Byte) (cmd : Nat) (valid : Bool) : State × Byte :=
  let taken := s.regs.bstate == 4 || s.regs.bstate == 6
  if key ≠ 0x5A ∨ !taken then (s, resRange)
  else if cmd = 1 then
    (s.modRegs fun r => { r with bstate := 5, bootcmd := some .erase, flash := [] }, 0)
  else if cmd = 2 then
    if 6143 < s.regs.bootpage.toNat then (s, resRange)
    else ((s.programPage s.regs.bootpage.toNat).modRegs fun r => { r with bstate := 5, bootcmd := some (.program r.bootpage) }, 0)
  else if cmd = 3 then (if valid then s.coldBoot 1 else s.modRegs fun r => { r with bstate := 6 }, 0)
  else (s, resRange)

/-- BOOT_COMMAND_COMPLETE (R497). -/
def execBootCommandComplete (now : Ns) (s : State) : Out :=
  let s := s.at now
  .next (match s.regs.bootcmd with
    | some .erase => s.modRegs fun r => { r with bstate := 4, bootcmd := none }
    | some (.program p) => s.modRegs fun r => { r with bstate := 4, bootcmd := none, page := p }
    | none => s)

/-! ## Writing -/

/-- LANECTL: RESTART with its key (R486). -/
def State.writeLanectl (s : State) (key : Byte) (restart : Bool) : State × Byte :=
  if key ≠ 0x5A ∨ !restart then (s, 0) else if s.mayRestart then (s.restart, 0) else (s, resRowr)

/-- INTSTAT: bits 22 to 16 clear where a 1 is written (R495). -/
def State.clearInt (s : State) (v : Word) : State := s.modRegs fun r => { r with intstat := r.intstat &&& ~~~(v &&& 0x007F0000) }

/-- PARREC: VALID clears where a 1 is written (R496). -/
def State.clearPar (s : State) (v : Word) : State :=
  s.modRegs fun r => { r with parrec := if v.getLsbD 31 then r.parrec &&& 0x7FFFFFFF else r.parrec }

/-- A write of PWRWAKE or PWRWTIMER is a parameter write, served in the first row of R487; bits 31 to 7 of PWRWAKE are RZ (R4, R489,
R490). -/
def State.postWrite (s : State) (timer : Bool) (v : Word) : State × Byte :=
  if s.spiRow ≠ 0 then (s, resShdw)
  else
    let pid := if timer then P.pwrWtimer.base else P.pwrWake.base
    let (c, w) := s.checkWrite pid (if timer then v else v &&& 0x7F)
    if c ≠ 0 then (s, resRange) else (s.applyWrite .spi 0 pid w, 0)

/-- A doorbell write (R476, R493, R494). -/
def State.doorbell (s : State) (q : Fin 16) (ptr : Nat) : State × Byte :=
  if s.spiRow ≠ 0 then (if s.testDoors then s.testDoor q else s, resShdw)
  else
    let (s, ok) := if qToHost q then s.popDoor q ptr else s.pushDoor q ptr
    (s, if ok then 0 else resDbmis)

/-- A write of a served word without an effect on other blocks. -/
def State.writePlain (s : State) (a : Nat) (v : Word) : State × Byte :=
  if a = 3 then (s.modRegs fun r => { r with scratch := v }, 0)
  else if a = 0x21 then (s.modRegs fun r => { r with inten := v &&& 0x00FFFFFF }, 0)
  else if a = 0x2A then (s.modRegs fun r => { r with cntidx := v.setWidth 16 }, 0)
  else if a = 0x302 then (s.modRegs fun r => { r with bootpage := v.setWidth 13 }, 0)
  else if 0x304 ≤ a ∧ a < 0x344 then (s.modRegs fun r => { r with bootwin := Cells.write zeroD r.bootwin (a - 0x304) v }, 0)
  else if 0x200 ≤ a ∧ a < 0x300 ∧ !qToHost (queueAt a 16) then
    (s.modMb fun m => { m with staging := vmod m.staging (queueAt a 16) fun w => w.set (a % 16) v }, 0)
  else (s, resRowr)

/-- A write of a word: its effect and its result bits (R4, R483 to R497). -/
def State.writeReg (s : State) (a : Nat) (v : Word) : State × Byte :=
  let key : Byte := (v >>> 24).setWidth 8
  if regBlock a = .queue ∧ a % 4 = 1 then s.doorbell (queueAt a 4) (v.toNat % 256)
  else if !servedIn s.spiRow (regBlock a) then (s, resShdw)
  else if a = 0x11 then s.writeLanectl key (v.getLsbD 0)
  else if a = 0x20 then (s.clearInt v, 0)
  else if a = 0x28 then (s.clearPar v, 0)
  else if a = 0x87 ∨ a = 0x88 then s.postWrite (a = 0x88) v
  else if a = 0x301 then s.tickFree.bootCommand key (v.toNat % 16) (Config.freeBool s.free)
  else s.writePlain a v

/-! ## Frames (R478 to R483) -/

/-- The slave answers: VDD_AON is present, and neither nRST nor the pad reset holds the lane (R515, R516). -/
def State.spiOn (s : State) : Bool := s.aon.powered && !s.life.nrstLow && !s.padReset

/-- SUMMARY (R482). -/
def State.summary (s : State) : List Byte :=
  let b : List Byte := [(bitAt s.nirq 7 ||| bitAt (s.spiRow != 0) 6 ||| s.life.st.code.setWidth 32 : Word).setWidth 8, s.regs.prevres, 0]
  b ++ [crc8 b]

/-- A frame ends with its result: PREVRES, the error counter with SPIERR, and the wake of a sleeping lane (R427, R481, R482, R495). -/
def State.endFrame (s : State) (res : Byte) (miso : List Byte) : State :=
  let s := s.modRegs fun r => { r with prevres := res, miso := miso }
  let s := if res = 0 then s else (s.bump 0x0F00).intr 0x00040000
  s.latchWake .spi

/-- Words read in address order. -/
def State.readWords (s : State) (a : Nat) : Nat → State × List Word × Byte
  | 0 => (s, [], 0)
  | n + 1 =>
    let (s, w, r) := s.readReg (a % 65536)
    let (s, ws, r') := s.readWords (a + 1) n
    (s, w :: ws, r ||| r')

/-- Words written in address order. -/
def State.writeWords (s : State) (a : Nat) : List Word → State × Byte
  | [] => (s, 0)
  | v :: vs =>
    let (s, r) := s.writeReg (a % 65536) v
    let (s, r') := s.writeWords (a + 1) vs
    (s, r ||| r')

/-- A read frame behind a good command (R479, R481, R488). -/
def State.readFrame (s : State) (mosi : List Byte) (nw a : Nat) : State :=
  let sum := s.summary
  let n := mosi.length
  let (s, ws, r) := s.readWords a (min nw ((n - 8 + 3) / 4))
  let data := bytesOf ws
  let body := sum ++ [0, 0, 0, 0] ++ data ++ (if n < 9 + 4 * nw then [] else [crc8 data, r])
  let miso := (body ++ List.replicate n 0).take n
  s.endFrame (if n < 9 + 4 * nw then r ||| resLen else r) miso

/-- A write frame behind a good command: applied whole at the end of a right DCRC (R481). -/
def State.writeFrame (s : State) (mosi : List Byte) (nw a : Nat) : State :=
  let sum := s.summary
  let n := mosi.length
  let data := (mosi.drop 4).take (4 * nw)
  let out := fun (r : Byte) => (sum ++ List.replicate (4 * nw + 1) 0 ++ [r] ++ List.replicate n 0).take n
  if n < 5 + 4 * nw then s.endFrame resLen (out 0)
  else if crc8 data ≠ mosi.getD (4 + 4 * nw) 0 then s.endFrame resDcrc (out resDcrc)
  else
    let (s, r) := s.writeWords a (wordsOf data)
    s.endFrame r (out r)

/-- A frame (R479 to R483). -/
def State.spiFrame (s : State) (mosi : List Byte) : State :=
  if !s.spiOn then s
  else
    let n := mosi.length
    let c := mosi.getD 0 0
    let nw := (c.toNat / 2) % 64 + 1
    let a := (mosi.getD 1 0).toNat + 256 * (mosi.getD 2 0).toNat
    if n < 4 then s.endFrame resLen (s.summary.take n)
    else if crc8 (mosi.take 3) ≠ mosi.getD 3 0 then s.endFrame 0xFF ((s.summary ++ List.replicate n 0xFF).take n)
    else if c.getLsbD 7 then s.writeFrame mosi nw a
    else s.readFrame mosi nw a

/-- REGISTER_WRITE (R481). -/
def execRegisterWrite (mosi : List Byte) (s : State) : Out := .next (s.spiFrame mosi)

/-- SPI_READ_FRAME (R481). -/
def execSpiReadFrame (mosi : List Byte) (s : State) : Out := .next (s.spiFrame mosi)

/-- The effect of a frame of one word, as the rows with a name of their own give it: the access and its result. -/
def State.oneWord (s : State) (f : State → State × Byte) : State :=
  if !s.spiOn then s
  else
    let (t, r) := f s
    t.endFrame r t.regs.miso

/-- QUEUE_DOORBELL_PUSH (R493). -/
def execQueueDoorbellPush (q : Fin 16) (ptr : BitVec 8) (s : State) : Out := .next (s.oneWord fun s => s.doorbell q ptr.toNat)
/-- QUEUE_DOORBELL_POP (R494). -/
def execQueueDoorbellPop (q : Fin 16) (ptr : BitVec 8) (s : State) : Out := .next (s.oneWord fun s => s.doorbell q ptr.toNat)
/-- LANECTL_RESTART (R486). -/
def execLanectlRestart (key : Byte) (s : State) : Out := .next (s.oneWord fun s => s.writeLanectl key true)
/-- The boot block is served, or SHDW answers (R487). -/
def State.bootWrite (s : State) (key : Byte) (cmd : Nat) (valid : Bool) : State × Byte :=
  if servedIn s.spiRow .boot then s.bootCommand key cmd valid else (s, resShdw)
/-- BOOTCTL_ERASE (R497). -/
def execBootctlErase (key : Byte) (s : State) : Out := .next (s.oneWord fun s => s.bootWrite key 1 false)
/-- BOOTCTL_PROGRAM (R497). -/
def execBootctlProgram (key : Byte) (s : State) : Out := .next (s.oneWord fun s => s.bootWrite key 2 false)
/-- BOOTCTL_CHECK_BOOT (R497). -/
def execBootctlCheckBoot (key : Byte) (valid : Bool) (s : State) : Out := .next (s.oneWord fun s => s.bootWrite key 3 valid)
/-- AON_POSTED_WRITE (R490). -/
def execAonPostedWrite (timer : Bool) (value : Word) (s : State) : Out := .next (s.oneWord fun s => s.postWrite timer value)
/-- INTSTAT_CLEAR (R495). -/
def execIntstatClear (value : Word) (s : State) : Out := .next (s.oneWord fun s => (s.clearInt value, 0))
/-- PARREC_CLEAR (R496). -/
def execParrecClear (value : Word) (s : State) : Out :=
  .next (s.oneWord fun s => if servedIn s.spiRow .parity then (s.clearPar value, 0) else (s, resShdw))
/-- GTIMEL_READ (R486). -/
def execGtimelRead (now : Ns) (s : State) : Out :=
  .next ((s.at now).oneWord fun s => if servedIn s.spiRow .gtime then (s.latchTime, 0) else (s, resShdw))

/-! ## The always-on tick (R24, R255, R427, R491) -/

/-- Posted writes take effect (R491). -/
def State.takePosts (s : State) : State :=
  let s := match s.aon.postWake with | some w => s.setEff P.pwrWake.base w | none => s
  let s := match s.aon.postTimer with | some w => s.setEff P.pwrWtimer.base w | none => s
  s.modAon fun a => { a with postWake := none, postTimer := none }

/-- The counts of a tick: TESTAGE, the always-on timer and the tick count (R427, R468). -/
def State.countTick (s : State) : State :=
  s.modAon fun a => { a with ticks := a.ticks + 1, testage := a.testage + 1, timer := a.timer.map (· + 1) }

/-- The safety inputs at a tick; a change of a pair's state is a wake source (R255, R427). -/
def State.siTicks (s : State) (x : AonIn) : State :=
  forFin 6 (fun n s =>
    let was := s.aon.si[n].dem
    let s := s.siTick n (x.ch1.getLsbD n.val) (x.ch2.getLsbD n.val)
    if s.aon.si[n].dem ≠ was then s.latchWake (.si n) else s) s

/-- The WAKE and KEY pins at a tick: a level seen at it is latched (R427, log entry 33). -/
def State.pinTick (s : State) (x : AonIn) : State :=
  let s := if x.wake then s else s.latchWake .wake
  if x.key then s.latchWake .key else s

/-- An always-on tick: posted writes first, then the arming of the latch, so that what the tick samples meets both (R430, R431). -/
def State.aonStep (s : State) (x : AonIn) : State :=
  if !s.aon.powered then s else ((s.countTick.takePosts.armLatch.siTicks x).pinTick x).timerWake

/-- AON_TICK. -/
def execAonTick (x : AonIn) (now : Ns) (s : State) : Out := .next ((s.at now).aonStep x)

end Sys2Proof.Machine
end

