-- ==== Sys2Proof/Machine/Cycle.lean ====
section
/-!
DEFINITION. The vehicle cycle of the supervisor: its schedule, the parameters of class CYCLE, the vote, the vehicle functions, the
publication, the grade, the mirrors and the requests that wait for its end (R6, R30 to R34, R55, R65, R196, R204, R209, R233, R254,
R268, R276, R316, R321, R332, R351, R394, R400, R454).
-/

namespace Sys2Proof.Machine

/-! ## Schedule (R65) -/

/-- The start, the measured dt and the lag of the cycle of a boundary; the stall of a level change counts toward the lag (R423). The event
of a lag is raised once until the lag is 0 again (R65, log entry 47). -/
def State.cycSchedule (s : State) (work boundary : Ns) : State :=
  let f := s.life
  let started := decide (f.cycles ≠ 0)
  let a := if started then max (max boundary f.plEnd) (max f.cycEnd (f.cycStart + us 750)) else boundary
  let lag := a - boundary
  let dt : Q := if started && decide (f.cycStart < a) then secs a f.cycStart else 1 / 1000
  let late := decide (ms 2 < lag)
  let s := (s.at a).modLife fun f =>
    { f with cycStart := a, cycEnd := a + work, cycles := f.cycles + 1, cycDt := dt, cycLag := lag,
             lagRep := decide (0 < lag) && (f.lagRep || late) }
  if late && !f.lagRep then s.raise 0x2001 .amber none [BitVec.ofNat 32 lag] else s

/-! ## Parameters of class CYCLE (R6, R55, R254) -/

/-- A table takes effect as a whole, or keeps its whole previous form with its event (R55). -/
def State.tableEffect (s : State) (due : List Nat) (xs ys : PSpec) (n l : Nat) (ax : Option AxisNo) : State :=
  let ps := (List.range n).map (xs.pid l) ++ (List.range n).map (ys.pid l)
  if !(due.any ps.contains) then s
  else
    match (List.range n).find? fun i => i != 0 && decide (s.sq xs l i < s.sq xs l (i - 1)) with
    | some i => s.raise 0x0001 .crimson ax [0x31, BitVec.ofNat 32 (xs.pid l i)]
    | none => ps.foldl (fun s p => s.setEff p (s.stored p)) s

/-- The four shares take effect together when they sum to one (R254). -/
def State.shareEffect (s : State) (due : List Nat) : State :=
  let ps := (List.range 4).map (P.bwShare.pid 0)
  if !(due.any ps.contains) then s
  else
    let sum := (List.range 4).foldl (fun x i => x + s.sq P.bwShare 0 i) 0
    if |sum - 1| ≤ 1 / 1000 then ps.foldl (fun s p => s.setEff p (s.stored p)) s
    else s.raise 0x0001 .crimson none [0x31, 0x9F28]

/-- The rows whose entries take effect only together. -/
def groupedRows : List PSpec := [P.curPaf, P.curPaa, P.sbwRv, P.sbwRr, P.bwSx, P.bwSf, P.bwPt, P.bwPa, P.bwShare]

/-- A written trigger lets a trapped attachment or activation run again (R189). -/
def State.triggerWritten (s : State) (pid : Nat) : State :=
  match P.leAttach.find pid, P.sigUtrig.find pid with
  | some (l, _), _ => s.modAx ⟨l % 8, Nat.mod_lt _ (by decide)⟩ fun a => { a with eng := { a.eng with off := false } }
  | none, some (_, n) => s.modAct ⟨32 + n % 8, by omega⟩ fun a => { a with off := false }
  | none, none => s

/-- The written values of class CYCLE take effect (R6, R55, R211, R229, R235, R254). -/
def State.cycleEffect (s : State) : State :=
  let due := s.par.written
  let s := s.modPar fun p => { p with written := [] }
  let s := forFin 8 (fun l s => s.tableEffect due P.curPaf P.curPaa 16 l.val (some l)) s
  let s := s.tableEffect due P.sbwRv P.sbwRr 8 0 none
  let s := s.tableEffect due P.bwSx P.bwSf 8 0 none
  let s := s.tableEffect due P.bwPt P.bwPa 4 0 none
  let s := s.shareEffect due
  due.foldl (fun s p =>
    let s := s.triggerWritten p
    if groupedRows.any fun r => (r.find p).isSome then s else s.setEff p (s.stored p)) s

/-- The activations that the parameters enable: a set that raises U waits for its grant, any other takes effect (R454). -/
def State.loadCycle (s : State) : State :=
  if !s.life.domains.getLsbD 5 then s
  else
    let w := s.suWant
    let u := s.suLoad w
    if s.arb.u < u then s.modArb fun b => { b with loadWait := true }
    else (s.modArb fun b => { b with u := u, loadWait := false }).modSu fun x => { x with enabled := w }

/-- Parameters and activations at a boundary; a changed set or a changed figure is due for the schedule check (R6, R196). -/
def State.boundaryEffect (s : State) : State :=
  let old := s.suParams
  let s := s.cycleEffect.loadCycle
  if s.suParams = old then s else s.modSu fun x => { x with check := true }

/-! ## Inputs (R204, R233, R268, R276) -/

/-- A publication of another lane in the cycle that ends shows VSS (R268). -/
def State.seesVss (s : State) : Bool :=
  let f := fun (b : Option (List Word)) => match b with | some x => (x.headD 0).getLsbD 1 | none => false
  (fins 6).any fun i => i != s.idx && (let p := s.nov.pubIn[i]; f p.b0 || f p.b1 || f p.b2)

/-- VSS of another lane asks for the safe stop, once for as long as it shows (R268, R271). -/
def State.vssCycle (s : State) : State :=
  let v := s.seesVss
  let ask := v && !s.safe.askVss
  let s := s.modSafe fun f => { f with pubVss := v, askVss := v }
  if ask then s.askStop 4 else s

/-- The inputs of the cycle: the blocks published in the one that ends (R204, R209). -/
def State.inputCycle (s : State) : State :=
  s.modVote fun v => { v with in1 := Vector.ofFn fun i => (s.pubOf i).b1, in2 := Vector.ofFn fun i => (s.pubOf i).b2 }

/-! ## Vehicle functions (chapters 8 and 9) -/

/-- The steering inputs and windings of the cycle (R205, R207, R219, R221). -/
def State.steerInputs (s : State) : State :=
  if s.pw P.sbwEn = 0 then s
  else
    let s := s.handCycle
    let s := if s.pn P.sbwArtcid ≠ 0 then s.articCycle else s
    forFin 3 (fun n s => s.ferrCycle n) s

/-- The braking inputs, the ledger and the parking hold of the cycle (R232, R234, R235, R246, R248, R250). -/
def State.brakeInputs (s : State) : State :=
  let req := s.brake.reqW
  let conf := s.brake.confW
  let s := if s.pedalOn then s.pedalCycle else s
  let s := forFin 8 (fun l s => s.forceCycle l) s
  let s := s.speedCycle
  let s := if (s.pw P.bwEn &&& 0xFF) != 0 then (s.ledgerCycle req conf).ledgerSave else s
  s.parkCycle

/-- The set-points of the cycle (R209). `inv` tells of a fresh message of bw.invcid. -/
def State.computeCycle (s : State) (gOld : Vector Q 2) (inv : Bool) : State :=
  let (s, st) := s.steerSetPts gOld
  let (s, br) := s.brakeSetPts inv (st.drop 4)
  s.modVote fun v => { v with own := st ++ br }

/-- The connections that the lane produces, once the cycle's work is done (R239, R247, R333, R394). -/
def State.produceCycle (s : State) : State :=
  let g := s.grp.val
  let id := fun (p : PSpec) => if s.pn p = 0 then 0 else s.pn p + g
  let s := if s.auth then (s.produce 0 (id P.bwReqcid) [toFix 16 (s.vote.applied.getD 7 0)]).produce 1 (id P.twGradecid) s.gradeWords else s
  match s.latchWord with
  | some w => s.produce 2 (s.pn P.bwLatchcid) [w]
  | none => s

/-- The cycle sums begin anew (R204, R232, R233). -/
def State.resetSums (s : State) : State :=
  s.modBrake fun b =>
    { b with sumTab := Vector.replicate 8 0, sumCur := Vector.replicate 8 0, sumN := Vector.replicate 8 0, slow := Vector.replicate 8 true,
             sumIq := Vector.replicate 8 0, sumF := Vector.replicate 8 0 }

/-- The vote, the stops, the application of the voted set-points and the functions of one cycle, and the commit of the blocks that it
publishes (R30 to R33, R209, R268, R351). -/
def State.functionCycle (s : State) (cycle : Int) : State :=
  let b1 := s.blockB1.drop 1
  let b2 := s.blockB2.drop 1
  let inv := match s.connOf (s.pn P.bwInvcid) with | some c => s.nov.rx[c].got | none => false
  let gOld := s.steer.gam
  let s := s.nvCycle.vssCycle.applySuper
  let s := s.castVote.defaultCycle.siTake.stopCauses.inputCycle
  let s := s.applySteer.applyBrake
  let s := s.windCycle.steerInputs.brakeInputs
  let s := (s.computeCycle gOld inv).safePhases.formGrade.resetSums
  let w := s.pubStatus
  s.modVote fun v =>
    { v with commit := ⟨#[some (s.blockB0 v.own), some (w :: b1), some (w :: b2)], rfl⟩, commitFor := cycle }

/-- A lane in split mode neither publishes nor votes; its safety inputs, safe stops and connections act (R36). -/
def State.splitCycle (s : State) : State :=
  let s := s.nvCycle.siTake.stopCauses
  (s.speedCycle.safePhases).modInteg fun g =>
    { g with wdog := if g.core1Off then vset g.wdog 0 s.clk.lclk else Vector.replicate 2 s.clk.lclk }

/-! ## Work that ends -/

/-- An alignment run, or an abort, of an axis that has stopped: the operation completes with a code the manual does not give, and the
abort finds no move. -/
def State.sweepAxis (s : State) (l : AxisNo) : State :=
  let a := s.ax[l]
  let s := if a.com.align.isNone && a.com.alignOp.isSome then
      (s.modAx l fun a => { a with com := { a.com with alignOp := none } }).tickFree.completeIf a.com.alignOp 0 [Config.freeWord s.free]
    else s
  if !s.axEn l && !a.prof.abortReq.isEmpty then
    a.prof.abortReq.foldl (fun s r => s.answerLate r 0x0204 0x30) (s.modAx l fun a => { a with prof := { a.prof with abortReq := [] } })
  else s

/-- The cycle's inputs are used up: publications, sent blocks and the marks of OP_NOVMI_STATUS. -/
def State.clearCycle (s : State) : State :=
  (s.modNov fun n => { n with pubIn := Vector.replicate 6 {}, pub := n.pub.map fun (x : Conn) => { x with got := false } }).modVtb
    fun v => { v with sentBlk := Vector.replicate 3 false }

/-- The supervisor runs vehicle cycles: firmware runs, SUP is not under test, and the lane does not sleep (R65, R466). -/
def State.cyclesRun (s : State) : Bool :=
  s.fwOn && !s.underTest.getLsbD 0 && (s.life.ps == PState.run || s.life.ps == PState.idle)

/-- The supervisor has no more work: IDLE (R426). -/
def State.enterIdle (s : State) : State :=
  if s.life.ps = .run ∧ !s.anyRequest then s.modLife fun f => { f with ps := .idle } else s

/-- What a vehicle-cycle start triggers at the inputs: the wheel-speed results and the SSI frames (R92, R94). -/
def State.cycleInputs (s : State) : State :=
  if s.linkOn then (forFin 8 (fun w s => s.wheelCycle w) s).ssiDue 0 s.life.cycStart else s

/-- One vehicle cycle after its schedule; `cycle` is its number in whole milliseconds of global time. -/
def State.vehicleCycle (s : State) (cycle : Int) : State :=
  let t := s.gt
  let s := s.leaveIdle.boundaryEffect.cycleInputs
  let s := forFin 8 (fun l s => if s.allocated l then (s.rackCount l).rackFailed l else s) s
  let s := if s.split then s.splitCycle
    else if s.life.st.operating then (s.functionCycle cycle).produceCycle.lateServe
    else s.nvCycle.resetSums
  let s := (s.twinCycle t).clearCycle
  let s := forFin 8 (fun l s => s.sweepAxis l) s
  s.serveCycle.suCheck.pollTest.driveReady.enterIdle

/-- The cycle of a boundary: a lag above 4 ms is a lane fault; otherwise its work runs (R65). -/
def State.runCycle (s : State) (work boundary : Ns) : State :=
  if !s.cyclesRun then s
  else
    let s := s.cycSchedule work boundary
    if ms 4 < s.life.cycLag then s.fail 8 1 else s.vehicleCycle ((s.gtAt boundary + 500000) / 1000000)

/-- The cycles that waited for a level change run once it has ended, oldest first (R423). -/
def State.resumeCycles (s : State) : State :=
  if s.changing then s
  else
    let w := s.life.cycWait
    w.foldl (fun s x => s.runCycle x.1 x.2) (s.modLife fun f => { f with cycWait := [] })

/-- VEHICLE_CYCLE_START (R65): the cycle of this boundary runs, or waits for the end of a level change (R423). -/
def execVehicleCycleStart (work now : Ns) (s : State) : Out :=
  if !s.cyclesRun then .next s
  else
    let s := (if s.changing then (s.at now).levelPoll else s).resumeCycles
    .next (if s.changing then s.modLife fun f => { f with cycWait := f.cycWait ++ [(work, now)] } else s.runCycle work now)

/-! ## Level changes, the regulator and its PGOOD (R423 to R425) -/

/-- Global time passes a whole millisecond at this instant: a vehicle-cycle boundary (R65, R423). -/
def State.atBoundary (s : State) (now : Ns) : Bool := decide (0 < now) && decide (s.gtAt (now - 1) / 1000000 < s.gtAt now / 1000000)

/-- A change that waits for its boundary starts: a fall switches the divider first, and VOUT_COMMAND is sent (R423). -/
def State.startLevel (s : State) : State :=
  match s.life.plc with
  | some c =>
    if c.started ∨ c.waiting ∨ !s.fwOn then s
    else
      let w := s.voutWord c.target
      let down := decide (c.target.toNat < c.old.toNat)
      s.modLife fun f =>
        { f with plc := some { c with started := true, attempts := 1, ack := none, since := s.clk.lclk }, voutCmd := w,
                 divider := if down then c.target else f.divider }
  | none => s

/-- PL_CHANGE_START: only at a vehicle-cycle boundary, before that cycle's work (R36, R423). -/
def execPlChangeStart (now : Ns) (s : State) : Out :=
  let s := s.at now
  .next (if s.atBoundary now then s.startLevel else s)

/-- The 500 µs from the ACK have passed without confirmation: the attempt fails (R424). -/
def State.attemptTimeout (s : State) : State :=
  match s.life.plc with
  | some c =>
    match c.ack with
    | some t => if c.started ∧ s.since t 500000 then s.attemptFails c else s
    | none => s
  | none => s

/-- PL_ATTEMPT_TIMEOUT (R424). -/
def execPlAttemptTimeout (now : Ns) (s : State) : Out := .next (s.at now).levelPoll.attemptTimeout.resumeCycles

/-- PMBUS_TRANSACTION. The master is in SUP's and LINK's care once firmware runs (R418, R423). -/
def execPmbusTransaction (kind : PmbKind) (result : PmbResult) (now : Ns) (s : State) : Out :=
  let s := s.at now
  .next ((if s.fwOn ∨ s.life.st = .boot then s.pmbus kind result else s).resumeCycles)

/-- PGOOD_CHANGE (R423, R425, R514). -/
def execPgoodChange (high : Bool) (now : Ns) (s : State) : Out := .next ((s.at now).pgoodEdge high).resumeCycles

end Sys2Proof.Machine
end

