-- ==== Sys2Proof/Machine/Dispatch.lean ====
section
/-!
DEFINITION. The dispatch: one arm per command, each one direct call of that command's own meaning.
-/

namespace Sys2Proof.Machine

/-- The effect of a command on everything but the queue of waiting commands. -/
def exec (i : Instr) (s : State) : Host.Outcome State Fault Refusal :=
  match i with
  | .opNop r => Sys2Proof.Machine.execOpNop r s
  | .opParRead r => Sys2Proof.Machine.execOpParRead r s
  | .opParWrite r => Sys2Proof.Machine.execOpParWrite r s
  | .opParInfo r => Sys2Proof.Machine.execOpParInfo r s
  | .opDigestRead r => Sys2Proof.Machine.execOpDigestRead r s
  | .opAxEnable r => Sys2Proof.Machine.execOpAxEnable r s
  | .opAxDisable r => Sys2Proof.Machine.execOpAxDisable r s
  | .opAxMove r => Sys2Proof.Machine.execOpAxMove r s
  | .opAxAbort r => Sys2Proof.Machine.execOpAxAbort r s
  | .opAxRelease r => Sys2Proof.Machine.execOpAxRelease r s
  | .opAxSetpos r => Sys2Proof.Machine.execOpAxSetpos r s
  | .opAxArmIndex r => Sys2Proof.Machine.execOpAxArmIndex r s
  | .opAxArmLatch r => Sys2Proof.Machine.execOpAxArmLatch r s
  | .opAxPreset r => Sys2Proof.Machine.execOpAxPreset r s
  | .opAxAlign r => Sys2Proof.Machine.execOpAxAlign r s
  | .opAxCmpWrite r => Sys2Proof.Machine.execOpAxCmpWrite r s
  | .opAxCmpRead r => Sys2Proof.Machine.execOpAxCmpRead r s
  | .opAxSetpoint r => Sys2Proof.Machine.execOpAxSetpoint r s
  | .opAxStatus r => Sys2Proof.Machine.execOpAxStatus r s
  | .opSiClear r => Sys2Proof.Machine.execOpSiClear r s
  | .opSsAxis r => Sys2Proof.Machine.execOpSsAxis r s
  | .opSsVehicle r => Sys2Proof.Machine.execOpSsVehicle r s
  | .opSsRelease r => Sys2Proof.Machine.execOpSsRelease r s
  | .opPwrLevel r => Sys2Proof.Machine.execOpPwrLevel r s
  | .opPwrSleep r => Sys2Proof.Machine.execOpPwrSleep r s
  | .opPwrSleepDoze r => Sys2Proof.Machine.execOpPwrSleepDoze r s
  | .opPwrShutdown r => Sys2Proof.Machine.execOpPwrShutdown r s
  | .opPwrStatus r => Sys2Proof.Machine.execOpPwrStatus r s
  | .opChopfClear r => Sys2Proof.Machine.execOpChopfClear r s
  | .opStStart r => Sys2Proof.Machine.execOpStStart r s
  | .opStStatus r => Sys2Proof.Machine.execOpStStatus r s
  | .opTwinStatus r => Sys2Proof.Machine.execOpTwinStatus r s
  | .opTwinCastle r => Sys2Proof.Machine.execOpTwinCastle r s
  | .opVfSteer r => Sys2Proof.Machine.execOpVfSteer r s
  | .opVfBrake r => Sys2Proof.Machine.execOpVfBrake r s
  | .opVfParkRequest r => Sys2Proof.Machine.execOpVfParkRequest r s
  | .opVfParkRelease r => Sys2Proof.Machine.execOpVfParkRelease r s
  | .opLedgerRead r => Sys2Proof.Machine.execOpLedgerRead r s
  | .opLedgerClear r => Sys2Proof.Machine.execOpLedgerClear r s
  | .opSuWrite r => Sys2Proof.Machine.execOpSuWrite r s
  | .opSuRead r => Sys2Proof.Machine.execOpSuRead r s
  | .opSuCommit r => Sys2Proof.Machine.execOpSuCommit r s
  | .opSuStatus r => Sys2Proof.Machine.execOpSuStatus r s
  | .opVtbStatus r => Sys2Proof.Machine.execOpVtbStatus r s
  | .opCanStatus r => Sys2Proof.Machine.execOpCanStatus r s
  | .opEthStatus r => Sys2Proof.Machine.execOpEthStatus r s
  | .opMdioRead r => Sys2Proof.Machine.execOpMdioRead r s
  | .opMdioWrite r => Sys2Proof.Machine.execOpMdioWrite r s
  | .opNovmiStatus r => Sys2Proof.Machine.execOpNovmiStatus r s
  | .opDiagIdent r => Sys2Proof.Machine.execOpDiagIdent r s
  | .opDiagCounters r => Sys2Proof.Machine.execOpDiagCounters r s
  | .opLogRead r => Sys2Proof.Machine.execOpLogRead r s
  | .opEventRead r => Sys2Proof.Machine.execOpEventRead r s
  | .opAbort r => Sys2Proof.Machine.execOpAbort r s
  | .opNetSend r => Sys2Proof.Machine.execOpNetSend r s
  | .queueDoorbellPush q ptr => Sys2Proof.Machine.execQueueDoorbellPush q ptr s
  | .queueDoorbellPop q ptr => Sys2Proof.Machine.execQueueDoorbellPop q ptr s
  | .lanectlRestart key => Sys2Proof.Machine.execLanectlRestart key s
  | .bootctlErase key => Sys2Proof.Machine.execBootctlErase key s
  | .bootctlProgram key => Sys2Proof.Machine.execBootctlProgram key s
  | .bootctlCheckBoot key valid => Sys2Proof.Machine.execBootctlCheckBoot key valid s
  | .aonPostedWrite timer value => Sys2Proof.Machine.execAonPostedWrite timer value s
  | .intstatClear value => Sys2Proof.Machine.execIntstatClear value s
  | .parrecClear value => Sys2Proof.Machine.execParrecClear value s
  | .gtimelRead now => Sys2Proof.Machine.execGtimelRead now s
  | .registerWrite mosi => Sys2Proof.Machine.execRegisterWrite mosi s
  | .fsreq reason => Sys2Proof.Machine.execFsreq reason s
  | .tunnelResponseSend => Sys2Proof.Machine.execTunnelResponseSend s
  | .nop e => Sys2Proof.Machine.execNop e s
  | .halt e => Sys2Proof.Machine.execHalt e s
  | .jmp e target => Sys2Proof.Machine.execJmp e target s
  | .jcc e cond target => Sys2Proof.Machine.execJcc e cond target s
  | .call e target => Sys2Proof.Machine.execCall e target s
  | .ret e => Sys2Proof.Machine.execRet e s
  | .repeat e count => Sys2Proof.Machine.execRepeat e count s
  | .decj e target => Sys2Proof.Machine.execDecj e target s
  | .dlvr e axis ptr slot => Sys2Proof.Machine.execDlvr e axis ptr slot s
  | .prd e f => Sys2Proof.Machine.execPrd e f s
  | .pra e f => Sys2Proof.Machine.execPra e f s
  | .prs e f => Sys2Proof.Machine.execPrs e f s
  | .prn e f => Sys2Proof.Machine.execPrn e f s
  | .pmv e f => Sys2Proof.Machine.execPmv e f s
  | .add e d src => Sys2Proof.Machine.execAdd e d src s
  | .sub e d src => Sys2Proof.Machine.execSub e d src s
  | .neg e d src => Sys2Proof.Machine.execNeg e d src s
  | .absA e d src => Sys2Proof.Machine.execAbsA e d src s
  | .clr e d src => Sys2Proof.Machine.execClr e d src s
  | .asl e d src sh => Sys2Proof.Machine.execAsl e d src sh s
  | .asr e d src sh => Sys2Proof.Machine.execAsr e d src sh s
  | .sat e d src => Sys2Proof.Machine.execSat e d src s
  | .maxA e d src => Sys2Proof.Machine.execMaxA e d src s
  | .minA e d src => Sys2Proof.Machine.execMinA e d src s
  | .addb e d src => Sys2Proof.Machine.execAddb e d src s
  | .tst e d src => Sys2Proof.Machine.execTst e d src s
  | .rndh e d src => Sys2Proof.Machine.execRndh e d src s
  | .operandLoad e reg ptr ps abs addr => Sys2Proof.Machine.execOperandLoad e reg ptr ps abs addr s
  | .operandStore e reg ptr ps abs addr => Sys2Proof.Machine.execOperandStore e reg ptr ps abs addr s
  | .immediateLoad e reg imm => Sys2Proof.Machine.execImmediateLoad e reg imm s
  | .pointerLoad e n imm => Sys2Proof.Machine.execPointerLoad e n imm s
  | .pointerAdd e n imm => Sys2Proof.Machine.execPointerAdd e n imm s
  | .stepLoad e n imm => Sys2Proof.Machine.execStepLoad e n imm s
  | .wrapLoad e n imm => Sys2Proof.Machine.execWrapLoad e n imm s
  | .registerMove e dst src => Sys2Proof.Machine.execRegisterMove e dst src s
  | .currentLoopSample l x => Sys2Proof.Machine.execCurrentLoopSample l x s
  | .pwmLoadPoint l peak now => Sys2Proof.Machine.execPwmLoadPoint l peak now s
  | .dsmStuck l input now => Sys2Proof.Machine.execDsmStuck l input now s
  | .overcurrent l phase now => Sys2Proof.Machine.execOvercurrent l phase now s
  | .currentSum l now => Sys2Proof.Machine.execCurrentSum l now s
  | .currentOffsetCalibration l now => Sys2Proof.Machine.execCurrentOffsetCalibration l now s
  | .modelResidual l now => Sys2Proof.Machine.execModelResidual l now s
  | .modelImplausible l now => Sys2Proof.Machine.execModelImplausible l now s
  | .feedbackStale l now => Sys2Proof.Machine.execFeedbackStale l now s
  | .linkStageChange k now => Sys2Proof.Machine.execLinkStageChange k now s
  | .linkVoltageKnown k now => Sys2Proof.Machine.execLinkVoltageKnown k now s
  | .chopperFault k feedback now => Sys2Proof.Machine.execChopperFault k feedback now s
  | .encoderTransition l ba now => Sys2Proof.Machine.execEncoderTransition l ba now s
  | .encoderIllegalBurst l now => Sys2Proof.Machine.execEncoderIllegalBurst l now s
  | .indexEvent l rising now => Sys2Proof.Machine.execIndexEvent l rising now s
  | .referenceSwitchEdge l rising now => Sys2Proof.Machine.execReferenceSwitchEdge l rising now s
  | .speedWindowEnd l now => Sys2Proof.Machine.execSpeedWindowEnd l now s
  | .resolverMeasurement l bits now => Sys2Proof.Machine.execResolverMeasurement l bits now s
  | .sentFrame p f now => Sys2Proof.Machine.execSentFrame p f now s
  | .ssiTrigger p now => Sys2Proof.Machine.execSsiTrigger p now s
  | .ssiFrame p f now => Sys2Proof.Machine.execSsiFrame p f now s
  | .serialTimeout p now => Sys2Proof.Machine.execSerialTimeout p now s
  | .wheelSpeedEdge w rising now => Sys2Proof.Machine.execWheelSpeedEdge w rising now s
  | .wheelSpeedStill w now => Sys2Proof.Machine.execWheelSpeedStill w now s
  | .pulseDividerPulse d now => Sys2Proof.Machine.execPulseDividerPulse d now s
  | .saturationPulseDone l now => Sys2Proof.Machine.execSaturationPulseDone l now s
  | .ifStartPhaseEnd l now => Sys2Proof.Machine.execIfStartPhaseEnd l now s
  | .ifRetryWaitEnd l now => Sys2Proof.Machine.execIfRetryWaitEnd l now s
  | .probeDone l now => Sys2Proof.Machine.execProbeDone l now s
  | .dAxisBrakingTimeout l now => Sys2Proof.Machine.execDAxisBrakingTimeout l now s
  | .alignHoldEnd l now => Sys2Proof.Machine.execAlignHoldEnd l now s
  | .speedImplausible l now => Sys2Proof.Machine.execSpeedImplausible l now s
  | .rackImplausible l now => Sys2Proof.Machine.execRackImplausible l now s
  | .followingError l now => Sys2Proof.Machine.execFollowingError l now s
  | .axisSafestopRemoval l now => Sys2Proof.Machine.execAxisSafestopRemoval l now s
  | .safetyInputChange n now => Sys2Proof.Machine.execSafetyInputChange n now s
  | .siDiscrepancy n now => Sys2Proof.Machine.execSiDiscrepancy n now s
  | .aonTick x now => Sys2Proof.Machine.execAonTick x now s
  | .vehicleCycleStart work now => Sys2Proof.Machine.execVehicleCycleStart work now s
  | .voteHeldLimit now => Sys2Proof.Machine.execVoteHeldLimit now s
  | .voteNoneLimit now => Sys2Proof.Machine.execVoteNoneLimit now s
  | .voteOutlier lane now => Sys2Proof.Machine.execVoteOutlier lane now s
  | .windingLost g l now => Sys2Proof.Machine.execWindingLost g l now s
  | .hwAngleLost now => Sys2Proof.Machine.execHwAngleLost now s
  | .centreSearch n now => Sys2Proof.Machine.execCentreSearch n now s
  | .forceImplausible l now => Sys2Proof.Machine.execForceImplausible l now s
  | .regenUnconfirmed now => Sys2Proof.Machine.execRegenUnconfirmed now s
  | .regenBlockExpiry now => Sys2Proof.Machine.execRegenBlockExpiry now s
  | .parkLatchTimeout now => Sys2Proof.Machine.execParkLatchTimeout now s
  | .parkRetry now => Sys2Proof.Machine.execParkRetry now s
  | .ledgerSave now => Sys2Proof.Machine.execLedgerSave now s
  | .safestopStill now => Sys2Proof.Machine.execSafestopStill now s
  | .novmiDeadline c now => Sys2Proof.Machine.execNovmiDeadline c now s
  | .arbiterGrant now => Sys2Proof.Machine.execArbiterGrant now s
  | .guaranteeRestored now => Sys2Proof.Machine.execGuaranteeRestored now s
  | .levelRaiseNoBudget now => Sys2Proof.Machine.execLevelRaiseNoBudget now s
  | .plChangeStart now => Sys2Proof.Machine.execPlChangeStart now s
  | .pmbusTransaction kind result now => Sys2Proof.Machine.execPmbusTransaction kind result now s
  | .plAttemptTimeout now => Sys2Proof.Machine.execPlAttemptTimeout now s
  | .pgoodChange high now => Sys2Proof.Machine.execPgoodChange high now s
  | .voutFault kind now => Sys2Proof.Machine.execVoutFault kind now s
  | .lockstepMismatch c0 c1 now => Sys2Proof.Machine.execLockstepMismatch c0 c1 now s
  | .exchangeRead kind src width s0 s1 now => Sys2Proof.Machine.execExchangeRead kind src width s0 s1 now s
  | .interruptWindowEnd p0 p1 now => Sys2Proof.Machine.execInterruptWindowEnd p0 p1 now s
  | .configParityFault owner word value par now => Sys2Proof.Machine.execConfigParityFault owner word value par now s
  | .scrubAccess m bank addr r now => Sys2Proof.Machine.execScrubAccess m bank addr r now s
  | .unmappedAccess write => Sys2Proof.Machine.execUnmappedAccess write s
  | .splitWatchdog core now => Sys2Proof.Machine.execSplitWatchdog core now s
  | .splitCoreFault core cause now => Sys2Proof.Machine.execSplitCoreFault core cause now s
  | .suActivationRelease a now => Sys2Proof.Machine.execSuActivationRelease a now s
  | .suKernelHalt a now => Sys2Proof.Machine.execSuKernelHalt a now s
  | .suDeadline a now => Sys2Proof.Machine.execSuDeadline a now s
  | .twinClaimEdge now => Sys2Proof.Machine.execTwinClaimEdge now s
  | .twinClaimAbsent now => Sys2Proof.Machine.execTwinClaimAbsent now s
  | .claimStart now => Sys2Proof.Machine.execClaimStart now s
  | .claimConfirmed now => Sys2Proof.Machine.execClaimConfirmed now s
  | .claimRetry now => Sys2Proof.Machine.execClaimRetry now s
  | .castlingSettle now => Sys2Proof.Machine.execCastlingSettle now s
  | .castlingGateEnable now => Sys2Proof.Machine.execCastlingGateEnable now s
  | .pairingTimeout now => Sys2Proof.Machine.execPairingTimeout now s
  | .blackClaimTimer now => Sys2Proof.Machine.execBlackClaimTimer now s
  | .yield f now => Sys2Proof.Machine.execYield f now s
  | .status f now => Sys2Proof.Machine.execStatus f now s
  | .axis f now => Sys2Proof.Machine.execAxis f now s
  | .compare f now => Sys2Proof.Machine.execCompare f now s
  | .super f now => Sys2Proof.Machine.execSuper f now s
  | .twinFrameDiscard coded bytes now => Sys2Proof.Machine.execTwinFrameDiscard coded bytes now s
  | .twinFrameTransmit now => Sys2Proof.Machine.execTwinFrameTransmit now s
  | .twinLinkLost now => Sys2Proof.Machine.execTwinLinkLost now s
  | .vtbCycleStart ticks now => Sys2Proof.Machine.execVtbCycleStart ticks now s
  | .vtbSlotTransmit slot echo now => Sys2Proof.Machine.execVtbSlotTransmit slot echo now s
  | .vtbFrameReceived ch f now => Sys2Proof.Machine.execVtbFrameReceived ch f now s
  | .guardianAttempt ch now => Sys2Proof.Machine.execGuardianAttempt ch now s
  | .guardianScheduleCrc ch crc now => Sys2Proof.Machine.execGuardianScheduleCrc ch crc now s
  | .coldstartTimeout echo now => Sys2Proof.Machine.execColdstartTimeout echo now s
  | .vtbSyncLost now => Sys2Proof.Machine.execVtbSyncLost now s
  | .vtbChannelDown ch now => Sys2Proof.Machine.execVtbChannelDown ch now s
  | .vtbBusActivityEnd now => Sys2Proof.Machine.execVtbBusActivityEnd now s
  | .canFrameReceived n f now => Sys2Proof.Machine.execCanFrameReceived n f now s
  | .canFrameSent n now => Sys2Proof.Machine.execCanFrameSent n now s
  | .canTxTimeout n now => Sys2Proof.Machine.execCanTxTimeout n now s
  | .canBusoff n now => Sys2Proof.Machine.execCanBusoff n now s
  | .canRecovered n now => Sys2Proof.Machine.execCanRecovered n now s
  | .ethFrameReceived f now => Sys2Proof.Machine.execEthFrameReceived f now s
  | .ethDatagramSent now => Sys2Proof.Machine.execEthDatagramSent now s
  | .wakeSource w now => Sys2Proof.Machine.execWakeSource w now s
  | .sleepEntryAbortPoint ap now => Sys2Proof.Machine.execSleepEntryAbortPoint ap now s
  | .sleepGrantTimeout now => Sys2Proof.Machine.execSleepGrantTimeout now s
  | .wakeReplayed now => Sys2Proof.Machine.execWakeReplayed now s
  | .wakeTimer now => Sys2Proof.Machine.execWakeTimer now s
  | .resumeSupplyConfirmed sigs par now => Sys2Proof.Machine.execResumeSupplyConfirmed sigs par now s
  | .nrst released straps now => Sys2Proof.Machine.execNrst released straps now s
  | .vddAonApplied crystal lane => Sys2Proof.Machine.execVddAonApplied crystal lane s
  | .vddAonLost => Sys2Proof.Machine.execVddAonLost s
  | .vddioPadReset low now => Sys2Proof.Machine.execVddioPadReset low now s
  | .vddFixDrop now => Sys2Proof.Machine.execVddFixDrop now s
  | .firmwareImageCheck verA verB headA headB okA okB now => Sys2Proof.Machine.execFirmwareImageCheck verA verB headA headB okA okB now s
  | .configurationLoad now => Sys2Proof.Machine.execConfigurationLoad now s
  | .comparatorInjectionTest caught0 caught1 ordered stable clean now => Sys2Proof.Machine.execComparatorInjectionTest caught0 caught1 ordered stable clean now s
  | .verdictCheck now => Sys2Proof.Machine.execVerdictCheck now s
  | .startChecks now => Sys2Proof.Machine.execStartChecks now s
  | .driveReady now => Sys2Proof.Machine.execDriveReady now s
  | .selftestDomainStart d now => Sys2Proof.Machine.execSelftestDomainStart d now s
  | .selftestCheckpoint d ok now => Sys2Proof.Machine.execSelftestCheckpoint d ok now s
  | .selftestDomainDone d marchOk restoreOk now => Sys2Proof.Machine.execSelftestDomainDone d marchOk restoreOk now s
  | .selftestStop cause now => Sys2Proof.Machine.execSelftestStop cause now s
  | .isolationRelease d now => Sys2Proof.Machine.execIsolationRelease d now s
  | .pgoodWaitTimeout now => Sys2Proof.Machine.execPgoodWaitTimeout now s
  | .dAxisBrakingWaitEnd l now => Sys2Proof.Machine.execDAxisBrakingWaitEnd l now s
  | .bootCommandComplete now => Sys2Proof.Machine.execBootCommandComplete now s
  | .spiReadFrame mosi => Sys2Proof.Machine.execSpiReadFrame mosi s

end Sys2Proof.Machine
end

