-- ==== Sys2Proof/Safety.lean ====
section
/-!
DEFINITION. The terms the statements use: what counts as a safe condition of the lane, when a request reaches its opcode, and how
an answer leaves.
-/

namespace Sys2Proof.Machine

/-- An axis drives its winding: its gates switch. -/
def State.drives (s : State) (l : AxisNo) : Bool := s.ax[l].pwm.gates

/-- No axis of the lane drives. -/
def State.allLow (s : State) : Bool := (fins 8).all fun l => !s.drives l

/-- The lane is fail-silent by a cause with its group: no axis drives or is enabled, the claim is gone, the signal unit is held in reset,
and both links are stopped. -/
def State.silencedBy (s : State) (cause : BitVec 4) (group : Byte) : Bool :=
  s.life.st == LaneSt.failSilent && (fins 8).all (fun l => !s.ax[l].en && !s.ax[l].pwm.gates) && !s.twin.claim &&
    s.aon.failrec == (0x80000000 ||| (cause.setWidth 32 <<< 24) ||| (group.setWidth 32 <<< 16)) && s.su.reset && s.eth.stopped &&
    s.vtb.st == VtbSt.off

/-- A step ran to a next state. -/
def ran (o : Host.Outcome State Fault Refusal) : Bool :=
  match o with
  | .next _ => true
  | _ => false

/-! ## The canonical form of the stores -/

/-- The memories of an engine, and their copies in flash, are in canonical form. -/
def Engine.canonical (g : Engine) (e : EngineId) : Bool :=
  Cells.wf (progD e) g.prog && Cells.wf (operD e) g.oper && Cells.wf (progD e) g.progFlash && Cells.wf (operD e) g.operFlash

/-- Every sparse store of the lane is in canonical form: the parameters, the counters, the boot window, the flash, the supervisor's SRAM
and the memories of the engines. -/
def State.canonical (s : State) : Bool :=
  Cells.wf storeD s.par.stored && Cells.wf storeD s.par.eff && Cells.wf zeroD s.cnt && Cells.wf zeroD s.regs.bootwin &&
    Cells.wf flashD s.regs.flash && Cells.wf zeroD s.integ.sram && s.su.eng.canonical .su && (fins 8).all fun l => s.ax[l].eng.canonical (.loop l)

/-- Every stored parameter belongs to a row of the tables and lies in that row's range. -/
def State.paramsInRange (s : State) : Bool :=
  s.par.stored.all fun c => match lookupPid c.1 with
    | some (p, _, _) => p.inRange c.2
    | none => false

/-! ## Requests -/

/-- The rows of the table that are served requests. -/
def requestRows : List (Req → Instr) :=
  [.opNop, .opParRead, .opParWrite, .opParInfo, .opDigestRead, .opAxEnable, .opAxDisable, .opAxMove, .opAxAbort,
   .opAxRelease, .opAxSetpos, .opAxArmIndex, .opAxArmLatch, .opAxPreset, .opAxAlign, .opAxCmpWrite, .opAxCmpRead,
   .opAxSetpoint, .opAxStatus, .opSiClear, .opSsAxis, .opSsVehicle, .opSsRelease, .opPwrLevel, .opPwrSleep,
   .opPwrSleepDoze, .opPwrShutdown, .opPwrStatus, .opChopfClear, .opStStart, .opStStatus, .opTwinStatus,
   .opTwinCastle, .opVfSteer, .opVfBrake, .opVfParkRequest, .opVfParkRelease, .opLedgerRead, .opLedgerClear,
   .opSuWrite, .opSuRead, .opSuCommit, .opSuStatus, .opVtbStatus, .opCanStatus, .opEthStatus, .opMdioRead,
   .opMdioWrite, .opNovmiStatus, .opDiagIdent, .opDiagCounters, .opLogRead, .opEventRead, .opAbort, .opNetSend]

/-- The state in which the body of a request runs: its source has been heard (R397). -/
def State.heard (s : State) (r : Req) : State :=
  if r.noseq then (if (s.peer r.src).isSome then s.touch r.src else s) else s.touch r.src

/-- The class of a request is one of the four, and its SEQ is the one expected, or NOSEQ is set (R401, R403). -/
def State.follows (s : State) (r : Req) : Bool :=
  match clsFin r.cls with
  | none => false
  | some c => r.noseq || decide (judgeSeq ((s.heard r).seqOf r.src c) r.seq = .execute)

/-- A request reaches the body of its opcode: no test stands in its way, the supervisor serves, its SEQ follows, and checks 4 to 9 of
R404 pass. -/
def State.admits (s : State) (o : OpSpec) (r : Req) : Bool :=
  (s.meetTest o.opc r).isNone && s.serving && s.follows r && (s.precheck o r).isNone

/-- An answer ST_OK of one slot for each payload; with none, the response comes later. -/
def Ans.many (s : State) (ls : List (List Word)) : Ans := { st := s, slots := ls }

/-- An answer leaves, and its slots become the stored response of its sequence number (R403). -/
def Ans.close (a : Ans) (o : OpSpec) (r : Req) : State :=
  match clsFin r.cls with
  | none => a.st
  | some c =>
    if r.noseq then (a.send o r).1 else (a.send o r).1.setSeq r.src c ⟨r.seq + 1, some r.seq, (a.send o r).2⟩

/-! ## The loop instruction set -/

/-- An engine takes its next instruction once: its run has not ended, no REPEAT stands, no trap has been raised, and `n` more cycles stay
below the limit of R189. -/
def State.steady (s : State) (e : EngineId) (n : Nat) : Bool :=
  let c := (s.eng e).ctx
  !c.halted && c.rep.isNone && c.trap.isNone &&
    (!(s.eng e).integ || (match s.cycleLimit e with | some k => decide (c.cycles + n < k) | none => true))

/-- The registers after an instruction of `n` cycles that leaves no dependency behind. -/
def Ctx.after (c : Ctx) (n : Nat) : Ctx := { c with pc := c.pc + 1, cycles := c.cycles + n, lastAc := none, lastPtr := none }

/-- The state with an engine at work on the registers `c`. -/
def State.engineAt (s : State) (e : EngineId) (c : Ctx) : State := s.modEng e fun g => { g with running := true, ctx := c }

/-- A slice that an engine has: four in the signal unit, one in a loop engine (R173). -/
def sliceOn (e : EngineId) (j : Fin 4) : Bool := e == .su || j == 0

/-- The extra cycle of an instruction that reads an accumulator written just before, or uses a pointer set just before (R185). -/
def Ctx.stall (c : Ctx) (acs : List Bool) (ptrs : List (BitVec 3)) : Nat :=
  (match c.lastAc with | some a => if acs.contains a then 1 else 0 | none => 0) +
    (match c.lastPtr with | some p => if ptrs.any (fun n => n.toFin = p) then 1 else 0 | none => 0)

/-- The word that a register code gives a slice in a move to a 24-bit register: an accumulator saturates, LC, STAT and a pointer are extended
with zeros (R175, R176, R184). -/
def Ctx.gives (c : Ctx) (r : BitVec 4) (j : Fin 4) : W24 :=
  match r.toNat with
  | 0 => c.b[(0 : Fin 2)]
  | 1 => c.b[(1 : Fin 2)]
  | 2 => (c.s[(0 : Fin 2)])[j]
  | 3 => (c.s[(1 : Fin 2)])[j]
  | 4 => (moveAc (c.ac[(0 : Fin 2)])[j]).1
  | 5 => (moveAc (c.ac[(1 : Fin 2)])[j]).1
  | 6 => c.lc.setWidth 24
  | 7 => c.stat.setWidth 24
  | _ => (c.p[((r.setWidth 3 : BitVec 3).toFin : Fin 8)]).setWidth 24

/-- Some slice of accumulator `a` saturates in a move to 24 bits (R175). -/
def Ctx.clips (c : Ctx) (e : EngineId) (a : Bool) : Bool := (fins 4).any fun j => sliceOn e j && (moveAc (c.ac[two a])[j]).2

/-- What a command does to an engine whose program traps: the run ends with its memories and its call stack as they were, the attachment or
the activation stays off, EV_PROGRAM_TRAP names the axis, the address of the instruction and the cause, and the signal unit takes its
next run (R189, R194). -/
def State.trapsTo (s : State) (e : EngineId) (cause : Nat) (o : Out) : Prop :=
  let pc : Word := (s.eng e).ctx.pc.setWidth 32
  ∃ c : Ctx, c.halted = true ∧ c.trap = some cause ∧ c.stack = (s.eng e).ctx.stack ∧ c.act = (s.eng e).ctx.act ∧
    o = .next (match e with
      | .loop l =>
        (s.modEng e fun g => { g with running := false, off := true, ctx := c }).raise 0xF001 .amber (some l) [pc, BitVec.ofNat 32 cause]
      | .su =>
        let u := s.modEng e fun g => { g with running := false, off := true, ctx := c }
        let u := match c.act with
          | some a => { u with su := { u.su with acts := vmod u.su.acts a Act.trapped } }
          | none => u
        (u.raise 0xF001 .amber none [pc, BitVec.ofNat 32 cause]).nextRun)

end Sys2Proof.Machine
end

