-- ==== Sys2Proof/Certificates/Slice0/Obligations.lean ====
section
/-!
DEFINITION. The statements for the provers: one definition for each, named for what it states. The docstring names the rules.
-/

open Sys2Proof Sys2Proof.Machine

/-! ## The block -/

/-- Log entry 1 for the empty queue: a step runs the command at the front of the queue on the state with the queue's rest; with an empty
queue the block idles. -/
def Obligations.StepRunsFrontCommand : Prop :=
  (∀ (s : State) (c : Instr) (rest : List Instr), s.pending = c :: rest → step s = exec c { s with pending := rest }) ∧
    ∀ s : State, s.pending = [] → step s = .next s

/-- Commands leave the queue from the front only, and no command puts one in (the queue is the model's own). -/
def Obligations.CommandQueueIsFifo : Prop :=
  ∀ s t : State, step s = .next t → t.pending = s.pending.tail

/-- R24, R178, R200, R412, R414, R497, R505: every step keeps the sparse stores of the lane in canonical form: the parameters stored and in
effect, the counters, the boot window, the flash, the supervisor's SRAM, and the memories of all nine engines with their flash copies. -/
def Obligations.StepKeepsStoresCanonical : Prop :=
  ∀ s t : State, s.canonical → step s = .next t → t.canonical

/-- R5, R6, R404, R414: every step keeps each stored parameter inside the range of its row. -/
def Obligations.StepKeepsParametersInRange : Prop :=
  ∀ s t : State, s.canonical → s.paramsInRange → step s = .next t → t.paramsInRange

/-- R260, R414, R435, R440, R486, R492, R495: what reset leaves. The lane boots at PL1, no axis drives and no axis is enabled, every queue is
empty with its pointers at zero, every safety input shows DEMAND, and the stores are canonical with every parameter in its range. -/
def Obligations.ResetState : Prop :=
  State.reset.life.st = .boot ∧ State.reset.life.ps = .run ∧ State.reset.life.pl = 1 ∧ State.reset.life.drdy = false ∧
    State.reset.regs.intstat = 0x00400000 ∧ State.reset.regs.inten = 0 ∧
    (∀ q : Fin 16, State.reset.mb.queues[q].entries = [] ∧ State.reset.mb.queues[q].rptr = 0) ∧
    (∀ n : Fin 6, State.reset.aon.si[n].dem = true ∧ State.reset.aon.si[n].flt = false) ∧
    (∀ l : AxisNo, State.reset.ax[l].en = false ∧ State.reset.ax[l].pwm.gates = false ∧ State.reset.ax[l].fault = 0) ∧
    State.reset.twin.claim = false ∧ State.reset.pending = [] ∧ State.reset.canonical ∧ State.reset.paramsInRange

/-- R401 to R403: an answer of one slot to a request over SPI enters the response queue of its class when there is room. The slot carries
the opcode, the class, the length and DIR, the TAG and SEQ of the request, the status with its INDEX, and a right CRC. Beyond the queue, the
stored response of the source and, for an accepted operation, its record, nothing changes. -/
def Obligations.AnswerEntersResponseQueue : Prop :=
  ∀ (a : Ans) (o : OpSpec) (r : Req) (pl : List Word), r.src = .spi → r.cls.toNat < 4 → a.slots = [pl] → pl.length ≤ 12 →
    isRefusal a.code = false → a.code < 65536 → a.index < 256 → 0 < a.st.room (respQ r.cls) →
    ∃ w : Slot,
      (a.close o r).mb.queues[respQ r.cls].entries = a.st.mb.queues[respQ r.cls].entries ++ [⟨.spi, w⟩] ∧
      (∀ q : Fin 16, q ≠ respQ r.cls → (a.close o r).mb.queues[q] = a.st.mb.queues[q]) ∧
      { a.close o r with mb := a.st.mb } = a.st ∧
      w.length = 16 ∧ (w.getD 0 0).setWidth 16 = o.opc ∧ (w.getD 0 0 >>> 16).setWidth 4 = r.cls ∧
      ((w.getD 0 0).toNat / 2 ^ 20) % 64 = 4 * pl.length ∧ (w.getD 0 0).getLsbD 26 = true ∧ (w.getD 0 0).getLsbD 27 = false ∧
      (w.getD 1 0).setWidth 16 = r.tag ∧ (w.getD 1 0 >>> 16).setWidth 16 = r.seq ∧
      (w.getD 2 0).toNat = a.code + 65536 * a.index ∧ (w.drop 4).take pl.length = pl ∧ slotCrcOk w = true

/-- R403: a request that carries the SEQ of the last one executed is not executed again, whatever its opcode: the stored response is sent once
more. -/
def Obligations.RepeatedRequestIsReplayed : Prop :=
  ∀ f ∈ requestRows, ∀ (s : State) (r : Req) (c : Fin 4) (q : SeqState), s.runStops = false → s.serving → clsFin r.cls = some c →
    r.noseq = false → s.seqOf r.src c = some q → q.last = some r.seq → q.next ≠ r.seq →
      exec (f r) s = .next ((s.touch r.src).deliverAll r.src r.cls q.resp)

/-- R403, R404: a request whose SEQ does not follow is not executed, whatever its opcode: it is counted, answered ST_SEQ_GAP with LEN 0, and
the SEQ received becomes the one expected. -/
def Obligations.SequenceGapIsAnswered : Prop :=
  ∀ f ∈ requestRows, ∀ (s : State) (r : Req) (c : Fin 4) (q : SeqState), s.runStops = false → s.serving → clsFin r.cls = some c →
    r.noseq = false → s.seqOf r.src c = some q → q.last ≠ some r.seq → q.next ≠ r.seq →
      ∃ (t : State) (opc : BitVec 16),
        exec (f r) s = .next ((t.countRefusal 0x25 opc r.src).deliver r.src r.cls (respSlot r opc 0x25 0xFF false false [])) ∧
        t.seqOf r.src c = some { q with next := r.seq } ∧ { t with mb := s.mb } = s

/-- R404: the checks of a request come in the manual's order, and the first that fails gives the code: ST_UNKNOWN_OPCODE, ST_BAD_CLASS,
ST_BAD_LENGTH, ST_SPLIT_NA, ST_NOT_THIS_LANE. The request is refused with it and its body does not run. -/
def Obligations.ChecksComeInOrder : Prop :=
  ∀ (s : State) (o : OpSpec) (body : Body) (r : Req), (s.meetTest o.opc r).isNone → s.serving → s.follows r →
    (∀ c, s.precheck o r = some c → s.serve o body r = (Ans.refuse (s.heard r) c).close o r) ∧
    (o.unknown = true → s.precheck o r = some 0x23) ∧
    (o.unknown = false → r.cls.toNat ∉ o.classes → s.precheck o r = some 0x24) ∧
    (o.unknown = false → r.cls.toNat ∈ o.classes → (r.payload.length < o.lo ∨ o.hi < r.payload.length) → s.precheck o r = some 0x22) ∧
    (o.unknown = false → r.cls.toNat ∈ o.classes → o.lo ≤ r.payload.length → r.payload.length ≤ o.hi → o.splitNa = true →
      s.split = true → s.precheck o r = some 0x50)

/-- R66, R263, R440: the frame of an axis fault: the axis is disabled with its gates low, the first cause stays, the other axes keep
their state, and DRIVE ends with the last enabled axis. -/
def Obligations.AxisFaultStopsOneAxis : Prop :=
  ∀ (s : State) (l : AxisNo) (cause : BitVec 4),
    (s.axisFault l cause).ax[l].en = false ∧ (s.axisFault l cause).ax[l].pwm.gates = false ∧
    (s.axisFault l cause).ax[l].pwm.next = [] ∧ (s.axisFault l cause).ax[l].com.mode = .off ∧
    (s.axisFault l cause).ax[l].fault = (if s.ax[l].fault = 0 then cause else s.ax[l].fault) ∧
    (∀ m : AxisNo, m ≠ l → (s.axisFault l cause).ax[m] = s.ax[m]) ∧ (s.axisFault l cause).pair = s.pair ∧
    (s.life.st = .drive → (s.axisFault l cause).anyEn = false → (s.axisFault l cause).life.st = .active) ∧
    (s.life.st ≠ .drive → s.life.st ≠ .active → (s.axisFault l cause).life = s.life)

/-! ## Requests -/

/-- R409, R413, R416, R485, R499: OP_NOP, OP_PAR_READ, OP_PAR_INFO, OP_DIGEST_READ and OP_DIAG_IDENT answer ST_OK with the payload the
rules give and leave the rest of the lane as it was. -/
def Obligations.ReadOpcodesAnswer : Prop :=
  ∀ (s : State) (r : Req),
    (s.admits specNop r → exec (.opNop r) s = .next ((Ans.ok (s.heard r) r.payload).close specNop r)) ∧
    (s.admits specParRead r →
      ∀ n, n = r.arg0.toNat % 16 → 1 ≤ n → n ≤ 12 → n ≤ r.payload.length →
        (∀ w ∈ r.payload.take n, (lookupPid (w.toNat % 65536)).isSome) →
        exec (.opParRead r) s =
          .next ((Ans.ok (s.heard r) ((r.payload.take n).map fun w => (s.heard r).shown (s.heard r).stored (w.toNat % 65536))).close
            specParRead r)) ∧
    (s.admits specParInfo r →
      ∀ p l i, lookupPid (r.arg0.toNat % 65536) = some (p, l, i) →
        exec (.opParInfo r) s =
          .next ((Ans.ok (s.heard r)
            [BitVec.ofNat 32 (r.arg0.toNat % 65536), infoFlags p, BitVec.ofInt 32 p.lo, BitVec.ofInt 32 p.hi,
             if p.base = P.comStart.base then bitAt s.ident.straps.compat 0 else p.default i,
             (s.heard r).shown (s.heard r).stored (r.arg0.toNat % 65536),
             (s.heard r).shown (s.heard r).eff (r.arg0.toNat % 65536)]).close specParInfo r)) ∧
    (s.admits specDigestRead r →
      exec (.opDigestRead r) s =
        .next ((Ans.ok (s.heard r) [(s.heard r).digest, BitVec.ofNat 32 s.mb.log.length, (s.heard r).newestLog]).close
          specDigestRead r)) ∧
    (s.admits specDiagIdent r →
      exec (.opDiagIdent r) s =
        .next ((Ans.ok (s.heard r) [0x3224C101, (s.heard r).strapsWord, (s.heard r).fwverWord]).close specDiagIdent r))

/-- R404, R414, R417: OP_PAR_WRITE with one to six entries that pass their checks in order applies them all and answers the count and the
new digest. With an entry that fails it applies none and names the first that failed. -/
def Obligations.ParameterWriteAllOrNone : Prop :=
  ∀ (s : State) (r : Req), s.canonical → s.admits specParWrite r →
    ∀ n, n = r.arg0.toNat % 16 → 1 ≤ n → n ≤ 6 → 2 * n ≤ r.payload.length →
      ∀ c i es, (s.heard r).checkEntries 0 (writeEntries n r.payload) = (c, i, es) →
        (c = 0 → ∃ t : State,
          exec (.opParWrite r) s = .next ((Ans.ok t [BitVec.ofNat 32 n, t.digest]).close specParWrite r) ∧
          es.length = n ∧
          (∀ pid w, (pid, w) ∈ es → (∀ e ∈ es, e.1 = pid → e.2 = w) → t.stored pid = s.parVal w pid) ∧
          (∀ pid, (∀ e ∈ es, e.1 ≠ pid) → t.stored pid = s.stored pid ∧ t.eff pid = s.eff pid) ∧
          t.ax = s.ax ∧ t.pair = s.pair ∧ t.life = s.life ∧ t.twin = s.twin ∧ t.su = s.su) ∧
        (c ≠ 0 → exec (.opParWrite r) s = .next ((Ans.refuse (s.heard r) c i).close specParWrite r))

/-- R386, R391, R396, R399, R409, R417, R502, R508: OP_DIAG_COUNTERS, OP_LOG_READ, OP_EVENT_READ and OP_NET_SEND. -/
def Obligations.DiagnosisOpcodesAnswer : Prop :=
  ∀ (s : State) (r : Req),
    (s.admits specDiagCounters r →
      ∀ b, b = (r.arg0.toNat / 256) % 256 → counterNums (b / 16) (b % 16) ≠ [] →
        exec (.opDiagCounters r) s =
          .next ((Ans.many (s.heard r) (chunk12 8 ((counterNums (b / 16) (b % 16)).map fun n => s.counterWord (256 * b + n)))).close
            specDiagCounters r)) ∧
    (s.admits specDiagCounters r → counterNums (r.arg0.toNat / 256 % 256 / 16) (r.arg0.toNat / 256 % 16) = [] →
      exec (.opDiagCounters r) s = .next ((Ans.refuse (s.heard r) 0x31).close specDiagCounters r)) ∧
    (s.admits specLogRead r →
      ∀ e, s.logAt r.arg0.toNat = some e →
        exec (.opLogRead r) s =
          .next ((Ans.many (s.heard r) (e :: (s.logAt (r.arg0.toNat + 1)).toList)).close specLogRead r)) ∧
    (s.admits specEventRead r →
      (s.mb.queues[(8 : Fin 16)].entries = [] →
        exec (.opEventRead r) s = .next ((Ans.ok (s.heard r) (List.replicate 9 0)).close specEventRead r)) ∧
      (∀ e es, s.mb.queues[(8 : Fin 16)].entries = e :: es →
        ∃ t : State,
          exec (.opEventRead r) s =
            .next ((Ans.ok t ((e.slot.drop 4).take 8 ++ [BitVec.ofNat 32 es.length])).close specEventRead r) ∧
          t.mb.queues[(8 : Fin 16)].entries = es ∧
          (∀ q : Fin 16, q ≠ 8 → t.mb.queues[q] = s.mb.queues[q]) ∧ t.ax = s.ax ∧ t.life = s.life ∧ t.par = s.par)) ∧
    (s.admits specNetSend r →
      ∀ k q, k = r.arg0.toNat % 4 → k < 3 → q = ([10, 12, 14].getD k 0 : Fin 16) → 0 < s.room q →
        ∃ t : State,
          exec (.opNetSend r) s = .next ((Ans.ok t).close specNetSend r) ∧
          t.mb.queues[q].entries = s.mb.queues[q].entries ++ [⟨r.src, mkSlot 0x030F0000 0 0 r.payload⟩] ∧
          (∀ p : Fin 16, p ≠ q → t.mb.queues[p] = s.mb.queues[p]) ∧ t.ax = s.ax ∧ t.life = s.life ∧ t.par = s.par)

/-- R411: OP_ABORT answers ST_TOO_LATE, code 2, for an operation past its commit point and changes nothing else. A move is no target of it.
It ends an alignment run that has not reached its commit point with the completion code ABORTED. -/
def Obligations.AbortOpcode : Prop :=
  ∀ (s : State) (r : Req), s.admits specAbort r →
    (∀ o, s.abortTarget r.arg0 = some o → o.committed = true →
      exec (.opAbort r) s = .next ((({ st := s.heard r, code := 2 } : Ans)).close specAbort r)) ∧
    (s.abortTarget r.arg0 = none → exec (.opAbort r) s = .next ((Ans.refuse (s.heard r) 0x31).close specAbort r)) ∧
    (∀ o, s.abortTarget r.arg0 = some o → o.opc ≠ 0x0203) ∧
    (∀ (o : AccOp) (l : AxisNo) (a : AccOp), s.abortTarget r.arg0 = some o → o.committed = false → o.opc = 0x0209 →
      s.ax[l].com.alignOp = some a → a.same o → (∀ m : AxisNo, m ≠ l → s.ax[m].com.alignOp = none) →
      ∃ t : State,
        exec (.opAbort r) s = .next ((Ans.ok (t.complete o 0 [0xFFFFFFFF])).close specAbort r) ∧
        t.ax[l] = { s.ax[l] with com := { s.ax[l].com with align := none, alignOp := none, olI := 0 } } ∧
        (∀ m, m ≠ l → t.ax[m] = s.ax[m]))

/-- R46, R66, R263, R409, R410, R434, R440: OP_AX_ENABLE in the lane that commands its axes clears FAULT and LOSS and enables the axis, from
ACTIVE to DRIVE; while the memories of the axis cell are reloaded it answers ST_BUSY (0x11). OP_AX_DISABLE ends its mode and takes the gates
low at the next load point. In STANDBY it marks the axis held off. -/
def Obligations.AxisEnableAndDisable : Prop :=
  ∀ (s : State) (r : Req) (l : AxisNo), s.argAxis r.arg0 = some l →
    (s.admits specAxEnable r → s.holds → s.allocated l → s.reloading l = true →
      exec (.opAxEnable r) s = .next ((Ans.refuse (s.heard r) 0x11).close specAxEnable r)) ∧
    (s.admits specAxEnable r → s.holds → s.allocated l → s.reloading l = false → s.enableRefused l = false → s.safe.phase ≠ .steeroff →
      (s.modPair (pairOf l) fun p => { p with toDemand := false }).toDemanded (pairOf l) = false →
      ∃ t : State,
        exec (.opAxEnable r) s = .next ((Ans.ok t).close specAxEnable r) ∧
        t.ax[l].en = true ∧ t.ax[l].fault = 0 ∧ t.ax[l].fb.loss = 0 ∧ t.ax[l].heldOff = false ∧
        t.pair[pairOf l].toDemand = false ∧ (∀ m, m ≠ l → t.ax[m] = s.ax[m]) ∧
        (s.life.st = .active → t.life.st = .drive) ∧ (s.life.st ≠ .active → t.life = s.life)) ∧
    (s.admits specAxDisable r → s.standby = false →
      ∃ t : State,
        exec (.opAxDisable r) s = .next ((Ans.ok t).close specAxDisable r) ∧
        t.ax[l].en = false ∧ t.ax[l].com.mode = .off ∧ t.ax[l].fault = s.ax[l].fault ∧
        t.ax[l].pwm.gates = s.ax[l].pwm.gates ∧ (s.ax[l].pwm.gates → t.ax[l].pwm.gateReq = some false) ∧
        (∀ m, m ≠ l → t.ax[m] = s.ax[m]) ∧
        (s.life.st = .drive → ((∀ m : AxisNo, t.ax[m].en = false) ↔ t.life.st = .active))) ∧
    (s.admits specAxDisable r → s.standby = true →
      exec (.opAxDisable r) s = .next ((Ans.ok ((s.heard r).modAx l fun a => { a with heldOff := true })).close specAxDisable r))

/-- R83, R86, R78, R138, R159, R161, R409: the motion opcodes in the lane that commands its axes. Each changes one axis, in the fields the
rules name. -/
def Obligations.AxisMotionOpcodes : Prop :=
  ∀ (s : State) (r : Req) (l : AxisNo), s.argAxis r.arg0 = some l → s.holds → s.allocated l →
    (s.admits specAxMove r → s.pn P.casLoop l = 2 →
      exec (.opAxMove r) s = .next ((Ans.accepted ((s.heard r).modAx l fun a =>
        { a with
          prof := { a.prof with abort := a.prof.abort && a.ss.ssa }
          win := { a.win with back := { a.win.back with target := int64 (r.payload.getD 0 0) (r.payload.getD 1 0), tag := some r.tag },
                              fresh := true } })).close specAxMove r)) ∧
    (s.admits specAxAbort r → s.ax[l].en → s.pn P.casLoop l = 2 →
      exec (.opAxAbort r) s = .next ((Ans.many ((s.heard r).modAx l fun a =>
        { a with prof := { a.prof with abortReq := a.prof.abortReq ++ [r] } }) ([])).close specAxAbort r)) ∧
    (s.admits specAxRelease r →
      exec (.opAxRelease r) s = .next ((Ans.ok ((s.heard r).modAx l fun a =>
        { a with prof := { a.prof with abort := a.prof.abort && a.ss.ssa } })).close specAxRelease r)) ∧
    (s.admits specAxSetpos r →
      ∃ t : State, exec (.opAxSetpos r) s = .next ((Ans.ok t).close specAxSetpos r) ∧
        t.ax[l].fb.setpos = some (int64 (r.payload.getD 0 0) (r.payload.getD 1 0)) ∧ t.ax[l].fb.mov = s.ax[l].fb.mov ∧
        t.ax[l].fb.pos = (Config.setposPoscnt r.payload).getD s.ax[l].fb.pos ∧ (∀ m, m ≠ l → t.ax[m] = s.ax[m])) ∧
    (s.admits specAxArm r →
      exec (.opAxArmIndex r) s =
        .next ((Ans.ok ((s.heard r).modAx l fun a =>
          { a with fb := { a.fb with armed := true, armAt := some s.clk.lclk } })).close specAxArm r) ∧
      exec (.opAxArmLatch r) s =
        .next ((Ans.ok ((s.heard r).modAx l fun a => { a with fb := { a.fb with refArmed := true } })).close specAxArm r)) ∧
    (s.admits specAxPreset r →
      ∃ t : State, exec (.opAxPreset r) s = .next ((Ans.ok t).close specAxPreset r) ∧
        ((Config.presetOf r.payload).1 = 0 →
          t.ax[l].cas = { s.ax[l].cas with preW := some ((Config.presetOf r.payload).2, s.clk.lclk) }) ∧
        ((Config.presetOf r.payload).1 = 1 →
          t.ax[l].cas = { s.ax[l].cas with preP := some ((Config.presetOf r.payload).2, s.clk.lclk) }) ∧
        ((Config.presetOf r.payload).1 = 2 →
          t.ax[l].cas = { s.ax[l].cas with preF := some ((Config.presetOf r.payload).2, s.clk.lclk) }) ∧
        (∀ m, m ≠ l → t.ax[m] = s.ax[m])) ∧
    (s.admits specAxSetpoint r → s.pn P.casLoop l ≠ 2 → (s.split ∨ s.kind l = 4) →
      exec (.opAxSetpoint r) s = .next ((Ans.ok ((s.heard r).modAx l fun a =>
        { a with win := { a.win with back := { a.win.back with value := ofFixS 16 (r.payload.getD 0 0) }, fresh := true } })).close
          specAxSetpoint r))

/-- R106, R164, R171, R264, R409: alignment, the compare registers, the axis status and the axis-level safe stop. -/
def Obligations.AxisServiceOpcodes : Prop :=
  ∀ (s : State) (r : Req) (l : AxisNo), s.argAxis r.arg0 = some l →
    (s.admits specAxAlign r → s.holds → s.allocated l → s.ax[l].en → s.ax[l].fault = 0 → s.src l = 1 → s.ax[l].com.align = none →
      exec (.opAxAlign r) s = .next ((Ans.accepted ((s.heard r).modAx l fun a =>
        { a with com := { a.com with align := some (.turning 0), olTheta := a.cur.theta,
                                     alignOp := some { opc := 0x0209, req := r } } })).close specAxAlign r)) ∧
    (s.admits specAxCmp r → s.holds → s.allocated l →
      ∀ n v w, n = Config.cmpRegister r.arg0 r.payload →
        v = ((Config.cmpWriteVal r.payload).map BitVec.toInt).getD ((s.ax[l].cmp[n].write.map Prod.fst).getD s.ax[l].cmp[n].val) →
        w = ((Config.cmpWriteCtl r.payload).map (· &&& 0xF3)).getD
          ((s.ax[l].cmp[n].write.map Prod.snd).getD (s.ax[l].cmp[n].ctl &&& 0xF3)) →
        s.ax[l].cmpWriteOk n v w →
        exec (.opAxCmpWrite r) s =
          .next ((Ans.ok ((s.heard r).modCmp l n fun c => { c with write := some (v, w) })).close specAxCmp r)) ∧
    (s.admits specAxCmp r →
      ∀ c, c = s.ax[l].cmp[Config.cmpRegister r.arg0 r.payload] →
        exec (.opAxCmpRead r) s =
          .next ((Ans.ok (s.heard r) [loW c.val, hiW c.val, c.ctl, loW c.pos, hiW c.pos, loW c.time, hiW c.time]).close specAxCmp r)) ∧
    (s.admits specAxStatus r →
      exec (.opAxStatus r) s =
        .next ((Ans.many ((s.heard r).modAx l fun a =>
            { a with fb := { a.fb with rlatch := false }
                     win := { a.win with act := a.win.act.set 1 (a.win.act.getD 1 0 &&& ~~~(0x1000 : Word)) } })
          (chunk12 4 (s.ax[l].win.act ++ s.ax[l].fb.ref.words ++ s.ax[l].fb.zlatch.words ++ s.ax[l].win.user))).close
            specAxStatus r)) ∧
    (s.admits specSsAxis r → s.life.st.operating → s.allocated l →
      ∃ t : State, exec (.opSsAxis r) s = .next ((Ans.ok t).close specSsAxis r) ∧
        t.ax[l].ss.ssa = true ∧ (s.ax[l].ss.ssa = true → t.ax = s.ax) ∧
        (s.ax[l].ss.ssa = false →
          t.ax[l].ss.w0 = s.ax[l].cas.wAct ∧ t.ax[l].ss.t0 = s.clk.lclk ∧ t.ax[l].ss.ssk = decide (s.pn P.ssKind l = 1)) ∧
        (∀ m, m ≠ l → t.ax[m] = s.ax[m]))

/-- R124, R256, R258, R268, R271: the safety opcodes and the clearing of a chopper fault. A clear request for a pair waits for the next
tick. The vehicle-level stop waits for the next vehicle cycle. Its release in STEEROFF disables every axis and drops the demands on the
pairs. -/
def Obligations.SafetyOpcodes : Prop :=
  ∀ (s : State) (r : Req),
    (s.admits specSiClear r →
      ∀ n, n = Config.siPair r.arg0 r.payload →
        (s.pn P.siMode 0 n = 0 → exec (.opSiClear r) s = .next ((Ans.ok (s.heard r)).close specSiClear r)) ∧
        (s.pn P.siMode 0 n ≠ 0 →
          exec (.opSiClear r) s = .next ((Ans.many ((s.heard r).modSi n fun x => { x with clear := x.clear ++ [r] }) ([])).close specSiClear r))) ∧
    (s.admits specSsVehicle r → s.life.st.operating →
      exec (.opSsVehicle r) s = .next ((Ans.ok ((s.heard r).modSafe fun f => { f with causes := f.causes ++ [3] })).close
        specSsVehicle r)) ∧
    (s.admits specSsRelease r → s.safe.phase = .steeroff → s.stopPersists = false →
      ∃ t : State, exec (.opSsRelease r) s = .next ((Ans.ok t).close specSsRelease r) ∧
        t.safe = {} ∧ t.brake.park = .hold ∧ (∀ l : AxisNo, t.ax[l].en = false) ∧ (∀ k : PairNo, t.pair[k].toDemand = false) ∧
        t.life.st = (if s.auth || s.split then .active else .standby)) ∧
    (s.admits specSsRelease r → (s.safe.phase ≠ .steeroff ∨ s.stopPersists = true) →
      exec (.opSsRelease r) s = .next ((Ans.refuse (s.heard r) 0x40).close specSsRelease r)) ∧
    (s.admits specChopfClear r →
      exec (.opChopfClear r) s =
        .next ((Ans.ok ((s.heard r).modPair (Config.chopPair r.arg0 r.payload) fun p => { p with chopf := false })).close
          specChopfClear r))

/-- R36, R422, R423, R427, R429, R430, R471, R473, R526: the level, sleep, shut-down and self-test opcodes. -/
def Obligations.PowerOpcodes : Prop :=
  ∀ (s : State) (r : Req),
    (s.admits specPwrLevel r →
      ∀ v, v = Config.levelOf r.arg0 r.payload → s.life.plc = none → s.life.entry = none → s.life.shutdown = none →
        s.life.voutLinear → s.life.pollBad = false → s.pn P.pwrPlmin ≤ v.toNat →
        (v = s.life.pl → exec (.opPwrLevel r) s = .next ((Ans.ok (s.heard r)).close specPwrLevel r)) ∧
        (v ≠ s.life.pl →
          exec (.opPwrLevel r) s = .next ((Ans.accepted ((s.heard r).modLife fun f =>
            { f with plc := some { target := v, old := f.pl, op := some { opc := 0x0401, req := r },
                                   waiting := decide (f.pl.toNat < v.toNat), since := s.clk.lclk } })).close specPwrLevel r))) ∧
    (s.sleepAnswer = 1 →
      (s.admits specPwrSleep r → ∃ t : State, exec (.opPwrSleep r) s = .next ((Ans.accepted t).close specPwrSleep r) ∧
        t.life.entry = some ((s.heard r).newEntry .sleep { opc := 0x0402, req := r }) ∧ t.aon.timer = some 0 ∧
        t.brake.ledSaved = s.brake.led ∧ t.life.st = s.life.st ∧ t.ax = s.ax ∧
        (s.life.pl ≠ 1 → s.life.voutLinear → ∃ c, t.life.plc = some c ∧ c.target = 1 ∧ c.old = s.life.pl)) ∧
      (s.admits specPwrSleep r → ∃ t : State, exec (.opPwrSleepDoze r) s = .next ((Ans.accepted t).close specPwrSleep r) ∧
        t.life.entry = some ((s.heard r).newEntry .doze { opc := 0x0402, req := r }) ∧ t.aon.timer = some 0 ∧
        t.brake.ledSaved = s.brake.led ∧ t.life.st = s.life.st ∧ t.ax = s.ax) ∧
      (s.admits specPwrShutdown r → ∃ t : State, exec (.opPwrShutdown r) s = .next ((Ans.accepted t).close specPwrShutdown r) ∧
        t.life.st = .selftest ∧ t.twin.claim = false ∧ t.aon.timer = some 0 ∧
        (∃ e, t.life.shutdown = some e ∧ e.kind = (if r.arg0.getLsbD 0 then .sleep else .shutdown)) ∧
        (∃ u, t.st.run = some u ∧ u.origin = .shutdown ∧ u.doms = s.life.domains ∧ u.mem = false ∧ u.npat = s.npatUnits))) ∧
    (s.admits specPwrStatus r →
      exec (.opPwrStatus r) s = .next ((Ans.many (s.heard r) ([[(s.heard r).lanestat, s.life.domains.setWidth 32,
          if (s.heard r).pn P.pmbConf = 1 then 0 else BitVec.ofNat 32 s.life.vout, (s.heard r).counterWord 0xDF00],
         [(s.heard r).arbstat, toFix 0 s.arb.b, toFix 0 s.arb.floors] ++ ((fins 8).map fun l => toFix 0 ((s.heard r).grantOf l)) ++
           [toFix 0 (1000 * (s.heard r).dieBooked)]])).close specPwrStatus r)) ∧
    (s.admits specStStart r → (r.arg0.toNat / 256) % 128 ≤ 64 →
      (s.testAnswer = 1 → ∃ t : State, exec (.opStStart r) s = .next ((Ans.accepted t).close specStStart r) ∧
        t.life.st = .selftest ∧ t.twin.claim = false ∧ t.st.run = some ((s.heard r).demandRun { opc := 0x0501, req := r })) ∧
      (s.testAnswer = 2 → ∃ t : State, exec (.opStStart r) s = .next ((Ans.accepted t).close specStStart r) ∧
        t.life = s.life ∧ t.st.run = s.st.run ∧ t.st.waiting = some { opc := 0x0501, req := r } ∧ t.twin.forTest = true)) ∧
    (s.admits specStStatus r →
      exec (.opStStatus r) s = .next ((Ans.ok (s.heard r) [s.aon.testrec, (s.heard r).testageWord]).close specStStatus r))

/-- R225, R246, R249, R253, R330, R336, R526: the twin and vehicle-function opcodes. -/
def Obligations.TwinAndVehicleOpcodes : Prop :=
  ∀ (s : State) (r : Req),
    (s.admits specTwinStatus r →
      ∃ x : Word, exec (.opTwinStatus r) s = .next ((Ans.ok (s.heard r)
        [(s.heard r).twinstat, (s.heard r).digest, s.twin.tdigest.getD 0, (s.heard r).ageWord 0, (s.heard r).ageWord 4, x,
         BitVec.ofNat 32 s.twin.count, (s.heard r).counterWord 0xEF00, (s.heard r).counterWord 0xEF01]).close specTwinStatus r) ∧
        (s.twin.supAt = none → x = 0xFFFFFFFF) ∧ (∀ g, s.twin.supAt = some g → x = BitVec.ofInt 32 ((s.gt - g) / 1000000))) ∧
    (s.admits specTwinCastle r → s.castlePlanned = false → s.st.waiting = none → s.auth → s.twin.tready →
      ∃ t : State, exec (.opTwinCastle r) s = .next ((Ans.accepted t).close specTwinCastle r) ∧
        t.twin.planned = some { opc := 0x0602, req := r } ∧ t.twin.plannedAt = s.gt ∧ t.twin.claim = true ∧ t.life = s.life ∧
        (∀ l : AxisNo, t.ax[l].mir.sentNew = false)) ∧
    (s.admits specVfSteer r →
      exec (.opVfSteer r) s = .next ((Ans.ok (s.heard r) [(s.heard r).steerStat]).close specVfSteer r)) ∧
    (s.admits specVfBrake r →
      exec (.opVfBrake r) s = .next ((Ans.ok (s.heard r) [(s.heard r).brakeStat, (s.heard r).wheelStat]).close specVfBrake r)) ∧
    (s.admits specVfPark r → s.life.st.operating → s.parkOn →
      (s.brake.park = .off → s.canPark →
        exec (.opVfParkRequest r) s = .next ((Ans.accepted ((s.heard r).modBrake fun b =>
          { b with park := .clamp, parkAt := s.clk.lclk, parkFrom := .off, parkRel := false, unlatch := false,
                   parkOps := b.parkOps ++ [{ opc := 0x0703, req := r }] })).close specVfPark r)) ∧
      (s.brake.park = .latch →
        exec (.opVfParkRelease r) s = .next ((Ans.accepted ((s.heard r).modBrake fun b =>
          { b with parkRel := true, parkFrom := .latch, relOps := b.relOps ++ [{ opc := 0x0703, req := r }] })).close specVfPark r)) ∧
      ((s.brake.park = .clamp ∨ s.brake.park = .hold ∨ s.brake.park = .holdact) →
        ∃ t : State, exec (.opVfParkRelease r) s = .next ((Ans.accepted t).close specVfPark r) ∧
          t.brake.park = .release ∧ t.brake.parkFrom = s.brake.park ∧ t.brake.unlatch = decide (s.brake.park ≠ .clamp) ∧
          t.brake.relOps = s.brake.relOps ++ [{ opc := 0x0703, req := r }])) ∧
    (s.admits specLedgerRead r →
      exec (.opLedgerRead r) s = .next ((Ans.many (s.heard r) (pairUp ((s.heard r).ledgerWords.drop (Config.ledgerFirst r.arg0 r.payload).val))).close specLedgerRead r)) ∧
    (s.admits specLedgerClear r →
      ∃ t : State, exec (.opLedgerClear r) s = .next ((Ans.ok t).close specLedgerClear r) ∧
        t.brake = { s.brake with led := Vector.replicate 9 {} } ∧ t.ax = s.ax ∧ t.par = s.par ∧
        (s.mb.logNext ≠ 0xFFFFFFFF → t.mb.log.length = min 4096 (s.mb.log.length + 1)))

/-- R199, R200: the opcodes that load, show and commit the integrator regions. A write clears the committed state of its region, and the copy in
flash stays; a commit replaces it. -/
def Obligations.SignalUnitOpcodes : Prop :=
  ∀ (s : State) (r : Req) (m : MemId), s.canonical → m = memOf r.arg0 →
    (s.admits specSuWrite r → s.memBusy m = false → (memBounds m).1 ≤ reqAddr r → reqAddr r + r.payload.length ≤ (memBounds m).2 →
      ∃ t : State, exec (.opSuWrite r) s = .next ((Ans.ok t).close specSuWrite r) ∧
        (∀ i, i < r.payload.length →
          t.memWord m (reqAddr r + i) = if (memEng m).2 then r.payload.getD i 0 else r.payload.getD i 0 &&& 0x00FFFFFF) ∧
        (∀ a, (a < reqAddr r ∨ reqAddr r + r.payload.length ≤ a) → t.memWord m a = s.memWord m a) ∧
        (if (memEng m).2 then (t.eng (memEng m).1).progCrc else (t.eng (memEng m).1).operCrc) = none ∧ t.regionCrc m = s.regionCrc m ∧
        t.par = s.par ∧ t.life = s.life) ∧
    (s.admits specSuRead r →
      ∀ n, n = (r.arg0.toNat / 65536) % 16 → 1 ≤ n → n ≤ 12 → reqAddr r + n ≤ (memBounds m).2 →
        exec (.opSuRead r) s =
          .next ((Ans.ok (s.heard r) ((List.range n).map fun i => s.memWord m (reqAddr r + i))).close specSuRead r)) ∧
    (s.admits specSuCommit r →
      ∀ crc, crc = crc32 (bytesOf (s.region m)) →
        ((memEng m).2 = true → s.firstBad (memEng m).1 (progLo (memEng m).1) (s.region m) = none) → r.payload.headD 0 = crc →
        ∃ t : State, exec (.opSuCommit r) s = .next ((Ans.ok t).close specSuCommit r) ∧
          (if (memEng m).2 then (t.eng (memEng m).1).progCrc else (t.eng (memEng m).1).operCrc) = some crc ∧ t.regionCrc m = crc ∧
          t.region m = s.region m ∧ t.par = s.par ∧ t.life = s.life) ∧
    (s.admits specSuStatus r →
      exec (.opSuStatus r) s = .next ((Ans.many (s.heard r) (chunk12 20 ((fins 40).flatMap fun a =>
        [bitAt (s.su.enabled.getLsbD a.val) 0, s.counter (0xFF00 + 2 * a.val), s.counter (0xFF01 + 2 * a.val),
         BitVec.ofNat 32 s.su.acts[a].last, BitVec.ofNat 32 s.su.acts[a].longest]))).close specSuStatus r))

/-- R380, R386, R387, R526: the network opcodes. -/
def Obligations.NetworkOpcodes : Prop :=
  ∀ (s : State) (r : Req),
    (s.admits specVtbStatus r →
      exec (.opVtbStatus r) s = .next ((Ans.ok (s.heard r) ([(s.heard r).vtbstat, (s.heard r).vtbcorr] ++
        (fins 2).flatMap fun c => (List.range 4).map fun k => s.counterWord (chanCnt c k))).close specVtbStatus r)) ∧
    (s.admits specCanStatus r →
      exec (.opCanStatus r) s = .next ((Ans.ok (s.heard r) ((fins 2).flatMap fun n =>
        Config.canState ((s.heard r).canMode n) s.can[n].busoff ::
          (List.range 3).map fun k => s.counterWord (0xC000 + 256 * n.val + k))).close specCanStatus r)) ∧
    (s.admits specEthStatus r →
      exec (.opEthStatus r) s = .next ((Ans.ok (s.heard r).tickFree [Config.freeWord s.free,
        ((s.heard r).ownMac >>> 32).setWidth 32, (s.heard r).ownMac.setWidth 32, (s.heard r).ownIp, s.counterWord 0x0F08,
        s.counterWord 0xC201, s.counterWord 0xC200]).close specEthStatus r)) ∧
    (s.admits specMdio r →
      exec (.opMdioRead r) s = .next ((Ans.ok (s.heard r).tickFree
        [(Config.mdioData (Config.mdioAddr r.arg0 r.payload).1 (Config.mdioAddr r.arg0 r.payload).2 s.free).setWidth 32]).close
          specMdio r) ∧
      exec (.opMdioWrite r) s = .next ((Ans.ok ((s.heard r).modEth fun x =>
        { x with mdio := some ((Config.mdioAddr r.arg0 r.payload).1, (Config.mdioAddr r.arg0 r.payload).2, Config.mdioValue r.arg0 r.payload) })).close
          specMdio r)) ∧
    (s.admits specNovmiStatus r →
      exec (.opNovmiStatus r) s = .next ((Ans.many (s.heard r) (chunk12 8
        (((fins 16).flatMap fun (c : Fin 16) =>
            (s.heard r).connWords (s.pn P.nvCid 0 c) (NvState.code s.nov.rx[c].st) s.nov.rx[c].seq (0xAF40 + 4 * c.val)) ++
          (fins 6).flatMap fun (i : Fin 6) =>
            (s.heard r).connWords (s.pn P.nvPubcid + i.val) (bitAt s.nov.pub[i].got 0) s.nov.pub[i].seq (0xAF80 + 4 * i.val)))).close specNovmiStatus r))

/-! ## Doorbells, registers and frames -/

/-- R399, R493, R494: a push doorbell with the present WPTR copies the staging slot into its queue; in a full queue the copy is dropped and
counted. A pop doorbell with the present RPTR removes the entry at RPTR. Any other PTR changes no queue and sets DBMIS. The frame that
carries the doorbell ends with the result. A removed entry is the oldest, and RPTR advances round the depth of the queue. -/
def Obligations.DoorbellsMoveQueues : Prop :=
  ∀ (s : State) (q : Fin 16) (ptr : BitVec 8), s.spiOn → s.spiRow = 0 →
    (qToHost q = false → ptr.toNat = s.wptrOf q → 4 ≤ q.val → 0 < s.room q →
      exec (.queueDoorbellPush q ptr) s = .next ((s.place q ⟨.spi, s.mb.staging[q]⟩).endFrame 0 s.regs.miso)) ∧
    (qToHost q = false → ptr.toNat = s.wptrOf q → 4 ≤ q.val → s.room q = 0 →
      exec (.queueDoorbellPush q ptr) s = .next ((s.bump (qCnt q)).endFrame 0 (s.bump (qCnt q)).regs.miso)) ∧
    (∀ k : Fin 4, q = reqQ k → ptr.toNat = s.wptrOf q → 0 < s.room q →
      ∃ t : State, exec (.queueDoorbellPush q ptr) s = .next (t.endFrame 0 t.regs.miso) ∧
        t = (s.place q ⟨.spi, s.mb.staging[q]⟩).arrived k ⟨.spi, s.mb.staging[q]⟩ ∧
        (2 ≤ k.val → t.mb.queues[q].entries = s.mb.queues[q].entries ++ [⟨.spi, s.mb.staging[q]⟩] ∧ t.ax = s.ax ∧ t.par = s.par)) ∧
    (qToHost q = true → ptr.toNat = s.mb.queues[q].rptr →
      exec (.queueDoorbellPop q ptr) s = .next ((s.pop q).endFrame 0 s.regs.miso)) ∧
    (qToHost q = false → ptr.toNat ≠ s.wptrOf q →
      exec (.queueDoorbellPush q ptr) s = .next (s.endFrame resDbmis s.regs.miso)) ∧
    (qToHost q = true → ptr.toNat ≠ s.mb.queues[q].rptr →
      exec (.queueDoorbellPop q ptr) s = .next (s.endFrame resDbmis s.regs.miso)) ∧
    (∀ e es, s.mb.queues[q].entries = e :: es →
      (s.pop q).mb.queues[q].entries = es ∧ (s.pop q).mb.queues[q].rptr = (s.mb.queues[q].rptr + 1) % qDepth q ∧
      (∀ p : Fin 16, p ≠ q → (s.pop q).mb.queues[p] = s.mb.queues[p]) ∧ { s.pop q with mb := s.mb } = s)

/-- R4, R486, R489, R490, R495, R496: the writes and the read of the register rows. LANECTL restarts the lane from the ROM with its key in
FAIL_SILENT, BOOT and CONFIGURED. INTSTAT clears its bits 22 to 16 and PARREC its bit VALID where a 1 is written. A read of GTIMEL latches the upper
half. A write of PWRWAKE or PWRWTIMER is a parameter write that waits for the next always-on tick; bits 31 to 7 of PWRWAKE are ignored. -/
def Obligations.RegisterRowsAct : Prop :=
  ∀ s : State, s.spiOn →
    (s.mayRestart → ∃ t : State, exec (.lanectlRestart 0x5A) s = .next (t.endFrame 0 t.regs.miso) ∧
      t.life.st = .boot ∧ t.life.step = 1 ∧ t.life.pl = 1 ∧ t.aon = s.aon ∧ t.par.stored = s.par.stored ∧ t.regs.scratch = s.regs.scratch ∧
      (∀ l : AxisNo, t.ax[l].en = false ∧ t.ax[l].pwm.gates = false) ∧ t.twin.claim = false) ∧
    (∀ key, key ≠ 0x5A → exec (.lanectlRestart key) s = .next (s.endFrame 0 s.regs.miso)) ∧
    (s.mayRestart = false → exec (.lanectlRestart 0x5A) s = .next (s.endFrame resRowr s.regs.miso)) ∧
    (∀ v, exec (.intstatClear v) s =
      .next ((s.modRegs fun r => { r with intstat := r.intstat &&& ~~~(v &&& 0x007F0000) }).endFrame 0 s.regs.miso)) ∧
    (∀ v, s.spiRow < 2 →
      exec (.parrecClear v) s = .next ((s.modRegs fun r =>
        { r with parrec := if v.getLsbD 31 then r.parrec &&& 0x7FFFFFFF else r.parrec }).endFrame 0 s.regs.miso)) ∧
    (∀ now, s.spiRow < 2 →
      exec (.gtimelRead now) s = .next (((s.at now).modRegs fun r => { r with gtimeh := hiW (s.at now).gt }).endFrame 0 s.regs.miso)) ∧
    (∀ timer v w, s.spiRow = 0 → s.checkWrite (if timer then 0xDF03 else 0xDF02) (if timer then v else v &&& 0x7F) = (0, w) →
      ∃ t : State, exec (.aonPostedWrite timer v) s = .next (t.endFrame 0 t.regs.miso) ∧
        t = s.applyWrite .spi 0 (if timer then 0xDF03 else 0xDF02) w ∧
        (if timer then t.aon.postTimer else t.aon.postWake) = some w ∧ t.ax = s.ax ∧ t.life = s.life)

/-- R436, R497: the boot commands with their key in SPI-LOAD. ERASE clears the bank, PROGRAM writes the 64 words of the window to the page, a
passed CHECK-AND-BOOT starts the lane, a failed one sets BAD-IMAGE, and the end of an erase or a program returns to SPI-LOAD. -/
def Obligations.BootCommandsAct : Prop :=
  ∀ s : State, s.spiOn → servedIn s.spiRow .boot → (s.regs.bstate = 4 ∨ s.regs.bstate = 6) →
    exec (.bootctlErase 0x5A) s =
      .next ((s.modRegs fun r => { r with bstate := 5, bootcmd := some .erase, flash := [] }).endFrame 0 s.regs.miso) ∧
    (s.canonical → s.regs.bootpage.toNat ≤ 6143 →
      ∃ t : State, exec (.bootctlProgram 0x5A) s = .next (t.endFrame 0 s.regs.miso) ∧
        t.regs.bstate = 5 ∧ t.regs.bootcmd = some (.program s.regs.bootpage) ∧
        (∀ i, i < 64 → Cells.read flashD t.regs.flash (64 * s.regs.bootpage.toNat + i) = Cells.read zeroD s.regs.bootwin i) ∧
        (∀ a, (a < 64 * s.regs.bootpage.toNat ∨ 64 * s.regs.bootpage.toNat + 64 ≤ a) →
          Cells.read flashD t.regs.flash a = Cells.read flashD s.regs.flash a) ∧ { t with regs := s.regs } = s) ∧
    exec (.bootctlCheckBoot 0x5A false) s = .next ((s.modRegs fun r => { r with bstate := 6 }).endFrame 0 s.regs.miso) ∧
    (∃ t : State, exec (.bootctlCheckBoot 0x5A true) s = .next (t.endFrame 0 t.regs.miso) ∧
      t.life.st = .boot ∧ t.life.step = 1 ∧ t.regs.bstate = 0 ∧ t.par.stored = s.par.stored) ∧
    (∀ (now : Ns) (p : BitVec 13),
      (s.regs.bootcmd = some .erase →
        exec (.bootCommandComplete now) s = .next ((s.at now).modRegs fun r => { r with bstate := 4, bootcmd := none })) ∧
      (s.regs.bootcmd = some (.program p) →
        exec (.bootCommandComplete now) s =
          .next ((s.at now).modRegs fun r => { r with bstate := 4, bootcmd := none, page := p })))

/-- R479 to R483, R495: a whole frame. A write frame with a right command CRC and data CRC writes its words from its address in order; a wrong data
CRC writes nothing and sets DCRC; a wrong command CRC does nothing and gives PREVRES FFh. A read frame returns the SUMMARY, the words
and their CRC. The end of a frame leaves its result in PREVRES; a result other than zero counts one SPI error and sets SPIERR. -/
def Obligations.SpiFramesReadAndWrite : Prop :=
  (∀ (s : State) (mosi : List Byte) (nw a : Nat), s.spiOn → 4 ≤ mosi.length → nw = ((mosi.getD 0 0).toNat / 2) % 64 + 1 →
    a = (mosi.getD 1 0).toNat + 256 * (mosi.getD 2 0).toNat →
    (crc8 (mosi.take 3) ≠ mosi.getD 3 0 →
      ∃ miso, exec (.registerWrite mosi) s = .next (s.endFrame 0xFF miso) ∧ exec (.spiReadFrame mosi) s = .next (s.endFrame 0xFF miso)) ∧
    (crc8 (mosi.take 3) = mosi.getD 3 0 → (mosi.getD 0 0).getLsbD 7 = true → 5 + 4 * nw ≤ mosi.length →
      crc8 ((mosi.drop 4).take (4 * nw)) = mosi.getD (4 + 4 * nw) 0 →
      ∃ miso, exec (.registerWrite mosi) s =
        .next ((s.writeWords a (wordsOf ((mosi.drop 4).take (4 * nw)))).1.endFrame
          (s.writeWords a (wordsOf ((mosi.drop 4).take (4 * nw)))).2 miso)) ∧
    (crc8 (mosi.take 3) = mosi.getD 3 0 → (mosi.getD 0 0).getLsbD 7 = true → 5 + 4 * nw ≤ mosi.length →
      crc8 ((mosi.drop 4).take (4 * nw)) ≠ mosi.getD (4 + 4 * nw) 0 →
      ∃ miso, exec (.registerWrite mosi) s = .next (s.endFrame resDcrc miso)) ∧
    (crc8 (mosi.take 3) = mosi.getD 3 0 → (mosi.getD 0 0).getLsbD 7 = false → 10 + 4 * nw ≤ mosi.length →
      ∃ t ws res miso, s.readWords a nw = (t, ws, res) ∧ ws.length = nw ∧
        exec (.spiReadFrame mosi) s = .next (t.endFrame res miso) ∧
        miso.take (10 + 4 * nw) = s.summary ++ [0, 0, 0, 0] ++ bytesOf ws ++ [crc8 (bytesOf ws), res])) ∧
  ∀ (s : State) (res : Byte) (miso : List Byte), s.aon.armed = false →
    (s.endFrame res miso).regs.prevres = res ∧
    (res = 0 → s.endFrame res miso = s.modRegs fun r => { r with prevres := res, miso := miso }) ∧
    (res ≠ 0 → s.canonical → (s.counter 0x0F00).toNat < 0xFFFE →
      (s.endFrame res miso).counter 0x0F00 = s.counter 0x0F00 + 1 ∧ (s.endFrame res miso).regs.intstat.getLsbD 18 = true ∧
      (s.endFrame res miso).mb = s.mb ∧ (s.endFrame res miso).ax = s.ax ∧ (s.endFrame res miso).life = s.life)

/-- R290, R293, R391, R396: FSREQ takes the lane to FAIL_SILENT by the path of R289 with its reason in FAILREC. A response of the tunnel's
buffer leaves in order. -/
def Obligations.FsreqAndTunnelResponse : Prop :=
  ∀ s : State,
    (∀ reason, s.life.st ≠ .off → s.life.st ≠ .sleep → s.life.st ≠ .failSilent →
      ∃ t : State, exec (.fsreq reason) s = .next t ∧ t.life.st = .failSilent ∧ t.twin.claim = false ∧
        (∀ l : AxisNo, t.ax[l].en = false ∧ t.ax[l].pwm.gates = false) ∧ (∀ k : PairNo, t.toPermit k = false) ∧
        (t.aon.failrec >>> 24).setWidth 8 = (0x88 : Byte) ∧ (t.aon.failrec >>> 16).setWidth 8 = reason ∧
        t.eth.stopped = true ∧ t.vtb.st = .off ∧ t.su.reset = true ∧ t.par = s.par) ∧
    (∀ e es, s.mb.tunnel = e :: es → s.macOn →
      exec .tunnelResponseSend s = .next ((s.ethSend (match e.src with | .tunnel ip _ => ip | .spi => 0)).modMb fun m =>
        { m with tunnel := es, tunnelSent := some e })) ∧
    ((s.mb.tunnel = [] ∨ s.macOn = false) → exec .tunnelResponseSend s = .next s)

/-! ## The loop instruction set -/

/-- R181, R186: the control instructions on an engine whose run goes on. Each changes only the registers named: the program counter, LC, the
call stack, the REPEAT count and the cycles. -/
def Obligations.ControlInstructions : Prop :=
  ∀ (s : State) (e : EngineId) (c : Ctx), c = (s.eng e).ctx → s.steady e 2 →
    exec (.nop e) s = .next (s.engineAt e (c.after 1)) ∧
    exec (.halt e) s = .next (s.modEng e fun g => { g with running := false, ctx := { c.after 1 with halted := true } }) ∧
    (∀ t, exec (.jmp e t) s = .next (s.engineAt e { c.after 2 with pc := t })) ∧
    (∀ k t, k.toNat < 8 →
      exec (.jcc e k t) s = .next (s.engineAt e (if c.cond k then { c.after 2 with pc := t } else c.after 1))) ∧
    (∀ t, c.stack.length < 8 →
      exec (.call e t) s = .next (s.engineAt e { c.after 2 with pc := t, stack := (c.pc + 1) :: c.stack })) ∧
    (∀ a r, c.stack = a :: r → (e = .su ∨ 2 < c.stack.length) →
      exec (.ret e) s = .next (s.engineAt e { c.after 2 with pc := a, stack := r })) ∧
    (c.stack.length ≤ 2 → e ≠ .su →
      exec (.ret e) s = .next (s.modEng e fun g => { g with running := false, ctx := { c.after 2 with halted := true } })) ∧
    (∀ n, exec (.repeat e n) s = .next (s.engineAt e { c.after 1 with rep := some (n.toNat + 1) })) ∧
    (∀ t, exec (.decj e t) s = .next (s.engineAt e
      (if c.lc - 1 ≠ 0 then { c.after 2 with lc := c.lc - 1, pc := t } else { c.after 1 with lc := c.lc - 1 })))

/-- R189: a CALL at depth 8, a RET of a signal-unit kernel at depth 0, and a run of integrator code that reaches its cycle limit, trap: the run
ends, the attachment or activation stays off, and EV_PROGRAM_TRAP is raised with the address of the instruction and the cause. -/
def Obligations.ProgramTrapsEndTheRun : Prop :=
  ∀ (s : State) (e : EngineId) (c : Ctx), c = (s.eng e).ctx → c.halted = false → c.rep = none → c.trap = none →
    (∀ t, 8 ≤ c.stack.length → s.trapsTo e 1 (exec (.call e t) s)) ∧
    (e = .su → c.stack = [] → s.trapsTo e 1 (exec (.ret e) s)) ∧
    (∀ k, (s.eng e).integ = true → s.cycleLimit e = some k → k ≤ c.cycles + 1 → s.trapsTo e 2 (exec (.nop e) s))

/-- R181, R188, R195: DLVR on the signal unit delivers the four words at its pointer to a user slot of a local axis, or from a vendor kernel to
one of the slots 4h to Fh, stamped with the time of the activation's release; one that completes too late for the next sample waits for the
sample after. A DLVR of a loop engine or from integrator code to the slots 4h to Fh, a reserved condition, slice mask, register or immediate, and
a class 0h word under a REPEAT have no effect to give: the commit refuses them, and the model stops by name. -/
def Obligations.DeliveryAndReservedWords : Prop :=
  ∀ (s : State) (l : AxisNo) (p : BitVec 3) (slot : BitVec 4) (c : Ctx), c = s.su.eng.ctx →
    (∀ w, w = (s.su.eng.row (s.env .su) (c.addr (s.env .su) p)).toList → s.steady .su 7 →
      (∀ k : Fin 4, slot.toNat = k.val →
        exec (.dlvr .su l p slot) s = .next ((s.engineAt .su (c.after (6 + c.stall [] [p]))).modAx l fun a =>
          { a with del := if s.tooLate l then { a.del with wait := a.del.wait ++ [.user k w c.release] }
            else { a.del with user := vset a.del.user k w, userStamp := vset a.del.userStamp k c.release } })) ∧
      (∀ k : Fin 12, slot.toNat = 4 + k.val → s.su.eng.integ = false →
        exec (.dlvr .su l p slot) s = .next ((s.engineAt .su (c.after (6 + c.stall [] [p]))).modAx l fun a =>
          { a with del := if s.tooLate l then { a.del with wait := a.del.wait ++ [.vend k w c.release] }
            else { a.del with vend := vset a.del.vend k w, vendStamp := vset a.del.vendStamp k c.release } }))) ∧
    (4 ≤ slot.toNat → s.su.eng.integ → exec (.dlvr .su l p slot) s = .fault .reservedEncoding) ∧
    (∀ m, exec (.dlvr (.loop m) l p slot) s = .fault .reservedEncoding) ∧
    (∀ (e : EngineId) (k : BitVec 4) (t : BitVec 13), 8 ≤ k.toNat → exec (.jcc e k t) s = .fault .reservedEncoding) ∧
    (∀ (e : EngineId) (f : MacOps), f.sm = 3 →
      ∀ i ∈ [Instr.prd e f, .pra e f, .prs e f, .prn e f, .pmv e f], exec i s = .fault .reservedEncoding) ∧
    (∀ (e : EngineId) (r : BitVec 4) (ps ab : Bool) (addr : BitVec 14) (x : BitVec 24),
      (8 ≤ r.toNat → exec (.operandLoad e r p ps ab addr) s = .fault .reservedEncoding ∧
        exec (.operandStore e r p ps ab addr) s = .fault .reservedEncoding) ∧
      ((7 ≤ r.toNat ∨ (r = 6 ∧ 65536 ≤ x.toNat)) → exec (.immediateLoad e r x) s = .fault .reservedEncoding)) ∧
    (∀ (e : EngineId) (k : BitVec 4) (t : BitVec 13) (n : BitVec 12), (s.eng e).ctx.rep.isSome → (s.eng e).ctx.halted = false →
      ∀ i ∈ [Instr.nop e, .halt e, .jmp e t, .jcc e k t, .call e t, .ret e, .repeat e n, .decj e t, .dlvr e l p slot],
        exec i s = .fault .reservedEncoding)

/-- R174, R175, R177, R178, R182, R185, R187, R189: the multiply instructions with their parallel accesses. The product of the broadcast and slice
registers at the start of the cycle goes to each slice of the accumulator, and V sets and stays where it wraps. A B access loads from its
pointer, an S access loads or stores at its pointer, a store moves the accumulator of the start of the cycle to 24 bits and SAT sets and stays
where that saturates, and each access steps its pointer when asked. Nothing else changes. A store outside the region that the running code
may write writes nothing and traps with cause 0. -/
def Obligations.MultiplyInstructions : Prop :=
  ∀ (s : State) (e : EngineId) (f : MacOps) (c : Ctx) (v : Env) (st : Nat), c = (s.eng e).ctx → v = s.env e → s.steady e 3 → f.wf →
    st = c.addr v f.spt →
    ∀ x ∈ ([(.prd e f, some f.a, fun _ p => p), (.pra e f, some f.a, fun a p => a + p), (.prs e f, some f.a, fun a p => a - p),
        (.prn e f, some f.a, fun _ p => -p), (.pmv e f, none, fun a _ => a)] : List (Instr × Option Bool × (Int → Int → Int))),
      ∀ exact : Fin 4 → Int,
        (∀ j, exact j = x.2.2 (c.ac[two f.a])[j].toInt (c.b[two f.bsrc].toInt * (c.s[two f.ssrc])[j].toInt)) →
        ((f.sm = 2 → v.lo ≤ st ∧ st < v.hi) →
          ∃ k : Ctx, exec x.1 s = .next (s.modEng e fun g =>
              { g with running := true, ctx := k
                       oper := if f.sm = 2 then (g.putRow v st ((c.ac[two f.ssel]).map fun a => (moveAc a).1)).oper else g.oper }) ∧
            (∀ j, sliceOn e j → (k.ac[two f.a])[j] = BitVec.ofInt 56 (exact j)) ∧
            (∀ j, sliceOn e j = false → (k.ac[two f.a])[j] = (c.ac[two f.a])[j] ∧ (k.s[two f.ssel])[j] = (c.s[two f.ssel])[j]) ∧
            k.ac[two (!f.a)] = c.ac[two (!f.a)] ∧
            k.v = (c.v || (fins 4).any fun j => sliceOn e j && decide ((BitVec.ofInt 56 (exact j)).toInt ≠ exact j)) ∧
            k.sat = (c.sat || decide (f.sm = 2) && c.clips e f.ssel) ∧
            k.b[two f.bdst] = (if f.ben then (s.eng e).word v (c.addr v f.bpt) else c.b[two f.bdst]) ∧
            k.b[two (!f.bdst)] = c.b[two (!f.bdst)] ∧
            (∀ j, sliceOn e j → (k.s[two f.ssel])[j] = (if f.sm = 1 then ((s.eng e).row v st)[j] else (c.s[two f.ssel])[j])) ∧
            k.s[two (!f.ssel)] = c.s[two (!f.ssel)] ∧
            k.p = ((if f.sm ≠ 0 ∧ f.sst then (fun k : Ctx => k.stepPtr v f.spt) else id)
              ((if f.ben ∧ f.bst then (fun k : Ctx => k.stepPtr v f.bpt) else id) c)).p ∧
            k.lastAc = x.2.1 ∧
            { k with ac := c.ac, v := c.v, sat := c.sat, b := c.b, s := c.s, p := c.p, lastAc := none } =
              c.after (1 + c.stall (if f.sm = 2 then [f.ssel] else [])
                ((if f.ben then [f.bpt] else []) ++ (if f.sm ≠ 0 then [f.spt] else [])))) ∧
        (f.sm = 2 → (st < v.lo ∨ v.hi ≤ st) → s.trapsTo e 0 (exec x.1 s))

/-- R174, R177, R183, R185: the accumulator instructions on all slices of an engine. The exact result goes to the accumulator modulo 2^56, V
sets and stays where it wraps, N and Z come from slice 0, and nothing else changes but the program counter and the cycles. -/
def Obligations.AccumulatorArithmetic : Prop :=
  ∀ (s : State) (e : EngineId) (d a : Bool) (sh : BitVec 6) (c : Ctx), c = (s.eng e).ctx → s.steady e 2 →
    ∀ x ∈ ([(.add e d a, fun x y => x + y, [d, a]), (.sub e d a, fun x y => x - y, [d, a]), (.neg e d a, fun _ y => -y, [a]),
        (.absA e d a, fun _ y => |y|, [a]), (.clr e d a, fun _ _ => 0, []), (.asl e d a sh, fun _ y => y * 2 ^ sh.toNat, [a]),
        (.asr e d a sh, fun _ y => y / 2 ^ sh.toNat, [a]), (.maxA e d a, fun x y => max x y, [d, a]),
        (.minA e d a, fun x y => min x y, [d, a]), (.rndh e d a, fun _ y => y + 2 ^ 22, [a])] :
        List (Instr × (Int → Int → Int) × List Bool)),
      ∃ k : Ctx, exec x.1 s = .next (s.engineAt e k) ∧
        (∀ j, sliceOn e j → (k.ac[two d])[j] = BitVec.ofInt 56 (x.2.1 (c.ac[two d])[j].toInt (c.ac[two a])[j].toInt)) ∧
        (∀ j, sliceOn e j = false → (k.ac[two d])[j] = (c.ac[two d])[j]) ∧ k.ac[two (!d)] = c.ac[two (!d)] ∧
        k.v = (c.v || (fins 4).any fun j => sliceOn e j && decide
          ((BitVec.ofInt 56 (x.2.1 (c.ac[two d])[j].toInt (c.ac[two a])[j].toInt)).toInt ≠
            x.2.1 (c.ac[two d])[j].toInt (c.ac[two a])[j].toInt)) ∧
        k.n = (k.ac[two d])[(0 : Fin 4)].msb ∧ k.z = decide ((k.ac[two d])[(0 : Fin 4)] = 0) ∧
        { k with ac := c.ac, v := c.v, n := c.n, z := c.z } = c.after (1 + c.stall x.2.2 [])

/-- R175, R177, R183, R185: SAT clamps to the range of a 24-bit word and sets SAT where it does. TST sets N and Z alone. ADDB adds an aligned
broadcast register to every slice. -/
def Obligations.SaturateTestAndBroadcastAdd : Prop :=
  ∀ (s : State) (e : EngineId) (d a : Bool) (c : Ctx), c = (s.eng e).ctx → s.steady e 2 →
    (∃ k : Ctx, exec (.sat e d a) s = .next (s.engineAt e k) ∧
      (∀ j, sliceOn e j → (k.ac[two d])[j].toInt = max (-(2 ^ 46)) (min (2 ^ 46 - 2 ^ 23) (c.ac[two a])[j].toInt)) ∧
      k.ac[two (!d)] = c.ac[two (!d)] ∧ k.v = c.v ∧
      k.sat = (c.sat || (fins 4).any fun j => sliceOn e j && decide
        ((c.ac[two a])[j].toInt < -(2 ^ 46) ∨ 2 ^ 46 - 2 ^ 23 < (c.ac[two a])[j].toInt)) ∧
      k.n = (k.ac[two d])[(0 : Fin 4)].msb ∧ k.z = decide ((k.ac[two d])[(0 : Fin 4)] = 0) ∧ k.pc = c.pc + 1) ∧
    exec (.tst e d a) s = .next (s.engineAt e
      { c.after (1 + c.stall [a] []) with
        n := (c.ac[two a])[(0 : Fin 4)].msb, z := decide ((c.ac[two a])[(0 : Fin 4)] = 0) }) ∧
    (∃ k : Ctx, exec (.addb e d a) s = .next (s.engineAt e k) ∧
      (∀ j, sliceOn e j → (k.ac[two d])[j] = BitVec.ofInt 56 ((c.ac[two d])[j].toInt + c.b[two a].toInt * 2 ^ 23)) ∧
      k.ac[two (!d)] = c.ac[two (!d)] ∧ k.sat = c.sat ∧ k.n = (k.ac[two d])[(0 : Fin 4)].msb ∧
      k.z = decide ((k.ac[two d])[(0 : Fin 4)] = 0) ∧ k.pc = c.pc + 1 ∧ k.cycles = c.cycles + 1 + c.stall [d] [])

/-- R174 to R176, R178, R184, R185: the operand load and the immediate load by register code. B0, B1 and LC take one word, S0, S1, AC0 and AC1
take one word for each slice, an accumulator aligns it, and a write of STAT clears SAT and V where a 1 is written. -/
def Obligations.LoadInstructions : Prop :=
  ∀ (s : State) (e : EngineId) (r : BitVec 4) (p : BitVec 3) (ps ab : Bool) (addr : BitVec 14) (c : Ctx) (v : Env) (a : Nat),
    c = (s.eng e).ctx → v = s.env e → a = c.ea v p ab addr → s.steady e 2 → regWf r →
    ∃ k : Ctx, exec (.operandLoad e r p ps ab addr) s = .next (s.engineAt e k) ∧
      (r = 0 → k.b[(0 : Fin 2)] = (s.eng e).word v a) ∧ (r = 1 → k.b[(1 : Fin 2)] = (s.eng e).word v a) ∧
      (∀ i : Fin 2, r.toNat = 2 + i.val → ∀ j, sliceOn e j → (k.s[i])[j] = ((s.eng e).row v a)[j]) ∧
      (∀ i : Fin 2, r.toNat = 4 + i.val → ∀ j, sliceOn e j → (k.ac[i])[j] = (((s.eng e).row v a)[j].signExtend 56) <<< 23) ∧
      (r = 6 → k.lc = ((s.eng e).word v a).setWidth 16) ∧
      (r = 7 → k.sat = (c.sat && !((s.eng e).word v a).getLsbD 3) ∧ k.v = (c.v && !((s.eng e).word v a).getLsbD 2)) ∧
      (r ≠ 0 → r ≠ 1 → k.b = c.b) ∧ (r.toNat < 2 ∨ 4 ≤ r.toNat → k.s = c.s) ∧ (r.toNat < 4 ∨ 6 ≤ r.toNat → k.ac = c.ac) ∧
      (r ≠ 6 → k.lc = c.lc) ∧ (r ≠ 7 → k.sat = c.sat ∧ k.v = c.v) ∧
      k.p = (if ps then (c.stepPtr v p).p else c.p) ∧ k.pc = c.pc + 1 ∧ k.n = c.n ∧ k.z = c.z ∧
      k.cycles = c.cycles + 1 + c.stall [] (if ab then [] else [p]) ∧
      (∀ x : W24, r.toNat < 7 → (r = 6 → x.toNat < 65536) →
        ∃ m : Ctx, exec (.immediateLoad e r x) s = .next (s.engineAt e m) ∧
          (r = 0 → m.b[(0 : Fin 2)] = x) ∧ (r = 1 → m.b[(1 : Fin 2)] = x) ∧
          (∀ i : Fin 2, r.toNat = 2 + i.val → ∀ j, sliceOn e j → (m.s[i])[j] = x) ∧
          (∀ i : Fin 2, r.toNat = 4 + i.val → ∀ j, sliceOn e j → (m.ac[i])[j] = (x.signExtend 56) <<< 23) ∧
          (r = 6 → m.lc = x.setWidth 16) ∧ m.p = c.p ∧ m.pc = c.pc + 1 ∧ m.cycles = c.cycles + 1)

/-- R175, R178, R184, R185, R187, R189: an operand store inside the region that the running code may write stores the words of its register code
at its address and leaves every other word of operand memory as it was; SAT sets and stays where an accumulator saturates, the pointer steps
when asked, and nothing else changes but the program counter and the cycles. Outside that region it writes nothing and traps with cause 0. -/
def Obligations.StoreInstruction : Prop :=
  ∀ (s : State) (e : EngineId) (r : BitVec 4) (p : BitVec 3) (ps ab : Bool) (addr : BitVec 14) (c : Ctx) (v : Env) (a : Nat),
    s.canonical → c = (s.eng e).ctx → v = s.env e → a = c.ea v p ab addr → s.steady e 3 → regWf r →
    (v.lo ≤ a → a < v.hi →
      ∃ (k : Ctx) (o : Cells) (g : Engine), g = { s.eng e with running := true, ctx := k, oper := o } ∧
        exec (.operandStore e r p ps ab addr) s = .next (s.modEng e fun _ => g) ∧
        ((wideReg r.toNat = false ∨ e ≠ .su) →
          g.word v a = c.gives r 0 ∧ ∀ b, b < operSize e → b ≠ a → g.word v b = (s.eng e).word v b) ∧
        (wideReg r.toNat = true → e = .su →
          (∀ j : Fin 4, g.word v (4 * (a / 4) + j.val) = c.gives r j) ∧
          ∀ b, b < operSize e → b / 4 ≠ a / 4 → g.word v b = (s.eng e).word v b) ∧
        k.sat = (c.sat || decide (r = 4) && c.clips e false || decide (r = 5) && c.clips e true) ∧
        k.p = (if ps then (c.stepPtr v p).p else c.p) ∧
        { k with sat := c.sat, p := c.p } = c.after (1 + c.stall (acOf r) (if ab then [] else [p]))) ∧
    ((a < v.lo ∨ v.hi ≤ a) → s.trapsTo e 0 (exec (.operandStore e r p ps ab addr) s))

/-- R179, R184, R185: the pointer instructions. A pointer load sets the pointer, a step load its step, a wrap load its length and latches the
base, and a pointer add moves the pointer modulo the memory or round its circular buffer. -/
def Obligations.PointerInstructions : Prop :=
  ∀ (s : State) (e : EngineId) (n : BitVec 3) (x : BitVec 14) (c : Ctx) (v : Env), c = (s.eng e).ctx → v = s.env e → s.steady e 1 →
    exec (.pointerLoad e n x) s = .next (s.engineAt e { c.after 1 with p := vset c.p n.toFin x, lastPtr := some n.toFin }) ∧
    exec (.stepLoad e n x) s = .next (s.engineAt e { c.after 1 with d := vset c.d n.toFin x }) ∧
    exec (.wrapLoad e n x) s =
      .next (s.engineAt e { c.after 1 with w := vset c.w n.toFin x, g := vset c.g n.toFin c.p[(n.toFin : Fin 8)] }) ∧
    (∃ y : BitVec 14,
      exec (.pointerAdd e n x) s = .next (s.engineAt e { c.after 1 with p := vset c.p n.toFin y, lastPtr := some n.toFin }) ∧
      (c.w[(n.toFin : Fin 8)] = 0 → y.toNat = (c.p[(n.toFin : Fin 8)].toNat + x.toNat) % operSize e) ∧
      (∀ w g q, w = c.w[(n.toFin : Fin 8)].toNat → g = c.g[(n.toFin : Fin 8)].toNat → q = c.p[(n.toFin : Fin 8)].toNat →
        0 < w → g ≤ q → q < g + w → g + w ≤ operSize e → y.toNat = g + (q - g + x.toNat) % w))

/-- R186, R194: after a REPEAT the next instruction runs as often as it asks and then the run goes on behind it; in the signal unit a run that
was released meanwhile with an earlier deadline preempts it there. -/
def Obligations.RepeatRunsNextInstruction : Prop :=
  ∀ (s t : State) (e : EngineId) (n : BitVec 3) (x : BitVec 14) (k : Nat) (c : Ctx), c = (s.eng e).ctx → c.halted = false → c.trap = none →
    c.rep = some k → 1 ≤ k → c.w[(n.toFin : Fin 8)] = 0 →
    (∀ lim, s.cycleLimit e = some lim → (s.eng e).integ = true → c.cycles + k < lim) →
    t = s.engineAt e
      { c.after k with
        rep := none, lastPtr := some n.toFin
        p := vset c.p n.toFin (BitVec.ofNat 14 ((c.p[(n.toFin : Fin 8)].toNat + k * x.toNat) % operSize e)) } →
      (e ≠ .su → exec (.pointerAdd e n x) s = .next t) ∧ (e = .su → exec (.pointerAdd e n x) s = .next t.dispatch) ∧
      (e = .su → s.firstPending = none → exec (.pointerAdd e n x) s = .next t)

/-- R175 to R177, R184, R185: a register move for every destination and source. A 24-bit register takes the word that the source gives, where an
accumulator saturates and sets SAT; an accumulator aligns it, takes all bits of the other accumulator, or takes a pointer as an integer; a
pointer takes the low 14 bits; LC takes the low 16; a write of STAT clears SAT and V where a 1 is written. Nothing else changes but the
program counter and the cycles. -/
def Obligations.RegisterMoves : Prop :=
  ∀ (s : State) (e : EngineId) (dst src : BitVec 4) (c : Ctx) (clip : Bool), c = (s.eng e).ctx → s.steady e 2 →
    clip = (decide (dst.toNat < 8 ∧ dst ≠ 4 ∧ dst ≠ 5) && (decide (src = 4) && c.clips e false || decide (src = 5) && c.clips e true)) →
    ∃ k : Ctx, exec (.registerMove e dst src) s = .next (s.engineAt e k) ∧
      (∀ i : Fin 2, (k.b[i]) = if dst.toNat = i.val then c.gives src 0 else c.b[i]) ∧
      (∀ (i : Fin 2) (q : Fin 4), (k.s[i])[q] = if dst.toNat = 2 + i.val ∧ sliceOn e q then c.gives src q else (c.s[i])[q]) ∧
      (∀ (i : Fin 2) (q : Fin 4), (k.ac[i])[q] =
        if dst.toNat = 4 + i.val ∧ sliceOn e q then
          (if src = 4 then (c.ac[(0 : Fin 2)])[q] else if src = 5 then (c.ac[(1 : Fin 2)])[q]
           else if 8 ≤ src.toNat then (c.gives src q).setWidth 56 else ((c.gives src q).signExtend 56) <<< 23)
        else (c.ac[i])[q]) ∧
      k.lc = (if dst = 6 then (c.gives src 0).setWidth 16 else c.lc) ∧
      k.v = (if dst = 7 then c.v && !(c.gives src 0).getLsbD 2 else c.v) ∧
      k.sat = ((if dst = 7 then c.sat && !(c.gives src 0).getLsbD 3 else c.sat) || clip) ∧
      (∀ i : Fin 8, k.p[i] =
        if dst.toNat = 8 + i.val then
          (if src = 4 then ((c.ac[(0 : Fin 2)])[(0 : Fin 4)]).setWidth 14 else if src = 5 then ((c.ac[(1 : Fin 2)])[(0 : Fin 4)]).setWidth 14
           else (c.gives src 0).setWidth 14)
        else c.p[i]) ∧
      k.lastPtr = (if 8 ≤ dst.toNat then some (dst.setWidth 3 : BitVec 3).toFin else none) ∧
      { k with b := c.b, s := c.s, ac := c.ac, lc := c.lc, v := c.v, sat := c.sat, p := c.p, lastPtr := none } =
        c.after (1 + c.stall (acOf src) [])

/-! ## Axes -/

/-- R47 to R51, R66, R89, R97, R127: the current sensors' protection, clock by clock of the modulator. The levels of the six bitstreams come in order, 50 ns
apart, the last one at the time of the command. An input that has held one level for 64 clocks is stuck, and every sixteenth clock the fast outputs
are judged: a second one in a row beyond cur.ioc × elec.ifs is an over-current. A stuck phase input, an over-current and a current sum out of
tolerance fault the axis with their cause and event, once. A stuck resolver input is a sensor loss. A stuck link input makes the link voltage
unknown. The offset calibration sums its samples, takes their means, keeps the stored offsets while current flows, or faults (the mean of the
first 16 samples and the order of the checks by log entry 45). -/
def Obligations.CurrentProtection : Prop :=
  (∀ (s u : State) (l : AxisNo) (bits : List DsBits) (now : Ns), u = s.at now →
    (s.axOn l = false → exec (.overcurrent l bits now) s = .next u ∧ exec (.dsmStuck l bits now) s = .next u) ∧
    (s.axOn l → ∀ t, t = (bits.zipIdx.foldl (fun (v : State) y => v.dsmClock l (u.clk.lclk - 50 * (bits.length - 1 - y.2)) y.1) u) →
      ∀ v, v = t.modAx l (fun a => { a with dsm := { a.dsm with ch := a.dsm.ch.map fun f => { f with hist := f.hist.take 769 } } }) →
        exec (.overcurrent l bits now) s = .next v ∧ exec (.dsmStuck l bits now) s = .next v)) ∧
  (∀ (s : State) (l : AxisNo) (tm : Ns) (x : DsBits) (d d' : Dsm) (k : PairNo) (p : Pair), d = s.ax[l].dsm → k = pairOf l →
    d' = d.step (s.pq P.curIoc l) x → p = (if 64 ≤ d'.held[(5 : Fin 6)] then { s.pair[k] with stuckAt := tm } else s.pair[k]) →
    s.ax[l].com.pulse = none →
    (d'.lvl = x ∧ (∀ i : Fin 6, d'.held[i] = (if x.getLsbD i.val = d.lvl.getLsbD i.val then d.held[i] + 1 else 1)) ∧
      (d.phase + 1 < 16 → d'.phase = d.phase + 1 ∧ d'.oc = d.oc ∧ d'.fast = d.fast) ∧
      (16 ≤ d.phase + 1 → d'.phase = 0 ∧ ∀ i : Fin 3,
        d'.fast[i] = (comb 16 (d'.ch[i.val]).hist : Q) / 2048 - 1 ∧
        d'.oc[i] = (if s.pq P.curIoc l < |d'.fast[i]| then d.oc[i] + 1 else 0))) ∧
    ((∀ i : Fin 6, d'.held[i] ≠ 64) → (d'.phase = 0 → s.ax[l].fault = 0 → ∀ i : Fin 3, d'.oc[i] ≠ 2) →
      s.dsmClock l tm x = { s with ax := vset s.ax l { s.ax[l] with dsm := d' }, pair := vset s.pair k p }) ∧
    (∀ i : Fin 3, (∀ j : Fin 6, d'.held[j] ≠ 64) → d'.phase = 0 → s.ax[l].fault = 0 → d'.oc[i] = 2 → (∀ j : Fin 3, j < i → d'.oc[j] ≠ 2) →
      ∃ v : State, s.dsmClock l tm x = v.raise 0x1004 .crimson (some l) [BitVec.ofNat 32 i.val] ∧
        v.ax[l].fault = 5 ∧ v.ax[l].en = false ∧ v.ax[l].pwm.gates = false ∧ v.ax[l].dsm = d' ∧
        (∀ m : AxisNo, m ≠ l → v.ax[m] = s.ax[m]) ∧
        { v with ax := s.ax, life := s.life, regs := s.regs } = { s with pair := vset s.pair k p }) ∧
    (∀ i : Fin 6, i.val < 3 → (i.val ≠ 2 ∨ s.pn P.dsmIch l ≠ 2) → d'.held[i] = 64 → (∀ j : Fin 6, j ≠ i → d'.held[j] ≠ 64) →
      s.ax[l].fault = 0 →
      ∃ v : State, s.dsmClock l tm x = v.raise 0x1003 .crimson (some l) [BitVec.ofNat 32 i.val] ∧
        v.ax[l].fault = 3 ∧ v.ax[l].en = false ∧ v.ax[l].pwm.gates = false ∧ v.ax[l].dsm = d' ∧
        (∀ m : AxisNo, m ≠ l → v.ax[m] = s.ax[m]) ∧
        { v with ax := s.ax, life := s.life, regs := s.regs } = { s with pair := vset s.pair k p }) ∧
    (∀ i : Fin 6, (i = 3 ∨ i = 4) → s.pn P.fbSrc l = 2 → s.ax[l].fb.lost = false → s.ax[l].fb.loss = 0 → d'.held[i] = 64 →
      (∀ j : Fin 6, j ≠ i → d'.held[j] ≠ 64) → (d'.phase = 0 → ∀ j : Fin 3, d'.oc[j] ≠ 2) →
      ∃ v : State, s.dsmClock l tm x = v.raise 0x5004 .crimson (some l) [6] ∧
        v.ax[l].fb.loss = 6 ∧ v.ax[l].fb.lost = true ∧ v.ax[l].com.cval = false ∧ v.ax[l].en = s.ax[l].en ∧
        v.ax[l].fault = s.ax[l].fault ∧ (∀ m : AxisNo, m ≠ l → v.ax[m] = s.ax[m]) ∧
        { v with ax := s.ax } = { s with pair := vset s.pair k p }) ∧
    (d'.held[(5 : Fin 6)] = 64 → (∀ j : Fin 6, j ≠ 5 → d'.held[j] ≠ 64) → (d'.phase = 0 → ∀ j : Fin 3, d'.oc[j] ≠ 2) →
      ∀ v, v = { s with ax := vset s.ax l { s.ax[l] with dsm := d' }
                        pair := vset s.pair k { s.pair[k] with vunk := true, stuckAt := tm, chop := false, chBad := none } } →
        s.dsmClock l tm x = if s.pair[k].vunk then v else v.raise 0x1014 .amber (some (loAx k)) [BitVec.ofNat 32 k.val])) ∧
  (∀ (s u : State) (l : AxisNo) (now : Ns) (c : Cur), u = s.at now → c = s.ax[l].cur →
    (c.sumCount < 4 → exec (.currentSum l now) s = .next u) ∧
    (4 ≤ c.sumCount → s.ax[l].fault = 0 →
      ∃ v : State, exec (.currentSum l now) s = .next (v.raise 0x1002 .crimson (some l) [toFix 16 c.sum]) ∧
        v.ax[l].fault = 4 ∧ v.ax[l].en = false ∧ v.ax[l].pwm.gates = false ∧ v.ax[l].cur.sumCount = 0 ∧
        (∀ m : AxisNo, m ≠ l → v.ax[m] = s.ax[m]) ∧ { v with ax := s.ax, life := s.life, regs := s.regs } = u) ∧
    (4 ≤ c.sumCount → s.ax[l].fault ≠ 0 → exec (.currentSum l now) s =
      .next { u with ax := vset s.ax l { s.ax[l] with cur := { c with sumCount := 0 } } }) ∧
    ((s.axOn l = false ∨ c.calDue = false ∨ s.ax[l].pwm.gates = true ∨ c.calN < 16) →
      exec (.currentOffsetCalibration l now) s = .next u) ∧
    (∀ (lim : Q) (ended : Cur), s.axOn l → c.calDue = true → s.ax[l].pwm.gates = false → 16 ≤ c.calN → lim = s.pq P.elecIfs l * 2 / 100 →
      ended = { c with calDue := false, calDone := true, calN := 0, calSum := Vector.replicate 3 0, calMag := Vector.replicate 3 0 } →
      ((∃ i : Fin 3, i.val < s.pn P.dsmIch l ∧ lim ≤ c.calMag[i] / 16) →
        ∃ v : State, exec (.currentOffsetCalibration l now) s = .next (v.raise 0x1005 .grey (some l) []) ∧
          v.ax[l].cur = { ended with off := c.offStored } ∧
          (s.ax[l].en → v.ax[l].pwm.gateReq = some true) ∧ (∀ m : AxisNo, m ≠ l → v.ax[m] = s.ax[m]) ∧ { v with ax := s.ax } = u) ∧
      ((∀ i : Fin 3, i.val < s.pn P.dsmIch l → c.calMag[i] / 16 < lim) →
        (c.calN < 256 → exec (.currentOffsetCalibration l now) s = .next u) ∧
        (256 ≤ c.calN → (∀ i : Fin 3, i.val < s.pn P.dsmIch l → |c.calSum[i] / 256| ≤ lim) →
          ∃ v : State, exec (.currentOffsetCalibration l now) s = .next v ∧
            (∀ i : Fin 3, i.val < s.pn P.dsmIch l → v.ax[l].cur.off[i] = c.calSum[i] / 256 ∧ v.ax[l].cur.offStored[i] = c.calSum[i] / 256) ∧
            { v.ax[l].cur with off := c.off, offStored := c.offStored } = ended ∧
            (s.ax[l].en → v.ax[l].pwm.gateReq = some true) ∧ (∀ m : AxisNo, m ≠ l → v.ax[m] = s.ax[m]) ∧ { v with ax := s.ax } = u) ∧
        (∀ i : Fin 3, 256 ≤ c.calN → s.ax[l].fault = 0 → i.val < s.pn P.dsmIch l → lim < |c.calSum[i] / 256| →
          (∀ j : Fin 3, j < i → |c.calSum[j] / 256| ≤ lim) →
          ∃ v : State, exec (.currentOffsetCalibration l now) s =
              .next (v.raise 0x1006 .crimson (some l) [BitVec.ofNat 32 i.val, toFix 16 (c.calSum[i] / 256)]) ∧
            v.ax[l].fault = 6 ∧ v.ax[l].en = false ∧ v.ax[l].cur.off = c.off ∧ (∀ m : AxisNo, m ≠ l → v.ax[m] = s.ax[m])))) ∧
    (c.calDue = true → s.ax[l].pwm.gates = false → c.calN < 256 →
      (s.calSample l).ax[l].cur.calN = c.calN + 1 ∧ (∀ i : Fin 3, (s.calSample l).ax[l].cur.calSum[i] = c.calSum[i] + s.phaseRaw l i) ∧
      (c.calN < 16 → ∀ i : Fin 3, (s.calSample l).ax[l].cur.calMag[i] = c.calMag[i] + |s.phaseRaw l i - c.offStored[i]|)))

/-- R122 to R127: the link watch of a pair. Each stage is entered after two samples above its threshold and left after two below it less the
hysteresis, only stage 3 faults both axes, and with the voltage unknown nothing changes. The voltage is known again once the input has moved
for 3 × dsm.dec modulator clocks. A chopper whose feedback has disagreed without a break for more than 5 µs, or in a lane without authority for
1 ms outside the band, is switched off and marked; a shorter disagreement, or one that ends, is noted only. -/
def Obligations.LinkWatchActs : Prop :=
  ∀ (s u : State) (k : PairNo) (now : Ns), u = s.at now →
    (s.pair[k].vunk = true → exec (.linkStageChange k now) s = .next u) ∧
    (s.pair[k].vunk = false →
      ∃ t : State, exec (.linkStageChange k now) s = .next t ∧
        (∀ i : Fin 3, t.pair[k].ov[i] =
          (if s.pair[k].ov[i] then decide (s.pair[k].below[i] < 2) else decide (2 ≤ s.pair[k].above[i]))) ∧
        { t.pair[k] with ov := s.pair[k].ov } = s.pair[k] ∧ (∀ j : PairNo, j ≠ k → t.pair[j] = s.pair[j]) ∧
        (∀ m : AxisNo, pairOf m = k → s.pair[k].ov[(2 : Fin 3)] = false → 2 ≤ s.pair[k].above[(2 : Fin 3)] →
          t.ax[m].en = false ∧ t.ax[m].pwm.gates = false ∧ t.ax[m].fault = (if s.ax[m].fault = 0 then 8 else s.ax[m].fault)) ∧
        (∀ m : AxisNo, pairOf m ≠ k → t.ax[m] = s.ax[m]) ∧
        ((s.pair[k].ov[(2 : Fin 3)] = true ∨ s.pair[k].above[(2 : Fin 3)] < 2) → t.ax = s.ax ∧ t.life = s.life)) ∧
    (s.pair[k].vunk = true → s.pair[k].stuckAt + 150 * s.pn P.dsmDec (loAx k) ≤ u.clk.lclk →
      exec (.linkVoltageKnown k now) s = .next { u with pair := vset s.pair k { s.pair[k] with vunk := false } }) ∧
    (u.clk.lclk < s.pair[k].stuckAt + 150 * s.pn P.dsmDec (loAx k) → exec (.linkVoltageKnown k now) s = .next u) ∧
    (∀ (fb bad : Bool) (since : Ns) (p : Pair), p = s.pair[k] → since = p.chBad.getD u.clk.lclk →
      (p.chBad ≠ none → if s.auth then u.clk.lclk ≤ since + 5000 else u.clk.lclk < since + 1000000) →
      bad = decide (s.pairOn k ∧ p.vunk = false ∧ p.chopf = false ∧ p.chop ≠ fb ∧
        (s.auth ∨ s.pq P.chopVon + 1 / 2 ≤ p.vlink ∨ p.vlink ≤ s.pq P.chopVoff - 1 / 2)) →
      exec (.chopperFault k fb now) s =
        .next { u with pair := vset s.pair k { p with chfb := fb, chBad := if bad then some since else none } }) ∧
    (∀ (fb : Bool) (since : Ns) (p : Pair), p = s.pair[k] → p.chBad = some since → s.chopBad k = true →
      (if s.auth then since + 5000 < u.clk.lclk else since + 1000000 ≤ u.clk.lclk) →
      exec (.chopperFault k fb now) s = .next
        ((({ u with pair := vset s.pair k { p with chop := false, chopf := true, chBad := none } }).raise 0x1010 .amber (some (loAx k))
          [BitVec.ofNat 32 k.val, bitAt p.chfb 0]).modPair k fun q => { q with chfb := fb }))

/-- R19, R41, R47, R53, R61, R66: a current-loop sample belongs to the oldest load point that has none yet. The axis values that wait for it take
effect. It starts a group delay after its load point, or as soon as the sample before has halted and three quarters of T_c have passed since its
start (rounded up to whole ns, log entry 43). Its index is the number of whole periods T_c from global time zero to its load point, its currents
are those of the filters less the offsets, and it acts on the axes of its own pair only. A cell without power, an axis without allocation and
one without a waiting load point do nothing. -/
def Obligations.CurrentLoopSampleRuns : Prop :=
  ∀ (s q : State) (l : AxisNo) (x : SampleIn), q = s.takeNow l →
    ((s.axOn l = false ∨ s.allocated l = false ∨ s.ax[l].sch.due = []) → exec (.currentLoopSample l x) s = .next s) ∧
    (∀ pid, pid / 256 % 16 = l.val → pid ∈ s.par.posted → s.canonical → q.eff pid = q.stored pid) ∧
    (∀ pid, (pid / 256 % 16 ≠ l.val ∨ pid ∉ s.par.posted) → s.canonical → q.eff pid = s.eff pid) ∧ q.par.stored = s.par.stored ∧
    { q with par := s.par } = s ∧
    (∀ pt nom r, s.axOn l → s.allocated l → s.ax[l].sch.due = (pt, nom) :: r →
      ∃ t : State, exec (.currentLoopSample l x) s = .next t ∧ t.par = q.par ∧
        t.ax[l].sch.due = r ∧ t.ax[l].sch.point = pt ∧ t.ax[l].sch.started = true ∧
        t.ax[l].sch.index = ((2 * (q.gtAt nom - 5 * q.pn P.pwmPhase l) + q.tc l) / (2 * q.tc l) + (5 * q.pn P.pwmPhase l / q.tc l : Nat)).toNat ∧
        t.ax[l].sch.start = (if s.ax[l].sch.started then
            max (nom + q.groupDelay l) (max s.ax[l].sch.halt (s.ax[l].sch.start + (3 * q.tc l + 3) / 4))
          else nom + q.groupDelay l) ∧
        t.ax[l].sch.inst = t.ax[l].sch.start - q.groupDelay l ∧
        t.ax[l].sch.written = t.ax[l].sch.start + x.duty ∧ t.ax[l].sch.halt = t.ax[l].sch.start + max x.duty x.work ∧
        t.ax[l].sch.late = decide (nom + q.groupDelay l < t.ax[l].sch.start) ∧
        (s.ax[l].cur.calDue = false → t.ax[l].cur.off = s.ax[l].cur.off) ∧
        t.ax[l].cur.iu = t.phaseRaw l 0 - t.ax[l].cur.off[(0 : Fin 3)] ∧
        t.ax[l].cur.iv = t.phaseRaw l 1 - t.ax[l].cur.off[(1 : Fin 3)] ∧
        t.ax[l].cur.iw = (if q.pn P.dsmIch l = 3 then t.phaseRaw l 2 - t.ax[l].cur.off[(2 : Fin 3)]
          else -t.ax[l].cur.iu - t.ax[l].cur.iv) ∧
        (∀ m : AxisNo, pairOf m ≠ pairOf l → t.ax[m] = s.ax[m]) ∧ t.twin.claim = s.twin.claim)

/-- R39, R41 to R46, R60, R63: the carrier of an axis and its load points. A carrier that does not run starts at a valley that meets the lock
condition within 5 ns. A running one reaches its next extreme one half-period after the last, told then or later: a valley measures the phase
error and corrects the next half-period by it within ±0.2 %. A load point, which with pwm.update = 1 is a valley only, puts the newest duties
written before it in force after the minimum-pulse rule, keeps the old ones and counts where those due are not written yet, takes the gates
low or high as asked, and asks for the next sample. -/
def Obligations.PwmLoadPointActs : Prop :=
  ∀ (s u : State) (l : AxisNo) (peak : Bool) (now : Ns) (p : Pwm) (e : Ns → Int), u = s.at now → p = s.ax[l].pwm → e = s.phaseErr l →
    ((s.axOn l = false ∨ s.allocated l = false ∨ (p.run = false ∧ (peak = true ∨ e u.clk.lclk < 0 ∨ 5 ≤ e u.clk.lclk)) ∨
        (p.run = true ∧ (peak ≠ p.up ∨ (now : Q) < p.ext + (5 * s.pn P.pwmHalf l + p.corr)))) →
      exec (.pwmLoadPoint l peak now) s = .next u) ∧
    (∀ (x : Q) (tm : Ns), s.axOn l → s.allocated l →
      ((p.run = false ∧ peak = false ∧ 0 ≤ e tm ∧ e tm < 5 ∧ tm = u.clk.lclk ∧ x = tm) ∨
        (p.run = true ∧ peak = p.up ∧ x = p.ext + (5 * s.pn P.pwmHalf l + p.corr) ∧ x ≤ now ∧ tm = x.floor.toNat)) →
      ∃ t : State, exec (.pwmLoadPoint l peak now) s = .next t ∧ t.ax[l].pwm.run = true ∧
        t.ax[l].pwm.ext = x ∧ t.ax[l].pwm.up = !peak ∧
        t.ax[l].pwm.corr = (if peak then 0 else -clampQ (e tm) (-((s.pn P.pwmHalf l : Q) / 100)) ((s.pn P.pwmHalf l : Q) / 100)) ∧
        (p.run = false → t.ax[l].pwm.lock = true) ∧ (peak = false → 5000 < (e tm).natAbs → t.ax[l].pwm.lock = false) ∧
        (peak = true → s.pn P.pwmUpdate l = 1 →
          t = { u with ax := vset s.ax l { s.ax[l] with pwm := { p with ext := x, up := false, corr := 0 } } }) ∧
        ((peak = false ∨ s.pn P.pwmUpdate l ≠ 1) →
          t.ax[l].sch = { s.ax[l].sch with due := s.ax[l].sch.due ++ [(p.pts, tm)] } ∧ t.ax[l].pwm.pts = p.pts + 1 ∧
          (p.gates = true → p.gateReq = none →
            t.ax[l].pwm.gates = true ∧ t.ax[l].pwm.next = p.next.filter (fun d => decide (tm / 5 ≤ d.at_ / 5)) ∧
            t.ax[l].pwm.loads = (tm, t.ax[l].pwm.cmp) :: p.loads.take 7 ∧
            (∀ (d : Duty) (i : Fin 3) (m : Nat), (p.next.filter fun d => decide (d.at_ / 5 < tm / 5)).getLast? = some d →
              m = 5 * s.pn P.pwmDead l + 5 * s.pn P.pwmMinpulse l →
              t.ax[l].pwm.cmp[i] = (if 10 * d.cmp[i] < 32 * m then 0
                else if 10 * (32 * s.pn P.pwmHalf l - d.cmp[i]) < 32 * m then 32 * s.pn P.pwmHalf l else d.cmp[i])) ∧
            ((∀ d ∈ p.next, tm / 5 ≤ d.at_ / 5) → t.ax[l].pwm.cmp = p.cmp) ∧
            (p.owed = true → (∀ d ∈ p.next, d.due = p.pts → tm / 5 ≤ d.at_ / 5) → (peak = true ∨ (e tm).natAbs ≤ 5000) → s.canonical →
              (s.counter (0x2001 + 256 * l.val)).toNat < 65534 →
              t.counter (0x2001 + 256 * l.val) = s.counter (0x2001 + 256 * l.val) + 1 ∧
              ∀ j, j ≠ 0x2001 + 256 * l.val → t.counter j = s.counter j) ∧
            ((p.owed = false ∨ ∃ d ∈ p.next, d.due = p.pts ∧ d.at_ / 5 < tm / 5) → (peak = true ∨ (e tm).natAbs ≤ 5000) → t.cnt = s.cnt)) ∧
          (p.gateReq = some false → t.ax[l].pwm.gates = false ∧ t.ax[l].pwm.gateReq = none ∧ t.ax[l].pwm.next = []) ∧
          (p.gateReq = some true → s.ax[l].en = true → s.ax[l].fault = 0 → s.toPermit (pairOf l) →
            t.ax[l].pwm.gates = true ∧ t.ax[l].pwm.gateReq = none ∧
            t.ax[l].cur = { s.ax[l].cur with settled := 0, warn := 0, fail := 0, failRep := false, res1 := false }) ∧
          (p.gateReq = some true → (s.ax[l].en = false ∨ s.ax[l].fault ≠ 0 ∨ s.toPermit (pairOf l) = false) →
            t.ax[l].pwm.gates = p.gates ∧ t.ax[l].pwm.gateReq = p.gateReq)) ∧
        t.ax[l].en = s.ax[l].en ∧ t.ax[l].fault = s.ax[l].fault ∧ t.ax[l].fb = s.ax[l].fb ∧
        (s.pulsePlan l = none → t.ax[l].com = s.ax[l].com) ∧
        (∀ m : AxisNo, m ≠ l → t.ax[m] = s.ax[m]) ∧ t.pair = s.pair ∧ t.life = s.life)

/-- R27, R58, R59, R85, R143 to R145, R266: the counted checks of an axis. Each acts once when its count has been reached, with the event and
the reaction its rule gives, and below its count changes nothing. A window of the speed measurement ends at a multiple of T_w of global time:
its result needs the end before it, and the check of the window before it is made with the speed ticks that fell in it. -/
def Obligations.CountedChecksActOnce : Prop :=
  ∀ (s u : State) (l : AxisNo) (now : Ns) (a : Axis), u = s.at now → a = s.ax[l] →
    (∀ x ∈ ([(.modelResidual l now, a.cur.res1, a.cur.warn, s.pn P.supN1 l, 0x7001, toFix 16 a.cur.resid,
            { a with cur := { a.cur with res1 := true } }),
          (.speedImplausible l now, a.cas.spdf, a.cas.spdN, s.pn P.casPvn l, 0x3003, toFix 16 a.cas.spdDiff,
            { a with cas := { a.cas with spdf := true } }),
          (.rackImplausible l now, a.cas.rackf, a.cas.rackN, s.pn P.casRn l, 0x3004, toFix 16 a.cas.rackDiff,
            { a with cas := { a.cas with rackf := true, rackOk := 0 } }),
          (.followingError l now, a.cas.ferr, a.cas.ferrN, s.pn P.casFerrn l, 0x3005, toFix 16 a.cas.ep,
            { a with cas := { a.cas with ferr := true, ferrOk := 0 } })] :
          List (Instr × Bool × Nat × Nat × Nat × Word × Axis)),
      (x.2.1 = false → x.2.2.2.1 ≤ x.2.2.1 →
        exec x.1 s = .next (({ u with ax := vset s.ax l x.2.2.2.2.2.2 }).raise x.2.2.2.2.1 .amber (some l) [x.2.2.2.2.2.1])) ∧
      ((x.2.1 = true ∨ x.2.2.1 < x.2.2.2.1) → exec x.1 s = .next u)) ∧
    ((a.cur.failRep = true ∨ a.cur.fail < s.pn P.supN2 l) → exec (.modelImplausible l now) s = .next u) ∧
    (a.cur.failRep = false → s.pn P.supN2 l ≤ a.cur.fail →
      ∃ t : State, exec (.modelImplausible l now) s = .next t ∧ t.ax[l].cur.modelf = true ∧
        (a.com.mode = .sensored → a.fb.loss = 0 → t.ax[l].fb.loss = 7 ∧ t.ax[l].fb.lost = true ∧ t.ax[l].cur.failRep = true ∧
          t.ax[l].en = a.en ∧ t.ax[l].fault = a.fault) ∧
        (a.com.mode ≠ .sensored → a.com.mode ≠ .off → t.ax[l].en = false ∧ t.ax[l].fault = (if a.fault = 0 then 2 else a.fault)) ∧
        (a.com.mode = .off → t.ax[l] = { a with cur := { a.cur with modelf := true, failRep := true } }) ∧
        (∀ m : AxisNo, m ≠ l → t.ax[m] = s.ax[m]) ∧ t.pair = s.pair) ∧
    (a.del.stale < 3 → a.del.fStale < 3 → exec (.feedbackStale l now) s = .next u) ∧
    (3 ≤ a.del.stale → a.del.stale < 5 → a.del.staleRep < 3 → a.del.fStale < 3 →
      exec (.feedbackStale l now) s =
        .next (({ u with ax := vset s.ax l { a with del := { a.del with staleRep := 3 } } }).raise 0x5001 .amber (some l) [])) ∧
    (3 ≤ a.del.fStale → a.del.fStale < 5 → a.del.fStaleRep < 3 → a.del.stale < 3 →
      exec (.feedbackStale l now) s =
        .next (({ u with ax := vset s.ax l { a with del := { a.del with fStaleRep := 3 } } }).raise 0x5001 .amber (some l) [])) ∧
    (5 ≤ a.del.stale → a.del.staleRep = 3 → a.del.fStale < 3 → a.fb.loss = 0 → a.fb.lost = false → s.pn P.fbSrc l = 2 →
      ∃ v : State, exec (.feedbackStale l now) s = .next (v.raise 0x5004 .crimson (some l) [8]) ∧
        v.ax[l].fb.loss = 8 ∧ v.ax[l].fb.lost = true ∧ v.ax[l].com.cval = false ∧ v.ax[l].del.staleRep = 5 ∧
        (∀ m : AxisNo, m ≠ l → v.ax[m] = s.ax[m]) ∧ { v with ax := s.ax } = u) ∧
    (5 ≤ a.del.fStale → a.del.fStaleRep = 3 → a.del.stale < 3 → a.fb.loss = 0 →
      exec (.feedbackStale l now) s =
        .next { u with ax := vset s.ax l { a with del := { a.del with fStaleRep := 5 }, fb := { a.fb with loss := 8 } } }) ∧
    (a.ss.due = false → exec (.axisSafestopRemoval l now) s = .next u) ∧
    (a.ss.due = true → s.standby = false →
      ∃ t : State, exec (.axisSafestopRemoval l now) s = .next t ∧ t.ax[l].ss.ssoff = true ∧ t.ax[l].ss.due = false ∧
        t.ax[l].en = false ∧ t.ax[l].com.mode = .off ∧ t.ax[l].fault = a.fault ∧
        (∀ m : AxisNo, m ≠ l → pairOf m = pairOf l → s.ax[m].ss.ssoff = true →
          t.pair[pairOf l].toDemand = true ∧ t.ax[m].en = false ∧ t.ax[m].pwm.gates = false ∧ t.ax[l].pwm.gates = false) ∧
        (∀ m : AxisNo, m ≠ l → pairOf m = pairOf l → s.ax[m].ss.ssoff = false → t.pair = s.pair ∧ t.ax[m] = s.ax[m]) ∧
        (∀ m : AxisNo, pairOf m ≠ pairOf l → t.ax[m] = s.ax[m])) ∧
    (∀ (k : Int) (te : Ns) (mov : Word) (pos : Int) (tw : Q), k = u.gt / u.winNs l → te = u.localOf (k * u.winNs l) →
      mov = (a.fb.countsAt (te + 4)).2 →
      pos = (if s.pn P.fbSrc l = 2 ∨ a.com.est = true then a.fb.pos64 else a.fb.pos64 + diff32 mov a.fb.movPrev) →
      tw = (s.pn P.fbWin l : Q) * 125 / 1000000 →
      ((s.axOn l = false ∨ a.fb.winK = some k) → exec (.speedWindowEnd l now) s = .next u) ∧
      (s.axOn l → a.fb.winK ≠ some k →
        ∃ (t : State) (ws : Option Q), exec (.speedWindowEnd l now) s = .next t ∧
          t.ax[l].fb.winK = some k ∧ t.ax[l].fb.winMov = some mov ∧ t.ax[l].fb.winPos = some pos ∧ t.ax[l].fb.winEnd = some (te, ws) ∧
          (∀ m p, a.fb.winK = some (k - 1) → a.fb.winMov = some m → a.fb.winPos = some p →
            t.ax[l].fb.winv = true ∧ t.ax[l].fb.winSpeed = twoPi * (diff32 mov m : Q) / ((4 * s.pn P.fbLines l : Nat) * tw) ∧
            ws = some (((pos - p : Int) : Q) / s.perRad l / tw)) ∧
          ((a.fb.winK ≠ some (k - 1) ∨ (a.fb.winMov = none ∧ a.fb.winPos = none)) →
            t.ax[l].fb.winSpeed = a.fb.winSpeed ∧ t.ax[l].fb.winv = a.fb.winv ∧ ws = none) ∧
          (∀ (e : Ns) (w : Q), a.fb.winEnd = some (e, some w) → a.fb.winN ≠ 0 →
            ((s.pn P.fbSrc l = 1 ∧ s.pn P.fbSpd l = 1) ∨ s.pn P.fbSrc l = 2) → a.com.est = false →
            t.ax[l].cas.spdN =
              (if s.pq P.casPvtol l + twoPi / (s.cm l * tw) < |w - a.fb.winSum / a.fb.winN| then a.cas.spdN + 1 else 0)) ∧
          (a.fb.winEnd ≠ none → t.ax[l].fb.winSum = 0 ∧ t.ax[l].fb.winN = 0) ∧
          (a.fb.winEnd = none → t.ax[l].cas.spdN = a.cas.spdN ∧ t.ax[l].fb.winSum = a.fb.winSum ∧ t.ax[l].fb.winN = a.fb.winN) ∧
          (∀ m : AxisNo, m ≠ l → t.ax[m] = s.ax[m]) ∧ t.pair = s.pair ∧ t.life = s.life))

/-- R71, R73 to R81, R86 to R89, R95, R103: the encoder, index, reference-switch and resolver events of an axis. A legal transition moves both
counters by one in the direction of travel, but POSCNT not in the AXIS cycle of an index load; an illegal one moves none, makes the position
uncertain and raises its event once from each enable on; the eighth within 1 ms is a sensor loss. An index event latches with its time less the
filter lag, zeroes COMCNT, and loads POSCNT where its mode asks, unless the arming is of the same cycle. A resolver measurement takes the
filter outputs once for each excitation peak and judges its amplitude. -/
def Obligations.PositionSensorsCount : Prop :=
  ∀ (s u : State) (l : AxisNo) (now : Ns) (a : Axis), u = s.at now → a = s.ax[l] → s.axOn l →
    (∀ ba : BitVec 2, ba = a.fb.ba → exec (.encoderTransition l ba now) s = .next u) ∧
    (∀ ba : BitVec 2, ba ≠ a.fb.ba → ba ≠ ~~~a.fb.ba →
      ∃ (t : State) (x : Word), exec (.encoderTransition l ba now) s = .next t ∧
        x = (if (((a.fb.ba, ba) ∈ ([(0, 1), (1, 3), (3, 2), (2, 0)] : List (BitVec 2 × BitVec 2)) ↔ s.pn P.fbDir l ≠ 1)) then 1 else -1) ∧
        ((∀ y, a.fb.loadAt = some y → u.clk.lclk / 5 ≠ y / 5) → t.ax[l].fb.pos = a.fb.pos + x) ∧
        (∀ y, a.fb.loadAt = some y → u.clk.lclk / 5 = y / 5 → t.ax[l].fb.pos = a.fb.pos) ∧
        t.ax[l].fb.mov = a.fb.mov + x ∧ t.ax[l].fb.ba = ba ∧ t.ax[l].fb.fwd = decide (x = 1) ∧
        t.ax[l].fb.pos64 = a.fb.pos64 ∧ t.ax[l].en = a.en ∧
        ((a.fb.zref = none ∨ s.pn P.fbLcchk l ≠ 1 ∨ s.pn P.fbSrc l ≠ 1) → t.ax[l].com = a.com ∧ t.ax[l].fb.lost = a.fb.lost) ∧
        (∀ z, a.fb.zref = some z → s.pn P.fbLcchk l = 1 → s.pn P.fbSrc l = 1 → a.fb.loss = 0 →
          4 * s.pn P.fbLines l + s.pn P.fbLctol l < (diff32 (a.fb.mov + x) z).natAbs →
          t.ax[l].fb.loss = 3 ∧ t.ax[l].fb.lost = true ∧ t.ax[l].com.cval = false) ∧
        (∀ d : Fin 2, s.pn P.pdSrc 0 d.val = 8 + l.val → s.pn P.pdDen 0 d.val ≠ 0 →
          t.divs[d].acc = (s.divs[d].acc + s.pn P.pdNum 0 d.val) % s.pn P.pdDen 0 d.val) ∧
        (∀ d : Fin 2, s.pn P.pdSrc 0 d.val ≠ 8 + l.val → t.divs[d] = s.divs[d]) ∧ (∀ m : AxisNo, m ≠ l → t.ax[m] = s.ax[m])) ∧
    (∀ ba : BitVec 2, ba = ~~~a.fb.ba →
      ∃ t : State, exec (.encoderTransition l ba now) s = .next t ∧
        t.ax[l].fb.pos = a.fb.pos ∧ t.ax[l].fb.mov = a.fb.mov ∧ t.ax[l].fb.ba = ba ∧ t.ax[l].fb.punc = true ∧
        t.ax[l].fb.illegal = (u.clk.lclk :: a.fb.illegal).take 8 ∧ t.ax[l].fb.illRep = true ∧
        (t.ax[l].fb.illBurst = true ↔ (a.fb.illBurst = true ∨
          ∃ r, t.ax[l].fb.illegal[7]? = some r ∧ u.clk.lclk ≤ r + 1000000)) ∧
        t.divs = s.divs ∧ (∀ m : AxisNo, m ≠ l → t.ax[m] = s.ax[m]) ∧
        (a.fb.illRep = false → ∃ v : State, t = v.raise 0x5002 .amber (some l) []) ∧
        (a.fb.illRep = true → s.canonical → (s.counter (0x5000 + 256 * l.val)).toNat < 65534 →
          t.counter (0x5000 + 256 * l.val) = s.counter (0x5000 + 256 * l.val) + 1 ∧ t.mb = s.mb)) ∧
    (a.fb.illBurst = true → s.pn P.fbSrc l = 1 → a.fb.loss = 0 → a.fb.lost = false →
      ∃ t : State, exec (.encoderIllegalBurst l now) s = .next (t.raise 0x5004 .crimson (some l) [1]) ∧
        t.ax[l].fb.loss = 1 ∧ t.ax[l].fb.lost = true ∧ t.ax[l].com.cval = false ∧ t.ax[l].fb.illBurst = false ∧
        (∀ m : AxisNo, m ≠ l → t.ax[m] = s.ax[m])) ∧
    (a.fb.illBurst = true → s.pn P.fbSrc l = 2 →
      exec (.encoderIllegalBurst l now) s = .next { u with ax := vset s.ax l { a with fb := { a.fb with illBurst := false } } }) ∧
    (a.fb.illBurst = false → exec (.encoderIllegalBurst l now) s = .next u) ∧
    (∀ ris : Bool, (ris ≠ a.fb.fwd ∨ zQualified (s.pn P.fbZqual l) a.fb.ba = false) → exec (.indexEvent l ris now) s = .next u) ∧
    (∀ (ris : Bool) (tz : Int) (load : Prop), ris = a.fb.fwd → zQualified (s.pn P.fbZqual l) a.fb.ba = true → a.fb.zref = none →
      tz = u.gt - 5 * (s.pn P.fbFilt l : Int) →
      (load ↔ (s.pn P.fbZmode l = 1 ∨
        (s.pn P.fbZmode l = 2 ∧ a.fb.armed = true ∧ ∀ y, a.fb.armAt = some y → y / 5 ≠ u.clk.lclk / 5))) →
      ∃ t : State, exec (.indexEvent l ris now) s = .next t ∧
        t.ax[l].fb.zlatch = ⟨a.fb.pos, a.fb.mov, tz⟩ ∧ t.ax[l].fb.zseen = true ∧ t.ax[l].fb.zref = some a.fb.mov ∧
        (a.fb.lossAct = false → t.ax[l].com.count = 0 ∧ t.ax[l].com.ref = a.fb.mov ∧ t.ax[l].com.cval = true) ∧
        (load → t.ax[l].fb.pos = s.pw P.fbZval l ∧ t.ax[l].fb.punc = false ∧ t.ax[l].fb.armed = false ∧
          t.ax[l].fb.lastLoad = some tz) ∧
        (¬load → t.ax[l].fb.pos = a.fb.pos ∧ t.ax[l].fb.punc = a.fb.punc ∧ t.ax[l].fb.armed = a.fb.armed) ∧
        t.ax[l].fb.mov = a.fb.mov ∧ t.ax[l].fb.pos64 = a.fb.pos64 ∧ (∀ m : AxisNo, m ≠ l → t.ax[m] = s.ax[m]) ∧ t.pair = s.pair) ∧
    (∀ (z : Word) (d c : Int), zQualified (s.pn P.fbZqual l) a.fb.ba = true → a.fb.zref = some z → s.pn P.fbLcchk l = 1 →
      d = diff32 a.fb.mov z → c = 4 * (s.pn P.fbLines l : Int) →
      (∀ x ∈ [0, c, -c], (s.pn P.fbLctol l : Int) < |d - x|) → a.fb.loss = 0 → a.fb.lost = false → s.pn P.fbSrc l = 1 →
      ∃ t : State, exec (.indexEvent l a.fb.fwd now) s = .next t ∧
        t.ax[l].fb.loss = 2 ∧ t.ax[l].fb.lost = true ∧ t.ax[l].fb.lcpass = false ∧ t.ax[l].com.cval = false ∧
        (a.fb.idxSave = none → t.ax[l].com.count = a.com.count) ∧ t.ax[l].fb.zref = some a.fb.mov) ∧
    (∀ ris : Bool, s.pn P.refMode l = 1 → s.pn P.refEdge l = 2 → s.axle l = none →
      exec (.referenceSwitchEdge l ris now) s = .next { u with ax := vset s.ax l { a with
        fb := { a.fb with ref := ⟨a.fb.pos, a.fb.mov, u.gt - 5 * (s.pn P.refFilt l : Int)⟩, rlatch := true,
                          rovr := a.fb.rovr || a.fb.rlatch, refArmed := false } } }) ∧
    (∀ ris : Bool, (s.pn P.refMode l ≠ 1 ∧ s.pn P.refMode l ≠ 2) → exec (.referenceSwitchEdge l ris now) s = .next u) ∧
    (∀ (bits : List DsBits) (v : State) (k : Int) (si co : W24) (m : Q), v = u.feed l bits u.clk.lclk → k = v.excPeak l v.gt →
      si = v.ax[l].dsm.ch[(3 : Fin 6)].out (v.decOf l 3) → co = v.ax[l].dsm.ch[(4 : Fin 6)].out (v.decOf l 4) →
      m = ofQ23 si * ofQ23 si + ofQ23 co * ofQ23 co →
      (v.ax[l].fb.resK = some k → exec (.resolverMeasurement l bits now) s = .next v) ∧
      (v.ax[l].fb.resK ≠ some k → s.pn P.fbSrc l ≠ 2 →
        exec (.resolverMeasurement l bits now) s = .next { v with ax := vset v.ax l { v.ax[l] with
          fb := { v.ax[l].fb with resK := some k, resS := si, resC := co, resNew := true } } }) ∧
      (v.ax[l].fb.resK ≠ some k → s.pn P.fbSrc l = 2 → v.ax[l].del.valid = false →
        s.pq P.resAmin l * s.pq P.resAmin l ≤ m → m ≤ s.pq P.resAmax l * s.pq P.resAmax l →
        exec (.resolverMeasurement l bits now) s = .next { v with ax := vset v.ax l { v.ax[l] with
          fb := { v.ax[l].fb with resK := some k, resS := si, resC := co, resNew := true, rampl := false, ampBad := 0, trkBad := 0 } } }) ∧
      (v.ax[l].fb.resK ≠ some k → s.pn P.fbSrc l = 2 → v.ax[l].del.valid = false →
        (m < s.pq P.resAmin l * s.pq P.resAmin l ∨ s.pq P.resAmax l * s.pq P.resAmax l < m) → v.ax[l].fb.ampBad = 3 →
        v.ax[l].fb.loss = 0 → v.ax[l].fb.lost = false →
        ∃ w : State, exec (.resolverMeasurement l bits now) s = .next (w.raise 0x5004 .crimson (some l) [4]) ∧
          w.ax[l].fb.loss = 4 ∧ w.ax[l].fb.rampl = true ∧ w.ax[l].fb.lost = true ∧ w.ax[l].en = v.ax[l].en ∧
          (∀ m : AxisNo, m ≠ l → w.ax[m] = v.ax[m]) ∧ { w with ax := v.ax } = v))

/-- R71, R90 to R96: the serial ports, the wheel-speed inputs and the pulse dividers. A SENT frame is delivered, with the time at the end of its
sync pulse, when the sync pulse, the number of nibbles, their lengths and the CRC are right, and is otherwise counted. The trigger that has come
starts an SSI frame in the lane with authority; during a frame or its monoflop wait it is skipped and counted. An SSI frame that is whole is
delivered with the time of its first clock edge. A port without a valid frame for its time-out goes invalid; an edge counts at its input, with its
time less the filter lag, and at its dividers; an input without edges reads zero; a divider gives one pulse for each pending count. -/
def Obligations.SensorInputsDeliver : Prop :=
  ∀ (s u : State) (p : Fin 3) (now : Ns), u = s.at now →
    (∀ f : SentIn, (s.linkOn = false ∨ s.pn P.spMode 0 p.val ≠ 1) → exec (.sentFrame p f now) s = .next u) ∧
    (∀ f : SentIn, s.linkOn → s.pn P.spMode 0 p.val = 1 → f.pulses = [] → exec (.sentFrame p f now) s = .next (u.bump (0x5F00 + p.val))) ∧
    (∀ (f : SentIn) (sync : Ns) (r : List Ns) (st : BitVec 4) (ds : List (BitVec 4)) (n : Nat) (good : Prop),
      s.linkOn → s.pn P.spMode 0 p.val = 1 → f.pulses = sync :: r → n = s.pn P.spNib 0 p.val →
      (good ↔ (0 < sync ∧ s.pq P.spTick 0 p.val * 56000 * 3 / 4 ≤ sync ∧ (sync : Q) ≤ s.pq P.spTick 0 p.val * 56000 * 5 / 4 ∧
        (∀ q, s.ports[p].sync = some q → 64 * ((sync : Int) - q).natAbs ≤ q) ∧ r.length = n + 2 + s.pn P.spPause 0 p.val ∧
        ds.length = n ∧
        sentNibbles sync (r.take (n + 2)) = some (st :: ds ++ [crc4 (s.pn P.spCrc 0 p.val = 1) ds]))) →
      (good → ∃ x : Port, exec (.sentFrame p f now) s = .next { u with ports := vset s.ports p x } ∧
        x.data = nibbles ds ∧ x.valid = true ∧ x.time = u.gtAt (u.clk.lclk - r.sum) ∧ x.lastAt = u.clk.lclk ∧ x.timedOut = false ∧
        x.sync = some sync ∧ x.status = st ∧ x.busy = s.ports[p].busy ∧ x.trigDue = s.ports[p].trigDue ∧
        (s.pn P.spSer 0 p.val = 0 → x.slow = s.ports[p].slow ∧ x.slowId = s.ports[p].slowId ∧ x.slowData = s.ports[p].slowData) ∧
        (∀ m, s.pn P.spSer 0 p.val = 1 → m = s.ports[p].slow ++ [st] → m.length = 16 → (m.headD 0).getLsbD 3 = true →
          st.getLsbD 3 = false → x.slowId = BitVec.ofNat 8 (nibbleBits 2 (m.take 4)) ∧
            x.slowData = BitVec.ofNat 16 (nibbleBits 2 ((m.drop 4).take 8)))) ∧
      ((∀ st ds, ¬(0 < sync ∧ s.pq P.spTick 0 p.val * 56000 * 3 / 4 ≤ sync ∧ (sync : Q) ≤ s.pq P.spTick 0 p.val * 56000 * 5 / 4 ∧
        (∀ q, s.ports[p].sync = some q → 64 * ((sync : Int) - q).natAbs ≤ q) ∧ r.length = n + 2 + s.pn P.spPause 0 p.val ∧
        sentNibbles sync (r.take (n + 2)) = some (st :: ds ++ [crc4 (s.pn P.spCrc 0 p.val = 1) ds]))) →
        exec (.sentFrame p f now) s =
          .next (({ u with ports := vset s.ports p { s.ports[p] with sync := some sync } }).bump (0x5F00 + p.val)))) ∧
    (s.ports[p].trigDue = none → exec (.ssiTrigger p now) s = .next u) ∧
    (∀ y, s.ports[p].trigDue = some y → (s.linkOn = false ∨ s.auth = false) →
      exec (.ssiTrigger p now) s = .next { u with ports := vset s.ports p { s.ports[p] with trigDue := none } }) ∧
    (∀ y, s.ports[p].trigDue = some y → s.linkOn → s.auth →
      (y < s.ports[p].busyUntil → exec (.ssiTrigger p now) s =
        .next (({ u with ports := vset s.ports p { s.ports[p] with trigDue := none } }).bump (0x5F00 + p.val))) ∧
      (s.ports[p].busyUntil ≤ y → exec (.ssiTrigger p now) s = .next { u with ports := vset s.ports p { s.ports[p] with
        trigDue := none, busy := true, driven := true, trigAt := u.gtAt y
        busyUntil := y + ((s.pn P.spBits 0 p.val + if s.pn P.spEbit 0 p.val = 0 then 0 else 1) * 1000000 / s.pn P.spClk 0 p.val +
          5 * s.pn P.spSdel 0 p.val + 1000 * s.pn P.spMono 0 p.val) } })) ∧
    (∀ f : SsiIn, (s.linkOn = false ∨ s.pn P.spMode 0 p.val ≠ 2) → exec (.ssiFrame p f now) s = .next u) ∧
    (∀ (f : SsiIn) (e : Nat) (bad : Bool) (b : List Bool), s.linkOn → s.pn P.spMode 0 p.val = 2 → e = s.pn P.spEbit 0 p.val →
      b = (if e = 0 then f.bits else f.bits.eraseIdx (e - 1)) →
      bad = decide (f.lineBefore = false ∨ (e ≠ 0 ∧ f.bits.getD (e - 1) false = true) ∨
        f.bits.length ≠ s.pn P.spBits 0 p.val + (if e = 0 then 0 else 1) ∨ (s.auth = true ∧ s.ports[p].busy = false)) →
      (bad = true → exec (.ssiFrame p f now) s =
        .next { u with ports := vset s.ports p { s.ports[p] with busy := false, driven := false } }) ∧
      (bad = false → exec (.ssiFrame p f now) s = .next { u with ports := vset s.ports p { s.ports[p] with
        busy := false, driven := false, valid := true, lastAt := u.clk.lclk, timedOut := false
        data := bitsVal (if s.pn P.spGray 0 p.val = 1 then grayDecode false b else b)
        time := (if s.ports[p].busy then s.ports[p].trigAt else u.gtAt f.first) } })) ∧
    (s.linkOn → s.pn P.spMode 0 p.val ≠ 0 → s.ports[p].timedOut = false → s.ports[p].lastAt + 1000 * s.pn P.spTmo 0 p.val ≤ u.clk.lclk →
      exec (.serialTimeout p now) s =
        .next (({ u with ports := vset s.ports p { s.ports[p] with valid := false, timedOut := true } }).raise 0x5005 .amber none
          [BitVec.ofNat 32 p.val])) ∧
    ((s.linkOn = false ∨ s.pn P.spMode 0 p.val = 0 ∨ s.ports[p].timedOut = true ∨
        u.clk.lclk < s.ports[p].lastAt + 1000 * s.pn P.spTmo 0 p.val) → exec (.serialTimeout p now) s = .next u) ∧
    (∀ (w : Fin 8) (ris : Bool), s.linkOn → (ris = true ∨ s.pn P.wsEdge ≠ 0) →
      ∃ t : State, exec (.wheelSpeedEdge w ris now) s = .next t ∧
        t.wheels = vset s.wheels w { s.wheels[w] with n := s.wheels[w].n + 1, tLast := some (u.gt - 5 * s.pn P.wsFilt), still := false } ∧
        (∀ d : Fin 2, s.pn P.pdSrc 0 d.val ≠ w.val → t.divs[d] = s.divs[d]) ∧
        (∀ d : Fin 2, s.pn P.pdSrc 0 d.val = w.val →
          t.divs[d].acc = (s.divs[d].acc + s.pn P.pdNum 0 d.val) % s.pn P.pdDen 0 d.val ∧
          (s.canonical → s.pn P.pdDen 0 d.val ≤ s.divs[d].acc + s.pn P.pdNum 0 d.val →
            s.divs[d].acc + s.pn P.pdNum 0 d.val < 2 * s.pn P.pdDen 0 d.val → (s.counter (0x5F20 + d.val)).toNat < 65534 →
            t.counter (0x5F20 + d.val) = s.counter (0x5F20 + d.val) + 1)) ∧
        t.ax = s.ax ∧ t.life = s.life) ∧
    (∀ w : Fin 8, s.pn P.wsEdge = 0 → exec (.wheelSpeedEdge w false now) s = .next u) ∧
    (∀ (w : Fin 8) (ris : Bool), s.linkOn = false → exec (.wheelSpeedEdge w ris now) s = .next u) ∧
    (∀ w : Fin 8, (∀ x, s.wheels[w].tLast = some x → x + 1000000 * s.pn P.wsTmo ≤ u.gt) →
      exec (.wheelSpeedStill w now) s = .next { u with wheels := vset s.wheels w { s.wheels[w] with freq := 0, still := true } }) ∧
    (∀ (w : Fin 8) (x : Int), s.wheels[w].tLast = some x → u.gt < x + 1000000 * s.pn P.wsTmo →
      exec (.wheelSpeedStill w now) s = .next u) ∧
    (∀ (d : Fin 2), s.canonical → (s.counter (0x5F20 + d.val)).toNat % 65536 ≠ 0 → s.divs[d].nextAt ≤ u.clk.lclk →
      ∃ t : State, exec (.pulseDividerPulse d now) s = .next t ∧
        t.counter (0x5F20 + d.val) = s.counter (0x5F20 + d.val) - 1 ∧ (∀ j, j ≠ 0x5F20 + d.val → t.counter j = s.counter j) ∧
        t.divs = vset s.divs d { s.divs[d] with pulses := s.divs[d].pulses + 1, nextAt := u.clk.lclk + 500 } ∧
        { t with cnt := s.cnt, divs := s.divs } = u) ∧
    (∀ d : Fin 2, ((s.counter (0x5F20 + d.val)).toNat % 65536 = 0 ∨ u.clk.lclk < s.divs[d].nextAt) →
      exec (.pulseDividerPulse d now) s = .next u)

/-- R101, R104, R106, R114 to R120: the starts, the probe, d-axis braking and the alignment run. Each event moves an axis that stands in its
mode and phase to the next, when its time has passed, and leaves any other axis as it was. The twelve pulses and the two zero-vector pulses are
judged by the end currents taken; a change of mode that they ask for is made at the start of the next sample. -/
def Obligations.StartsAdvance : Prop :=
  ∀ (s u : State) (l : AxisNo) (now : Ns) (a : Axis) (el : Nat → Prop), u = s.at now → a = s.ax[l] →
    (∀ d, el d ↔ a.com.since + 1000000 * d ≤ u.clk.lclk) →
    ((a.com.mode ≠ .satStart ∨ a.com.ends.length < 12 ∨ a.com.want ≠ none) → exec (.saturationPulseDone l now) s = .next u) ∧
    (∀ (e : Vector Q 12) (hi lo : Q), a.com.mode = .satStart → 12 ≤ a.com.ends.length → a.com.want = none → e = a.com.endsOf →
      hi ∈ e.toList → (∀ x ∈ e.toList, x ≤ hi) → lo ∈ e.toList → (∀ x ∈ e.toList, lo ≤ x) →
      (hi - lo < s.pq P.comScont l * hi → a.com.satRuns = 0 →
        exec (.saturationPulseDone l now) s =
          .next { u with ax := vset s.ax l { a with com := { a.com with satRuns := 1, since := u.clk.lclk, ends := [], pulse0 := none } } }) ∧
      (hi - lo < s.pq P.comScont l * hi → a.com.satRuns ≠ 0 → a.fault = 0 →
        ∃ v : State, exec (.saturationPulseDone l now) s = .next (v.raise 0x6004 .crimson (some l) [4]) ∧
          v.ax[l].fault = 0xA ∧ v.ax[l].en = false ∧ (∀ m : AxisNo, m ≠ l → v.ax[m] = s.ax[m])) ∧
      (s.pq P.comScont l * hi ≤ hi - lo →
        exec (.saturationPulseDone l now) s = .next { u with ax := vset s.ax l { a with
          com := { a.com with want := some (.found (foundAngle e) 0 (sgn a.com.dir / 4) u.clk.lclk) } } })) ∧
    ((a.com.mode ≠ .catching ∨ a.com.want ≠ none ∨ a.com.ends.length ≠ 2) → exec (.probeDone l now) s = .next u) ∧
    (∀ (t1 t2 : Ns) (i1 i2 : Vec2) (g e w th : Q), a.com.mode = .catching → a.com.want = none → a.com.ends = [(t2, i2), (t1, i1)] →
      g = -(s.pq P.elecL l / 1000000) / (s.pq P.comTzv l / 1000000) →
      e = (sqrtQ ((g * i1.x) * (g * i1.x) + (g * i1.y) * (g * i1.y)) +
        sqrtQ ((g * i2.x) * (g * i2.x) + (g * i2.y) * (g * i2.y))) / 2 →
      w = divF (wrapRev (atan2Rev (g * i2.y) (g * i2.x) - atan2Rev (g * i1.y) (g * i1.x)) * twoPi)
        ((((t2 : Int) - t1 : Int) : Q) / 1000000000) →
      th = atan2Rev (g * i2.y) (g * i2.x) - sgn w / 4 →
      exec (.probeDone l now) s = .next { u with ax := vset s.ax l { a with com := { a.com with
        want := some (if e ≤ s.pq P.comEcatch l then .rest else if a.com.dir = 0 ∨ a.com.dir = sgnI w then .found th w 0 t2
          else .braking th w t2) } } }) ∧
    (∀ (v : State) (inst : Ns) (dt : Q), v = s.applyMode l inst dt →
      v.ax[l].com.want = none ∧ v.ax[l].en = a.en ∧ v.ax[l].fault = a.fault ∧ (∀ m : AxisNo, m ≠ l → v.ax[m] = s.ax[m]) ∧
      { v with ax := s.ax } = s ∧ (a.com.want = none → v = s) ∧
      (a.com.want = some .start → v.ax[l].com.mode = if s.angleValid l then CMode.sensored else CMode.catching) ∧
      (a.com.want = some .rest → v.ax[l].com.attempt = 0 ∧ v.ax[l].com.satRuns = 0 ∧ v.ax[l].com.since = s.clk.lclk ∧
        v.ax[l].com.mode = (if s.pn P.fbSrc l = 1 ∨ s.pn P.comStart l = 1 then CMode.satStart else CMode.ifStart)) ∧
      (∀ th w off x, (a.com.want = some (.found th w off x) ∨ (a.com.want = some .stepped ∧ w = a.com.olSpeed)) →
        (s.pn P.fbSrc l = 1 → a.fb.lost = false → v.ax[l].com.mode = .sensored ∧ v.ax[l].com.provOk = true) ∧
        ((s.pn P.fbSrc l ≠ 1 ∨ a.fb.lost = true) → v.ax[l].com.mode = .stepped ∧ v.ax[l].com.est = true ∧
          v.ax[l].com.olSpeed = w ∧ v.ax[l].com.olI = s.pq P.comIol l)) ∧
      (∀ th w x, a.com.want = some (.braking th w x) → v.ax[l].com.mode = .braking ∧ v.ax[l].com.bemfSpeed = w ∧
        v.ax[l].com.brkWait = false ∧ v.ax[l].com.brkAt = s.clk.lclk ∧
        v.ax[l].com.bemfTheta = fracQ (th + w * ((((inst : Int) - x : Int) : Q) / 1000000000) / twoPi))) ∧
    (a.com.mode = .ifStart → a.com.phase = .align → el (s.pn P.comTifa l) →
      exec (.ifStartPhaseEnd l now) s = .next { u with ax := vset s.ax l { a with
        com := { a.com with phase := .ramp, since := u.clk.lclk, emfSum := 0, emfN := 0 } } }) ∧
    (a.com.mode = .ifStart → a.com.phase = .ramp → s.pq P.comWif l * twoPi ≤ |a.com.olSpeed| →
      exec (.ifStartPhaseEnd l now) s = .next { u with ax := vset s.ax l { a with
        com := { a.com with phase := .check, since := u.clk.lclk, emfSum := 0, emfN := 0 } } }) ∧
    (∀ want : Q, a.com.mode = .ifStart → a.com.phase = .check → el (s.pn P.comTifc l) → a.com.emfN ≠ 0 →
      want = |a.com.olSpeed| * (s.pq P.elecPsi l / 1000) →
      (|a.com.emfSum / a.com.emfN - want| ≤ s.pq P.comEtol l * want →
        exec (.ifStartPhaseEnd l now) s = .next { u with ax := vset s.ax l { a with com := { a.com with want := some .stepped } } }) ∧
      (s.pq P.comEtol l * want < |a.com.emfSum / a.com.emfN - want| → a.com.attempt + 1 < s.pn P.comIfn l →
        exec (.ifStartPhaseEnd l now) s = .next (({ u with ax := vset s.ax l { a with
          com := { a.com with phase := .wait, since := u.clk.lclk, attempt := a.com.attempt + 1 } } }).raise 0x6003 .grey (some l)
            [BitVec.ofNat 32 a.com.attempt])) ∧
      (s.pq P.comEtol l * want < |a.com.emfSum / a.com.emfN - want| → s.pn P.comIfn l ≤ a.com.attempt + 1 → a.fault = 0 →
        ∃ v : State, exec (.ifStartPhaseEnd l now) s = .next (v.raise 0x6004 .crimson (some l) [3]) ∧
          v.ax[l].fault = 0xA ∧ v.ax[l].en = false ∧ (∀ m : AxisNo, m ≠ l → v.ax[m] = s.ax[m]))) ∧
    ((a.com.mode ≠ .ifStart ∨ a.com.phase = .wait) → exec (.ifStartPhaseEnd l now) s = .next u) ∧
    (a.com.mode = .ifStart → a.com.phase = .wait → el 11 →
      exec (.ifRetryWaitEnd l now) s = .next { u with ax := vset s.ax l { a with
        com := { a.com with phase := .align, since := u.clk.lclk, olSpeed := 0
                            olTheta := fracQ (s.pq P.comIfang l / 360 + (a.com.attempt : Q) / 3) } } }) ∧
    ((a.com.mode ≠ .ifStart ∨ a.com.phase ≠ .wait ∨ ¬el 11) → exec (.ifRetryWaitEnd l now) s = .next u) ∧
    (a.com.mode = .braking → a.com.brkAt + 1000000 * s.pn P.comTbrk l ≤ u.clk.lclk → a.fault = 0 →
      ∃ v : State, exec (.dAxisBrakingTimeout l now) s = .next (v.raise 0x6004 .crimson (some l) [6]) ∧
        v.ax[l].fault = 0xA ∧ v.ax[l].en = false ∧ (∀ m : AxisNo, m ≠ l → v.ax[m] = s.ax[m])) ∧
    ((a.com.mode ≠ .braking ∨ u.clk.lclk < a.com.brkAt + 1000000 * s.pn P.comTbrk l) → exec (.dAxisBrakingTimeout l now) s = .next u) ∧
    (a.com.mode = .braking → a.com.brkWait = true → el 11 →
      exec (.dAxisBrakingWaitEnd l now) s = .next { u with ax := vset s.ax l { a with com := { a.com with want := some .rest } } }) ∧
    ((a.com.mode ≠ .braking ∨ a.com.brkWait = false ∨ ¬el 11) → exec (.dAxisBrakingWaitEnd l now) s = .next u) ∧
    (∀ (o : AccOp) (off : Word), a.com.align = some .hold → a.com.alignOp = some o → el (s.pn P.comTalign l) → s.canonical →
      off = toFix 32 (fracQ (-(s.pn P.elecPp l * (s.comAt l a.fb.mov : Q) / (4 * s.pn P.fbLines l : Nat)))) →
      ∃ v : State, exec (.alignHoldEnd l now) s = .next ((v.raise 0x6002 .grey (some l) [off]).complete o 0 [0]) ∧
        v.stored (P.comOff.pid l.val 0) = off ∧ v.mb.logNext = min 0xFFFFFFFF (s.mb.logNext + 1) ∧ v.ax[l].com.align = none ∧
        v.ax[l].com.alignOp = none ∧ (∀ m : AxisNo, m ≠ l → v.ax[m] = s.ax[m])) ∧
    ((a.com.align ≠ some .hold ∨ a.com.alignOp = none ∨ ¬el (s.pn P.comTalign l)) → exec (.alignHoldEnd l now) s = .next u)

/-! ## Safety and the vehicle cycle -/

/-- R255 to R259, R262, R263, R269, R491: the safety inputs. A pair permits only with both channels active and no fault latched. Its change to
DEMAND takes torque off the masked pairs at once, or is kept for the supervisor. The count of discrepant ticks latches the fault. A tick
samples every pair; a count that reaches its limit acts once. A standstill long enough turns DECEL into HOLD. -/
def Obligations.SafetyInputsJudge : Prop :=
  ∀ (s u : State) (n : Fin 6) (now : Ns) (m : Nat) (x : SiPair), u = s.at now → m = s.pn P.siMode 0 n.val → x = s.aon.si[n] →
    (∀ d : Bool, d = !(siActive m x.ch1 x.ch2 && !x.flt) → (d = false ∨ x.dem = true ∨ m = 0) →
      exec (.safetyInputChange n now) s = .next { u with aon := { s.aon with si := vset s.aon.si n { x with dem := d } } }) ∧
    ((siActive m x.ch1 x.ch2 = false ∨ x.flt = true) → x.dem = false → m ≠ 0 → s.pn P.siFunc 0 n.val = 1 →
      ∃ t : State, exec (.safetyInputChange n now) s = .next t ∧ t.aon.si[n].dem = true ∧
        (∀ l : AxisNo, (s.pw P.siMask 0 n.val).getLsbD (pairOf l).val = true →
          t.ax[l].en = false ∧ t.ax[l].pwm.gates = false ∧ t.ax[l].fault = s.ax[l].fault) ∧
        (∀ l : AxisNo, (s.pw P.siMask 0 n.val).getLsbD (pairOf l).val = false → t.ax[l] = s.ax[l]) ∧
        (∀ k : Fin 6, k ≠ n → t.aon.si[k] = s.aon.si[k]) ∧ t.pair = s.pair ∧ t.mb = s.mb) ∧
    ((siActive m x.ch1 x.ch2 = false ∨ x.flt = true) → x.dem = false → m ≠ 0 →
      (s.pn P.siFunc 0 n.val = 2 ∨ s.pn P.siFunc 0 n.val = 3) →
      ∃ t : State, exec (.safetyInputChange n now) s = .next t ∧ t.aon.si[n] = { x with dem := true, taken := false } ∧
        (∀ k : Fin 6, k ≠ n → t.aon.si[k] = s.aon.si[k]) ∧ t.ax = s.ax ∧ t.life = s.life ∧
        (s.underTest = 0 → t.st = s.st)) ∧
    (m ≠ 0 → x.rep = false → 32768 * s.pn P.siDt 0 n.val ≤ 1000 * x.count →
      ∃ t : State, exec (.siDiscrepancy n now) s = .next t ∧ t.aon.si[n].flt = true ∧ t.aon.si[n].rep = true ∧ t.aon.si[n].dem = true ∧
        (∀ k : Fin 6, k ≠ n → t.aon.si[k] = s.aon.si[k]) ∧
        (s.pn P.siFunc 0 n.val = 1 → ∀ l : AxisNo, x.dem = false → (s.pw P.siMask 0 n.val).getLsbD (pairOf l).val = true →
          t.ax[l].en = false ∧ t.ax[l].pwm.gates = false)) ∧
    ((m = 0 ∨ x.rep = true ∨ 1000 * x.count < 32768 * s.pn P.siDt 0 n.val) → exec (.siDiscrepancy n now) s = .next u) ∧
    (∀ y : AonIn, s.aon.powered = false → exec (.aonTick y now) s = .next u) ∧
    (∀ y : AonIn, s.aon.powered = true → s.aon.armed = false → s.life.entry = none → s.life.shutdown = none → s.aon.postWake = none →
      s.aon.postTimer = none → x.clear = [] →
      ∃ t : State, exec (.aonTick y now) s = .next t ∧
        t.aon.ticks = s.aon.ticks + 1 ∧ t.aon.testage = s.aon.testage + 1 ∧ t.aon.timer = s.aon.timer.map (· + 1) ∧
        t.aon.si[n].ch1 = y.ch1.getLsbD n.val ∧ t.aon.si[n].ch2 = y.ch2.getLsbD n.val ∧
        t.aon.si[n].count = (if siDiscrepant m (y.ch1.getLsbD n.val) (y.ch2.getLsbD n.val) then
          min (x.count + 1) (siLimit (s.pn P.siDt 0 n.val)) else 0) ∧
        t.aon.si[n].flt = (x.flt || (decide (m ≠ 0) &&
          !(x.rep && siDiscrepant m (y.ch1.getLsbD n.val) (y.ch2.getLsbD n.val)) &&
          decide (32768 * s.pn P.siDt 0 n.val ≤ 1000 * t.aon.si[n].count))) ∧
        t.aon.si[n].dem = !(siActive m (y.ch1.getLsbD n.val) (y.ch2.getLsbD n.val) && !t.aon.si[n].flt) ∧
        t.par = s.par ∧ t.twin = s.twin ∧ t.pair = s.pair) ∧
    (∀ x, s.safe.phase = .decel → s.safe.stillSince = some x → x + 1000000 * s.pn P.ssTstill ≤ u.clk.lclk →
      exec (.safestopStill now) s = .next { u with safe := { s.safe with phase := .hold } }) ∧
    ((s.safe.phase ≠ .decel ∨ ∀ x, s.safe.stillSince = some x → u.clk.lclk < x + 1000000 * s.pn P.ssTstill) →
      exec (.safestopStill now) s = .next u)

/-- R30 to R34, R65, R276, R277, R423: the vehicle cycle and the vote. A cycle starts at its boundary, or once the cycle before and a level change
have ended and 750 µs have passed since the last start; while a level change runs it waits. A lag above 4 ms fails the lane. The vote takes the
middle of three valid publications, the mean of two within the tolerance and else the value before, the one, or without any the lane's own for three
cycles. Its limits, its outliers and the deadline of a connection act as their rules say; each limit asks for its stop once (log entry 47). -/
def Obligations.VehicleCycleAndVote : Prop :=
  ∀ (s u : State) (now work : Ns), u = s.at now →
    (s.cyclesRun = false → exec (.vehicleCycleStart work now) s = .next s) ∧
    (∀ c : PlChange, s.cyclesRun → s.life.plc = some c → c.started = true → (c.ack = none ∨ s.pn P.pmbConf ≠ 1 ∨ s.life.pgood = false) →
      exec (.vehicleCycleStart work now) s =
        .next { u with life := { s.life with cycWait := s.life.cycWait ++ [(work, now)] } }) ∧
    (∀ a : Ns, s.cyclesRun → s.changing = false → s.life.cycWait = [] →
      a = (if s.life.cycles = 0 then now else max (max now s.life.plEnd) (max s.life.cycEnd (s.life.cycStart + 750000))) →
      (a ≤ now + 4000000 →
        ∃ q : State, exec (.vehicleCycleStart work now) s = .next (q.vehicleCycle ((s.gtAt now + 500000) / 1000000)) ∧
          q.life.cycStart = a ∧ q.life.cycEnd = a + work ∧ q.life.cycles = s.life.cycles + 1 ∧ q.life.cycLag = a - now ∧
          (s.life.cycles ≠ 0 → s.life.cycStart < a → q.life.cycDt = secs a s.life.cycStart) ∧ q.life.st = s.life.st ∧
          q.ax = s.ax ∧ q.par = s.par ∧ q.twin = s.twin ∧ q.vote = s.vote) ∧
      (now + 4000000 < a →
        ∃ t : State, exec (.vehicleCycleStart work now) s = .next t ∧ t.life.st = .failSilent ∧ t.twin.claim = false ∧
          (∀ l : AxisNo, t.ax[l].en = false ∧ t.ax[l].pwm.gates = false ∧ t.ax[l].fault = s.ax[l].fault) ∧
          t.aon.failrec = 0x88010000)) ∧
    (∀ i < 16, s.spOn i →
      (∀ p q r, s.validPubs = [p, q, r] →
        ∃ v, s.castVote.vote.voted.getD i 0 = v ∧ s.castVote.vote.applied.getD i 0 = v ∧
          v ∈ [p.2.getD i 0, q.2.getD i 0, r.2.getD i 0] ∧
          2 ≤ ([p.2.getD i 0, q.2.getD i 0, r.2.getD i 0].filter fun y => decide (y ≤ v)).length ∧
          2 ≤ ([p.2.getD i 0, q.2.getD i 0, r.2.getD i 0].filter fun y => decide (v ≤ y)).length) ∧
      (∀ p q, s.validPubs = [p, q] →
        s.castVote.vote.voted.getD i 0 = (if |p.2.getD i 0 - q.2.getD i 0| ≤ s.voteTol i then (p.2.getD i 0 + q.2.getD i 0) / 2
          else s.vote.voted.getD i 0)) ∧
      (∀ p, s.validPubs = [p] → s.castVote.vote.voted.getD i 0 = p.2.getD i 0 ∧ s.castVote.vote.single = some p.1) ∧
      (s.validPubs = [] → s.vote.none_ < 3 → s.castVote.vote.voted = s.vote.voted ∧
        s.castVote.vote.applied.getD i 0 = s.vote.own.getD i 0 ∧ s.castVote.vote.none_ = s.vote.none_ + 1) ∧
      (s.validPubs = [] → 3 ≤ s.vote.none_ → s.castVote.vote.safe = true ∧ s.castVote.vote.applied.getD i 0 =
        (if i < 3 then s.vote.voted.getD i 0 else if i < 8 then 0 else s.vote.own.getD i 0)) ∧
      s.castVote.ax = s.ax ∧ s.castVote.life = s.life) ∧
    (10 ≤ s.vote.held → s.safe.askHeld = false →
      exec (.voteHeldLimit now) s = .next { u with safe := { s.safe with askHeld := true, causes := s.safe.causes ++ [2] } }) ∧
    (10 ≤ s.vote.held → s.safe.askHeld = true → exec (.voteHeldLimit now) s = .next u) ∧
    (s.vote.held < 10 → exec (.voteHeldLimit now) s = .next { u with safe := { s.safe with askHeld := false } }) ∧
    (s.vote.count = 0 → 3 ≤ s.vote.none_ → s.vote.safe = false → s.life.cycStart + 1000000 ≤ u.clk.lclk →
      ∃ t : State, exec (.voteNoneLimit now) s = .next t ∧ t.vote.safe = true ∧ t.safe.causes = s.safe.causes ++ [2] ∧
        (∀ i < 16, t.vote.applied.getD i 0 =
          (if i < 3 then s.vote.voted.getD i 0 else if i < 8 then 0 else s.vote.own.getD i 0)) ∧
        t.vote.voted = s.vote.voted ∧ { t with vote := s.vote, safe := s.safe } = u) ∧
    ((s.vote.count ≠ 0 ∨ s.vote.none_ < 3 ∨ s.vote.safe = true ∨ u.clk.lclk < s.life.cycStart + 1000000) →
      exec (.voteNoneLimit now) s = .next u) ∧
    (∀ i : LaneNo, s.vote.out[i] = 5 →
      exec (.voteOutlier i now) s = .next (({ u with vote := { s.vote with out := vset s.vote.out i 6 } }).raise 0x0008 .amber none
        [BitVec.ofNat 32 i.val, BitVec.ofNat 32 s.vote.outSp[i]])) ∧
    (∀ i : LaneNo, s.vote.out[i] ≠ 5 → exec (.voteOutlier i now) s = .next u) ∧
    (∀ (c : Fin 16) (x : Conn) (g : Conn → State), x = s.nov.rx[c] →
      g = (fun y => { u with nov := { s.nov with rx := vset s.nov.rx c y } }) →
      (x.st = .valid → x.at_ + 1000 * s.pn P.nvDl 0 c.val ≤ u.clk.lclk → s.nvNsub c ≠ 0 →
        exec (.novmiDeadline c now) s = .next ((g { x with st := .subst, subN := 0, run := 0 }).raise 0xA010 .amber none [BitVec.ofNat 32 c.val])) ∧
      (((x.st = .valid ∧ x.at_ + 1000 * s.pn P.nvDl 0 c.val ≤ u.clk.lclk ∧ s.nvNsub c = 0) ∨ (x.st = .subst ∧ s.nvNsub c ≤ x.subN)) →
        exec (.novmiDeadline c now) s = .next ((g { x with st := .default, run := 0 }).raise 0xA011 .crimson none [BitVec.ofNat 32 c.val])) ∧
      ((x.st = .init ∨ x.st = .default ∨ (x.st = .valid ∧ u.clk.lclk < x.at_ + 1000 * s.pn P.nvDl 0 c.val) ∨
          (x.st = .subst ∧ x.subN < s.nvNsub c)) →
        exec (.novmiDeadline c now) s = .next u))

/-- R205, R214, R219 to R222, R232, R240, R242, R244, R246, R250: the events of steering and braking. A winding due counts as lost, and HALF and LOST of
every axle and wheel follow from the windings left. The other limits each act once when reached: the lost hand-wheel angle, the end of a centre
search, the implausible force, regeneration unconfirmed or free again, the parking latch, its retry, and the save of the ledger. -/
def Obligations.SteeringAndBrakingEvents : Prop :=
  ∀ (s u : State) (now : Ns), u = s.at now →
    (∀ (g : Fin 3) (l : AxisNo) (p : Fin 24), p.val = 8 * g.val + l.val →
      (((s.brake.wind[g])[l]).lost = true ∨ ((s.brake.wind[g])[l]).clear < 3 → exec (.windingLost g l now) s = .next u) ∧
      (((s.brake.wind[g])[l]).lost = false → 3 ≤ ((s.brake.wind[g])[l]).clear →
        ∃ t : State, exec (.windingLost g l now) s = .next t ∧ t.windLost p = true ∧
          (∀ q : Fin 24, q ∉ s.windings (s.kindP p.val) (s.motorP p.val) → t.windLost q = s.windLost q) ∧
          (∀ q ∈ s.windings (s.kindP p.val) (s.motorP p.val),
            t.windLost q = (s.windLost q || decide (3 ≤ ((s.brake.wind[pkgGrp q])[pkgAx q]).clear))) ∧
          (∀ n : Fin 3, t.steer.lost[n] = (s.steer.lost[n] || (s.axleOn n && t.allLost (s.axleWind n))) ∧
            (s.axleOn n → t.steer.lost[n] = false → t.steer.half[n] = t.partLost (s.axleWind n)) ∧
            (s.steer.lost[n] = false → t.steer.lost[n] = true → t.safe.lostAxle = true ∧ 1 ∈ t.safe.causes)) ∧
          (∀ w : Fin 8, t.brake.lost[w] = (s.brake.lost[w] || (s.wheelOn w && t.allLost (s.wheelWind w))) ∧
            (s.wheelOn w → t.brake.lost[w] = false → t.brake.half[w] = t.partLost (s.wheelWind w)) ∧
            (s.brake.lost[w] = false → t.brake.lost[w] = true → t.safe.lostWheel = true)) ∧
          t.ax = s.ax ∧ t.life = s.life ∧ t.par = s.par)) ∧
    (s.steer.hwLost = 3 → ∃ v : State, exec (.hwAngleLost now) s = .next v ∧ v.steer = { s.steer with hwLost := 4 } ∧
      v.safe = { s.safe with causes := s.safe.causes ++ [1] } ∧ v.ax = s.ax ∧ v.life = s.life) ∧
    (s.steer.hwLost ≠ 3 → exec (.hwAngleLost now) s = .next u) ∧
    (∀ (n : Fin 3) (x : Search), s.steer.search[n] = some x → x.second = true → s.pq P.sbwHsearch ≤ |x.off| → 0 < x.dir * x.off →
      exec (.centreSearch n now) s = .next (({ u with steer := { s.steer with search := vset s.steer.search n none } }).raise 0x8005
        .amber none [BitVec.ofNat 32 n.val, 0])) ∧
    (∀ n : Fin 3, (s.steer.search[n] = none ∨ ∃ x, s.steer.search[n] = some x ∧ |x.off| < s.pq P.sbwHsearch) →
      exec (.centreSearch n now) s = .next u) ∧
    (∀ (l : AxisNo) (w : Fin 8), s.wheel l = some w → s.brake.fimp[l] = false →
      s.pn P.bwFn ≤ s.brake.fimpN[l] →
      exec (.forceImplausible l now) s = .next (({ u with brake := { s.brake with fimp := vset s.brake.fimp l true } }).raise 0x9002
        .amber (some l) [BitVec.ofNat 32 w.val])) ∧
    (∀ l : AxisNo, (s.wheel l = none ∨ s.brake.fimp[l] = true ∨ s.brake.fimpN[l] < s.pn P.bwFn) →
      exec (.forceImplausible l now) s = .next u) ∧
    (s.brake.regUnconf = false → s.pn P.bwInvn ≤ s.brake.unconf →
      exec (.regenUnconfirmed now) s =
        .next (({ u with brake := { s.brake with regUnconf := true, freshN := 0 } }).raise 0x9006 .amber none [])) ∧
    ((s.brake.regUnconf = true ∨ s.brake.unconf < s.pn P.bwInvn) → exec (.regenUnconfirmed now) s = .next u) ∧
    (s.brake.regSlip = true → (∀ w : Fin 8, s.driven (axleOf w) → s.brake.slip[w] = false) →
      s.brake.slipFree + 1000000 * s.pn P.bwTrre ≤ u.clk.lclk →
      exec (.regenBlockExpiry now) s = .next { u with brake := { s.brake with regSlip := false } }) ∧
    ((s.brake.regSlip = false ∨ (∃ w : Fin 8, s.driven (axleOf w) ∧ s.brake.slip[w] = true) ∨
        u.clk.lclk < s.brake.slipFree + 1000000 * s.pn P.bwTrre) →
      exec (.regenBlockExpiry now) s = .next u) ∧
    (s.brake.park = .latch → s.brake.parkAt + 1000000 * s.pn P.bwTlatch ≤ u.clk.lclk →
      ∃ t : State, exec (.parkLatchTimeout now) s = .next t ∧ t.brake.parkAt = u.clk.lclk ∧ t.brake.parkOps = [] ∧
        (s.brake.parkRel = false → t.brake.park = .holdact ∧ t.ax = s.ax ∧ t.brake.unlatch = s.brake.unlatch) ∧
        (s.brake.parkRel = true → t.brake.park = .release ∧ t.brake.unlatch = true ∧ t.brake.parkRel = false)) ∧
    ((s.brake.park ≠ .latch ∨ u.clk.lclk < s.brake.parkAt + 1000000 * s.pn P.bwTlatch) →
      exec (.parkLatchTimeout now) s = .next u) ∧
    (s.brake.park = .holdact → s.brake.parkAt + 1000000000 ≤ u.clk.lclk →
      exec (.parkRetry now) s = .next (({ u with brake := { s.brake with park := .latch, parkAt := u.clk.lclk } }).raise 0x900A .amber
        none [((s.pw P.bwParkmask).setWidth 8 &&& ~~~s.brake.latched).setWidth 32])) ∧
    ((s.brake.park ≠ .holdact ∨ u.clk.lclk < s.brake.parkAt + 1000000000) → exec (.parkRetry now) s = .next u) ∧
    (s.brake.ledAt + 1000000000 * s.pn P.bwLedsave ≤ u.clk.lclk →
      exec (.ledgerSave now) s = .next { u with brake := { s.brake with ledSaved := s.brake.led, ledAt := u.clk.lclk } }) ∧
    (u.clk.lclk < s.brake.ledAt + 1000000000 * s.pn P.bwLedsave → exec (.ledgerSave now) s = .next u)

/-! ## Arbiter and power -/

/-- R443, R444, R446 to R450, R454: the grants, once for each boundary of 100 µs. The budget is the least of its three terms. With every floor
covered the grants stay within the budget and between floor and ceiling; with a deficit every class keeps its share of its floors and a lower
class is cut to nothing before a higher one is cut. Ten covered grants clear the broken classes. A level raise without a grant for 10 ms ends with
code 3. -/
def Obligations.ArbiterGrantsStayInBudget : Prop :=
  ∀ (s u : State) (now : Ns) (b : Q), u = s.at now → b = min (s.pq P.arbBdrive) (min s.bVeh s.bSag) →
    (u.arbOn = false → exec (.arbiterGrant now) s = .next u.levelPoll.pollTest) ∧
    (u.arbOn →
      ∃ t : State, exec (.arbiterGrant now) s = .next t ∧ t.arb.published = true ∧ t.arb.b = b ∧ t.arb.floors = s.floorsHeld ∧
        t.arb.last = some (u.gt / 100000) ∧ t.arb.lastAt = u.clk.lclk ∧
        (s.floorsHeld ≤ b → (fins 8).foldl (fun x l => x + t.arb.grant[l]) 0 ≤ b ∧
          (∀ l : AxisNo, s.holdsFloor l = false → t.arb.grant[l] = 0) ∧
          ((∀ l : AxisNo, s.pq P.arbFloor l ≤ s.pq P.arbCeil l) →
            ∀ l : AxisNo, s.holdsFloor l → s.pq P.arbFloor l ≤ t.arb.grant[l] ∧ t.arb.grant[l] ≤ s.pq P.arbCeil l)) ∧
        (b < s.floorsHeld →
          (∀ l : AxisNo, t.arb.grant[l] = s.floorOf l * t.arb.scale[s.classOf l]) ∧
          (∀ c d : Fin 4, c < d → t.arb.scale[c] ≠ 1 → 0 < s.classFloor d → t.arb.scale[d] = 0)) ∧
        (∀ l : AxisNo, t.arb.req[l] = s.ax[l].cur.reqMax) ∧
        (s.st.waiting = none →
          (∀ l : AxisNo, t.ax[l] = { s.ax[l] with cur := { s.ax[l].cur with reqMax := 0 } }) ∧
          t.pair = s.pair ∧ t.par = s.par ∧ t.twin = s.twin)) ∧
    (10 ≤ s.arb.okN → s.arb.brkcls ≠ 0 →
      ∃ v : State, exec (.guaranteeRestored now) s = .next (if s.standby then v else v.raise 0xD011 .grey none []) ∧
        v = { u with arb := { s.arb with brkcls := 0, brkmask := 0, brkset := Vector.replicate 4 0 } }) ∧
    ((s.arb.okN < 10 ∨ s.arb.brkcls = 0) → exec (.guaranteeRestored now) s = .next u) ∧
    (∀ c : PlChange, s.life.plc = some c → c.waiting = true → c.since + 10000000 ≤ u.clk.lclk →
      exec (.levelRaiseNoBudget now) s = .next (u.endLevel c.op 3) ∧ (c.op = none →
        u.endLevel c.op 3 = { u with life := { s.life with plc := none, plEnd := u.clk.lclk
                                                           pgoodLow := s.life.pgoodLow.map fun _ => u.clk.lclk } }) ∧
        ∀ o, c.op = some o → ∃ v : State, u.endLevel c.op 3 = v.complete o 0 [3] ∧ v.life.plc = none ∧ v.ax = s.ax) ∧
    ((s.life.plc = none ∨ ∃ c : PlChange, s.life.plc = some c ∧ (c.waiting = false ∨ u.clk.lclk < c.since + 10000000)) →
      exec (.levelRaiseNoBudget now) s = .next u)

/-- R423 to R425, R438, R514, R515: the regulator handshake and the supply watch. A change starts at a vehicle-cycle boundary with its command, a
fall with the divider first. An ACK starts the wait, a NACK or a wait of 500 µs fails the attempt, the fourth failure ends the change with code 1 at
the old voltage, and a confirmed voltage ends it at the new level; the cycles that waited for it follow. A supply that stays wrong fails the lane, a
PGOOD that stays low for 10 µs among it. A pad reset takes torque off every pair. -/
def Obligations.SupplyEventsAct : Prop :=
  ∀ (s u : State) (now : Ns) (g : Life → State) (dead : Instr → Prop), u = s.at now → (g = fun f => { u with life := f }) → s.fwOn →
    (∀ i, dead i ↔ ∃ t : State, exec i s = .next t ∧ t.life.st = .failSilent ∧ t.twin.claim = false ∧ t.aon.failrec = 0x88020000 ∧
      ∀ l : AxisNo, t.ax[l].en = false ∧ t.ax[l].pwm.gates = false) →
    (∀ v : State, v.changing = false → v.life.cycWait = [] → v.resumeCycles = v) ∧
    (∀ c : PlChange, s.life.plc = some c →
      (c.started = false → c.waiting = false → s.atBoundary now = true →
        exec (.plChangeStart now) s = .next (g { s.life with
          plc := some { c with started := true, attempts := 1, ack := none, since := u.clk.lclk }
          voutCmd := s.voutWord c.target
          divider := if c.target < c.old then c.target else s.life.divider })) ∧
      ((c.started = true ∨ c.waiting = true ∨ s.atBoundary now = false) → exec (.plChangeStart now) s = .next u) ∧
      (c.started = true → c.ack = none → ∀ d,
        exec (.pmbusTransaction .voutCommand (.ack d) now) s = .next (g { s.life with plc := some { c with ack := some u.clk.lclk } })) ∧
      (c.started = true → c.attempts < 4 → ∀ r, (r = .nack ∨ r = .pecError) →
        exec (.pmbusTransaction .voutCommand r now) s =
          .next (g { s.life with plc := some { c with attempts := c.attempts + 1, ack := none } })) ∧
      (c.started = true → 4 ≤ c.attempts →
        ∃ v : State, exec (.pmbusTransaction .voutCommand .nack now) s =
            .next (((v.raise 0xD001 .amber none [c.target.setWidth 32]).endLevel c.op 1).resumeCycles) ∧
          v.life = { s.life with voutCmd := s.voutWord c.old, reason := s.life.reason ||| 0x40
                                 restore := s.life.restore || decide (c.target < c.old) } ∧
          v.ax = s.ax ∧ v.pair = s.pair) ∧
      (c.started = true → c.ack.isSome = true → s.pn P.pmbConf = 0 → ∀ d,
        |s.voutMv d - levelMv c.target| ≤ s.pq P.pmbWin →
        exec (.pmbusTransaction .readVout (.ack d) now) s = .next (((g { s.life with
          vout := (roundQ (s.voutMv d)).toNat, pl := c.target, divider := c.target, restore := false }).endLevel c.op 0).resumeCycles)) ∧
      (∀ x, c.started = true → c.ack = some x → x + 500000 ≤ u.clk.lclk → c.attempts < 4 → s.pn P.pmbConf = 0 →
        exec (.plAttemptTimeout now) s = .next (g { s.life with plc := some { c with attempts := c.attempts + 1, ack := none } })) ∧
      (c.ack = none → exec (.plAttemptTimeout now) s = .next u.resumeCycles)) ∧
    (∀ (op : Option AccOp) (k : Word), (u.endLevel op k).life = { s.life with
      plc := none, plEnd := u.clk.lclk, pgoodLow := s.life.pgoodLow.map fun _ => u.clk.lclk }) ∧
    (s.life.plc = none → exec (.plChangeStart now) s = .next u) ∧
    (∀ d : BitVec 16, (d.setWidth 8 : BitVec 8) >>> 5 ≠ 0 →
      exec (.pmbusTransaction .voutMode (.ack d) now) s = .next (((g { s.life with
        voutMode := d.setWidth 8, voutLinear := false, reason := s.life.reason ||| 0x40 }).raise 0xD002 .amber none
          [(d.setWidth 8 : BitVec 8).setWidth 32]).resumeCycles)) ∧
    exec (.pgoodChange false now) s = .next (g { s.life with pgood := false, pgoodLow := some u.clk.lclk }).resumeCycles ∧
    (s.life.plc = none → s.life.st ≠ .boot → (∀ x, s.life.pgoodLow = some x → s.pn P.pmbConf = 1 → u.clk.lclk < x + 10000) →
      exec (.pgoodChange true now) s =
          .next (g { s.life with pgood := true, pgoodLow := none, pgoodAt := u.clk.lclk }).resumeCycles ∧
        exec (.voutFault .pgood now) s = .next u) ∧
    (∀ x, s.life.plc = none → s.pn P.pmbConf = 1 → s.life.pgoodLow = some x → x + 10000 ≤ u.clk.lclk →
      dead (.voutFault .pgood now) ∧ dead (.pgoodChange true now)) ∧
    (s.pn P.pmbConf ≠ 1 → 3 ≤ s.life.pollOut → dead (.voutFault .window now)) ∧
    ((s.pn P.pmbConf = 1 ∨ s.life.pollOut < 3) → exec (.voutFault .window now) s = .next u) ∧
    (s.pn P.pmbConf ≠ 1 → 3 ≤ s.life.pollFails → s.life.pollBad = false →
      exec (.voutFault .poll now) s =
        .next ((g { s.life with pollBad := true, reason := s.life.reason ||| 0x40 }).raise 0xD003 .amber none [])) ∧
    ((s.pn P.pmbConf = 1 ∨ s.life.pollFails < 3 ∨ s.life.pollBad = true) → exec (.voutFault .poll now) s = .next u) ∧
    (s.life.st ≠ .boot → exec (.pgoodWaitTimeout now) s = .next u) ∧
    (∀ q : State, q.life.st = .boot → q.life.step = 0 → q.aon.control = true → q.aon.controlAt + 2000000 ≤ (q.at now).clk.lclk →
      exec (.pgoodWaitTimeout now) q = .next { q.at now with life := { q.life with step := 1 } }) ∧
    (∃ t : State, exec (.vddioPadReset true now) s = .next t ∧ t.padReset = true ∧ t.twin = s.twin ∧
      (∀ l : AxisNo, t.ax[l].en = false ∧ t.ax[l].pwm.gates = false ∧ t.ax[l].fault = s.ax[l].fault) ∧
      (∀ k : PairNo, t.toPermit k = false)) ∧
    exec (.vddioPadReset false now) s = .next { u with padReset := false } ∧
    (∃ t : State, exec (.vddFixDrop now) s = .next t ∧ t.life.st = .failSilent ∧ t.twin.claim = false ∧
      t.life.isolated = s.life.domains &&& 0x7E ∧ t.aon.failrec = 0x88030000 ∧
      ∀ l : AxisNo, t.ax[l].en = false ∧ t.ax[l].pwm.gates = false)

/-! ## Integrity and the signal unit -/

/-- R282 to R289, R293 to R297, R300, R302, R305, R496: the integrity mechanisms. What concerns the whole lane makes it fail-silent with its cause
and group: the first group in which the two cores' copies differ, the group of the first injection that is not caught. Equal copies release that of
core 0 one cycle later. A parity or memory fault of an axis faults that axis, a pair's both. An exchange read delivers the older of two samples one
step of their source apart, or the agreed bits, and fails on more. A faulted core 1 of a split lane takes torque off its own axes. -/
def Obligations.IntegrityFaultsAct : Prop :=
  ∀ (s u : State) (now : Ns) (b : Byte) (w : BitVec 16) (n : Nat) (q : Word) (p : BitVec 4),
    u = s.at now → s.life.st ≠ .off → s.life.st ≠ .failSilent → p ≠ parityOf q →
    (∀ (c0 c1 : CmpBits) (o st cl : Bool) (k : Fin 10) (c : CoreFault),
      ∀ x ∈ ([(.lockstepMismatch c0 c1 now, s.lockstep && ((firstDiff c0 c1).map fun g => BitVec.ofNat 8 g.val) == some b, 1, b),
          (.comparatorInjectionTest c0 c1 o st cl now, s.life.st == .boot && !s.split && s.life.step == 4 && firstMissed c0 c1 == some b, 3, b),
          (.comparatorInjectionTest (~~~0) (~~~0) true true false now, s.life.st == .boot && !s.split && s.life.step == 4, 3, 0xFF),
          (.configParityFault (.block k) w q p now, s.blockOn k, 4, BitVec.ofNat 8 k.val),
          (.scrubAccess .sram b n .uncorrectable now, s.scrubs .sram && !s.split, 5, b),
          (.scrubAccess (.engine .suProg) b n .uncorrectable now, s.scrubs (.engine .suProg), 6, b),
          (.scrubAccess (.engine .suOper) b n .uncorrectable now, s.scrubs (.engine .suOper), 6, b),
          (.scrubAccess .flash b n .uncorrectable now, s.scrubs .flash && s.life.st != .boot, 7, b),
          (.splitCoreFault 0 c now, s.split, 9, 0xFF),
          (.splitWatchdog 0 now, s.split && decide (s.integ.wdog[(0 : Fin 2)] + 4000000 ≤ u.clk.lclk), 9, 0xFF)] :
          List (Instr × Bool × BitVec 4 × Byte)), x.2.1 →
        ∃ t : State, exec x.1 s = .next t ∧ t.silencedBy x.2.2.1 x.2.2.2 ∧ t.par = s.par ∧
          ∀ l : AxisNo, t.ax[l].fault = s.ax[l].fault) ∧
    (∀ c0 c1 : CmpBits, (firstDiff c0 c1 = none ↔ c0 = c1) ∧
      ∀ g : Fin 24, firstDiff c0 c1 = some g → groupBits c0 g ≠ groupBits c1 g ∧ ∀ h : Fin 24, h < g → groupBits c0 h = groupBits c1 h) ∧
    (∀ c : CmpBits, s.lockstep → exec (.lockstepMismatch c c now) s =
      .next { u with integ := { s.integ with released := s.integ.held, held := some c } }) ∧
    (∀ c0 c1 : CmpBits, s.lockstep = false → exec (.lockstepMismatch c0 c1 now) s = .next u) ∧
    (s.life.st = .boot → s.split = false → s.life.step = 4 →
      exec (.comparatorInjectionTest (~~~0) (~~~0) true true true now) s = .next { u with life := { s.life with step := 5 } } ∧
      ∀ o st cl : Bool, (o && st) = false → ∃ (t : State) (g : Byte),
        exec (.comparatorInjectionTest (~~~0) (~~~0) o st cl now) s = .next t ∧ t.silencedBy 3 g) ∧
    (∀ (k : Fin 2) (c : CoreFault), s.split = false → exec (.splitCoreFault k c now) s = .next u) ∧
    (∀ k : Fin 2, u.clk.lclk < s.integ.wdog[k] + 4000000 → exec (.splitWatchdog k now) s = .next u) ∧
    (∀ c : CoreFault, s.split = true → s.integ.core1Off = false →
      ∃ v : State, exec (.splitCoreFault 1 c now) s = .next (v.raise 0x0011 .crimson none [coreFaultCode c]) ∧
        v.integ = { s.integ with core1Off := true } ∧
        (∀ l : AxisNo, 4 ≤ l.val → v.ax[l].en = false ∧ v.ax[l].pwm.gates = false ∧ v.ax[l].fault = s.ax[l].fault) ∧
        (∀ l : AxisNo, l.val < 4 → v.ax[l] = s.ax[l]) ∧ (v.toPermit 2 = false ∧ v.toPermit 3 = false)) ∧
    (∀ o : ParityOwner, exec (.configParityFault o w q (parityOf q) now) s = .next u) ∧
    (∀ l : AxisNo, s.cellOn (pairOf l) → s.ax[l].fault = 0 →
      ∃ v : State, exec (.configParityFault (.cell l) w q p now) s = .next (v.raise 0x0012 .crimson (some l) [0, w.setWidth 32]) ∧
        v.ax[l].fault = 7 ∧ v.ax[l].en = false ∧ (∀ m : AxisNo, m ≠ l → v.ax[m] = s.ax[m]) ∧
        (s.regs.parrec.getLsbD 31 = false → v.regs.parrec = 0x80000000 ||| (BitVec.ofNat 32 l.val <<< 24) ||| w.setWidth 32) ∧
        (s.regs.parrec.getLsbD 31 = true → v.regs.parrec = s.regs.parrec)) ∧
    (∀ k : PairNo, s.cellOn k →
      ∃ t : State, exec (.configParityFault (.pair k) w q p now) s = .next t ∧ t.life.ps = s.life.ps ∧ t.par = s.par ∧
        ∀ l : AxisNo, (pairOf l = k → t.ax[l].en = false ∧ t.ax[l].fault = if s.ax[l].fault = 0 then 7 else s.ax[l].fault) ∧
          (pairOf l ≠ k → t.ax[l] = s.ax[l])) ∧
    (∀ (l : AxisNo) (k : PairNo) (d : Fin 10), (s.cellOn (pairOf l) = false → exec (.configParityFault (.cell l) w q p now) s = .next u) ∧
      (s.cellOn k = false → exec (.configParityFault (.pair k) w q p now) s = .next u) ∧
      (s.blockOn d = false → exec (.configParityFault (.block d) w q p now) s = .next u)) ∧
    (∀ l : AxisNo, s.ax[l].fault = 0 → n ≠ 0 → s.scrubs (.engine (.leProg l)) →
      ∃ v : State, exec (.scrubAccess (.engine (.leProg l)) b n .uncorrectable now) s =
          .next (v.raise 0x0013 .crimson (some l) [2, BitVec.ofNat 32 n]) ∧
        v.ax[l].fault = 7 ∧ v.ax[l].en = false ∧ v.ax[l].eng.reload = true ∧ (∀ m : AxisNo, m ≠ l → v.ax[m] = s.ax[m])) ∧
    (∀ m : EccMem, s.scrubs m → n ≠ 0 → exec (.scrubAccess m b n .clean now) s = .next u ∧
      (eccBankKey m b ∈ s.integ.eccSeen → eccBankKey m b * 2 ^ 32 + n ∈ s.integ.eccPass →
        exec (.scrubAccess m b n .corrected now) s =
          .next ((u.bump (0x0F04 + eccCls m)).raise 0x0015 .amber none [BitVec.ofNat 32 (eccCls m), BitVec.ofNat 32 n]))) ∧
    (∀ m : EccMem, s.scrubs m = false → ∀ r, exec (.scrubAccess m b n r now) s = .next u) ∧
    (∀ (cls : ExClass) (i : Fin 65) (x y : BitVec 64) (d : Nat), s.life.st ≠ .sleep → s.split = false → x.toNat < 2 ^ i.val →
      y.toNat < 2 ^ i.val → d = (y.toNat + 2 ^ i.val - x.toNat) % 2 ^ i.val →
      (cls.kind = .ordered → (d ≤ cls.stepOf ∨ 2 ^ i.val ≤ d + cls.stepOf) →
        ∃ t : State, exec (.exchangeRead cls b i x y now) s = .next t ∧ t.ax = s.ax ∧ t.life = s.life ∧
          (t.integ.merged = x ∨ t.integ.merged = y) ∧ (2 * d < 2 ^ i.val → t.integ.merged = x) ∧ (2 ^ i.val < 2 * d → t.integ.merged = y) ∧
          (x = y → t.cnt = s.cnt) ∧
          (x ≠ y → s.canonical → (s.counter 0x0F01).toNat < 65534 → t.counter 0x0F01 = s.counter 0x0F01 + 1)) ∧
      (cls.kind = .ordered → cls.stepOf < d → d + cls.stepOf < 2 ^ i.val →
        ∃ t : State, exec (.exchangeRead cls b i x y now) s = .next t ∧ t.silencedBy 2 b) ∧
      (cls.kind = .stable → (x = y ∨ (s.exSrc b.toNat).run + 1 < 16) →
        ∃ t : State, exec (.exchangeRead cls b i x y now) s = .next t ∧ t.ax = s.ax ∧ t.life = s.life ∧
          ∀ j, t.integ.merged.getLsbD j =
            (if x.getLsbD j = y.getLsbD j then x.getLsbD j else (s.exSrc b.toNat).prev.getLsbD j)) ∧
      (cls.kind = .stable → x ≠ y → 16 ≤ (s.exSrc b.toNat).run + 1 →
        ∃ t : State, exec (.exchangeRead cls b i x y now) s = .next t ∧ t.silencedBy 2 b)) ∧
    (∀ (x y : Word), s.life.st ≠ .sleep → s.split = false →
      ((∀ j : Fin 32, x.getLsbD j = y.getLsbD j ∨ s.integ.irqRun[j] + 1 < 16) →
        ∃ t : State, exec (.interruptWindowEnd x y now) s = .next t ∧ t.ax = s.ax ∧
          (∀ j : Nat, t.integ.irq.getLsbD j = (if x.getLsbD j = y.getLsbD j then x.getLsbD j else s.integ.irq.getLsbD j)) ∧
          (∀ j : Fin 32, t.integ.irqRun[j] = (if x.getLsbD j = y.getLsbD j then 0 else s.integ.irqRun[j] + 1)) ∧
          t.life = (if t.integ.irq ≠ 0 ∧ s.life.ps = .idle then { s.life with ps := .run } else s.life)) ∧
      (∀ j : Fin 32, x.getLsbD j ≠ y.getLsbD j → 16 ≤ s.integ.irqRun[j] + 1 →
        ∃ (t : State) (g : Byte), exec (.interruptWindowEnd x y now) s = .next t ∧ t.silencedBy 2 g)) ∧
    ∀ wr : Bool, exec (.unmappedAccess wr) s = .next (s.bump 0x0F03)

/-- R27, R176, R193 to R195, R198: the activations of the signal unit. A release of an activation whose run is unfinished waits for its end, and
replaces one that waits and counts. Any other runs at once, with zeroed registers, on an idle unit or over a run of a later deadline. A run that
halts delivers and ends. One unfinished at its deadline counts once, and a vehicle-cycle kernel raises its event. -/
def Obligations.ActivationsRun : Prop :=
  ∀ (s u : State) (a : Fin 40) (now : Ns) (x : Act) (g : Act → Su) (d : Ns), u = s.at now → x = s.su.acts[a] →
    (g = fun y => { s.su with acts := vset s.su.acts a y }) → d = u.clk.lclk + s.actDeadline a →
    ((s.suOn = false ∨ s.su.enabled.getLsbD a.val = false ∨ x.off = true) → exec (.suActivationRelease a now) s = .next u) ∧
    (s.suOn → s.su.enabled.getLsbD a.val → x.off = false → (x.pend = true ∨ x.active = true) →
      (x.wait = none → exec (.suActivationRelease a now) s = .next { u with su := g { x with wait := some (u.clk.lclk, d, u.gt) } }) ∧
      (x.wait ≠ none → exec (.suActivationRelease a now) s =
        .next { u.bump (0xFF01 + 2 * a.val) with su := g { x with wait := some (u.clk.lclk, d, u.gt) } })) ∧
    (s.suOn → s.su.enabled.getLsbD a.val → x.off = false → x.pend = false → x.active = false → (∀ b : Fin 40, s.su.acts[b].pend = false) →
      ∃ t : State, exec (.suActivationRelease a now) s = .next t ∧
        t.su.acts[a].release = u.clk.lclk ∧ t.su.acts[a].deadline = d ∧ t.su.acts[a].pendAt = u.gt ∧
        t.su.acts[a].missed = false ∧ t.su.acts[a].judged = false ∧ (∀ b : Fin 40, b ≠ a → t.su.acts[b] = s.su.acts[b]) ∧
        t.su.results = s.su.results ∧ { t with su := s.su } = u ∧
        ((s.running = none ∧ s.su.saved = []) ∨
            (∃ b, s.running = some b ∧ s.su.eng.ctx.rep = none ∧ s.su.saved.length < 8 ∧ d < s.su.acts[b].runDl) →
          t.running = some a ∧ t.su.acts[a].active = true ∧ t.su.acts[a].pend = false ∧ t.su.acts[a].runDl = d ∧
          t.su.eng.integ = decide (32 ≤ a.val) ∧ t.su.eng.ctx =
            { act := some a, release := u.gt, pc := BitVec.ofNat 13 (if 32 ≤ a.val then s.pn P.sigUentry 0 (a.val - 32) else 0) } ∧
          t.su.saved = if s.running.isSome then s.su.eng.ctx :: s.su.saved else []) ∧
        (∀ b, s.running = some b → (s.su.eng.ctx.rep ≠ none ∨ 8 ≤ s.su.saved.length ∨ s.su.acts[b].runDl ≤ d) →
          t.su.acts[a].pend = true ∧ t.su.acts[a].active = false ∧ t.su.eng = s.su.eng ∧ t.su.saved = s.su.saved)) ∧
    ((s.suOn = false ∨ (s.running ≠ some a ∧ ¬(x.active = true ∧ s.su.eng.ctx.act = some a))) →
      exec (.suKernelHalt a now) s = .next u) ∧
    (s.suOn → s.running = some a → s.su.eng.ctx.trap = none → x.pend = false → x.wait = none → a.val < 32 →
      ∃ t : State, exec (.suKernelHalt a now) s = .next t ∧ t.su.acts[a].active = false ∧ t.su.acts[a].judged = false ∧
        t.su.acts[a].missed = false ∧ t.su.acts[a].last ≤ s.actCycles a ∧ t.su.acts[a].longest = max x.longest t.su.acts[a].last ∧
        t.life = s.life ∧
        (24 ≤ a.val → t.ax = s.ax ∧
          (u.clk.lclk < x.runDl → x.missed = false → t.su.lateRes = s.su.lateRes ∧
            ∀ i : Fin 8, i.val ≠ a.val - 24 → t.su.results[i] = s.su.results[i]) ∧
          (x.missed = true → s.life.cycStart ≤ x.release → t.su.results = s.su.results ∧
            ∀ i : Fin 8, (i.val = a.val - 24 → t.su.lateRes[i].isSome) ∧ (i.val ≠ a.val - 24 → t.su.lateRes[i] = s.su.lateRes[i]))) ∧
        (a.val < 24 → t.su.results = s.su.results ∧ ∀ l : AxisNo, l.val = a.val % 8 → (∀ m : AxisNo, m ≠ l → t.ax[m] = s.ax[m]) ∧
          (u.tooLate l = false → t.ax[l].del.stamp = s.su.eng.ctx.release ∧
            (a.val < 16 → t.ax[l].del.fresh = true ∧ t.ax[l].del.valid = true) ∧
            (16 ≤ a.val → t.ax[l].del.fFresh = true ∧ t.ax[l].del.fValid = true ∧ t.ax[l].del.force = s.fAct l)) ∧
          (u.tooLate l = true → { t.ax[l].del with wait := s.ax[l].del.wait } = s.ax[l].del ∧
            s.ax[l].del.wait.length < t.ax[l].del.wait.length))) ∧
    (s.suOn → s.running = some a → s.su.eng.ctx.trap = none → s.su.eng.ctx.halted = true → x.pend = false → x.wait = none → 32 ≤ a.val →
      ∃ t : State, exec (.suKernelHalt a now) s = .next t ∧ t.su.acts[a].active = false ∧ t.su.acts[a].last = s.su.eng.ctx.cycles ∧
        t.su.acts[a].longest = max x.longest s.su.eng.ctx.cycles ∧ t.ax = s.ax ∧ t.su.results = s.su.results ∧ t.life = s.life) ∧
    (x.judged = false → ((x.active = true ∧ x.runDl ≤ u.clk.lclk) ∨ (x.active = false ∧ x.pend = true ∧ x.deadline ≤ u.clk.lclk)) →
      (s.actKind a ≠ 2 → exec (.suDeadline a now) s =
        .next { u.bump (0xFF00 + 2 * a.val) with su := g { x with judged := true } }) ∧
      (s.actKind a = 2 → exec (.suDeadline a now) s =
        .next (({ u.bump (0xFF00 + 2 * a.val) with su := g { x with judged := true, missed := true } }).raise 0xF002 .amber none
          [BitVec.ofNat 32 a.val]))) ∧
    ((x.judged = true ∨ (x.active = true ∧ u.clk.lclk < x.runDl) ∨ (x.active = false ∧ (x.pend = false ∨ u.clk.lclk < x.deadline))) →
      exec (.suDeadline a now) s = .next u)

/-! ## Twin operation -/

/-- R307 to R312, R317, R319, R320, R326: the claims. An edge sets SEEN; in the first 20 µs of the lane's own claim it is a collision, and
later a double claim, which ends in STANDBY. Absence for 30 µs clears SEEN and with ARMD starts castling. A claim starts with its SSI wait and
confirmed only after 20 µs. -/
def Obligations.ClaimsFollowTheLines : Prop :=
  ∀ (s u : State) (now : Ns), u = s.at now →
    (s.twin.claim = false →
      exec (.twinClaimEdge now) s = .next { u with twin :=
        { s.twin with edgeAt := u.clk.lclk, seen := true, armd := s.twin.armd || s.standby, blackWait := s.twin.blackWait && !s.standby } }) ∧
    (s.twin.claim = true → s.twin.confirmed = false → u.clk.lclk < s.twin.claimAt + 20000 →
      ∃ t : State, exec (.twinClaimEdge now) s = .next t ∧ t.auth = false ∧ t.twin.seen = true ∧ t.twin.edgeAt = u.clk.lclk ∧
        t.twin.collisions = s.twin.collisions + 1 ∧ (∀ l : AxisNo, t.ax[l].en = false ∧ t.ax[l].pwm.gates = false ∧
          t.ax[l].fault = s.ax[l].fault) ∧ (∀ p : Fin 3, t.ports[p].driven = false) ∧
        (s.canonical → (s.counter 0xEF00).toNat < 65534 → t.counter 0xEF00 = s.counter 0xEF00 + 1) ∧
        (s.twin.collisions < 3 → t.twin.retry = true ∧ t.twin.clash = s.twin.clash ∧ t.twin.castling = s.twin.castling) ∧
        (3 ≤ s.twin.collisions → t.twin.clash = true ∧ t.twin.retry = false ∧ t.twin.castling = none ∧
          ∃ v : State, v.clk = u.clk ∧ t = v.raise 0xE010 .crimson none [])) ∧
    (s.twin.claim = true → s.twin.confirmed = true → s.twin.planned = none →
      ∃ v t : State, exec (.twinClaimEdge now) s = .next t ∧ t.auth = false ∧ t.twin.seen = true ∧ t.twin.armd = true ∧
        t.life.st = (if s.life.st = .safeStop then .safeStop else .standby) ∧
        (∀ l : AxisNo, t.ax[l].en = false ∧ t.ax[l].pwm.gates = false ∧ t.ax[l].fault = s.ax[l].fault ∧ t.ax[l].mir.words = none) ∧
        v.mb = s.mb ∧ v.clk = u.clk ∧ t.mb = (v.raise 0xE011 .crimson none []).mb) ∧
    ((s.twin.seen = false ∨ u.clk.lclk < s.twin.edgeAt + 30000) → exec (.twinClaimAbsent now) s = .next u) ∧
    (s.twin.seen = true → s.twin.edgeAt + 30000 ≤ u.clk.lclk → s.st.run = none →
      exec (.twinClaimAbsent now) s = .next { u with twin :=
        (if s.twin.armd && s.standby && !s.split && s.twin.castling.isNone && !s.twin.clash && !s.twin.roleClash then
          { s.twin with seen := false, absentAt := u.clk.lclk, castling := some 2, castAt := u.clk.lclk, ccause := 2 }
        else { s.twin with seen := false, absentAt := u.clk.lclk }) }) ∧
    (∀ i ∈ [Instr.claimStart now, .claimRetry now, .castlingSettle now, .blackClaimTimer now],
      ((s.twin.seen = true ∨ s.twin.claim = true ∨ s.twin.clash = true ∨ s.twin.roleClash = true ∨ s.split = true) →
        exec i s = .next u)) ∧
    (∀ i ∈ [Instr.claimStart now, .claimRetry now], s.mayClaim → s.twin.retry = true → s.life.st ≠ .pairing → s.standby = false →
      s.twin.absentAt + (if s.black then 240000 else 40000) ≤ u.clk.lclk →
      ∃ t : State, exec i s = .next t ∧ t.auth = true ∧ t.twin.claimAt = u.clk.lclk ∧ t.twin.confirmed = false ∧
        t.twin.collisions = s.twin.collisions ∧ t.arb.firstDone = false ∧ t.ax = s.ax ∧ t.life = s.life ∧
        ∀ p : Fin 3, t.ports[p].busyUntil = max s.ports[p].busyUntil (u.clk.lclk + 1000 * s.pn P.spMono 0 p.val)) ∧
    (∀ i ∈ [Instr.claimStart now, .castlingSettle now], s.mayClaim → s.standby → s.twin.castling.isSome → s.twin.retry = false →
      s.twin.castAt + 40000 ≤ u.clk.lclk → (s.twin.absentAt ≤ s.twin.castAt + 40000 ∨ s.twin.absentAt + 40000 ≤ u.clk.lclk) →
      ∃ t : State, exec i s = .next t ∧ t.auth = true ∧ t.twin.claimAt = u.clk.lclk ∧ t.twin.confirmed = false ∧ t.twin.gateWait = true ∧
        t.life.st = s.life.st ∧ t.twin.castling = s.twin.castling ∧ t.twin.count = s.twin.count ∧
        ∀ l : AxisNo, t.ax[l].en = (s.ax[l].en || s.takesAxis l) ∧ t.ax[l].pwm.gates = s.ax[l].pwm.gates ∧
          (s.takesAxis l = false → t.ax[l].com = s.ax[l].com ∧ t.ax[l].cas = s.ax[l].cas)) ∧
    (∀ i ∈ [Instr.castlingSettle now], (s.twin.castling = none ∨ u.clk.lclk < s.twin.castAt + 40000) → exec i s = .next u) ∧
    (∀ i ∈ [Instr.claimStart now, .blackClaimTimer now], s.mayClaim → s.black → s.standby → s.twin.blackWait = true →
      s.twin.castling = none → s.twin.pairExit + 200000000 ≤ u.clk.lclk → (∀ x, s.twin.firstStatus = some x → x + 200000000 ≤ u.clk.lclk) →
      ∃ t : State, exec i s = .next t ∧ t.auth = true ∧ t.twin.claimAt = u.clk.lclk ∧ t.twin.blackWait = false ∧
        (s.life.st = .standby → t.life.st = .active) ∧ t.ax = s.ax) ∧
    ((s.twin.claim = false ∨ s.twin.confirmed = true ∨ u.clk.lclk < s.twin.claimAt + 20000) → exec (.claimConfirmed now) s = .next u) ∧
    (s.twin.claim = true → s.twin.confirmed = false → s.twin.claimAt + 20000 ≤ u.clk.lclk →
      (s.twin.castling = none →
        exec (.claimConfirmed now) s = .next { u with twin := { s.twin with confirmed := true, collisions := 0, retry := false } }) ∧
      ∀ c, s.twin.castling = some c →
        ∃ v t : State, exec (.claimConfirmed now) s = .next t ∧ t.twin.confirmed = true ∧ t.twin.collisions = 0 ∧ t.twin.castling = none ∧
          t.twin.ccause = c ∧ t.twin.count = min 0xFFFFFFFF (s.twin.count + 1) ∧ t.ax = s.ax ∧
          (s.life.st ≠ .safeStop → t.life.st = if s.mirrorDrives then .drive else .active) ∧
          v.mb = s.mb ∧ v.clk = u.clk ∧ t.mb = (v.raise 0xE016 .grey none [c.setWidth 32, 1]).mb) ∧
    (s.twin.claim = true → s.twin.confirmed = true → s.twin.gateWait = true →
      ∃ t : State, exec (.castlingGateEnable now) s = .next t ∧ t.life = s.life ∧ t.cnt = s.cnt ∧
        (t.twin.gateWait = true ↔ ∃ l : AxisNo, s.ax[l].en = true ∧ s.ax[l].mir.take = true) ∧
        ∀ l : AxisNo,
          ((s.ax[l].en && !s.ax[l].pwm.gates && !s.ax[l].mir.take && s.ax[l].fault == 0 && s.toPermit (pairOf l)) →
            t.ax[l].pwm.gates = true ∧ t.ax[l].en = true ∧ t.ax[l].cur.settled = 0) ∧
          (!(s.ax[l].en && !s.ax[l].pwm.gates && !s.ax[l].mir.take && s.ax[l].fault == 0 && s.toPermit (pairOf l)) →
            t.ax[l] = s.ax[l])) ∧
    ((s.twin.claim = false ∨ (s.twin.confirmed = true ∧ s.twin.gateWait = false)) → exec (.castlingGateEnable now) s = .next u) ∧
    ((s.life.st ≠ .pairing ∨ s.twin.roleClash = true ∨ u.clk.lclk < s.life.pairAt + 1000000 * s.pn P.twPairtmo) →
      exec (.pairingTimeout now) s = .next u) ∧
    (s.life.st = .pairing → s.twin.roleClash = false → s.life.pairAt + 1000000 * s.pn P.twPairtmo ≤ u.clk.lclk →
      ∃ t : State, exec (.pairingTimeout now) s = .next t ∧ t.twin.pairExit = u.clk.lclk ∧ t.life.reason = s.life.reason ||| 8 ∧
        t.ax = s.ax ∧
        (s.black → t.life.st = .standby ∧ t.twin.blackWait = !s.twin.seen ∧ t.twin.claim = s.twin.claim) ∧
        (s.black = false → s.twin.seen = true → t.life.st = .standby ∧ t.twin.armd = true) ∧
        (s.black = false → s.twin.seen = false → s.split = false → s.twin.clash = false → s.twin.claim = false →
          t.life.st = .active ∧ t.auth = true ∧ t.twin.claimAt = u.clk.lclk))

/-- R313 to R318, R321 to R326, R330: the frames of the twin link. A frame counts its gap of SEQ and sets LINKUP; one whose code, CRC, TYPE, LEN or
group is wrong is discarded and counted, and the first of the lane's own ROLE ends its claims. Each type acts on the state that it names. The transmitter sends YIELD first, then STATUS, AXIS and COMPARE
in axis order, and SUPER. -/
def Obligations.TwinFramesAct : Prop :=
  ∀ (s u : State) (f : TwinIn) (now : Ns), u = s.at now →
    (∀ x ∈ [(Instr.yield f now, 0, true), (.status f now, 4, false), (.axis f now, 24, false), (.compare f now, 13, false),
        (.super f now, superLen f.sub.toNat, false)],
      (s.twinOn = false → exec x.1 s = .next u) ∧
      (s.twinOn → f.payload.length ≠ x.2.1 → exec x.1 s = .next (u.bump 0xEF01)) ∧
      (s.twinOn → f.payload.length = x.2.1 →
        ∃ t : State, exec x.1 s = .next t ∧ t.twin.linkup = true ∧ t.twin.frameAt = u.clk.lclk ∧ t.par = s.par ∧
          (∀ p, s.twin.rxSeq = some p → f.seq = p + 1 → t.twin.rxSeq = some f.seq ∧ (s.canonical → t.counter 0xEF01 = s.counter 0xEF01)) ∧
          (s.twin.rxSeq = none → t.twin.rxSeq = some f.seq ∧ (s.canonical → t.counter 0xEF01 = s.counter 0xEF01)) ∧
          (∀ p, s.twin.rxSeq = some p → f.seq ≠ p + 1 → (x.2.2 = false ∨ f.seq ≠ 0xFFFF) → t.twin.rxSeq = some f.seq ∧
            (s.canonical → (s.counter 0xEF01).toNat < 65534 → t.counter 0xEF01 = s.counter 0xEF01 + 1)) ∧
          (∀ p, s.twin.rxSeq = some p → f.seq ≠ p + 1 → x.2.2 = true → f.seq = 0xFFFF → t.twin.rxSeq = some p ∧
            (s.canonical → t.counter 0xEF01 = s.counter 0xEF01)))) ∧
    (s.twinOn → f.payload = [] → ∃ t : State, exec (.yield f now) s = .next t ∧ t.ax = s.ax ∧ t.life = s.life ∧ t.auth = s.auth ∧
      t.twin.castling =
        (if s.standby && !s.split && s.twin.castling.isNone && !s.twin.clash && !s.twin.roleClash then some 1 else s.twin.castling)) ∧
    (∀ w0 w1 w2 w3 : Word, s.twinOn → f.payload = [w0, w1, w2, w3] →
      ∃ t : State, exec (.status f now) s = .next t ∧ t.ax = s.ax ∧ t.twin.tdigest = some w0 ∧ t.twin.tversion = w1 ∧
        t.twin.tstate = w2.setWidth 4 ∧ t.twin.tready = w2.getLsbD 4 ∧ t.twin.digm = (s.digest != w0) ∧
        t.twin.fwm = (s.ident.version.setWidth 32 != w1) ∧
        (s.life.st ≠ .pairing → t.life = s.life ∧ t.auth = s.auth) ∧
        (s.life.st = .pairing → s.twin.roleClash = false →
          t.twin.pairExit = u.clk.lclk ∧ t.life.reason = s.life.reason ∧ (s.black → t.life.st = .standby) ∧
          (s.black = false → s.twin.seen = true → t.life.st = .standby) ∧
          (s.black = false → s.twin.seen = false → t.life.st = .active ∧
            (s.split = false → s.twin.clash = false → t.auth = true)))) ∧
    (∀ l : AxisNo, f.sub.toNat = l.val → s.twinOn →
      (f.payload.length = 24 → s.auth = false → s.allocated l →
        ∃ t : State, exec (.axis f now) s = .next t ∧ t.ax[l].mir.words = some f.payload ∧
          t.ax[l].mir.ts = u.extendTime (f.payload.headD 0) ∧
          t.ax[l].mir.loadC = true ∧ t.ax[l].mir.loadS = true ∧ t.ax[l].mir.loadP = true ∧ t.ax[l].mir.loadG = true ∧
          (s.standby → t.ax[l].com.mode = modeOf (f.payload.getD 1 0)) ∧ t.ax[l].en = s.ax[l].en ∧ t.ax[l].pwm = s.ax[l].pwm ∧
          ∀ m : AxisNo, m ≠ l → t.ax[m] = s.ax[m]) ∧
      (f.payload.length = 13 → s.auth = false → s.allocated l →
        ∃ t : State, exec (.compare f now) s = .next t ∧ (∀ m : AxisNo, m ≠ l → t.ax[m] = s.ax[m]) ∧ t.ax[l].mir = s.ax[l].mir ∧
          ∀ n : Fin 4,
            t.ax[l].cmp[n].val = int64 (f.payload.getD (1 + 3 * n.val) 0) (f.payload.getD (2 + 3 * n.val) 0) ∧
            t.ax[l].cmp[n].armed = (f.payload.getD (3 + 3 * n.val) 0).getLsbD 12 ∧
            t.ax[l].cmp[n].evt = (f.payload.getD (3 + 3 * n.val) 0).getLsbD 5 ∧ t.ax[l].cmp[n].fired = s.ax[l].cmp[n].fired) ∧
      ((s.auth = true ∨ s.allocated l = false) →
        (f.payload.length = 24 → ∃ t : State, exec (.axis f now) s = .next t ∧ t.ax = s.ax) ∧
        (f.payload.length = 13 → ∃ t : State, exec (.compare f now) s = .next t ∧ t.ax = s.ax))) ∧
    (∀ i : Fin 6, f.sub.toNat = i.val → s.twinOn → f.payload.length = superLen i.val →
      ∃ t : State, exec (.super f now) s = .next t ∧ t.ax = s.ax ∧ t.brake = s.brake ∧ t.steer = s.steer ∧
        (s.auth = true → t.twin.supFrag = s.twin.supFrag ∧ t.twin.supReady = s.twin.supReady) ∧
        (s.auth = false → t.twin.supStamp = int64 (f.payload.getD 0 0) (f.payload.getD 1 0) ∧ t.twin.supFrag[i] = some f.payload ∧
          (∀ j : Fin 6, j ≠ i → t.twin.supFrag[j] = if s.twin.supStamp = t.twin.supStamp then s.twin.supFrag[j] else none) ∧
          (t.twin.supReady = true ↔ ∀ j : Fin 6, t.twin.supFrag[j] ≠ none))) ∧
    (∀ (coded : Bool) (bs : List Byte), (s.twinOn = false → exec (.twinFrameDiscard coded bs now) s = .next u) ∧
      (s.twinOn → (s.twinVerdict coded bs = .bad ∨ (s.twinVerdict coded bs = .ownRole ∧ s.twin.roleClash = true)) →
        exec (.twinFrameDiscard coded bs now) s = .next (u.bump 0xEF01)) ∧
      s.twinVerdict false bs = .bad) ∧
    (∀ type id : Byte, f.payload.length < 64 →
      (∀ c, c ≠ (twinBytes type id f).drop (6 + 4 * f.payload.length) →
        s.twinVerdict true ((twinBytes type id f).take (6 + 4 * f.payload.length) ++ c) = .bad) ∧
      ((twinLen type f.sub ≠ some f.payload.length ∨ id &&& 3 ≠ s.twinId &&& 3) → s.twinVerdict true (twinBytes type id f) = .bad) ∧
      (twinLen type f.sub = some f.payload.length → id &&& 7 = s.twinId &&& 7 → s.twinVerdict true (twinBytes type id f) = .ownRole) ∧
      (twinLen type f.sub = some f.payload.length → id &&& 7 = (s.twinId ^^^ 4) &&& 7 →
        s.twinVerdict true (twinBytes type id f) = .valid type f ∧
        (s.twinOn → exec (.twinFrameDiscard true (twinBytes type id f) now) s = .next (u.twinAct type f)))) ∧
    (exec (.yield f now) s = .next (u.twinAct 1 f) ∧ exec (.status f now) s = .next (u.twinAct 2 f) ∧
      exec (.axis f now) s = .next (u.twinAct 3 f) ∧ exec (.compare f now) s = .next (u.twinAct 4 f) ∧
      exec (.super f now) s = .next (u.twinAct 5 f)) ∧
    (∀ (coded : Bool) (bs : List Byte), s.twinOn → s.twinVerdict coded bs = .ownRole → s.twin.roleClash = false → s.twin.planned = none →
      ∃ t : State, exec (.twinFrameDiscard coded bs now) s = .next t ∧ t.twin.roleClash = true ∧ t.twin.castling = none ∧
        t.mb = (((u.bump 0xEF01).raise 0x0002 .crimson none [bitAt s.black 0]).raise 0xE012 .crimson none []).mb ∧
        (s.life.st.operating → s.split = false → t.auth = false ∧
          t.life.st = (if s.life.st = .safeStop then .safeStop else .standby)) ∧
        (s.life.st.operating = false → t.life = s.life ∧ t.auth = s.auth)) ∧
    ((s.twin.linkup = false ∨ u.clk.lclk < s.twin.frameAt + 1500000) → exec (.twinLinkLost now) s = .next u) ∧
    (s.twin.linkup = true → s.twin.frameAt + 1500000 ≤ u.clk.lclk →
      exec (.twinLinkLost now) s =
        .next (State.raise { u with twin := { s.twin with linkup := false, tstate := 0xF, tready := false } } 0xE013 .amber none [])) ∧
    ((s.twinOn = false ∨ s.twin.muted = true) → exec (.twinFrameTransmit now) s = .next u) ∧
    (s.twinOn → s.twin.muted = false →
      (s.twin.dueYield = true → ∃ t : State, exec (.twinFrameTransmit now) s = .next t ∧ t.twin.sent = some (1, ⟨s.twin.txSeq, 0xFF, []⟩) ∧
        t.twin.txSeq = s.twin.txSeq + 1 ∧ t.twin.dueYield = false ∧ t.auth = false ∧ t.twin.ccause = 3 ∧
        t.life.st = (if s.life.st = .safeStop then .safeStop else .standby) ∧
        ∀ l : AxisNo, t.ax[l].en = false ∧ t.ax[l].pwm.gates = false ∧ t.ax[l].fault = s.ax[l].fault) ∧
      (∀ w, s.twin.dueYield = false → s.twin.dueStatus = some w →
        exec (.twinFrameTransmit now) s = .next { u with twin :=
          { s.twin with sent := some (2, ⟨s.twin.txSeq, 0xFF, w ++ [u.gtUs]⟩), txSeq := s.twin.txSeq + 1, dueStatus := none } }) ∧
      (s.twin.dueYield = false → s.twin.dueStatus = none → s.castlePlanned = false →
        (∀ (l : AxisNo) (w : List Word), (∀ m : AxisNo, m.val < l.val → s.ax[m].mir.due = none) → s.ax[l].mir.due = some w →
          ∃ t : State, exec (.twinFrameTransmit now) s = .next t ∧
            t.twin = { s.twin with sent := some (3, ⟨s.twin.txSeq, BitVec.ofNat 8 l.val, w⟩), txSeq := s.twin.txSeq + 1 } ∧
            t.ax[l].mir = { s.ax[l].mir with due := none } ∧ (∀ m : AxisNo, m ≠ l → t.ax[m] = s.ax[m]) ∧ t.life = s.life) ∧
        ((∀ m : AxisNo, s.ax[m].mir.due = none) →
          (∀ (l : AxisNo) (w : List Word), (∀ m : AxisNo, m.val < l.val → s.ax[m].mir.cmpDue = none) → s.ax[l].mir.cmpDue = some w →
            ∃ t : State, exec (.twinFrameTransmit now) s = .next t ∧
              t.twin = { s.twin with sent := some (4, ⟨s.twin.txSeq, BitVec.ofNat 8 l.val, w⟩), txSeq := s.twin.txSeq + 1 } ∧
              t.ax[l].mir = { s.ax[l].mir with cmpDue := none } ∧ (∀ m : AxisNo, m ≠ l → t.ax[m] = s.ax[m]) ∧ t.life = s.life) ∧
          ((∀ m : AxisNo, s.ax[m].mir.cmpDue = none) →
            (∀ i w r, s.twin.dueSuper = (i, w) :: r →
              exec (.twinFrameTransmit now) s = .next { u with twin :=
                { s.twin with sent := some (5, ⟨s.twin.txSeq, i, w⟩), txSeq := s.twin.txSeq + 1, dueSuper := r } }) ∧
            (s.twin.dueSuper = [] → exec (.twinFrameTransmit now) s = .next u)))))

/-! ## The time bus and the vehicle networks -/

/-- R347, R360 to R368, R370, R371, R374 to R376: the cycles of the time bus. Once global time has reached the end of a cycle, a cycle start
steps CYC; the trimmed mean of the deviations is the offset, the NIT applies it within its limit, and the rate stays within 500 ppm: global
time itself makes no step. States and channels change by their counts; a guardian judges the ticks of its own oscillator, and outside the
windows of the lane's slots an attempt counts. A coldstart node announces once its timeout has passed, and listens again where its bits did not come
back. -/
def Obligations.TimeBusKeepsItsGrid : Prop :=
  ∀ (s u : State) (now : Ns), u = s.at now →
    (∀ (ticks : Vector Nat 2) (len : Int), len = s.vtbCycleNs →
      ((s.vtbOn = false ∨ s.vtb.st = .listen ∨ u.gt < s.vtb.cst + len) → exec (.vtbCycleStart ticks now) s = .next u) ∧
      (s.vtbOn → s.vtb.st ≠ .listen → s.vtb.cst + len ≤ u.gt →
        ∃ t : State, exec (.vtbCycleStart ticks now) s = .next t ∧ t.vtb.cyc = s.vtb.cyc + 1 ∧
          t.vtb.cst = s.vtb.cst + len ∧ (u.gt < s.vtb.cst + len + s.vtb.nitStart → t.gt = u.gt) ∧ t.vtb.first = false ∧ t.vtb.dev = [] ∧
          t.vtb.sentSync = false ∧ t.ax = s.ax ∧ t.life = s.life ∧ t.par = s.par ∧
          (s.vtb.first = true → s.vtb.st ≠ .sync → t.vtb.st = s.vtb.st) ∧
          (s.vtb.first = false →
            (-1 / 2000 ≤ t.clk.rate ∧ t.clk.rate ≤ 1 / 2000) ∧ t.vtb.nsync = min 8 s.vtb.syncVals.length ∧
            t.vtb.offs = trimmed (s.vtb.syncVals.map Prod.snd) ∧
            (s.vtb.st ≠ .passive → t.vtb.applied = clampQ t.vtb.offs (-2000) 2000) ∧
            (s.vtb.st = .passive → t.vtb.applied = clampQ t.vtb.offs (-((s.nitNs : Q) / 2)) ((s.nitNs : Q) / 2)) ∧
            (s.vtb.dev = [] → s.vtb.sentSync = false → t.vtb.offs = 0) ∧
            (∀ k d, s.vtb.dev = [(k, d)] → s.vtb.sentSync = false → t.vtb.offs = (d : Q)) ∧
            (∀ k d, s.vtb.dev = [(k, d)] → s.vtb.sentSync = true → s.vtb.st = .sync → t.vtb.offs = (d : Q) / 2) ∧
            (s.vtb.st = .coldstart → s.vtb.otherSync = true → 1 ≤ s.vtb.okRun → t.vtb.st = .sync) ∧
            (s.vtb.st = .coldstart → (s.vtb.otherSync = false ∨ s.vtb.okRun = 0) → t.vtb.st = .coldstart) ∧
            (s.vtb.st = .integrate → s.vtb.otherSync = false → t.vtb.st = .listen) ∧
            (s.vtb.st = .integrate → s.vtb.otherSync = true → t.vtb.st = if 1 ≤ s.vtb.okRun then .sync else .integrate) ∧
            (s.vtb.st = .passive → s.vtb.otherSync = true → 1 ≤ s.vtb.passRun → |t.vtb.offs| ≤ 2000 → t.vtb.st = .sync) ∧
            ((s.vtb.st = .sync ∨ s.vtb.st = .passive) → s.vtb.otherSync = false → 7 ≤ s.vtb.syncLost → t.vtb.st = .listen) ∧
            (s.vtb.st = .sync → s.vtb.otherSync = true → s.vtb.cyc ≠ 63 → t.vtb.st = .sync) ∧
            (s.vtb.st = .sync → s.vtb.otherSync = true → s.vtb.cyc = 63 → s.vtb.exceed = true → 1 ≤ s.vtb.exceedRuns →
              t.vtb.st = .passive) ∧
            (∀ (c : Fin 2) (mark : Bool),
              mark = (decide (50 * (10 * (ticks[c] : Int) - len).natAbs ≤ s.vtbCycleNs) &&
                (match s.vtb.chan[c].scale with
                 | some p => decide (1000 * ((p : Int) - ticks[c]).natAbs ≤ ticks[c])
                 | none => true)) →
              s.vtb.st = .sync → s.vtb.otherSync = true →
              (mark = true → t.vtb.chan[c].scale = some ticks[c] ∧ t.vtb.chan[c].rejected = 0) ∧
              (mark = false → t.vtb.chan[c].scale = s.vtb.chan[c].scale ∧ t.vtb.chan[c].rejected = s.vtb.chan[c].rejected + 1 ∧
                t.vtb.chan[c].accepted = 0) ∧
              (s.vtb.chan[c].heard = true → mark = true → t.vtb.chan[c].up = s.vtb.chan[c].up ∧ t.vtb.chan[c].silent = 0) ∧
              (s.vtb.chan[c].heard = false → 7 ≤ s.vtb.chan[c].silent → t.vtb.chan[c].up = false) ∧
              (mark = false → 3 ≤ s.vtb.chan[c].rejected → s.vtb.chan[c].gd = false →
                t.vtb.chan[c].gd = true ∧ t.vtb.chan[c].up = false ∧ t.vtb.chan[c].gdHard = s.vtb.chan[c].gdHard) ∧
              (mark = true → s.vtb.chan[c].gd = true → s.vtb.chan[c].gdHard = false → 1 ≤ s.vtb.chan[c].accepted →
                t.vtb.chan[c].gd = false))))) ∧
    (∀ (ch : Chan) (c : Fin 2), c = chanNo ch →
      (s.linkOn = false → exec (.guardianAttempt ch now) s = .next u ∧ ∀ w, exec (.guardianScheduleCrc ch w now) s = .next u) ∧
      (u.guardOpen c → exec (.guardianAttempt ch now) s = .next u) ∧
      (s.linkOn → u.guardOpen c = false → s.canonical → (s.counter (chanCnt c 3)).toNat < 65534 →
        ∃ t : State, exec (.guardianAttempt ch now) s = .next t ∧ t.counter (chanCnt c 3) = s.counter (chanCnt c 3) + 1 ∧
          t.vtb.chan[c].attempts = s.vtb.chan[c].attempts + 1 ∧ t.vtb.st = s.vtb.st ∧ t.ax = s.ax ∧
          (s.vtb.chan[c].attempts + 1 < s.pn P.vtbGdn → t.vtb.chan[c].gd = s.vtb.chan[c].gd ∧ t.vtb.chan[c].up = s.vtb.chan[c].up) ∧
          (s.pn P.vtbGdn ≤ s.vtb.chan[c].attempts + 1 → s.vtb.chan[c].gdHard = false →
            t.vtb.chan[c].gd = true ∧ t.vtb.chan[c].gdHard = true ∧ t.vtb.chan[c].up = false)) ∧
      (s.linkOn → ∀ (w crc : Word), crc = crc32 (bytesOf ((List.range 64).map fun i => s.pw P.vtbSlot 0 i)) →
        ((w = crc ∨ s.vtb.chan[c].gdHard = true) → exec (.guardianScheduleCrc ch w now) s = .next u) ∧
        (w ≠ crc → s.vtb.chan[c].gdHard = false →
          ∃ t : State, exec (.guardianScheduleCrc ch w now) s = .next t ∧ t.vtb.chan[c].gd = true ∧ t.vtb.chan[c].gdHard = true ∧
            t.vtb.chan[c].up = false ∧ t.vtb.st = s.vtb.st ∧ t.ax = s.ax)) ∧
      ((s.vtb.st ≠ .sync ∨ s.vtb.chan[c].silent < 8 ∨ s.vtb.chan[c].up = false) → exec (.vtbChannelDown ch now) s = .next u) ∧
      (s.vtb.st = .sync → 8 ≤ s.vtb.chan[c].silent → s.vtb.chan[c].up = true →
        ∃ v : State, exec (.vtbChannelDown ch now) s = .next (v.raise 0xB003 .amber none [BitVec.ofNat 32 c.val]) ∧
          v.vtb.chan[c] = { s.vtb.chan[c] with up := false, silent := 0 } ∧ (∀ d : Fin 2, d ≠ c → v.vtb.chan[d] = s.vtb.chan[d]) ∧
          { v with vtb := s.vtb } = u)) ∧
    ((s.vtb.st ≠ .sync ∧ s.vtb.st ≠ .passive ∨ s.vtb.exceedRuns < 2 ∧ s.vtb.syncLost < 8) → exec (.vtbSyncLost now) s = .next u) ∧
    (s.vtb.st = .sync → 2 ≤ s.vtb.exceedRuns → ∃ t : State, exec (.vtbSyncLost now) s = .next t ∧ t.vtb.st = .passive ∧ t.ax = s.ax) ∧
    ((s.vtb.st = .passive ∨ s.vtb.st = .sync ∧ s.vtb.exceedRuns < 2) → 8 ≤ s.vtb.syncLost →
      ∃ t : State, exec (.vtbSyncLost now) s = .next t ∧ t.vtb.st = .listen ∧ t.vtb.listenAt = u.clk.lclk ∧ t.ax = s.ax) ∧
    exec (.vtbBusActivityEnd now) s =
      .next (if s.vtb.st = .listen then { u with vtb := { s.vtb with listenAt := u.clk.lclk } } else u) ∧
    ∀ echo : Vector (List Bool) 2,
      ((s.vtbOn = false ∨ s.vtb.st ≠ .listen ∨ s.coldNode = false ∨
          u.clk.lclk < s.vtb.listenAt + 2 * s.vtbCycleNs + 1000 * s.pn P.vtbCsoff 0 s.idx.val) →
        exec (.coldstartTimeout echo now) s = .next u) ∧
      (∀ e, s.vtbOn → s.vtb.st = .listen → s.coldNode → s.ownSync = some e → 0 < s.vtbCycleNs →
        s.vtb.listenAt + 2 * s.vtbCycleNs + 1000 * s.pn P.vtbCsoff 0 s.idx.val ≤ u.clk.lclk →
        ∃ (t : State) (f : List Byte), exec (.coldstartTimeout echo now) s = .next t ∧ t.vtb.cyc = 0 ∧ t.vtb.first = true ∧
          t.gt = t.vtb.cst ∧ t.vtb.cst % (64 * s.vtbCycleNs : Int) = 0 ∧ u.gt ≤ t.vtb.cst ∧ t.vtb.cst < u.gt + 64 * s.vtbCycleNs ∧
          f = vtbFrame (BitVec.ofNat 6 e.slot) 0 true true (some t.vtb.cst) [] ∧ t.vtb.sent = some (BitVec.ofNat 6 e.slot, f) ∧
          t.ax = s.ax ∧
          (((∃ c : Fin 2, s.vtb.chan[c].gd = false) ∧
              ∀ c : Fin 2, s.vtb.chan[c].gd = false → echo[c] = vtbBits (s.pn P.vtbTss) f) →
            t.vtb.st = .coldstart ∧ t.life = s.life ∧ t.vtb.csatt = s.vtb.csatt) ∧
          (((∀ c : Fin 2, s.vtb.chan[c].gd = true) ∨
              ∃ c : Fin 2, s.vtb.chan[c].gd = false ∧ echo[c] ≠ vtbBits (s.pn P.vtbTss) f) →
            t.vtb.st = .listen ∧ t.vtb.csatt.toNat = min 8 (s.vtb.csatt.toNat + 1) ∧
            (7 ≤ s.vtb.csatt.toNat → t.vtb.csabort = true)))

/-- R344, R351, R356 to R358, R363, R364, R371 to R373, R375, R407: the frames of the time bus. A lane sends only at the action points of its own used
slots, on the channels whose guardians pass them: the block of the vehicle cycle, a message of its TX queue, or a tempo frame. A received
frame is placed by its start and counts at the first check that it fails. A valid one of another node brings its channel up, counts for the
synchronisation and is queued. In LISTEN it gives the grid and the time. -/
def Obligations.TimeBusFramesAct : Prop :=
  ∀ (s u : State) (now : Ns), u = s.at now →
    (∀ (slot : BitVec 6) (echo : Vector (List Bool) 2),
      ((s.vtbOn = false ∨ s.slotOf slot.toNat = none ∨ (s.vtb.st ≠ .sync ∧ s.vtb.st ≠ .coldstart)) →
        exec (.vtbSlotTransmit slot echo now) s = .next u) ∧
      (∀ e, s.slotOf slot.toNat = some e →
        ((s.ownsSlot e.word = false ∨ slotUsed e.word s.vtb.cyc.toNat = false ∨ (s.vtb.st = .coldstart ∧ s.vtb.first = true) ∨
            8 ≤ (u.gt - (s.vtb.cst + e.start + 2000)).natAbs ∨
            ∀ c : Fin 2, (slotCh e.word / 2 ^ c.val) % 2 = 1 → s.vtb.chan[c].gd = true) →
          exec (.vtbSlotTransmit slot echo now) s = .next u) ∧
        (s.vtbOn → (s.vtb.st = .sync ∨ s.vtb.st = .coldstart ∧ s.vtb.first = false) → s.ownsSlot e.word → slotUsed e.word s.vtb.cyc.toNat →
          (u.gt - (s.vtb.cst + e.start + 2000)).natAbs < 8 →
          (∃ c : Fin 2, s.vtb.chan[c].gd = false ∧ (slotCh e.word / 2 ^ c.val) % 2 = 1) →
          s.fitsSlot e.word (frameLen 0 (s.syncSlots.contains e)) →
          ∀ cst up, cst = (if s.syncSlots.contains e then some s.vtb.cst else none) →
            up = (s.syncSlots.contains e && decide (s.vtb.st = .coldstart)) →
          (slotKind e.word = 3 → s.mb.queues[(10 : Fin 16)].entries = [] →
            ∃ (t : State) (f : List Byte), exec (.vtbSlotTransmit slot echo now) s = .next t ∧
              f = vtbFrame slot s.vtb.cyc true up cst [] ∧ t.vtb.sent = some (slot, f) ∧ t.ax = s.ax ∧
              ((up = false ∨ ∀ c : Fin 2, s.vtb.chan[c].gd = false → (slotCh e.word / 2 ^ c.val) % 2 = 1 →
                  echo[c] = vtbBits (s.pn P.vtbTss) f) → t.vtb.st = s.vtb.st ∧ t.cnt = s.cnt) ∧
              (up = true → (∃ c : Fin 2, s.vtb.chan[c].gd = false ∧ (slotCh e.word / 2 ^ c.val) % 2 = 1 ∧
                  echo[c] ≠ vtbBits (s.pn P.vtbTss) f) →
                t.vtb.st = .listen ∧ t.vtb.csatt.toNat = min 8 (s.vtb.csatt.toNat + 1))) ∧
          (∀ (x : QEntry) r, s.vtb.st = .sync → slotKind e.word = 3 → s.mb.queues[(10 : Fin 16)].entries = x :: r →
            x.desc.getLsbD 17 = false → descLen x.desc ≤ 10 → s.fitsSlot e.word (frameLen (descLen x.desc) (s.syncSlots.contains e)) →
            ∃ t : State, exec (.vtbSlotTransmit slot echo now) s = .next t ∧
              t.vtb.sent = some (slot, vtbFrame slot s.vtb.cyc false false cst (((x.slot.drop 6).take 10).take (descLen x.desc))) ∧
              t.mb.queues[(10 : Fin 16)].entries = r ∧ t.cnt = s.cnt) ∧
          (∀ k : Fin 3, s.vtb.st = .sync → slotKind e.word = k.val → s.vote.commit[k] = none →
            ∃ t : State, exec (.vtbSlotTransmit slot echo now) s = .next t ∧
              t.vtb.sent = some (slot, vtbFrame slot s.vtb.cyc true false cst []) ∧
              t.vtb.slotSeen[k] = some ((s.vtb.cst + e.start) / 1000000) ∧ t.vote = s.vote) ∧
          (∀ (k : Fin 3) pl, s.vtb.st = .sync → slotKind e.word = k.val → s.vote.commit[k] = some pl → s.life.st.operating →
            s.split = false → s.vote.commitFor = (s.vtb.cst + e.start) / 1000000 →
            s.vtb.slotSeen[k] ≠ some ((s.vtb.cst + e.start) / 1000000) →
            s.life.cycEnd / 8 < s.localOf (s.vtb.cst + e.start) / 8 →
            s.fitsSlot e.word (frameLen (pl.length + 3) (s.syncSlots.contains e)) →
            ∃ t : State, exec (.vtbSlotTransmit slot echo now) s = .next t ∧
              t.vtb.sent = some (slot, vtbFrame slot s.vtb.cyc false false cst
                (wordsOf (s.nov.own.next (s.pn P.nvPubcid + s.idx.val) u.gtUs (s.blockNow pl)).msg)) ∧
              t.vtb.sentBlk[k] = true ∧ t.vtb.slotSeen[k] = some ((s.vtb.cst + e.start) / 1000000))))) ∧
    (∀ (ch : Chan) (c : Fin 2) (f : VtbIn), c = chanNo ch →
      (s.vtbOn = false → exec (.vtbFrameReceived ch f now) s = .next u) ∧
      (s.vtbOn → s.vtb.st ≠ .listen → ∀ (at_ : Int) (read : Option (List Byte)), at_ = s.gtAt (s.frameStart f) - s.vtb.cst →
        read = (s.vtbRead f).2 →
        (s.slotAt at_ = none → exec (.vtbFrameReceived ch f now) s = .next u) ∧
        (∀ (e : SlotEnt) (dev : Int), s.slotAt at_ = some e → dev = at_ - (e.start + 2000) →
          ((dev < -1000 ∨ 1000 < dev) → exec (.vtbFrameReceived ch f now) s = .next (u.bump (chanCnt c 0))) ∧
          (-1000 ≤ dev → dev ≤ 1000 →
            ((read = none ∨ ∃ bs, read = some bs ∧ parseHdr bs = none) →
              exec (.vtbFrameReceived ch f now) s = .next (u.bump (chanCnt c 1))) ∧
            (∀ bs h, read = some bs → parseHdr bs = some h →
              ((h.slot ≠ BitVec.ofNat 6 e.slot ∨ h.cyc ≠ s.vtb.cyc ∨ (h.sync = true ∧ h.cst ≠ s.vtb.cst) ∨ s.lenOk e h = false) →
                exec (.vtbFrameReceived ch f now) s = .next (u.bump (chanCnt c 2))) ∧
              (h.slot = BitVec.ofNat 6 e.slot → h.cyc = s.vtb.cyc → (h.sync = true → h.cst = s.vtb.cst) → s.lenOk e h = true →
                (frameCrcOk bs = false → exec (.vtbFrameReceived ch f now) s = .next (u.bump (chanCnt c 1))) ∧
                (frameCrcOk bs = true →
                  (s.ownsSlot e.word → exec (.vtbFrameReceived ch f now) s = .next u) ∧
                  (s.ownsSlot e.word = false → h.null = true →
                    ∃ t : State, exec (.vtbFrameReceived ch f now) s = .next t ∧ t.vtb.chan[c].heard = true ∧
                      t.vtb.chan[c].up = (s.vtb.chan[c].up || !s.vtb.chan[c].gd) ∧ t.vtb.st = s.vtb.st ∧ t.ax = s.ax ∧
                      t.mb.queues[(11 : Fin 16)] = s.mb.queues[(11 : Fin 16)] ∧
                      t.vtb.dev = s.vtb.dev ++
                        (if h.sync && s.syncSlots.contains e && !s.vtb.first then [(syncKey e, dev)] else [])) ∧
                  (s.ownsSlot e.word = false → h.null = false → s.vtb.st ≠ .integrate →
                    ¬(1 ≤ slotOwner e.word ∧ slotOwner e.word ≤ 6 ∧ slotKind e.word < 3) →
                    s.connOf (nvCid (bytesOf h.payload)) = none → s.vtb.rxCopy = none → 2 ≤ s.room 11 →
                    ∃ t : State, exec (.vtbFrameReceived ch f now) s = .next t ∧
                      t.mb.queues[(11 : Fin 16)].entries = s.mb.queues[(11 : Fin 16)].entries ++
                        rxSlots h.slot h.cyc (decide (ch = .x)) (decide (ch = .y))
                          (BitVec.ofInt 32 (s.vtb.cst + e.start + 2000 + dev)) h.payload ∧
                      t.vtb.chan[c].heard = true ∧ t.ax = s.ax))))))) ∧
      (s.vtbOn → s.vtb.st = .listen → ∀ bs, bs = (s.vtbRead f).2.getD [] →
        ((parseHdr bs = none ∨ frameCrcOk bs = false) → exec (.vtbFrameReceived ch f now) s = .next u) ∧
        (∀ h (x : Nat), parseHdr bs = some h → frameCrcOk bs = true →
          (if h.null && h.sync && h.startup && h.cyc == 0 && h.len == 0 then x = 0
            else ∃ e, s.slotOf h.slot.toNat = some e ∧ x = e.start ∧ s.lenOk e h) →
          (h.sync = true → s.vtbCycleNs ≠ 0 → h.cst % (s.vtbCycleNs : Int) = 0 → (h.cst / (s.vtbCycleNs : Int)) % 64 = h.cyc.toNat →
            ∃ t : State, exec (.vtbFrameReceived ch f now) s = .next t ∧ t.vtb.st = .integrate ∧ t.vtb.cyc = h.cyc ∧ t.vtb.cst = h.cst ∧
              t.vtb.first = true ∧ t.clk = { u.clk with gbase := h.cst + x + 2000, lbase := s.frameStart f } ∧ t.ax = s.ax ∧
              t.vtb.chan[c].up = (s.vtb.chan[c].up || !s.vtb.chan[c].gd)) ∧
          ((h.sync = false ∨ h.cst % (s.vtbCycleNs : Int) ≠ 0) →
            ∃ t : State, exec (.vtbFrameReceived ch f now) s = .next t ∧ t.vtb.st = .listen ∧ t.clk = u.clk ∧ t.ax = s.ax))))

/-- R382 to R390: the vehicle networks. The first message of a controller leaves, or is dropped and counted after its time. A received CAN
frame counts as an error, is rejected and counted, or enters its queue; a datagram enters its queue by its port or counts, and the oldest of the
TX queue leaves with its tag, its next hop and its timestamp. -/
def Obligations.NetworksMoveMessages : Prop :=
  ∀ (s u : State) (now : Ns), u = s.at now →
    (∀ n : Fin 2,
      (∀ f : CanIn,
        (s.canOn n = false → exec (.canFrameReceived n f now) s = .next u) ∧
        (s.canOn n → f.ok = false → exec (.canFrameReceived n f now) s = .next (u.bump (0xC000 + 256 * n.val))) ∧
        (s.canOn n → f.ok = true → (f.rtr = true ∨ ∀ k, k < 16 → s.canMatch n f k = false) →
          exec (.canFrameReceived n f now) s = .next (u.bump (0xC001 + 256 * n.val))) ∧
        (∀ k, s.canOn n → f.ok = true → f.rtr = false → k < 16 → s.canMatch n f k → (∀ j, j < k → s.canMatch n f j = false) →
          (s.canFilter n k).1.getLsbD 30 = false → 2 ≤ s.room 13 →
          ∃ t : State, exec (.canFrameReceived n f now) s = .next t ∧
            t.mb.queues[(13 : Fin 16)].entries =
              s.mb.queues[(13 : Fin 16)].entries ++ (canSlots n f u.gtUs).map (fun w => ⟨.spi, w⟩) ∧
            (∀ q : Fin 16, q ≠ 13 → t.mb.queues[q] = s.mb.queues[q]) ∧ { t with mb := u.mb } = u) ∧
        (∀ k, s.canOn n → f.ok = true → f.rtr = false → k < 16 → s.canMatch n f k → (∀ j, j < k → s.canMatch n f j = false) →
          (s.canFilter n k).1.getLsbD 30 = true → exec (.canFrameReceived n f now) s = .next (u.nvNetwork n.val f.data true))) ∧
      (s.mb.queues[(12 : Fin 16)].entries = [] → exec (.canFrameSent n now) s = .next u ∧ exec (.canTxTimeout n now) s = .next u) ∧
      (∀ (x : QEntry) (at_ : Ns), s.mb.queues[(12 : Fin 16)].entries = [x] → s.mb.canAt = [at_] → CanEnt.ctl (x, at_) = n →
        CanEnt.bad (x, at_) (s.canMode n) = false → CanEnt.long (x, at_) = false →
        (s.canOn n → ((CanEnt.frame (x, at_) []).fdf = true → s.canMode n = 2) →
          ∃ t : State, exec (.canFrameSent n now) s = .next t ∧ t.can[n].sent = some (CanEnt.frame (x, at_) []) ∧
            t.mb.queues[(12 : Fin 16)].entries = [] ∧ t.mb.canAt = [] ∧
            t.mb.queues[(12 : Fin 16)].rptr = (s.mb.queues[(12 : Fin 16)].rptr + 1) % 32 ∧ t.ax = s.ax ∧ t.cnt = s.cnt) ∧
        ((s.canOn n = false ∨ ((CanEnt.frame (x, at_) []).fdf = true ∧ s.canMode n ≠ 2)) →
          exec (.canFrameSent n now) s = .next u) ∧
        ((s.netOn = false ∨ u.clk.lclk < at_ + 1000000 * s.pn P.canTxtmo 0 n.val) → exec (.canTxTimeout n now) s = .next u) ∧
        (s.netOn → at_ + 1000000 * s.pn P.canTxtmo 0 n.val ≤ u.clk.lclk →
          ∃ t : State, exec (.canTxTimeout n now) s = .next t ∧ t.mb.queues[(12 : Fin 16)].entries = [] ∧ t.can = s.can ∧
            (s.canonical → (s.counter (0xC002 + 256 * n.val)).toNat < 65534 →
              t.counter (0xC002 + 256 * n.val) = s.counter (0xC002 + 256 * n.val) + 1))) ∧
      (s.canOn n = false → exec (.canBusoff n now) s = .next u) ∧
      (s.canOn n →
        ∃ v : State, exec (.canBusoff n now) s = .next (v.raise 0xC001 .amber none [BitVec.ofNat 32 n.val]) ∧
          v.can[n] = { s.can[n] with busoff := true } ∧ (∀ m : Fin 2, m ≠ n → v.can[m] = s.can[m]) ∧ { v with can := s.can } = u) ∧
      ((s.netOn = false ∨ s.can[n].busoff = false) → exec (.canRecovered n now) s = .next u) ∧
      (s.netOn → s.can[n].busoff = true →
        ∃ v : State, exec (.canRecovered n now) s = .next (v.raise 0xC002 .grey none [BitVec.ofNat 32 n.val]) ∧
          v.can[n] = { s.can[n] with busoff := false } ∧ (∀ m : Fin 2, m ≠ n → v.can[m] = s.can[m]) ∧ { v with can := s.can } = u)) ∧
    (∀ f : EthIn,
      ((s.macOn = false ∨ s.ethAccepts f = false) → exec (.ethFrameReceived f now) s = .next u) ∧
      (∀ v : State, v = { u with eth := { s.eth with recvAt := u.gt / 8 * 8 } } → s.macOn → s.ethAccepts f →
        (f.kind = .other → exec (.ethFrameReceived f now) s = .next v) ∧
        (∀ ip, (f.kind = .arp ip ∨ f.kind = .echo ip) →
          exec (.ethFrameReceived f now) s =
            .next (if ip = s.ownIp then
              { v with eth := { v.eth with answered := s.eth.answered + 1, sentTag := s.vlanTag, sentAt := u.gt / 8 * 8 } } else v)) ∧
        (∀ ip sp dp data, f.kind = .udp ip sp dp true data → exec (.ethFrameReceived f now) s = .next v) ∧
        (∀ ip sp dp data, f.kind = .udp ip sp dp false data →
          (dp.toNat ≠ s.pn P.ethTport → dp.toNat ≠ s.pn P.ethNport → dp.toNat ≠ s.pn P.ethDport →
            exec (.ethFrameReceived f now) s = .next (v.bump 0xC200)) ∧
          (dp.toNat = s.pn P.ethTport → (data.length % 64 ≠ 0 ∨ data.length = 0 ∨ 1408 < data.length) →
            exec (.ethFrameReceived f now) s = .next (v.bump 0xC201)) ∧
          (dp.toNat ≠ s.pn P.ethTport → dp.toNat = s.pn P.ethNport →
            exec (.ethFrameReceived f now) s = .next (v.nvNetwork 2 data false)) ∧
          (dp.toNat ≠ s.pn P.ethTport → dp.toNat ≠ s.pn P.ethNport → dp.toNat = s.pn P.ethDport →
            (40 < data.length → exec (.ethFrameReceived f now) s = .next (v.bump 0xC200)) ∧
            (data.length ≤ 40 → 0 < s.room 15 →
              ∃ (t : State) (w : Slot), exec (.ethFrameReceived f now) s = .next t ∧
                t.mb.queues[(15 : Fin 16)].entries = s.mb.queues[(15 : Fin 16)].entries ++ [⟨.spi, w⟩] ∧ w.getD 4 0 = ip ∧
                w.getD 5 0 = sp.setWidth 32 ||| (dp.setWidth 32 <<< 16) ∧
                (∀ q : Fin 16, q ≠ 15 → t.mb.queues[q] = s.mb.queues[q]) ∧ { t with mb := u.mb } = v))))) ∧
    ((s.macOn = false ∨ s.mb.queues[(14 : Fin 16)].entries = []) → exec (.ethDatagramSent now) s = .next u) ∧
    (∀ (x : QEntry) r, s.macOn → s.mb.queues[(14 : Fin 16)].entries = x :: r →
      ∃ t : State, exec (.ethDatagramSent now) s = .next t ∧ t.mb.queues[(14 : Fin 16)].entries = r ∧
        t.eth.sent = some ((s.pw (if laneSlot x.slot then P.ethNport else P.ethDport)).setWidth 16, x.slot.getD 4 0,
          (x.slot.getD 5 0).setWidth 16, (bytesOf (x.slot.drop 6)).take (((x.slot.getD 0 0).toNat / 2 ^ 20) % 64 - 8)) ∧
        t.eth.sentAt = u.gt / 8 * 8 ∧
        t.eth.sentTag = (if (s.pw P.ethVlan).getLsbD 15 then some ((s.pw P.ethVlan).setWidth 16 &&& 0x7FFF) else none) ∧
        t.eth.sentHop = (if x.slot.getD 4 0 &&& s.pw P.ethNetmask = s.ownIp &&& s.pw P.ethNetmask ∨ s.pw P.ethGw = 0 then x.slot.getD 4 0
          else s.pw P.ethGw) ∧
        (∀ q : Fin 16, q ≠ 14 → t.mb.queues[q] = s.mb.queues[q]) ∧ t.ax = s.ax ∧ t.cnt = s.cnt)

/-! ## Lifecycle and self-test -/

/-- R35, R292, R426 to R440, R512 to R516: sleep, wake, reset and start. A source wakes the lane by its power state, or waits where CONTROL has been low
for less than 500 µs; none leaves FAIL_SILENT. An entry runs its steps, and a latched source abandons it. A resume compares the signatures. A start goes through its steps in order and stops where
a check fails. -/
def Obligations.LifecycleFollowsItsSteps : Prop :=
  ∀ (s u : State) (now : Ns), u = s.at now →
    (∀ w : WakeSrc,
      ((s.aon.armed = false ∨ s.wakeEnabled w = false) → exec (.wakeSource w now) s = .next u) ∧
      (s.aon.armed = true → s.wakeEnabled w → s.st.run = none →
        ∀ a, a = { s.aon with wakesrc := s.aon.wakesrc ||| ((1 : Word) <<< wakeBit w), capture := u.gt.toNat } →
        ((s.life.ps = .run ∨ s.life.ps = .doze ∧ s.life.st = .failSilent) → exec (.wakeSource w now) s = .next { u with aon := a }) ∧
        (s.life.ps = .doze → s.life.st ≠ .failSilent →
          ∃ t : State, exec (.wakeSource w now) s = .next t ∧ t.life.st = .boot ∧ t.life.ps = .run ∧
            t.life.step = (if s.split then 5 else 4) ∧ t.life.wakeAt = u.clk.lclk ∧ t.aon.armed = false ∧ t.aon.wakesrc = a.wakesrc ∧
            t.auth = false ∧ (∀ l : AxisNo, t.ax[l].en = false ∧ t.ax[l].pwm.gates = false ∧ t.ax[l].com.cval = false) ∧
            t.par.stored = s.par.stored) ∧
        (s.life.ps = .sleep → s.aon.control = false →
          (u.clk.lclk < s.aon.controlAt + 500000 →
            exec (.wakeSource w now) s =
              .next { u with aon := { a with replay := some (s.aon.replay.getD (wakeBit w, u.gt.toNat)) } }) ∧
          (s.aon.controlAt + 500000 ≤ u.clk.lclk → s.life.st ≠ .failSilent →
            ∃ t : State, exec (.wakeSource w now) s = .next t ∧ t.aon.control = true ∧ t.aon.controlAt = u.clk.lclk ∧
              t.aon.armed = false ∧ t.aon.wakesrc = a.wakesrc ∧ t.life = { s.life with wakeAt := u.clk.lclk } ∧ t.ax = s.ax)))) ∧
    ((s.aon.timer = none ∨ s.pn P.pwrWtimer = 0) → exec (.wakeTimer now) s = .next u) ∧
    (∀ n, s.aon.timer = some n → s.pn P.pwrWtimer ≠ 0 →
      exec (.wakeTimer now) s = if 32768 * s.pn P.pwrWtimer ≤ n then exec (.wakeSource .timer now) s else .next u) ∧
    (s.aon.replay = none → exec (.wakeReplayed now) s = .next u) ∧
    (∀ b c, s.aon.replay = some (b, c) → s.life.ps = .sleep → s.aon.control = false →
      (u.clk.lclk < s.aon.controlAt + 500000 → exec (.wakeReplayed now) s = .next u) ∧
      (s.aon.controlAt + 500000 ≤ u.clk.lclk → s.life.st ≠ .failSilent →
        ∃ t : State, exec (.wakeReplayed now) s = .next t ∧ t.aon.replay = none ∧ t.aon.control = true ∧ t.aon.controlAt = u.clk.lclk ∧
          t.life.st = s.life.st ∧ t.ax = s.ax)) ∧
    (∀ ap : Fin 4, s.life.entry = none → exec (.sleepEntryAbortPoint ap now) s = .next u) ∧
    (∀ (ap : Fin 4) (e : Entry), s.life.entry = some e →
      ((e.passed ≠ ap.val ∨ e.arming = true) → exec (.sleepEntryAbortPoint ap now) s = .next u) ∧
      (e.passed = ap.val → e.arming = false → s.life.plc = none → s.life.st ≠ .selftest →
        ((s.aon.wakesrc ≠ 0 ∨ e.abort = true) →
          ∃ t : State, exec (.sleepEntryAbortPoint ap now) s = .next t ∧ t.life.entry = none ∧ t.life.domains = e.doms ∧
            t.life.isolated = 0 ∧ t.life.st = s.life.st ∧ t.aon.armed = false ∧ t.aon.timer = none ∧ t.ax = s.ax ∧ t.auth = s.auth) ∧
        (s.aon.wakesrc = 0 → e.abort = false →
          (ap = 0 → s.twin.planned = none →
            ∃ t : State, exec (.sleepEntryAbortPoint ap now) s = .next t ∧ t.auth = false ∧ t.vtb.st = .off ∧
              (∀ l : AxisNo, t.ax[l].com.cval = false) ∧
              (s.auth = true → t.twin.sent = some (1, ⟨s.twin.txSeq, 0xFF, []⟩) ∧
                ∀ l : AxisNo, t.ax[l].en = false ∧ t.ax[l].pwm.gates = false) ∧
              (e.kind = .doze → t.life.st = .sleep ∧ t.life.ps = .doze ∧ t.life.entry = none ∧ t.aon.keptOp = some e.op) ∧
              (e.kind ≠ .doze → t.life.entry = some { e with passed := 1 } ∧ t.life.ps = s.life.ps)) ∧
          (ap = 1 → e.kind = .sleep →
            ∃ t : State, exec (.sleepEntryAbortPoint ap now) s = .next t ∧ t.life = { s.life with entry := some { e with passed := 2 } } ∧
              t.aon.sigValid = true ∧ t.aon.sigerr = false ∧ (∀ i : Fin 28, t.aon.sigs[i] = Config.freeWord (s.free + i.val)) ∧
              { t with life := u.life, aon := u.aon, free := u.free } = u) ∧
          (ap = 1 → e.kind ≠ .sleep → exec (.sleepEntryAbortPoint ap now) s =
            .next { u with life := { s.life with entry := some { e with passed := 2 } }, aon := { s.aon with sigValid := false } }) ∧
          (ap = 2 → exec (.sleepEntryAbortPoint ap now) s =
            .next { u with life :=
              { s.life with entry := some { e with passed := 3 }, domains := s.life.domains &&& 1, isolated := 0 } }) ∧
          (ap = 3 →
            ∃ t : State, exec (.sleepEntryAbortPoint ap now) s = .next t ∧ t.aon.control = false ∧ t.aon.controlAt = u.clk.lclk ∧
              t.aon.keptOp = some e.op ∧ t.life.domains = 0 ∧ t.life.entry = none ∧ t.life.drdy = false ∧
              t.life.st = (if e.kind = .shutdown then .off else .sleep) ∧
              t.life.ps = (if e.kind = .shutdown then .shutdown else .sleep))))) ∧
    (s.life.plc = none → exec (.sleepGrantTimeout now) s = .next u) ∧
    (∀ c, s.life.plc = some c → exec (.sleepGrantTimeout now) s =
      .next (if (s.life.entry.isSome ∨ s.life.shutdown.isSome) ∧ c.waiting = true ∧ c.since + 10000000 ≤ u.clk.lclk then
        { u with life := { s.life with plc := none } } else u)) ∧
    (∀ sigs par, (s.life.st ≠ .sleep ∨ s.life.ps ≠ .sleep ∨ s.aon.control = false) →
      exec (.resumeSupplyConfirmed sigs par now) s = .next u) ∧
    (∀ sigs par (lost : BitVec 28), s.life.st = .sleep → s.life.ps = .sleep → s.aon.control = true →
      (∀ i : Fin 28, lost.getLsbD i.val = (decide (sigs[i] ≠ s.aon.sigs[i]) || par.getLsbD i.val)) →
      ∃ t : State, exec (.resumeSupplyConfirmed sigs par now) s = .next t ∧ t.life.st = .boot ∧ t.life.ps = .run ∧ t.aon.lost = lost ∧
        t.life.step = (if lost &&& lostCold ≠ 0 then 1 else if s.split then 5 else 4) ∧
        t.life.reason = (if lost &&& (lostCold ||| lostSafety) ≠ 0 then 2 else 0) ∧ t.par.stored = s.par.stored ∧
        ∀ l : AxisNo, t.ax[l].en = false ∧ t.ax[l].pwm.gates = false) ∧
    (∀ (st : Straps),
      (∃ t : State, exec (.nrst false st now) s = .next t ∧ t.life.st = .off ∧ t.life.nrstLow = true ∧ t.aon.control = false ∧
        t.life.domains = 0 ∧ t.regs.scratch = 0 ∧ t.regs.inten = 0 ∧ t.par.stored = s.par.stored ∧ t.aon.failrec = s.aon.failrec ∧
        ∀ l : AxisNo, t.ax[l].en = false ∧ t.ax[l].pwm.gates = false) ∧
      (s.life.nrstLow = false → exec (.nrst true st now) s = .next u) ∧
      (s.life.nrstLow = true → s.aon.powered = true →
        ∃ t : State, exec (.nrst true st now) s = .next t ∧ t.life.st = .boot ∧ t.life.step = 0 ∧ t.life.nrstLow = false ∧
          t.ident.straps = st ∧ t.aon.control = true ∧ t.aon.controlAt = u.clk.lclk)) ∧
    (∀ crystal lane, s.life.nrstLow = false →
      ∃ t : State, exec (.vddAonApplied crystal lane) s = .next t ∧ t.life.st = .boot ∧ t.life.step = 0 ∧ t.ident.lane = lane ∧
        t.ident.crystal = crystal ∧ t.aon.failrec = 0 ∧ t.aon.testrec = 0 ∧ t.aon.control = true ∧ t.cnt = [] ∧
        t.par.stored = s.par.stored) ∧
    (∃ t : State, exec .vddAonLost s = .next t ∧ t.life.st = .off ∧ t.aon.powered = false ∧ t.life.domains = 0 ∧
      t.par.stored = s.par.stored ∧ ∀ l : AxisNo, t.ax[l].en = false ∧ t.ax[l].pwm.gates = false) ∧
    (∀ (vA vB : BitVec 16) (hA hB okA okB : Bool),
      ((s.life.st ≠ .boot ∨ (s.life.step ≠ 1 ∧ s.life.step ≠ 2) ∨ 3 ≤ s.regs.bstate.toNat) →
        exec (.firmwareImageCheck vA vB hA hB okA okB now) s = .next u) ∧
      (s.life.st = .boot → (s.life.step = 1 ∨ s.life.step = 2) → s.regs.bstate.toNat < 3 →
        ∀ (first : Bool), first = (hB && (!hA || decide (vA.toNat < vB.toNat))) →
        ∃ t : State, exec (.firmwareImageCheck vA vB hA hB okA okB now) s = .next t ∧ t.life.st = .boot ∧
          ((okA || okB) = true → t.life.step = 3 ∧ t.regs.bstate = 2 ∧
            t.ident.bank = (if (if first then okB else okA) then first else !first) ∧
            t.ident.version = (if t.ident.bank then vB else vA) ∧ t.ident.fallback = !(if first then okB else okA) ∧
            t.life.reason = (if (if first then okB else okA) then s.life.reason else s.life.reason ||| 4)) ∧
          ((okA || okB) = false → t.life.step = 2 ∧ t.regs.bstate = (if s.ident.straps.bootsrc then 4 else 3) ∧
            t.ident = s.ident))) ∧
    ((s.life.st ≠ .boot ∨ s.life.step ≠ 3) → exec (.configurationLoad now) s = .next u) ∧
    (s.life.st = .boot → s.life.step = 3 → s.aon.postWake = none → s.aon.postTimer = none →
      exec (.configurationLoad now) s = .next { u with
        par := { s.par with eff := s.par.stored, written := [], posted := [] }, life := { s.life with step := if s.split then 5 else 4 } }) ∧
    ((s.life.st ≠ .boot ∨ s.life.step ≠ 5) → exec (.verdictCheck now) s = .next u) ∧
    (s.life.st = .boot → s.life.step = 5 → s.twin.claim = false →
      ((s.recordPass = false ∨ s.life.mustFull = true) →
        ∃ t : State, exec (.verdictCheck now) s = .next t ∧ t.life.st = .selftest ∧ t.life.step = 6 ∧ t.life.full = true ∧
          t.life.mustFull = false ∧ t.life.reason = s.life.reason ||| 1 ∧ t.ax = s.ax ∧
          t.st.run = some { origin := .fullStart, doms := s.allDomains, npat := s.npatUnits, mem := true, from_ := .configured }) ∧
      (s.recordPass → s.life.mustFull = false →
        ∃ t : State, exec (.verdictCheck now) s = .next t ∧ t.arb.wait = s.startDomains &&& ~~~s.life.domains ∧ t.ax = s.ax ∧
          (if t.arb.wait = 0 ∧ s.life.isolated = 0 then t.life.st = .configured ∧ t.life.step = 7
            else t.life.st = .boot ∧ t.life.step = 6))) ∧
    (∀ d : Fin 7,
      ((s.fwOn = false ∨ s.life.isolated.getLsbD d.val = false ∨ s.underTest.getLsbD d.val = true) →
        exec (.isolationRelease d now) s = .next u) ∧
      (s.fwOn → s.life.isolated.getLsbD d.val = true → s.underTest.getLsbD d.val = false →
        ∃ t : State, exec (.isolationRelease d now) s = .next t ∧ t.life.isolated.getLsbD d.val = false ∧
          (∀ b : Fin 7, b ≠ d → t.life.isolated.getLsbD b.val = s.life.isolated.getLsbD b.val) ∧ t.ax = s.ax ∧
          t.life.st = (if s.life.st = .boot ∧ s.life.step = 6 ∧ t.life.isolated = 0 ∧ s.arb.wait = 0 then .configured else s.life.st))) ∧
    ((s.life.st ≠ .configured ∨ s.life.step ≠ 7 ∨ s.life.testFail = true) → exec (.startChecks now) s = .next u) ∧
    (s.life.st = .configured → s.life.step = 7 → s.life.testFail = false →
      (∀ c x, s.startBad = some (c, x) →
        ∃ v : State, exec (.startChecks now) s = .next (v.raise 0x0001 .crimson none [BitVec.ofNat 32 c, BitVec.ofNat 32 x]) ∧
          v.life.st = .configured ∧ v.life.checksOk = s.life.checksOk ∧ v.life.step = 8) ∧
      (s.startBad = none →
        ∃ t : State, exec (.startChecks now) s = .next t ∧ t.life.st = (if s.split then .active else .pairing) ∧ t.life.checksOk = true ∧
          t.life.pairAt = u.clk.lclk ∧ ∀ l : AxisNo, s.pairOn (pairOf l) → t.ax[l].cur.calDue = true)) ∧
    ((u.readyToDrive = false ∨ s.life.drdy = true) → exec (.driveReady now) s = .next u) ∧
    (u.readyToDrive → s.life.drdy = false →
      ∃ v : State, exec (.driveReady now) s =
          .next (v.raise 0xD008 .grey none [BitVec.ofNat 32 ((u.clk.lclk - s.life.wakeAt) / 1000), s.reasons.setWidth 32]) ∧
        v.life = { s.life with drdy := true, reason := s.reasons } ∧ v.aon = { s.aon with failrec := s.aon.failrec &&& 0x7FFFFFFF } ∧
        v.regs.intstat = s.regs.intstat ||| 0x00100000 ∧ v.ax = s.ax)

/-- R103, R454, R462 to R468, R470 to R475: the tests of a run. A granted test isolates its domain and stops the clocks of a pair, a failed checkpoint fails it, and its end
restores it with its result. With its last domain the run ends: the record with its verdict is written, and the lane goes on by the
run's origin. A stopped run reads ABORTED. -/
def Obligations.SelfTestRunsItsDomains : Prop :=
  ∀ (s u : State) (now : Ns) (d : Fin 7), u = s.at now →
    (s.st.run = none → exec (.selftestDomainStart d now) s = .next u ∧ (∀ ok, exec (.selftestCheckpoint d ok now) s = .next u) ∧
      (s.st.held = [] → s.st.latched = false → (∀ a b, exec (.selftestDomainDone d a b now) s = .next u) ∧
        ∀ c, exec (.selftestStop c now) s = .next u)) ∧
    ∀ (r : Run) (bit : BitVec 7), s.st.run = some r → bit = (1 : BitVec 7) <<< d.val →
      ((r.granted ≠ some d ∨ r.stop.isSome) → exec (.selftestDomainStart d now) s = .next u) ∧
      (r.granted = some d → r.stop = none →
        ∃ t : State, exec (.selftestDomainStart d now) s = .next t ∧ t.life.domains = s.life.domains ||| bit ∧
          t.life.isolated = s.life.isolated ||| bit ∧
          (∃ x : Run, t.st.run = some x ∧ x.granted = none ∧ x.started = r.started ||| bit ∧ x.under = r.under ||| bit ∧
            x.ended = r.ended ∧ x.res = r.res ∧ x.pats = r.pats) ∧
          (∀ k : PairNo, d.val = k.val + 1 → t.toPermit k = false ∧ ∀ l : AxisNo, pairOf l = k →
            t.ax[l].en = false ∧ t.ax[l].pwm.gates = false ∧ t.ax[l].com.cval = false ∧ t.ax[l].pwm.run = false ∧
              t.ax[l].fault = s.ax[l].fault) ∧
          (∀ l : AxisNo, d.val ≠ (pairOf l).val + 1 → t.ax[l] = s.ax[l])) ∧
      ((r.under.getLsbD d.val = false ∨ r.stop.isSome ∨ r.res[d].isSome) → ∀ ok, exec (.selftestCheckpoint d ok now) s = .next u) ∧
      (r.under.getLsbD d.val = true → r.stop = none → r.res[d] = none →
        (∃ (t : State) (x : Run), exec (.selftestCheckpoint d true now) s = .next t ∧ t.st.run = some x ∧
          x.pats[d] = min r.npat (r.pats[d] + 1) ∧ x.res = r.res ∧ (∀ e : Fin 7, e ≠ d → x.pats[e] = r.pats[e]) ∧
          { t with st := u.st } = u) ∧
        (∃ (t : State) (x : Run), exec (.selftestCheckpoint d false now) s = .next t ∧ t.st.run = some x ∧
          x.res[d] = some .fail ∧ x.pats = r.pats ∧ (∀ e : Fin 7, e ≠ d → x.res[e] = r.res[e]) ∧ { t with st := u.st } = u)) ∧
      (∀ a b, s.st.held = [] → r.under ≠ 0 → (r.under.getLsbD d.val = false ∨ (r.stop = none ∧ r.res[d] = none ∧ r.pats[d] < r.npat)) →
        exec (.selftestDomainDone d a b now) s = .next u) ∧
      (∀ a, r.under.getLsbD d.val = true → (r.stop.isSome ∨ r.res[d].isSome ∨ r.npat ≤ r.pats[d]) → r.under ≠ bit → d ≠ 6 →
        ∃ (t : State) (x : Run), exec (.selftestDomainDone d a true now) s = .next t ∧ t.st.run = some x ∧
          x.under = r.under &&& ~~~bit ∧ x.ended = r.ended ||| bit ∧ t.life.isolated = s.life.isolated &&& ~~~bit ∧
          x.res[d] = some (if r.res[d] = some .fail ∨ (r.mem = true ∧ a = false ∧ r.pats[d] = r.npat) then .fail
            else if r.pats[d] < r.npat then .aborted else if r.pats[d] < s.npatUnits then .incomplete else .pass) ∧
          (∀ e : Fin 7, e ≠ d → x.res[e] = r.res[e]) ∧ t.ax = s.ax ∧ t.aon = s.aon) ∧
      (s.st.held = [] → r.origin = .fullStart → r.under = bit → r.doms &&& ~~~(r.ended ||| bit) = 0 → r.stop = none → r.npat ≤ r.pats[d] →
        r.res[d] = none → r.npat = s.npatUnits → r.doms = s.allDomains → (∀ e : Fin 7, e ≠ d → r.res[e] = none ∨ r.res[e] = some .pass) →
        ∃ t : State, exec (.selftestDomainDone d true true now) s = .next t ∧ t.life.st = .configured ∧ t.life.step = 7 ∧
          t.life.testFail = false ∧ t.st.run = none ∧ t.aon.testage = 0 ∧ t.aon.testrec >>> 28 = 1 ∧
          t.aon.testrec &&& 0x7F00 = 0 ∧ t.ax = s.ax) ∧
      (∀ c, r.origin = .fullStart → s.st.held = [] → exec (.selftestStop c now) s = .next u) ∧
      (∀ c, r.origin = .demand → s.st.held = [] → r.stop = none → c ≠ .twinClaim → (∀ e : Fin 7, r.res[e] ≠ some .fail) →
        (∀ e : Fin 7, r.under.getLsbD e.val = true → r.npat ≤ 64 ∧ r.pats[e] < r.npat) → r.under &&& 0x41 = 0 →
        ∃ t : State, exec (.selftestStop c now) s = .next t ∧ t.st.run = none ∧ t.life.st = r.from_ ∧ t.aon.testage = 0 ∧
          t.aon.testrec >>> 28 = 4 ∧ t.aon.testrec &&& 0x7F00 = 0 ∧ t.life.isolated = s.life.isolated &&& ~~~r.under ∧
          (r.again = true → t.twin.retry = true) ∧ t.ax = s.ax ∧ t.par = s.par)
end

