-- ==== Sys2Proof/Laws/State.lean ====
section
/-!
SUPPORT. What each update of the state leaves in each field: one lemma for each field of each update, so that no proof unfolds a record
update.
-/

namespace Sys2Proof.Machine

/-! ## Vectors -/

@[simp] theorem vset_val_same {α : Type} {n : Nat} (v : Vector α n) (i : Fin n) (x : α) :
    (vset v i x)[i.val]'i.isLt = x := by
  simp [vset]

theorem vset_same {α : Type} {n : Nat} (v : Vector α n) (i : Fin n) (x : α) : (vset v i x)[i] = x := vset_val_same v i x

theorem vset_ne {α : Type} {n : Nat} (v : Vector α n) (i j : Fin n) (x : α) (h : j ≠ i) : (vset v i x)[j] = v[j] := by
  have hv : i.val ≠ j.val := fun e => h (Fin.ext e.symm)
  simp [vset, hv]

@[simp] theorem vmod_val_same {α : Type} {n : Nat} (v : Vector α n) (i : Fin n) (f : α → α) :
    (vmod v i f)[i.val]'i.isLt = f (v[i.val]'i.isLt) := by
  simp [vmod]

theorem vmod_same {α : Type} {n : Nat} (v : Vector α n) (i : Fin n) (f : α → α) : (vmod v i f)[i] = f v[i] := vmod_val_same v i f

theorem vmod_ne {α : Type} {n : Nat} (v : Vector α n) (i j : Fin n) (f : α → α) (h : j ≠ i) : (vmod v i f)[j] = v[j] := by
  rw [vmod, vset_ne _ _ _ _ h]

/-! ## modClk -/

@[simp] theorem State.modClk_ident (s : State) (f : Clk → Clk) : (s.modClk f).ident = s.ident := rfl
@[simp] theorem State.modClk_clk (s : State) (f : Clk → Clk) : (s.modClk f).clk = f s.clk := rfl
@[simp] theorem State.modClk_life (s : State) (f : Clk → Clk) : (s.modClk f).life = s.life := rfl
@[simp] theorem State.modClk_mb (s : State) (f : Clk → Clk) : (s.modClk f).mb = s.mb := rfl
@[simp] theorem State.modClk_par (s : State) (f : Clk → Clk) : (s.modClk f).par = s.par := rfl
@[simp] theorem State.modClk_cnt (s : State) (f : Clk → Clk) : (s.modClk f).cnt = s.cnt := rfl
@[simp] theorem State.modClk_regs (s : State) (f : Clk → Clk) : (s.modClk f).regs = s.regs := rfl
@[simp] theorem State.modClk_aon (s : State) (f : Clk → Clk) : (s.modClk f).aon = s.aon := rfl
@[simp] theorem State.modClk_ax (s : State) (f : Clk → Clk) : (s.modClk f).ax = s.ax := rfl
@[simp] theorem State.modClk_pair (s : State) (f : Clk → Clk) : (s.modClk f).pair = s.pair := rfl
@[simp] theorem State.modClk_ports (s : State) (f : Clk → Clk) : (s.modClk f).ports = s.ports := rfl
@[simp] theorem State.modClk_wheels (s : State) (f : Clk → Clk) : (s.modClk f).wheels = s.wheels := rfl
@[simp] theorem State.modClk_divs (s : State) (f : Clk → Clk) : (s.modClk f).divs = s.divs := rfl
@[simp] theorem State.modClk_su (s : State) (f : Clk → Clk) : (s.modClk f).su = s.su := rfl
@[simp] theorem State.modClk_safe (s : State) (f : Clk → Clk) : (s.modClk f).safe = s.safe := rfl
@[simp] theorem State.modClk_nov (s : State) (f : Clk → Clk) : (s.modClk f).nov = s.nov := rfl
@[simp] theorem State.modClk_twin (s : State) (f : Clk → Clk) : (s.modClk f).twin = s.twin := rfl
@[simp] theorem State.modClk_integ (s : State) (f : Clk → Clk) : (s.modClk f).integ = s.integ := rfl
@[simp] theorem State.modClk_vote (s : State) (f : Clk → Clk) : (s.modClk f).vote = s.vote := rfl
@[simp] theorem State.modClk_steer (s : State) (f : Clk → Clk) : (s.modClk f).steer = s.steer := rfl
@[simp] theorem State.modClk_brake (s : State) (f : Clk → Clk) : (s.modClk f).brake = s.brake := rfl
@[simp] theorem State.modClk_vtb (s : State) (f : Clk → Clk) : (s.modClk f).vtb = s.vtb := rfl
@[simp] theorem State.modClk_can (s : State) (f : Clk → Clk) : (s.modClk f).can = s.can := rfl
@[simp] theorem State.modClk_eth (s : State) (f : Clk → Clk) : (s.modClk f).eth = s.eth := rfl
@[simp] theorem State.modClk_arb (s : State) (f : Clk → Clk) : (s.modClk f).arb = s.arb := rfl
@[simp] theorem State.modClk_st (s : State) (f : Clk → Clk) : (s.modClk f).st = s.st := rfl
@[simp] theorem State.modClk_padReset (s : State) (f : Clk → Clk) : (s.modClk f).padReset = s.padReset := rfl
@[simp] theorem State.modClk_free (s : State) (f : Clk → Clk) : (s.modClk f).free = s.free := rfl
@[simp] theorem State.modClk_pending (s : State) (f : Clk → Clk) : (s.modClk f).pending = s.pending := rfl

/-! ## modLife -/

@[simp] theorem State.modLife_ident (s : State) (f : Life → Life) : (s.modLife f).ident = s.ident := rfl
@[simp] theorem State.modLife_clk (s : State) (f : Life → Life) : (s.modLife f).clk = s.clk := rfl
@[simp] theorem State.modLife_life (s : State) (f : Life → Life) : (s.modLife f).life = f s.life := rfl
@[simp] theorem State.modLife_mb (s : State) (f : Life → Life) : (s.modLife f).mb = s.mb := rfl
@[simp] theorem State.modLife_par (s : State) (f : Life → Life) : (s.modLife f).par = s.par := rfl
@[simp] theorem State.modLife_cnt (s : State) (f : Life → Life) : (s.modLife f).cnt = s.cnt := rfl
@[simp] theorem State.modLife_regs (s : State) (f : Life → Life) : (s.modLife f).regs = s.regs := rfl
@[simp] theorem State.modLife_aon (s : State) (f : Life → Life) : (s.modLife f).aon = s.aon := rfl
@[simp] theorem State.modLife_ax (s : State) (f : Life → Life) : (s.modLife f).ax = s.ax := rfl
@[simp] theorem State.modLife_pair (s : State) (f : Life → Life) : (s.modLife f).pair = s.pair := rfl
@[simp] theorem State.modLife_ports (s : State) (f : Life → Life) : (s.modLife f).ports = s.ports := rfl
@[simp] theorem State.modLife_wheels (s : State) (f : Life → Life) : (s.modLife f).wheels = s.wheels := rfl
@[simp] theorem State.modLife_divs (s : State) (f : Life → Life) : (s.modLife f).divs = s.divs := rfl
@[simp] theorem State.modLife_su (s : State) (f : Life → Life) : (s.modLife f).su = s.su := rfl
@[simp] theorem State.modLife_safe (s : State) (f : Life → Life) : (s.modLife f).safe = s.safe := rfl
@[simp] theorem State.modLife_nov (s : State) (f : Life → Life) : (s.modLife f).nov = s.nov := rfl
@[simp] theorem State.modLife_twin (s : State) (f : Life → Life) : (s.modLife f).twin = s.twin := rfl
@[simp] theorem State.modLife_integ (s : State) (f : Life → Life) : (s.modLife f).integ = s.integ := rfl
@[simp] theorem State.modLife_vote (s : State) (f : Life → Life) : (s.modLife f).vote = s.vote := rfl
@[simp] theorem State.modLife_steer (s : State) (f : Life → Life) : (s.modLife f).steer = s.steer := rfl
@[simp] theorem State.modLife_brake (s : State) (f : Life → Life) : (s.modLife f).brake = s.brake := rfl
@[simp] theorem State.modLife_vtb (s : State) (f : Life → Life) : (s.modLife f).vtb = s.vtb := rfl
@[simp] theorem State.modLife_can (s : State) (f : Life → Life) : (s.modLife f).can = s.can := rfl
@[simp] theorem State.modLife_eth (s : State) (f : Life → Life) : (s.modLife f).eth = s.eth := rfl
@[simp] theorem State.modLife_arb (s : State) (f : Life → Life) : (s.modLife f).arb = s.arb := rfl
@[simp] theorem State.modLife_st (s : State) (f : Life → Life) : (s.modLife f).st = s.st := rfl
@[simp] theorem State.modLife_padReset (s : State) (f : Life → Life) : (s.modLife f).padReset = s.padReset := rfl
@[simp] theorem State.modLife_free (s : State) (f : Life → Life) : (s.modLife f).free = s.free := rfl
@[simp] theorem State.modLife_pending (s : State) (f : Life → Life) : (s.modLife f).pending = s.pending := rfl

/-! ## modMb -/

@[simp] theorem State.modMb_ident (s : State) (f : Mailbox → Mailbox) : (s.modMb f).ident = s.ident := rfl
@[simp] theorem State.modMb_clk (s : State) (f : Mailbox → Mailbox) : (s.modMb f).clk = s.clk := rfl
@[simp] theorem State.modMb_life (s : State) (f : Mailbox → Mailbox) : (s.modMb f).life = s.life := rfl
@[simp] theorem State.modMb_mb (s : State) (f : Mailbox → Mailbox) : (s.modMb f).mb = f s.mb := rfl
@[simp] theorem State.modMb_par (s : State) (f : Mailbox → Mailbox) : (s.modMb f).par = s.par := rfl
@[simp] theorem State.modMb_cnt (s : State) (f : Mailbox → Mailbox) : (s.modMb f).cnt = s.cnt := rfl
@[simp] theorem State.modMb_regs (s : State) (f : Mailbox → Mailbox) : (s.modMb f).regs = s.regs := rfl
@[simp] theorem State.modMb_aon (s : State) (f : Mailbox → Mailbox) : (s.modMb f).aon = s.aon := rfl
@[simp] theorem State.modMb_ax (s : State) (f : Mailbox → Mailbox) : (s.modMb f).ax = s.ax := rfl
@[simp] theorem State.modMb_pair (s : State) (f : Mailbox → Mailbox) : (s.modMb f).pair = s.pair := rfl
@[simp] theorem State.modMb_ports (s : State) (f : Mailbox → Mailbox) : (s.modMb f).ports = s.ports := rfl
@[simp] theorem State.modMb_wheels (s : State) (f : Mailbox → Mailbox) : (s.modMb f).wheels = s.wheels := rfl
@[simp] theorem State.modMb_divs (s : State) (f : Mailbox → Mailbox) : (s.modMb f).divs = s.divs := rfl
@[simp] theorem State.modMb_su (s : State) (f : Mailbox → Mailbox) : (s.modMb f).su = s.su := rfl
@[simp] theorem State.modMb_safe (s : State) (f : Mailbox → Mailbox) : (s.modMb f).safe = s.safe := rfl
@[simp] theorem State.modMb_nov (s : State) (f : Mailbox → Mailbox) : (s.modMb f).nov = s.nov := rfl
@[simp] theorem State.modMb_twin (s : State) (f : Mailbox → Mailbox) : (s.modMb f).twin = s.twin := rfl
@[simp] theorem State.modMb_integ (s : State) (f : Mailbox → Mailbox) : (s.modMb f).integ = s.integ := rfl
@[simp] theorem State.modMb_vote (s : State) (f : Mailbox → Mailbox) : (s.modMb f).vote = s.vote := rfl
@[simp] theorem State.modMb_steer (s : State) (f : Mailbox → Mailbox) : (s.modMb f).steer = s.steer := rfl
@[simp] theorem State.modMb_brake (s : State) (f : Mailbox → Mailbox) : (s.modMb f).brake = s.brake := rfl
@[simp] theorem State.modMb_vtb (s : State) (f : Mailbox → Mailbox) : (s.modMb f).vtb = s.vtb := rfl
@[simp] theorem State.modMb_can (s : State) (f : Mailbox → Mailbox) : (s.modMb f).can = s.can := rfl
@[simp] theorem State.modMb_eth (s : State) (f : Mailbox → Mailbox) : (s.modMb f).eth = s.eth := rfl
@[simp] theorem State.modMb_arb (s : State) (f : Mailbox → Mailbox) : (s.modMb f).arb = s.arb := rfl
@[simp] theorem State.modMb_st (s : State) (f : Mailbox → Mailbox) : (s.modMb f).st = s.st := rfl
@[simp] theorem State.modMb_padReset (s : State) (f : Mailbox → Mailbox) : (s.modMb f).padReset = s.padReset := rfl
@[simp] theorem State.modMb_free (s : State) (f : Mailbox → Mailbox) : (s.modMb f).free = s.free := rfl
@[simp] theorem State.modMb_pending (s : State) (f : Mailbox → Mailbox) : (s.modMb f).pending = s.pending := rfl

/-! ## modPar -/

@[simp] theorem State.modPar_ident (s : State) (f : Params → Params) : (s.modPar f).ident = s.ident := rfl
@[simp] theorem State.modPar_clk (s : State) (f : Params → Params) : (s.modPar f).clk = s.clk := rfl
@[simp] theorem State.modPar_life (s : State) (f : Params → Params) : (s.modPar f).life = s.life := rfl
@[simp] theorem State.modPar_mb (s : State) (f : Params → Params) : (s.modPar f).mb = s.mb := rfl
@[simp] theorem State.modPar_par (s : State) (f : Params → Params) : (s.modPar f).par = f s.par := rfl
@[simp] theorem State.modPar_cnt (s : State) (f : Params → Params) : (s.modPar f).cnt = s.cnt := rfl
@[simp] theorem State.modPar_regs (s : State) (f : Params → Params) : (s.modPar f).regs = s.regs := rfl
@[simp] theorem State.modPar_aon (s : State) (f : Params → Params) : (s.modPar f).aon = s.aon := rfl
@[simp] theorem State.modPar_ax (s : State) (f : Params → Params) : (s.modPar f).ax = s.ax := rfl
@[simp] theorem State.modPar_pair (s : State) (f : Params → Params) : (s.modPar f).pair = s.pair := rfl
@[simp] theorem State.modPar_ports (s : State) (f : Params → Params) : (s.modPar f).ports = s.ports := rfl
@[simp] theorem State.modPar_wheels (s : State) (f : Params → Params) : (s.modPar f).wheels = s.wheels := rfl
@[simp] theorem State.modPar_divs (s : State) (f : Params → Params) : (s.modPar f).divs = s.divs := rfl
@[simp] theorem State.modPar_su (s : State) (f : Params → Params) : (s.modPar f).su = s.su := rfl
@[simp] theorem State.modPar_safe (s : State) (f : Params → Params) : (s.modPar f).safe = s.safe := rfl
@[simp] theorem State.modPar_nov (s : State) (f : Params → Params) : (s.modPar f).nov = s.nov := rfl
@[simp] theorem State.modPar_twin (s : State) (f : Params → Params) : (s.modPar f).twin = s.twin := rfl
@[simp] theorem State.modPar_integ (s : State) (f : Params → Params) : (s.modPar f).integ = s.integ := rfl
@[simp] theorem State.modPar_vote (s : State) (f : Params → Params) : (s.modPar f).vote = s.vote := rfl
@[simp] theorem State.modPar_steer (s : State) (f : Params → Params) : (s.modPar f).steer = s.steer := rfl
@[simp] theorem State.modPar_brake (s : State) (f : Params → Params) : (s.modPar f).brake = s.brake := rfl
@[simp] theorem State.modPar_vtb (s : State) (f : Params → Params) : (s.modPar f).vtb = s.vtb := rfl
@[simp] theorem State.modPar_can (s : State) (f : Params → Params) : (s.modPar f).can = s.can := rfl
@[simp] theorem State.modPar_eth (s : State) (f : Params → Params) : (s.modPar f).eth = s.eth := rfl
@[simp] theorem State.modPar_arb (s : State) (f : Params → Params) : (s.modPar f).arb = s.arb := rfl
@[simp] theorem State.modPar_st (s : State) (f : Params → Params) : (s.modPar f).st = s.st := rfl
@[simp] theorem State.modPar_padReset (s : State) (f : Params → Params) : (s.modPar f).padReset = s.padReset := rfl
@[simp] theorem State.modPar_free (s : State) (f : Params → Params) : (s.modPar f).free = s.free := rfl
@[simp] theorem State.modPar_pending (s : State) (f : Params → Params) : (s.modPar f).pending = s.pending := rfl

/-! ## modRegs -/

@[simp] theorem State.modRegs_ident (s : State) (f : Regs → Regs) : (s.modRegs f).ident = s.ident := rfl
@[simp] theorem State.modRegs_clk (s : State) (f : Regs → Regs) : (s.modRegs f).clk = s.clk := rfl
@[simp] theorem State.modRegs_life (s : State) (f : Regs → Regs) : (s.modRegs f).life = s.life := rfl
@[simp] theorem State.modRegs_mb (s : State) (f : Regs → Regs) : (s.modRegs f).mb = s.mb := rfl
@[simp] theorem State.modRegs_par (s : State) (f : Regs → Regs) : (s.modRegs f).par = s.par := rfl
@[simp] theorem State.modRegs_cnt (s : State) (f : Regs → Regs) : (s.modRegs f).cnt = s.cnt := rfl
@[simp] theorem State.modRegs_regs (s : State) (f : Regs → Regs) : (s.modRegs f).regs = f s.regs := rfl
@[simp] theorem State.modRegs_aon (s : State) (f : Regs → Regs) : (s.modRegs f).aon = s.aon := rfl
@[simp] theorem State.modRegs_ax (s : State) (f : Regs → Regs) : (s.modRegs f).ax = s.ax := rfl
@[simp] theorem State.modRegs_pair (s : State) (f : Regs → Regs) : (s.modRegs f).pair = s.pair := rfl
@[simp] theorem State.modRegs_ports (s : State) (f : Regs → Regs) : (s.modRegs f).ports = s.ports := rfl
@[simp] theorem State.modRegs_wheels (s : State) (f : Regs → Regs) : (s.modRegs f).wheels = s.wheels := rfl
@[simp] theorem State.modRegs_divs (s : State) (f : Regs → Regs) : (s.modRegs f).divs = s.divs := rfl
@[simp] theorem State.modRegs_su (s : State) (f : Regs → Regs) : (s.modRegs f).su = s.su := rfl
@[simp] theorem State.modRegs_safe (s : State) (f : Regs → Regs) : (s.modRegs f).safe = s.safe := rfl
@[simp] theorem State.modRegs_nov (s : State) (f : Regs → Regs) : (s.modRegs f).nov = s.nov := rfl
@[simp] theorem State.modRegs_twin (s : State) (f : Regs → Regs) : (s.modRegs f).twin = s.twin := rfl
@[simp] theorem State.modRegs_integ (s : State) (f : Regs → Regs) : (s.modRegs f).integ = s.integ := rfl
@[simp] theorem State.modRegs_vote (s : State) (f : Regs → Regs) : (s.modRegs f).vote = s.vote := rfl
@[simp] theorem State.modRegs_steer (s : State) (f : Regs → Regs) : (s.modRegs f).steer = s.steer := rfl
@[simp] theorem State.modRegs_brake (s : State) (f : Regs → Regs) : (s.modRegs f).brake = s.brake := rfl
@[simp] theorem State.modRegs_vtb (s : State) (f : Regs → Regs) : (s.modRegs f).vtb = s.vtb := rfl
@[simp] theorem State.modRegs_can (s : State) (f : Regs → Regs) : (s.modRegs f).can = s.can := rfl
@[simp] theorem State.modRegs_eth (s : State) (f : Regs → Regs) : (s.modRegs f).eth = s.eth := rfl
@[simp] theorem State.modRegs_arb (s : State) (f : Regs → Regs) : (s.modRegs f).arb = s.arb := rfl
@[simp] theorem State.modRegs_st (s : State) (f : Regs → Regs) : (s.modRegs f).st = s.st := rfl
@[simp] theorem State.modRegs_padReset (s : State) (f : Regs → Regs) : (s.modRegs f).padReset = s.padReset := rfl
@[simp] theorem State.modRegs_free (s : State) (f : Regs → Regs) : (s.modRegs f).free = s.free := rfl
@[simp] theorem State.modRegs_pending (s : State) (f : Regs → Regs) : (s.modRegs f).pending = s.pending := rfl

/-! ## modAon -/

@[simp] theorem State.modAon_ident (s : State) (f : Aon → Aon) : (s.modAon f).ident = s.ident := rfl
@[simp] theorem State.modAon_clk (s : State) (f : Aon → Aon) : (s.modAon f).clk = s.clk := rfl
@[simp] theorem State.modAon_life (s : State) (f : Aon → Aon) : (s.modAon f).life = s.life := rfl
@[simp] theorem State.modAon_mb (s : State) (f : Aon → Aon) : (s.modAon f).mb = s.mb := rfl
@[simp] theorem State.modAon_par (s : State) (f : Aon → Aon) : (s.modAon f).par = s.par := rfl
@[simp] theorem State.modAon_cnt (s : State) (f : Aon → Aon) : (s.modAon f).cnt = s.cnt := rfl
@[simp] theorem State.modAon_regs (s : State) (f : Aon → Aon) : (s.modAon f).regs = s.regs := rfl
@[simp] theorem State.modAon_aon (s : State) (f : Aon → Aon) : (s.modAon f).aon = f s.aon := rfl
@[simp] theorem State.modAon_ax (s : State) (f : Aon → Aon) : (s.modAon f).ax = s.ax := rfl
@[simp] theorem State.modAon_pair (s : State) (f : Aon → Aon) : (s.modAon f).pair = s.pair := rfl
@[simp] theorem State.modAon_ports (s : State) (f : Aon → Aon) : (s.modAon f).ports = s.ports := rfl
@[simp] theorem State.modAon_wheels (s : State) (f : Aon → Aon) : (s.modAon f).wheels = s.wheels := rfl
@[simp] theorem State.modAon_divs (s : State) (f : Aon → Aon) : (s.modAon f).divs = s.divs := rfl
@[simp] theorem State.modAon_su (s : State) (f : Aon → Aon) : (s.modAon f).su = s.su := rfl
@[simp] theorem State.modAon_safe (s : State) (f : Aon → Aon) : (s.modAon f).safe = s.safe := rfl
@[simp] theorem State.modAon_nov (s : State) (f : Aon → Aon) : (s.modAon f).nov = s.nov := rfl
@[simp] theorem State.modAon_twin (s : State) (f : Aon → Aon) : (s.modAon f).twin = s.twin := rfl
@[simp] theorem State.modAon_integ (s : State) (f : Aon → Aon) : (s.modAon f).integ = s.integ := rfl
@[simp] theorem State.modAon_vote (s : State) (f : Aon → Aon) : (s.modAon f).vote = s.vote := rfl
@[simp] theorem State.modAon_steer (s : State) (f : Aon → Aon) : (s.modAon f).steer = s.steer := rfl
@[simp] theorem State.modAon_brake (s : State) (f : Aon → Aon) : (s.modAon f).brake = s.brake := rfl
@[simp] theorem State.modAon_vtb (s : State) (f : Aon → Aon) : (s.modAon f).vtb = s.vtb := rfl
@[simp] theorem State.modAon_can (s : State) (f : Aon → Aon) : (s.modAon f).can = s.can := rfl
@[simp] theorem State.modAon_eth (s : State) (f : Aon → Aon) : (s.modAon f).eth = s.eth := rfl
@[simp] theorem State.modAon_arb (s : State) (f : Aon → Aon) : (s.modAon f).arb = s.arb := rfl
@[simp] theorem State.modAon_st (s : State) (f : Aon → Aon) : (s.modAon f).st = s.st := rfl
@[simp] theorem State.modAon_padReset (s : State) (f : Aon → Aon) : (s.modAon f).padReset = s.padReset := rfl
@[simp] theorem State.modAon_free (s : State) (f : Aon → Aon) : (s.modAon f).free = s.free := rfl
@[simp] theorem State.modAon_pending (s : State) (f : Aon → Aon) : (s.modAon f).pending = s.pending := rfl

/-! ## modSu -/

@[simp] theorem State.modSu_ident (s : State) (f : Su → Su) : (s.modSu f).ident = s.ident := rfl
@[simp] theorem State.modSu_clk (s : State) (f : Su → Su) : (s.modSu f).clk = s.clk := rfl
@[simp] theorem State.modSu_life (s : State) (f : Su → Su) : (s.modSu f).life = s.life := rfl
@[simp] theorem State.modSu_mb (s : State) (f : Su → Su) : (s.modSu f).mb = s.mb := rfl
@[simp] theorem State.modSu_par (s : State) (f : Su → Su) : (s.modSu f).par = s.par := rfl
@[simp] theorem State.modSu_cnt (s : State) (f : Su → Su) : (s.modSu f).cnt = s.cnt := rfl
@[simp] theorem State.modSu_regs (s : State) (f : Su → Su) : (s.modSu f).regs = s.regs := rfl
@[simp] theorem State.modSu_aon (s : State) (f : Su → Su) : (s.modSu f).aon = s.aon := rfl
@[simp] theorem State.modSu_ax (s : State) (f : Su → Su) : (s.modSu f).ax = s.ax := rfl
@[simp] theorem State.modSu_pair (s : State) (f : Su → Su) : (s.modSu f).pair = s.pair := rfl
@[simp] theorem State.modSu_ports (s : State) (f : Su → Su) : (s.modSu f).ports = s.ports := rfl
@[simp] theorem State.modSu_wheels (s : State) (f : Su → Su) : (s.modSu f).wheels = s.wheels := rfl
@[simp] theorem State.modSu_divs (s : State) (f : Su → Su) : (s.modSu f).divs = s.divs := rfl
@[simp] theorem State.modSu_su (s : State) (f : Su → Su) : (s.modSu f).su = f s.su := rfl
@[simp] theorem State.modSu_safe (s : State) (f : Su → Su) : (s.modSu f).safe = s.safe := rfl
@[simp] theorem State.modSu_nov (s : State) (f : Su → Su) : (s.modSu f).nov = s.nov := rfl
@[simp] theorem State.modSu_twin (s : State) (f : Su → Su) : (s.modSu f).twin = s.twin := rfl
@[simp] theorem State.modSu_integ (s : State) (f : Su → Su) : (s.modSu f).integ = s.integ := rfl
@[simp] theorem State.modSu_vote (s : State) (f : Su → Su) : (s.modSu f).vote = s.vote := rfl
@[simp] theorem State.modSu_steer (s : State) (f : Su → Su) : (s.modSu f).steer = s.steer := rfl
@[simp] theorem State.modSu_brake (s : State) (f : Su → Su) : (s.modSu f).brake = s.brake := rfl
@[simp] theorem State.modSu_vtb (s : State) (f : Su → Su) : (s.modSu f).vtb = s.vtb := rfl
@[simp] theorem State.modSu_can (s : State) (f : Su → Su) : (s.modSu f).can = s.can := rfl
@[simp] theorem State.modSu_eth (s : State) (f : Su → Su) : (s.modSu f).eth = s.eth := rfl
@[simp] theorem State.modSu_arb (s : State) (f : Su → Su) : (s.modSu f).arb = s.arb := rfl
@[simp] theorem State.modSu_st (s : State) (f : Su → Su) : (s.modSu f).st = s.st := rfl
@[simp] theorem State.modSu_padReset (s : State) (f : Su → Su) : (s.modSu f).padReset = s.padReset := rfl
@[simp] theorem State.modSu_free (s : State) (f : Su → Su) : (s.modSu f).free = s.free := rfl
@[simp] theorem State.modSu_pending (s : State) (f : Su → Su) : (s.modSu f).pending = s.pending := rfl

/-! ## modSafe -/

@[simp] theorem State.modSafe_ident (s : State) (f : Safe → Safe) : (s.modSafe f).ident = s.ident := rfl
@[simp] theorem State.modSafe_clk (s : State) (f : Safe → Safe) : (s.modSafe f).clk = s.clk := rfl
@[simp] theorem State.modSafe_life (s : State) (f : Safe → Safe) : (s.modSafe f).life = s.life := rfl
@[simp] theorem State.modSafe_mb (s : State) (f : Safe → Safe) : (s.modSafe f).mb = s.mb := rfl
@[simp] theorem State.modSafe_par (s : State) (f : Safe → Safe) : (s.modSafe f).par = s.par := rfl
@[simp] theorem State.modSafe_cnt (s : State) (f : Safe → Safe) : (s.modSafe f).cnt = s.cnt := rfl
@[simp] theorem State.modSafe_regs (s : State) (f : Safe → Safe) : (s.modSafe f).regs = s.regs := rfl
@[simp] theorem State.modSafe_aon (s : State) (f : Safe → Safe) : (s.modSafe f).aon = s.aon := rfl
@[simp] theorem State.modSafe_ax (s : State) (f : Safe → Safe) : (s.modSafe f).ax = s.ax := rfl
@[simp] theorem State.modSafe_pair (s : State) (f : Safe → Safe) : (s.modSafe f).pair = s.pair := rfl
@[simp] theorem State.modSafe_ports (s : State) (f : Safe → Safe) : (s.modSafe f).ports = s.ports := rfl
@[simp] theorem State.modSafe_wheels (s : State) (f : Safe → Safe) : (s.modSafe f).wheels = s.wheels := rfl
@[simp] theorem State.modSafe_divs (s : State) (f : Safe → Safe) : (s.modSafe f).divs = s.divs := rfl
@[simp] theorem State.modSafe_su (s : State) (f : Safe → Safe) : (s.modSafe f).su = s.su := rfl
@[simp] theorem State.modSafe_safe (s : State) (f : Safe → Safe) : (s.modSafe f).safe = f s.safe := rfl
@[simp] theorem State.modSafe_nov (s : State) (f : Safe → Safe) : (s.modSafe f).nov = s.nov := rfl
@[simp] theorem State.modSafe_twin (s : State) (f : Safe → Safe) : (s.modSafe f).twin = s.twin := rfl
@[simp] theorem State.modSafe_integ (s : State) (f : Safe → Safe) : (s.modSafe f).integ = s.integ := rfl
@[simp] theorem State.modSafe_vote (s : State) (f : Safe → Safe) : (s.modSafe f).vote = s.vote := rfl
@[simp] theorem State.modSafe_steer (s : State) (f : Safe → Safe) : (s.modSafe f).steer = s.steer := rfl
@[simp] theorem State.modSafe_brake (s : State) (f : Safe → Safe) : (s.modSafe f).brake = s.brake := rfl
@[simp] theorem State.modSafe_vtb (s : State) (f : Safe → Safe) : (s.modSafe f).vtb = s.vtb := rfl
@[simp] theorem State.modSafe_can (s : State) (f : Safe → Safe) : (s.modSafe f).can = s.can := rfl
@[simp] theorem State.modSafe_eth (s : State) (f : Safe → Safe) : (s.modSafe f).eth = s.eth := rfl
@[simp] theorem State.modSafe_arb (s : State) (f : Safe → Safe) : (s.modSafe f).arb = s.arb := rfl
@[simp] theorem State.modSafe_st (s : State) (f : Safe → Safe) : (s.modSafe f).st = s.st := rfl
@[simp] theorem State.modSafe_padReset (s : State) (f : Safe → Safe) : (s.modSafe f).padReset = s.padReset := rfl
@[simp] theorem State.modSafe_free (s : State) (f : Safe → Safe) : (s.modSafe f).free = s.free := rfl
@[simp] theorem State.modSafe_pending (s : State) (f : Safe → Safe) : (s.modSafe f).pending = s.pending := rfl

/-! ## modNov -/

@[simp] theorem State.modNov_ident (s : State) (f : Nov → Nov) : (s.modNov f).ident = s.ident := rfl
@[simp] theorem State.modNov_clk (s : State) (f : Nov → Nov) : (s.modNov f).clk = s.clk := rfl
@[simp] theorem State.modNov_life (s : State) (f : Nov → Nov) : (s.modNov f).life = s.life := rfl
@[simp] theorem State.modNov_mb (s : State) (f : Nov → Nov) : (s.modNov f).mb = s.mb := rfl
@[simp] theorem State.modNov_par (s : State) (f : Nov → Nov) : (s.modNov f).par = s.par := rfl
@[simp] theorem State.modNov_cnt (s : State) (f : Nov → Nov) : (s.modNov f).cnt = s.cnt := rfl
@[simp] theorem State.modNov_regs (s : State) (f : Nov → Nov) : (s.modNov f).regs = s.regs := rfl
@[simp] theorem State.modNov_aon (s : State) (f : Nov → Nov) : (s.modNov f).aon = s.aon := rfl
@[simp] theorem State.modNov_ax (s : State) (f : Nov → Nov) : (s.modNov f).ax = s.ax := rfl
@[simp] theorem State.modNov_pair (s : State) (f : Nov → Nov) : (s.modNov f).pair = s.pair := rfl
@[simp] theorem State.modNov_ports (s : State) (f : Nov → Nov) : (s.modNov f).ports = s.ports := rfl
@[simp] theorem State.modNov_wheels (s : State) (f : Nov → Nov) : (s.modNov f).wheels = s.wheels := rfl
@[simp] theorem State.modNov_divs (s : State) (f : Nov → Nov) : (s.modNov f).divs = s.divs := rfl
@[simp] theorem State.modNov_su (s : State) (f : Nov → Nov) : (s.modNov f).su = s.su := rfl
@[simp] theorem State.modNov_safe (s : State) (f : Nov → Nov) : (s.modNov f).safe = s.safe := rfl
@[simp] theorem State.modNov_nov (s : State) (f : Nov → Nov) : (s.modNov f).nov = f s.nov := rfl
@[simp] theorem State.modNov_twin (s : State) (f : Nov → Nov) : (s.modNov f).twin = s.twin := rfl
@[simp] theorem State.modNov_integ (s : State) (f : Nov → Nov) : (s.modNov f).integ = s.integ := rfl
@[simp] theorem State.modNov_vote (s : State) (f : Nov → Nov) : (s.modNov f).vote = s.vote := rfl
@[simp] theorem State.modNov_steer (s : State) (f : Nov → Nov) : (s.modNov f).steer = s.steer := rfl
@[simp] theorem State.modNov_brake (s : State) (f : Nov → Nov) : (s.modNov f).brake = s.brake := rfl
@[simp] theorem State.modNov_vtb (s : State) (f : Nov → Nov) : (s.modNov f).vtb = s.vtb := rfl
@[simp] theorem State.modNov_can (s : State) (f : Nov → Nov) : (s.modNov f).can = s.can := rfl
@[simp] theorem State.modNov_eth (s : State) (f : Nov → Nov) : (s.modNov f).eth = s.eth := rfl
@[simp] theorem State.modNov_arb (s : State) (f : Nov → Nov) : (s.modNov f).arb = s.arb := rfl
@[simp] theorem State.modNov_st (s : State) (f : Nov → Nov) : (s.modNov f).st = s.st := rfl
@[simp] theorem State.modNov_padReset (s : State) (f : Nov → Nov) : (s.modNov f).padReset = s.padReset := rfl
@[simp] theorem State.modNov_free (s : State) (f : Nov → Nov) : (s.modNov f).free = s.free := rfl
@[simp] theorem State.modNov_pending (s : State) (f : Nov → Nov) : (s.modNov f).pending = s.pending := rfl

/-! ## modTwin -/

@[simp] theorem State.modTwin_ident (s : State) (f : Twin → Twin) : (s.modTwin f).ident = s.ident := rfl
@[simp] theorem State.modTwin_clk (s : State) (f : Twin → Twin) : (s.modTwin f).clk = s.clk := rfl
@[simp] theorem State.modTwin_life (s : State) (f : Twin → Twin) : (s.modTwin f).life = s.life := rfl
@[simp] theorem State.modTwin_mb (s : State) (f : Twin → Twin) : (s.modTwin f).mb = s.mb := rfl
@[simp] theorem State.modTwin_par (s : State) (f : Twin → Twin) : (s.modTwin f).par = s.par := rfl
@[simp] theorem State.modTwin_cnt (s : State) (f : Twin → Twin) : (s.modTwin f).cnt = s.cnt := rfl
@[simp] theorem State.modTwin_regs (s : State) (f : Twin → Twin) : (s.modTwin f).regs = s.regs := rfl
@[simp] theorem State.modTwin_aon (s : State) (f : Twin → Twin) : (s.modTwin f).aon = s.aon := rfl
@[simp] theorem State.modTwin_ax (s : State) (f : Twin → Twin) : (s.modTwin f).ax = s.ax := rfl
@[simp] theorem State.modTwin_pair (s : State) (f : Twin → Twin) : (s.modTwin f).pair = s.pair := rfl
@[simp] theorem State.modTwin_ports (s : State) (f : Twin → Twin) : (s.modTwin f).ports = s.ports := rfl
@[simp] theorem State.modTwin_wheels (s : State) (f : Twin → Twin) : (s.modTwin f).wheels = s.wheels := rfl
@[simp] theorem State.modTwin_divs (s : State) (f : Twin → Twin) : (s.modTwin f).divs = s.divs := rfl
@[simp] theorem State.modTwin_su (s : State) (f : Twin → Twin) : (s.modTwin f).su = s.su := rfl
@[simp] theorem State.modTwin_safe (s : State) (f : Twin → Twin) : (s.modTwin f).safe = s.safe := rfl
@[simp] theorem State.modTwin_nov (s : State) (f : Twin → Twin) : (s.modTwin f).nov = s.nov := rfl
@[simp] theorem State.modTwin_twin (s : State) (f : Twin → Twin) : (s.modTwin f).twin = f s.twin := rfl
@[simp] theorem State.modTwin_integ (s : State) (f : Twin → Twin) : (s.modTwin f).integ = s.integ := rfl
@[simp] theorem State.modTwin_vote (s : State) (f : Twin → Twin) : (s.modTwin f).vote = s.vote := rfl
@[simp] theorem State.modTwin_steer (s : State) (f : Twin → Twin) : (s.modTwin f).steer = s.steer := rfl
@[simp] theorem State.modTwin_brake (s : State) (f : Twin → Twin) : (s.modTwin f).brake = s.brake := rfl
@[simp] theorem State.modTwin_vtb (s : State) (f : Twin → Twin) : (s.modTwin f).vtb = s.vtb := rfl
@[simp] theorem State.modTwin_can (s : State) (f : Twin → Twin) : (s.modTwin f).can = s.can := rfl
@[simp] theorem State.modTwin_eth (s : State) (f : Twin → Twin) : (s.modTwin f).eth = s.eth := rfl
@[simp] theorem State.modTwin_arb (s : State) (f : Twin → Twin) : (s.modTwin f).arb = s.arb := rfl
@[simp] theorem State.modTwin_st (s : State) (f : Twin → Twin) : (s.modTwin f).st = s.st := rfl
@[simp] theorem State.modTwin_padReset (s : State) (f : Twin → Twin) : (s.modTwin f).padReset = s.padReset := rfl
@[simp] theorem State.modTwin_free (s : State) (f : Twin → Twin) : (s.modTwin f).free = s.free := rfl
@[simp] theorem State.modTwin_pending (s : State) (f : Twin → Twin) : (s.modTwin f).pending = s.pending := rfl

/-! ## modInteg -/

@[simp] theorem State.modInteg_ident (s : State) (f : Integ → Integ) : (s.modInteg f).ident = s.ident := rfl
@[simp] theorem State.modInteg_clk (s : State) (f : Integ → Integ) : (s.modInteg f).clk = s.clk := rfl
@[simp] theorem State.modInteg_life (s : State) (f : Integ → Integ) : (s.modInteg f).life = s.life := rfl
@[simp] theorem State.modInteg_mb (s : State) (f : Integ → Integ) : (s.modInteg f).mb = s.mb := rfl
@[simp] theorem State.modInteg_par (s : State) (f : Integ → Integ) : (s.modInteg f).par = s.par := rfl
@[simp] theorem State.modInteg_cnt (s : State) (f : Integ → Integ) : (s.modInteg f).cnt = s.cnt := rfl
@[simp] theorem State.modInteg_regs (s : State) (f : Integ → Integ) : (s.modInteg f).regs = s.regs := rfl
@[simp] theorem State.modInteg_aon (s : State) (f : Integ → Integ) : (s.modInteg f).aon = s.aon := rfl
@[simp] theorem State.modInteg_ax (s : State) (f : Integ → Integ) : (s.modInteg f).ax = s.ax := rfl
@[simp] theorem State.modInteg_pair (s : State) (f : Integ → Integ) : (s.modInteg f).pair = s.pair := rfl
@[simp] theorem State.modInteg_ports (s : State) (f : Integ → Integ) : (s.modInteg f).ports = s.ports := rfl
@[simp] theorem State.modInteg_wheels (s : State) (f : Integ → Integ) : (s.modInteg f).wheels = s.wheels := rfl
@[simp] theorem State.modInteg_divs (s : State) (f : Integ → Integ) : (s.modInteg f).divs = s.divs := rfl
@[simp] theorem State.modInteg_su (s : State) (f : Integ → Integ) : (s.modInteg f).su = s.su := rfl
@[simp] theorem State.modInteg_safe (s : State) (f : Integ → Integ) : (s.modInteg f).safe = s.safe := rfl
@[simp] theorem State.modInteg_nov (s : State) (f : Integ → Integ) : (s.modInteg f).nov = s.nov := rfl
@[simp] theorem State.modInteg_twin (s : State) (f : Integ → Integ) : (s.modInteg f).twin = s.twin := rfl
@[simp] theorem State.modInteg_integ (s : State) (f : Integ → Integ) : (s.modInteg f).integ = f s.integ := rfl
@[simp] theorem State.modInteg_vote (s : State) (f : Integ → Integ) : (s.modInteg f).vote = s.vote := rfl
@[simp] theorem State.modInteg_steer (s : State) (f : Integ → Integ) : (s.modInteg f).steer = s.steer := rfl
@[simp] theorem State.modInteg_brake (s : State) (f : Integ → Integ) : (s.modInteg f).brake = s.brake := rfl
@[simp] theorem State.modInteg_vtb (s : State) (f : Integ → Integ) : (s.modInteg f).vtb = s.vtb := rfl
@[simp] theorem State.modInteg_can (s : State) (f : Integ → Integ) : (s.modInteg f).can = s.can := rfl
@[simp] theorem State.modInteg_eth (s : State) (f : Integ → Integ) : (s.modInteg f).eth = s.eth := rfl
@[simp] theorem State.modInteg_arb (s : State) (f : Integ → Integ) : (s.modInteg f).arb = s.arb := rfl
@[simp] theorem State.modInteg_st (s : State) (f : Integ → Integ) : (s.modInteg f).st = s.st := rfl
@[simp] theorem State.modInteg_padReset (s : State) (f : Integ → Integ) : (s.modInteg f).padReset = s.padReset := rfl
@[simp] theorem State.modInteg_free (s : State) (f : Integ → Integ) : (s.modInteg f).free = s.free := rfl
@[simp] theorem State.modInteg_pending (s : State) (f : Integ → Integ) : (s.modInteg f).pending = s.pending := rfl

/-! ## modVote -/

@[simp] theorem State.modVote_ident (s : State) (f : Vote → Vote) : (s.modVote f).ident = s.ident := rfl
@[simp] theorem State.modVote_clk (s : State) (f : Vote → Vote) : (s.modVote f).clk = s.clk := rfl
@[simp] theorem State.modVote_life (s : State) (f : Vote → Vote) : (s.modVote f).life = s.life := rfl
@[simp] theorem State.modVote_mb (s : State) (f : Vote → Vote) : (s.modVote f).mb = s.mb := rfl
@[simp] theorem State.modVote_par (s : State) (f : Vote → Vote) : (s.modVote f).par = s.par := rfl
@[simp] theorem State.modVote_cnt (s : State) (f : Vote → Vote) : (s.modVote f).cnt = s.cnt := rfl
@[simp] theorem State.modVote_regs (s : State) (f : Vote → Vote) : (s.modVote f).regs = s.regs := rfl
@[simp] theorem State.modVote_aon (s : State) (f : Vote → Vote) : (s.modVote f).aon = s.aon := rfl
@[simp] theorem State.modVote_ax (s : State) (f : Vote → Vote) : (s.modVote f).ax = s.ax := rfl
@[simp] theorem State.modVote_pair (s : State) (f : Vote → Vote) : (s.modVote f).pair = s.pair := rfl
@[simp] theorem State.modVote_ports (s : State) (f : Vote → Vote) : (s.modVote f).ports = s.ports := rfl
@[simp] theorem State.modVote_wheels (s : State) (f : Vote → Vote) : (s.modVote f).wheels = s.wheels := rfl
@[simp] theorem State.modVote_divs (s : State) (f : Vote → Vote) : (s.modVote f).divs = s.divs := rfl
@[simp] theorem State.modVote_su (s : State) (f : Vote → Vote) : (s.modVote f).su = s.su := rfl
@[simp] theorem State.modVote_safe (s : State) (f : Vote → Vote) : (s.modVote f).safe = s.safe := rfl
@[simp] theorem State.modVote_nov (s : State) (f : Vote → Vote) : (s.modVote f).nov = s.nov := rfl
@[simp] theorem State.modVote_twin (s : State) (f : Vote → Vote) : (s.modVote f).twin = s.twin := rfl
@[simp] theorem State.modVote_integ (s : State) (f : Vote → Vote) : (s.modVote f).integ = s.integ := rfl
@[simp] theorem State.modVote_vote (s : State) (f : Vote → Vote) : (s.modVote f).vote = f s.vote := rfl
@[simp] theorem State.modVote_steer (s : State) (f : Vote → Vote) : (s.modVote f).steer = s.steer := rfl
@[simp] theorem State.modVote_brake (s : State) (f : Vote → Vote) : (s.modVote f).brake = s.brake := rfl
@[simp] theorem State.modVote_vtb (s : State) (f : Vote → Vote) : (s.modVote f).vtb = s.vtb := rfl
@[simp] theorem State.modVote_can (s : State) (f : Vote → Vote) : (s.modVote f).can = s.can := rfl
@[simp] theorem State.modVote_eth (s : State) (f : Vote → Vote) : (s.modVote f).eth = s.eth := rfl
@[simp] theorem State.modVote_arb (s : State) (f : Vote → Vote) : (s.modVote f).arb = s.arb := rfl
@[simp] theorem State.modVote_st (s : State) (f : Vote → Vote) : (s.modVote f).st = s.st := rfl
@[simp] theorem State.modVote_padReset (s : State) (f : Vote → Vote) : (s.modVote f).padReset = s.padReset := rfl
@[simp] theorem State.modVote_free (s : State) (f : Vote → Vote) : (s.modVote f).free = s.free := rfl
@[simp] theorem State.modVote_pending (s : State) (f : Vote → Vote) : (s.modVote f).pending = s.pending := rfl

/-! ## modSteer -/

@[simp] theorem State.modSteer_ident (s : State) (f : Steer → Steer) : (s.modSteer f).ident = s.ident := rfl
@[simp] theorem State.modSteer_clk (s : State) (f : Steer → Steer) : (s.modSteer f).clk = s.clk := rfl
@[simp] theorem State.modSteer_life (s : State) (f : Steer → Steer) : (s.modSteer f).life = s.life := rfl
@[simp] theorem State.modSteer_mb (s : State) (f : Steer → Steer) : (s.modSteer f).mb = s.mb := rfl
@[simp] theorem State.modSteer_par (s : State) (f : Steer → Steer) : (s.modSteer f).par = s.par := rfl
@[simp] theorem State.modSteer_cnt (s : State) (f : Steer → Steer) : (s.modSteer f).cnt = s.cnt := rfl
@[simp] theorem State.modSteer_regs (s : State) (f : Steer → Steer) : (s.modSteer f).regs = s.regs := rfl
@[simp] theorem State.modSteer_aon (s : State) (f : Steer → Steer) : (s.modSteer f).aon = s.aon := rfl
@[simp] theorem State.modSteer_ax (s : State) (f : Steer → Steer) : (s.modSteer f).ax = s.ax := rfl
@[simp] theorem State.modSteer_pair (s : State) (f : Steer → Steer) : (s.modSteer f).pair = s.pair := rfl
@[simp] theorem State.modSteer_ports (s : State) (f : Steer → Steer) : (s.modSteer f).ports = s.ports := rfl
@[simp] theorem State.modSteer_wheels (s : State) (f : Steer → Steer) : (s.modSteer f).wheels = s.wheels := rfl
@[simp] theorem State.modSteer_divs (s : State) (f : Steer → Steer) : (s.modSteer f).divs = s.divs := rfl
@[simp] theorem State.modSteer_su (s : State) (f : Steer → Steer) : (s.modSteer f).su = s.su := rfl
@[simp] theorem State.modSteer_safe (s : State) (f : Steer → Steer) : (s.modSteer f).safe = s.safe := rfl
@[simp] theorem State.modSteer_nov (s : State) (f : Steer → Steer) : (s.modSteer f).nov = s.nov := rfl
@[simp] theorem State.modSteer_twin (s : State) (f : Steer → Steer) : (s.modSteer f).twin = s.twin := rfl
@[simp] theorem State.modSteer_integ (s : State) (f : Steer → Steer) : (s.modSteer f).integ = s.integ := rfl
@[simp] theorem State.modSteer_vote (s : State) (f : Steer → Steer) : (s.modSteer f).vote = s.vote := rfl
@[simp] theorem State.modSteer_steer (s : State) (f : Steer → Steer) : (s.modSteer f).steer = f s.steer := rfl
@[simp] theorem State.modSteer_brake (s : State) (f : Steer → Steer) : (s.modSteer f).brake = s.brake := rfl
@[simp] theorem State.modSteer_vtb (s : State) (f : Steer → Steer) : (s.modSteer f).vtb = s.vtb := rfl
@[simp] theorem State.modSteer_can (s : State) (f : Steer → Steer) : (s.modSteer f).can = s.can := rfl
@[simp] theorem State.modSteer_eth (s : State) (f : Steer → Steer) : (s.modSteer f).eth = s.eth := rfl
@[simp] theorem State.modSteer_arb (s : State) (f : Steer → Steer) : (s.modSteer f).arb = s.arb := rfl
@[simp] theorem State.modSteer_st (s : State) (f : Steer → Steer) : (s.modSteer f).st = s.st := rfl
@[simp] theorem State.modSteer_padReset (s : State) (f : Steer → Steer) : (s.modSteer f).padReset = s.padReset := rfl
@[simp] theorem State.modSteer_free (s : State) (f : Steer → Steer) : (s.modSteer f).free = s.free := rfl
@[simp] theorem State.modSteer_pending (s : State) (f : Steer → Steer) : (s.modSteer f).pending = s.pending := rfl

/-! ## modBrake -/

@[simp] theorem State.modBrake_ident (s : State) (f : Brake → Brake) : (s.modBrake f).ident = s.ident := rfl
@[simp] theorem State.modBrake_clk (s : State) (f : Brake → Brake) : (s.modBrake f).clk = s.clk := rfl
@[simp] theorem State.modBrake_life (s : State) (f : Brake → Brake) : (s.modBrake f).life = s.life := rfl
@[simp] theorem State.modBrake_mb (s : State) (f : Brake → Brake) : (s.modBrake f).mb = s.mb := rfl
@[simp] theorem State.modBrake_par (s : State) (f : Brake → Brake) : (s.modBrake f).par = s.par := rfl
@[simp] theorem State.modBrake_cnt (s : State) (f : Brake → Brake) : (s.modBrake f).cnt = s.cnt := rfl
@[simp] theorem State.modBrake_regs (s : State) (f : Brake → Brake) : (s.modBrake f).regs = s.regs := rfl
@[simp] theorem State.modBrake_aon (s : State) (f : Brake → Brake) : (s.modBrake f).aon = s.aon := rfl
@[simp] theorem State.modBrake_ax (s : State) (f : Brake → Brake) : (s.modBrake f).ax = s.ax := rfl
@[simp] theorem State.modBrake_pair (s : State) (f : Brake → Brake) : (s.modBrake f).pair = s.pair := rfl
@[simp] theorem State.modBrake_ports (s : State) (f : Brake → Brake) : (s.modBrake f).ports = s.ports := rfl
@[simp] theorem State.modBrake_wheels (s : State) (f : Brake → Brake) : (s.modBrake f).wheels = s.wheels := rfl
@[simp] theorem State.modBrake_divs (s : State) (f : Brake → Brake) : (s.modBrake f).divs = s.divs := rfl
@[simp] theorem State.modBrake_su (s : State) (f : Brake → Brake) : (s.modBrake f).su = s.su := rfl
@[simp] theorem State.modBrake_safe (s : State) (f : Brake → Brake) : (s.modBrake f).safe = s.safe := rfl
@[simp] theorem State.modBrake_nov (s : State) (f : Brake → Brake) : (s.modBrake f).nov = s.nov := rfl
@[simp] theorem State.modBrake_twin (s : State) (f : Brake → Brake) : (s.modBrake f).twin = s.twin := rfl
@[simp] theorem State.modBrake_integ (s : State) (f : Brake → Brake) : (s.modBrake f).integ = s.integ := rfl
@[simp] theorem State.modBrake_vote (s : State) (f : Brake → Brake) : (s.modBrake f).vote = s.vote := rfl
@[simp] theorem State.modBrake_steer (s : State) (f : Brake → Brake) : (s.modBrake f).steer = s.steer := rfl
@[simp] theorem State.modBrake_brake (s : State) (f : Brake → Brake) : (s.modBrake f).brake = f s.brake := rfl
@[simp] theorem State.modBrake_vtb (s : State) (f : Brake → Brake) : (s.modBrake f).vtb = s.vtb := rfl
@[simp] theorem State.modBrake_can (s : State) (f : Brake → Brake) : (s.modBrake f).can = s.can := rfl
@[simp] theorem State.modBrake_eth (s : State) (f : Brake → Brake) : (s.modBrake f).eth = s.eth := rfl
@[simp] theorem State.modBrake_arb (s : State) (f : Brake → Brake) : (s.modBrake f).arb = s.arb := rfl
@[simp] theorem State.modBrake_st (s : State) (f : Brake → Brake) : (s.modBrake f).st = s.st := rfl
@[simp] theorem State.modBrake_padReset (s : State) (f : Brake → Brake) : (s.modBrake f).padReset = s.padReset := rfl
@[simp] theorem State.modBrake_free (s : State) (f : Brake → Brake) : (s.modBrake f).free = s.free := rfl
@[simp] theorem State.modBrake_pending (s : State) (f : Brake → Brake) : (s.modBrake f).pending = s.pending := rfl

/-! ## modVtb -/

@[simp] theorem State.modVtb_ident (s : State) (f : Vtb → Vtb) : (s.modVtb f).ident = s.ident := rfl
@[simp] theorem State.modVtb_clk (s : State) (f : Vtb → Vtb) : (s.modVtb f).clk = s.clk := rfl
@[simp] theorem State.modVtb_life (s : State) (f : Vtb → Vtb) : (s.modVtb f).life = s.life := rfl
@[simp] theorem State.modVtb_mb (s : State) (f : Vtb → Vtb) : (s.modVtb f).mb = s.mb := rfl
@[simp] theorem State.modVtb_par (s : State) (f : Vtb → Vtb) : (s.modVtb f).par = s.par := rfl
@[simp] theorem State.modVtb_cnt (s : State) (f : Vtb → Vtb) : (s.modVtb f).cnt = s.cnt := rfl
@[simp] theorem State.modVtb_regs (s : State) (f : Vtb → Vtb) : (s.modVtb f).regs = s.regs := rfl
@[simp] theorem State.modVtb_aon (s : State) (f : Vtb → Vtb) : (s.modVtb f).aon = s.aon := rfl
@[simp] theorem State.modVtb_ax (s : State) (f : Vtb → Vtb) : (s.modVtb f).ax = s.ax := rfl
@[simp] theorem State.modVtb_pair (s : State) (f : Vtb → Vtb) : (s.modVtb f).pair = s.pair := rfl
@[simp] theorem State.modVtb_ports (s : State) (f : Vtb → Vtb) : (s.modVtb f).ports = s.ports := rfl
@[simp] theorem State.modVtb_wheels (s : State) (f : Vtb → Vtb) : (s.modVtb f).wheels = s.wheels := rfl
@[simp] theorem State.modVtb_divs (s : State) (f : Vtb → Vtb) : (s.modVtb f).divs = s.divs := rfl
@[simp] theorem State.modVtb_su (s : State) (f : Vtb → Vtb) : (s.modVtb f).su = s.su := rfl
@[simp] theorem State.modVtb_safe (s : State) (f : Vtb → Vtb) : (s.modVtb f).safe = s.safe := rfl
@[simp] theorem State.modVtb_nov (s : State) (f : Vtb → Vtb) : (s.modVtb f).nov = s.nov := rfl
@[simp] theorem State.modVtb_twin (s : State) (f : Vtb → Vtb) : (s.modVtb f).twin = s.twin := rfl
@[simp] theorem State.modVtb_integ (s : State) (f : Vtb → Vtb) : (s.modVtb f).integ = s.integ := rfl
@[simp] theorem State.modVtb_vote (s : State) (f : Vtb → Vtb) : (s.modVtb f).vote = s.vote := rfl
@[simp] theorem State.modVtb_steer (s : State) (f : Vtb → Vtb) : (s.modVtb f).steer = s.steer := rfl
@[simp] theorem State.modVtb_brake (s : State) (f : Vtb → Vtb) : (s.modVtb f).brake = s.brake := rfl
@[simp] theorem State.modVtb_vtb (s : State) (f : Vtb → Vtb) : (s.modVtb f).vtb = f s.vtb := rfl
@[simp] theorem State.modVtb_can (s : State) (f : Vtb → Vtb) : (s.modVtb f).can = s.can := rfl
@[simp] theorem State.modVtb_eth (s : State) (f : Vtb → Vtb) : (s.modVtb f).eth = s.eth := rfl
@[simp] theorem State.modVtb_arb (s : State) (f : Vtb → Vtb) : (s.modVtb f).arb = s.arb := rfl
@[simp] theorem State.modVtb_st (s : State) (f : Vtb → Vtb) : (s.modVtb f).st = s.st := rfl
@[simp] theorem State.modVtb_padReset (s : State) (f : Vtb → Vtb) : (s.modVtb f).padReset = s.padReset := rfl
@[simp] theorem State.modVtb_free (s : State) (f : Vtb → Vtb) : (s.modVtb f).free = s.free := rfl
@[simp] theorem State.modVtb_pending (s : State) (f : Vtb → Vtb) : (s.modVtb f).pending = s.pending := rfl

/-! ## modEth -/

@[simp] theorem State.modEth_ident (s : State) (f : Eth → Eth) : (s.modEth f).ident = s.ident := rfl
@[simp] theorem State.modEth_clk (s : State) (f : Eth → Eth) : (s.modEth f).clk = s.clk := rfl
@[simp] theorem State.modEth_life (s : State) (f : Eth → Eth) : (s.modEth f).life = s.life := rfl
@[simp] theorem State.modEth_mb (s : State) (f : Eth → Eth) : (s.modEth f).mb = s.mb := rfl
@[simp] theorem State.modEth_par (s : State) (f : Eth → Eth) : (s.modEth f).par = s.par := rfl
@[simp] theorem State.modEth_cnt (s : State) (f : Eth → Eth) : (s.modEth f).cnt = s.cnt := rfl
@[simp] theorem State.modEth_regs (s : State) (f : Eth → Eth) : (s.modEth f).regs = s.regs := rfl
@[simp] theorem State.modEth_aon (s : State) (f : Eth → Eth) : (s.modEth f).aon = s.aon := rfl
@[simp] theorem State.modEth_ax (s : State) (f : Eth → Eth) : (s.modEth f).ax = s.ax := rfl
@[simp] theorem State.modEth_pair (s : State) (f : Eth → Eth) : (s.modEth f).pair = s.pair := rfl
@[simp] theorem State.modEth_ports (s : State) (f : Eth → Eth) : (s.modEth f).ports = s.ports := rfl
@[simp] theorem State.modEth_wheels (s : State) (f : Eth → Eth) : (s.modEth f).wheels = s.wheels := rfl
@[simp] theorem State.modEth_divs (s : State) (f : Eth → Eth) : (s.modEth f).divs = s.divs := rfl
@[simp] theorem State.modEth_su (s : State) (f : Eth → Eth) : (s.modEth f).su = s.su := rfl
@[simp] theorem State.modEth_safe (s : State) (f : Eth → Eth) : (s.modEth f).safe = s.safe := rfl
@[simp] theorem State.modEth_nov (s : State) (f : Eth → Eth) : (s.modEth f).nov = s.nov := rfl
@[simp] theorem State.modEth_twin (s : State) (f : Eth → Eth) : (s.modEth f).twin = s.twin := rfl
@[simp] theorem State.modEth_integ (s : State) (f : Eth → Eth) : (s.modEth f).integ = s.integ := rfl
@[simp] theorem State.modEth_vote (s : State) (f : Eth → Eth) : (s.modEth f).vote = s.vote := rfl
@[simp] theorem State.modEth_steer (s : State) (f : Eth → Eth) : (s.modEth f).steer = s.steer := rfl
@[simp] theorem State.modEth_brake (s : State) (f : Eth → Eth) : (s.modEth f).brake = s.brake := rfl
@[simp] theorem State.modEth_vtb (s : State) (f : Eth → Eth) : (s.modEth f).vtb = s.vtb := rfl
@[simp] theorem State.modEth_can (s : State) (f : Eth → Eth) : (s.modEth f).can = s.can := rfl
@[simp] theorem State.modEth_eth (s : State) (f : Eth → Eth) : (s.modEth f).eth = f s.eth := rfl
@[simp] theorem State.modEth_arb (s : State) (f : Eth → Eth) : (s.modEth f).arb = s.arb := rfl
@[simp] theorem State.modEth_st (s : State) (f : Eth → Eth) : (s.modEth f).st = s.st := rfl
@[simp] theorem State.modEth_padReset (s : State) (f : Eth → Eth) : (s.modEth f).padReset = s.padReset := rfl
@[simp] theorem State.modEth_free (s : State) (f : Eth → Eth) : (s.modEth f).free = s.free := rfl
@[simp] theorem State.modEth_pending (s : State) (f : Eth → Eth) : (s.modEth f).pending = s.pending := rfl

/-! ## modArb -/

@[simp] theorem State.modArb_ident (s : State) (f : Arb → Arb) : (s.modArb f).ident = s.ident := rfl
@[simp] theorem State.modArb_clk (s : State) (f : Arb → Arb) : (s.modArb f).clk = s.clk := rfl
@[simp] theorem State.modArb_life (s : State) (f : Arb → Arb) : (s.modArb f).life = s.life := rfl
@[simp] theorem State.modArb_mb (s : State) (f : Arb → Arb) : (s.modArb f).mb = s.mb := rfl
@[simp] theorem State.modArb_par (s : State) (f : Arb → Arb) : (s.modArb f).par = s.par := rfl
@[simp] theorem State.modArb_cnt (s : State) (f : Arb → Arb) : (s.modArb f).cnt = s.cnt := rfl
@[simp] theorem State.modArb_regs (s : State) (f : Arb → Arb) : (s.modArb f).regs = s.regs := rfl
@[simp] theorem State.modArb_aon (s : State) (f : Arb → Arb) : (s.modArb f).aon = s.aon := rfl
@[simp] theorem State.modArb_ax (s : State) (f : Arb → Arb) : (s.modArb f).ax = s.ax := rfl
@[simp] theorem State.modArb_pair (s : State) (f : Arb → Arb) : (s.modArb f).pair = s.pair := rfl
@[simp] theorem State.modArb_ports (s : State) (f : Arb → Arb) : (s.modArb f).ports = s.ports := rfl
@[simp] theorem State.modArb_wheels (s : State) (f : Arb → Arb) : (s.modArb f).wheels = s.wheels := rfl
@[simp] theorem State.modArb_divs (s : State) (f : Arb → Arb) : (s.modArb f).divs = s.divs := rfl
@[simp] theorem State.modArb_su (s : State) (f : Arb → Arb) : (s.modArb f).su = s.su := rfl
@[simp] theorem State.modArb_safe (s : State) (f : Arb → Arb) : (s.modArb f).safe = s.safe := rfl
@[simp] theorem State.modArb_nov (s : State) (f : Arb → Arb) : (s.modArb f).nov = s.nov := rfl
@[simp] theorem State.modArb_twin (s : State) (f : Arb → Arb) : (s.modArb f).twin = s.twin := rfl
@[simp] theorem State.modArb_integ (s : State) (f : Arb → Arb) : (s.modArb f).integ = s.integ := rfl
@[simp] theorem State.modArb_vote (s : State) (f : Arb → Arb) : (s.modArb f).vote = s.vote := rfl
@[simp] theorem State.modArb_steer (s : State) (f : Arb → Arb) : (s.modArb f).steer = s.steer := rfl
@[simp] theorem State.modArb_brake (s : State) (f : Arb → Arb) : (s.modArb f).brake = s.brake := rfl
@[simp] theorem State.modArb_vtb (s : State) (f : Arb → Arb) : (s.modArb f).vtb = s.vtb := rfl
@[simp] theorem State.modArb_can (s : State) (f : Arb → Arb) : (s.modArb f).can = s.can := rfl
@[simp] theorem State.modArb_eth (s : State) (f : Arb → Arb) : (s.modArb f).eth = s.eth := rfl
@[simp] theorem State.modArb_arb (s : State) (f : Arb → Arb) : (s.modArb f).arb = f s.arb := rfl
@[simp] theorem State.modArb_st (s : State) (f : Arb → Arb) : (s.modArb f).st = s.st := rfl
@[simp] theorem State.modArb_padReset (s : State) (f : Arb → Arb) : (s.modArb f).padReset = s.padReset := rfl
@[simp] theorem State.modArb_free (s : State) (f : Arb → Arb) : (s.modArb f).free = s.free := rfl
@[simp] theorem State.modArb_pending (s : State) (f : Arb → Arb) : (s.modArb f).pending = s.pending := rfl

/-! ## modSt -/

@[simp] theorem State.modSt_ident (s : State) (f : SelfTest → SelfTest) : (s.modSt f).ident = s.ident := rfl
@[simp] theorem State.modSt_clk (s : State) (f : SelfTest → SelfTest) : (s.modSt f).clk = s.clk := rfl
@[simp] theorem State.modSt_life (s : State) (f : SelfTest → SelfTest) : (s.modSt f).life = s.life := rfl
@[simp] theorem State.modSt_mb (s : State) (f : SelfTest → SelfTest) : (s.modSt f).mb = s.mb := rfl
@[simp] theorem State.modSt_par (s : State) (f : SelfTest → SelfTest) : (s.modSt f).par = s.par := rfl
@[simp] theorem State.modSt_cnt (s : State) (f : SelfTest → SelfTest) : (s.modSt f).cnt = s.cnt := rfl
@[simp] theorem State.modSt_regs (s : State) (f : SelfTest → SelfTest) : (s.modSt f).regs = s.regs := rfl
@[simp] theorem State.modSt_aon (s : State) (f : SelfTest → SelfTest) : (s.modSt f).aon = s.aon := rfl
@[simp] theorem State.modSt_ax (s : State) (f : SelfTest → SelfTest) : (s.modSt f).ax = s.ax := rfl
@[simp] theorem State.modSt_pair (s : State) (f : SelfTest → SelfTest) : (s.modSt f).pair = s.pair := rfl
@[simp] theorem State.modSt_ports (s : State) (f : SelfTest → SelfTest) : (s.modSt f).ports = s.ports := rfl
@[simp] theorem State.modSt_wheels (s : State) (f : SelfTest → SelfTest) : (s.modSt f).wheels = s.wheels := rfl
@[simp] theorem State.modSt_divs (s : State) (f : SelfTest → SelfTest) : (s.modSt f).divs = s.divs := rfl
@[simp] theorem State.modSt_su (s : State) (f : SelfTest → SelfTest) : (s.modSt f).su = s.su := rfl
@[simp] theorem State.modSt_safe (s : State) (f : SelfTest → SelfTest) : (s.modSt f).safe = s.safe := rfl
@[simp] theorem State.modSt_nov (s : State) (f : SelfTest → SelfTest) : (s.modSt f).nov = s.nov := rfl
@[simp] theorem State.modSt_twin (s : State) (f : SelfTest → SelfTest) : (s.modSt f).twin = s.twin := rfl
@[simp] theorem State.modSt_integ (s : State) (f : SelfTest → SelfTest) : (s.modSt f).integ = s.integ := rfl
@[simp] theorem State.modSt_vote (s : State) (f : SelfTest → SelfTest) : (s.modSt f).vote = s.vote := rfl
@[simp] theorem State.modSt_steer (s : State) (f : SelfTest → SelfTest) : (s.modSt f).steer = s.steer := rfl
@[simp] theorem State.modSt_brake (s : State) (f : SelfTest → SelfTest) : (s.modSt f).brake = s.brake := rfl
@[simp] theorem State.modSt_vtb (s : State) (f : SelfTest → SelfTest) : (s.modSt f).vtb = s.vtb := rfl
@[simp] theorem State.modSt_can (s : State) (f : SelfTest → SelfTest) : (s.modSt f).can = s.can := rfl
@[simp] theorem State.modSt_eth (s : State) (f : SelfTest → SelfTest) : (s.modSt f).eth = s.eth := rfl
@[simp] theorem State.modSt_arb (s : State) (f : SelfTest → SelfTest) : (s.modSt f).arb = s.arb := rfl
@[simp] theorem State.modSt_st (s : State) (f : SelfTest → SelfTest) : (s.modSt f).st = f s.st := rfl
@[simp] theorem State.modSt_padReset (s : State) (f : SelfTest → SelfTest) : (s.modSt f).padReset = s.padReset := rfl
@[simp] theorem State.modSt_free (s : State) (f : SelfTest → SelfTest) : (s.modSt f).free = s.free := rfl
@[simp] theorem State.modSt_pending (s : State) (f : SelfTest → SelfTest) : (s.modSt f).pending = s.pending := rfl

/-! ## modAx -/

@[simp] theorem State.modAx_ident (s : State) (l : AxisNo) (f : Axis → Axis) : (s.modAx l f).ident = s.ident := rfl
@[simp] theorem State.modAx_clk (s : State) (l : AxisNo) (f : Axis → Axis) : (s.modAx l f).clk = s.clk := rfl
@[simp] theorem State.modAx_life (s : State) (l : AxisNo) (f : Axis → Axis) : (s.modAx l f).life = s.life := rfl
@[simp] theorem State.modAx_mb (s : State) (l : AxisNo) (f : Axis → Axis) : (s.modAx l f).mb = s.mb := rfl
@[simp] theorem State.modAx_par (s : State) (l : AxisNo) (f : Axis → Axis) : (s.modAx l f).par = s.par := rfl
@[simp] theorem State.modAx_cnt (s : State) (l : AxisNo) (f : Axis → Axis) : (s.modAx l f).cnt = s.cnt := rfl
@[simp] theorem State.modAx_regs (s : State) (l : AxisNo) (f : Axis → Axis) : (s.modAx l f).regs = s.regs := rfl
@[simp] theorem State.modAx_aon (s : State) (l : AxisNo) (f : Axis → Axis) : (s.modAx l f).aon = s.aon := rfl
@[simp] theorem State.modAx_ax (s : State) (l : AxisNo) (f : Axis → Axis) : (s.modAx l f).ax = vmod s.ax l f := rfl
@[simp] theorem State.modAx_pair (s : State) (l : AxisNo) (f : Axis → Axis) : (s.modAx l f).pair = s.pair := rfl
@[simp] theorem State.modAx_ports (s : State) (l : AxisNo) (f : Axis → Axis) : (s.modAx l f).ports = s.ports := rfl
@[simp] theorem State.modAx_wheels (s : State) (l : AxisNo) (f : Axis → Axis) : (s.modAx l f).wheels = s.wheels := rfl
@[simp] theorem State.modAx_divs (s : State) (l : AxisNo) (f : Axis → Axis) : (s.modAx l f).divs = s.divs := rfl
@[simp] theorem State.modAx_su (s : State) (l : AxisNo) (f : Axis → Axis) : (s.modAx l f).su = s.su := rfl
@[simp] theorem State.modAx_safe (s : State) (l : AxisNo) (f : Axis → Axis) : (s.modAx l f).safe = s.safe := rfl
@[simp] theorem State.modAx_nov (s : State) (l : AxisNo) (f : Axis → Axis) : (s.modAx l f).nov = s.nov := rfl
@[simp] theorem State.modAx_twin (s : State) (l : AxisNo) (f : Axis → Axis) : (s.modAx l f).twin = s.twin := rfl
@[simp] theorem State.modAx_integ (s : State) (l : AxisNo) (f : Axis → Axis) : (s.modAx l f).integ = s.integ := rfl
@[simp] theorem State.modAx_vote (s : State) (l : AxisNo) (f : Axis → Axis) : (s.modAx l f).vote = s.vote := rfl
@[simp] theorem State.modAx_steer (s : State) (l : AxisNo) (f : Axis → Axis) : (s.modAx l f).steer = s.steer := rfl
@[simp] theorem State.modAx_brake (s : State) (l : AxisNo) (f : Axis → Axis) : (s.modAx l f).brake = s.brake := rfl
@[simp] theorem State.modAx_vtb (s : State) (l : AxisNo) (f : Axis → Axis) : (s.modAx l f).vtb = s.vtb := rfl
@[simp] theorem State.modAx_can (s : State) (l : AxisNo) (f : Axis → Axis) : (s.modAx l f).can = s.can := rfl
@[simp] theorem State.modAx_eth (s : State) (l : AxisNo) (f : Axis → Axis) : (s.modAx l f).eth = s.eth := rfl
@[simp] theorem State.modAx_arb (s : State) (l : AxisNo) (f : Axis → Axis) : (s.modAx l f).arb = s.arb := rfl
@[simp] theorem State.modAx_st (s : State) (l : AxisNo) (f : Axis → Axis) : (s.modAx l f).st = s.st := rfl
@[simp] theorem State.modAx_padReset (s : State) (l : AxisNo) (f : Axis → Axis) : (s.modAx l f).padReset = s.padReset := rfl
@[simp] theorem State.modAx_free (s : State) (l : AxisNo) (f : Axis → Axis) : (s.modAx l f).free = s.free := rfl
@[simp] theorem State.modAx_pending (s : State) (l : AxisNo) (f : Axis → Axis) : (s.modAx l f).pending = s.pending := rfl

/-! ## mapAx -/

@[simp] theorem State.mapAx_ident (s : State) (f : Axis → Axis) : (s.mapAx f).ident = s.ident := rfl
@[simp] theorem State.mapAx_clk (s : State) (f : Axis → Axis) : (s.mapAx f).clk = s.clk := rfl
@[simp] theorem State.mapAx_life (s : State) (f : Axis → Axis) : (s.mapAx f).life = s.life := rfl
@[simp] theorem State.mapAx_mb (s : State) (f : Axis → Axis) : (s.mapAx f).mb = s.mb := rfl
@[simp] theorem State.mapAx_par (s : State) (f : Axis → Axis) : (s.mapAx f).par = s.par := rfl
@[simp] theorem State.mapAx_cnt (s : State) (f : Axis → Axis) : (s.mapAx f).cnt = s.cnt := rfl
@[simp] theorem State.mapAx_regs (s : State) (f : Axis → Axis) : (s.mapAx f).regs = s.regs := rfl
@[simp] theorem State.mapAx_aon (s : State) (f : Axis → Axis) : (s.mapAx f).aon = s.aon := rfl
@[simp] theorem State.mapAx_ax (s : State) (f : Axis → Axis) : (s.mapAx f).ax = s.ax.map f := rfl
@[simp] theorem State.mapAx_pair (s : State) (f : Axis → Axis) : (s.mapAx f).pair = s.pair := rfl
@[simp] theorem State.mapAx_ports (s : State) (f : Axis → Axis) : (s.mapAx f).ports = s.ports := rfl
@[simp] theorem State.mapAx_wheels (s : State) (f : Axis → Axis) : (s.mapAx f).wheels = s.wheels := rfl
@[simp] theorem State.mapAx_divs (s : State) (f : Axis → Axis) : (s.mapAx f).divs = s.divs := rfl
@[simp] theorem State.mapAx_su (s : State) (f : Axis → Axis) : (s.mapAx f).su = s.su := rfl
@[simp] theorem State.mapAx_safe (s : State) (f : Axis → Axis) : (s.mapAx f).safe = s.safe := rfl
@[simp] theorem State.mapAx_nov (s : State) (f : Axis → Axis) : (s.mapAx f).nov = s.nov := rfl
@[simp] theorem State.mapAx_twin (s : State) (f : Axis → Axis) : (s.mapAx f).twin = s.twin := rfl
@[simp] theorem State.mapAx_integ (s : State) (f : Axis → Axis) : (s.mapAx f).integ = s.integ := rfl
@[simp] theorem State.mapAx_vote (s : State) (f : Axis → Axis) : (s.mapAx f).vote = s.vote := rfl
@[simp] theorem State.mapAx_steer (s : State) (f : Axis → Axis) : (s.mapAx f).steer = s.steer := rfl
@[simp] theorem State.mapAx_brake (s : State) (f : Axis → Axis) : (s.mapAx f).brake = s.brake := rfl
@[simp] theorem State.mapAx_vtb (s : State) (f : Axis → Axis) : (s.mapAx f).vtb = s.vtb := rfl
@[simp] theorem State.mapAx_can (s : State) (f : Axis → Axis) : (s.mapAx f).can = s.can := rfl
@[simp] theorem State.mapAx_eth (s : State) (f : Axis → Axis) : (s.mapAx f).eth = s.eth := rfl
@[simp] theorem State.mapAx_arb (s : State) (f : Axis → Axis) : (s.mapAx f).arb = s.arb := rfl
@[simp] theorem State.mapAx_st (s : State) (f : Axis → Axis) : (s.mapAx f).st = s.st := rfl
@[simp] theorem State.mapAx_padReset (s : State) (f : Axis → Axis) : (s.mapAx f).padReset = s.padReset := rfl
@[simp] theorem State.mapAx_free (s : State) (f : Axis → Axis) : (s.mapAx f).free = s.free := rfl
@[simp] theorem State.mapAx_pending (s : State) (f : Axis → Axis) : (s.mapAx f).pending = s.pending := rfl

/-! ## modPair -/

@[simp] theorem State.modPair_ident (s : State) (k : PairNo) (f : Pair → Pair) : (s.modPair k f).ident = s.ident := rfl
@[simp] theorem State.modPair_clk (s : State) (k : PairNo) (f : Pair → Pair) : (s.modPair k f).clk = s.clk := rfl
@[simp] theorem State.modPair_life (s : State) (k : PairNo) (f : Pair → Pair) : (s.modPair k f).life = s.life := rfl
@[simp] theorem State.modPair_mb (s : State) (k : PairNo) (f : Pair → Pair) : (s.modPair k f).mb = s.mb := rfl
@[simp] theorem State.modPair_par (s : State) (k : PairNo) (f : Pair → Pair) : (s.modPair k f).par = s.par := rfl
@[simp] theorem State.modPair_cnt (s : State) (k : PairNo) (f : Pair → Pair) : (s.modPair k f).cnt = s.cnt := rfl
@[simp] theorem State.modPair_regs (s : State) (k : PairNo) (f : Pair → Pair) : (s.modPair k f).regs = s.regs := rfl
@[simp] theorem State.modPair_aon (s : State) (k : PairNo) (f : Pair → Pair) : (s.modPair k f).aon = s.aon := rfl
@[simp] theorem State.modPair_ax (s : State) (k : PairNo) (f : Pair → Pair) : (s.modPair k f).ax = s.ax := rfl
@[simp] theorem State.modPair_pair (s : State) (k : PairNo) (f : Pair → Pair) : (s.modPair k f).pair = vmod s.pair k f := rfl
@[simp] theorem State.modPair_ports (s : State) (k : PairNo) (f : Pair → Pair) : (s.modPair k f).ports = s.ports := rfl
@[simp] theorem State.modPair_wheels (s : State) (k : PairNo) (f : Pair → Pair) : (s.modPair k f).wheels = s.wheels := rfl
@[simp] theorem State.modPair_divs (s : State) (k : PairNo) (f : Pair → Pair) : (s.modPair k f).divs = s.divs := rfl
@[simp] theorem State.modPair_su (s : State) (k : PairNo) (f : Pair → Pair) : (s.modPair k f).su = s.su := rfl
@[simp] theorem State.modPair_safe (s : State) (k : PairNo) (f : Pair → Pair) : (s.modPair k f).safe = s.safe := rfl
@[simp] theorem State.modPair_nov (s : State) (k : PairNo) (f : Pair → Pair) : (s.modPair k f).nov = s.nov := rfl
@[simp] theorem State.modPair_twin (s : State) (k : PairNo) (f : Pair → Pair) : (s.modPair k f).twin = s.twin := rfl
@[simp] theorem State.modPair_integ (s : State) (k : PairNo) (f : Pair → Pair) : (s.modPair k f).integ = s.integ := rfl
@[simp] theorem State.modPair_vote (s : State) (k : PairNo) (f : Pair → Pair) : (s.modPair k f).vote = s.vote := rfl
@[simp] theorem State.modPair_steer (s : State) (k : PairNo) (f : Pair → Pair) : (s.modPair k f).steer = s.steer := rfl
@[simp] theorem State.modPair_brake (s : State) (k : PairNo) (f : Pair → Pair) : (s.modPair k f).brake = s.brake := rfl
@[simp] theorem State.modPair_vtb (s : State) (k : PairNo) (f : Pair → Pair) : (s.modPair k f).vtb = s.vtb := rfl
@[simp] theorem State.modPair_can (s : State) (k : PairNo) (f : Pair → Pair) : (s.modPair k f).can = s.can := rfl
@[simp] theorem State.modPair_eth (s : State) (k : PairNo) (f : Pair → Pair) : (s.modPair k f).eth = s.eth := rfl
@[simp] theorem State.modPair_arb (s : State) (k : PairNo) (f : Pair → Pair) : (s.modPair k f).arb = s.arb := rfl
@[simp] theorem State.modPair_st (s : State) (k : PairNo) (f : Pair → Pair) : (s.modPair k f).st = s.st := rfl
@[simp] theorem State.modPair_padReset (s : State) (k : PairNo) (f : Pair → Pair) : (s.modPair k f).padReset = s.padReset := rfl
@[simp] theorem State.modPair_free (s : State) (k : PairNo) (f : Pair → Pair) : (s.modPair k f).free = s.free := rfl
@[simp] theorem State.modPair_pending (s : State) (k : PairNo) (f : Pair → Pair) : (s.modPair k f).pending = s.pending := rfl

/-! ## at -/

@[simp] theorem State.at_ident (s : State) (now : Ns) : (s.at now).ident = s.ident := rfl
@[simp] theorem State.at_clk (s : State) (now : Ns) : (s.at now).clk = { s.clk with lclk := max s.clk.lclk now } := rfl
@[simp] theorem State.at_life (s : State) (now : Ns) : (s.at now).life = s.life := rfl
@[simp] theorem State.at_mb (s : State) (now : Ns) : (s.at now).mb = s.mb := rfl
@[simp] theorem State.at_par (s : State) (now : Ns) : (s.at now).par = s.par := rfl
@[simp] theorem State.at_cnt (s : State) (now : Ns) : (s.at now).cnt = s.cnt := rfl
@[simp] theorem State.at_regs (s : State) (now : Ns) : (s.at now).regs = s.regs := rfl
@[simp] theorem State.at_aon (s : State) (now : Ns) : (s.at now).aon = s.aon := rfl
@[simp] theorem State.at_ax (s : State) (now : Ns) : (s.at now).ax = s.ax := rfl
@[simp] theorem State.at_pair (s : State) (now : Ns) : (s.at now).pair = s.pair := rfl
@[simp] theorem State.at_ports (s : State) (now : Ns) : (s.at now).ports = s.ports := rfl
@[simp] theorem State.at_wheels (s : State) (now : Ns) : (s.at now).wheels = s.wheels := rfl
@[simp] theorem State.at_divs (s : State) (now : Ns) : (s.at now).divs = s.divs := rfl
@[simp] theorem State.at_su (s : State) (now : Ns) : (s.at now).su = s.su := rfl
@[simp] theorem State.at_safe (s : State) (now : Ns) : (s.at now).safe = s.safe := rfl
@[simp] theorem State.at_nov (s : State) (now : Ns) : (s.at now).nov = s.nov := rfl
@[simp] theorem State.at_twin (s : State) (now : Ns) : (s.at now).twin = s.twin := rfl
@[simp] theorem State.at_integ (s : State) (now : Ns) : (s.at now).integ = s.integ := rfl
@[simp] theorem State.at_vote (s : State) (now : Ns) : (s.at now).vote = s.vote := rfl
@[simp] theorem State.at_steer (s : State) (now : Ns) : (s.at now).steer = s.steer := rfl
@[simp] theorem State.at_brake (s : State) (now : Ns) : (s.at now).brake = s.brake := rfl
@[simp] theorem State.at_vtb (s : State) (now : Ns) : (s.at now).vtb = s.vtb := rfl
@[simp] theorem State.at_can (s : State) (now : Ns) : (s.at now).can = s.can := rfl
@[simp] theorem State.at_eth (s : State) (now : Ns) : (s.at now).eth = s.eth := rfl
@[simp] theorem State.at_arb (s : State) (now : Ns) : (s.at now).arb = s.arb := rfl
@[simp] theorem State.at_st (s : State) (now : Ns) : (s.at now).st = s.st := rfl
@[simp] theorem State.at_padReset (s : State) (now : Ns) : (s.at now).padReset = s.padReset := rfl
@[simp] theorem State.at_free (s : State) (now : Ns) : (s.at now).free = s.free := rfl
@[simp] theorem State.at_pending (s : State) (now : Ns) : (s.at now).pending = s.pending := rfl

/-! ## tickFree -/

@[simp] theorem State.tickFree_ident (s : State) : (s.tickFree).ident = s.ident := rfl
@[simp] theorem State.tickFree_clk (s : State) : (s.tickFree).clk = s.clk := rfl
@[simp] theorem State.tickFree_life (s : State) : (s.tickFree).life = s.life := rfl
@[simp] theorem State.tickFree_mb (s : State) : (s.tickFree).mb = s.mb := rfl
@[simp] theorem State.tickFree_par (s : State) : (s.tickFree).par = s.par := rfl
@[simp] theorem State.tickFree_cnt (s : State) : (s.tickFree).cnt = s.cnt := rfl
@[simp] theorem State.tickFree_regs (s : State) : (s.tickFree).regs = s.regs := rfl
@[simp] theorem State.tickFree_aon (s : State) : (s.tickFree).aon = s.aon := rfl
@[simp] theorem State.tickFree_ax (s : State) : (s.tickFree).ax = s.ax := rfl
@[simp] theorem State.tickFree_pair (s : State) : (s.tickFree).pair = s.pair := rfl
@[simp] theorem State.tickFree_ports (s : State) : (s.tickFree).ports = s.ports := rfl
@[simp] theorem State.tickFree_wheels (s : State) : (s.tickFree).wheels = s.wheels := rfl
@[simp] theorem State.tickFree_divs (s : State) : (s.tickFree).divs = s.divs := rfl
@[simp] theorem State.tickFree_su (s : State) : (s.tickFree).su = s.su := rfl
@[simp] theorem State.tickFree_safe (s : State) : (s.tickFree).safe = s.safe := rfl
@[simp] theorem State.tickFree_nov (s : State) : (s.tickFree).nov = s.nov := rfl
@[simp] theorem State.tickFree_twin (s : State) : (s.tickFree).twin = s.twin := rfl
@[simp] theorem State.tickFree_integ (s : State) : (s.tickFree).integ = s.integ := rfl
@[simp] theorem State.tickFree_vote (s : State) : (s.tickFree).vote = s.vote := rfl
@[simp] theorem State.tickFree_steer (s : State) : (s.tickFree).steer = s.steer := rfl
@[simp] theorem State.tickFree_brake (s : State) : (s.tickFree).brake = s.brake := rfl
@[simp] theorem State.tickFree_vtb (s : State) : (s.tickFree).vtb = s.vtb := rfl
@[simp] theorem State.tickFree_can (s : State) : (s.tickFree).can = s.can := rfl
@[simp] theorem State.tickFree_eth (s : State) : (s.tickFree).eth = s.eth := rfl
@[simp] theorem State.tickFree_arb (s : State) : (s.tickFree).arb = s.arb := rfl
@[simp] theorem State.tickFree_st (s : State) : (s.tickFree).st = s.st := rfl
@[simp] theorem State.tickFree_padReset (s : State) : (s.tickFree).padReset = s.padReset := rfl
@[simp] theorem State.tickFree_free (s : State) : (s.tickFree).free = s.free + 1 := rfl
@[simp] theorem State.tickFree_pending (s : State) : (s.tickFree).pending = s.pending := rfl

/-! ## intr -/

@[simp] theorem State.intr_ident (s : State) (m : Word) : (s.intr m).ident = s.ident := rfl
@[simp] theorem State.intr_clk (s : State) (m : Word) : (s.intr m).clk = s.clk := rfl
@[simp] theorem State.intr_life (s : State) (m : Word) : (s.intr m).life = s.life := rfl
@[simp] theorem State.intr_mb (s : State) (m : Word) : (s.intr m).mb = s.mb := rfl
@[simp] theorem State.intr_par (s : State) (m : Word) : (s.intr m).par = s.par := rfl
@[simp] theorem State.intr_cnt (s : State) (m : Word) : (s.intr m).cnt = s.cnt := rfl
@[simp] theorem State.intr_regs (s : State) (m : Word) : (s.intr m).regs = { s.regs with intstat := s.regs.intstat ||| m } := rfl
@[simp] theorem State.intr_aon (s : State) (m : Word) : (s.intr m).aon = s.aon := rfl
@[simp] theorem State.intr_ax (s : State) (m : Word) : (s.intr m).ax = s.ax := rfl
@[simp] theorem State.intr_pair (s : State) (m : Word) : (s.intr m).pair = s.pair := rfl
@[simp] theorem State.intr_ports (s : State) (m : Word) : (s.intr m).ports = s.ports := rfl
@[simp] theorem State.intr_wheels (s : State) (m : Word) : (s.intr m).wheels = s.wheels := rfl
@[simp] theorem State.intr_divs (s : State) (m : Word) : (s.intr m).divs = s.divs := rfl
@[simp] theorem State.intr_su (s : State) (m : Word) : (s.intr m).su = s.su := rfl
@[simp] theorem State.intr_safe (s : State) (m : Word) : (s.intr m).safe = s.safe := rfl
@[simp] theorem State.intr_nov (s : State) (m : Word) : (s.intr m).nov = s.nov := rfl
@[simp] theorem State.intr_twin (s : State) (m : Word) : (s.intr m).twin = s.twin := rfl
@[simp] theorem State.intr_integ (s : State) (m : Word) : (s.intr m).integ = s.integ := rfl
@[simp] theorem State.intr_vote (s : State) (m : Word) : (s.intr m).vote = s.vote := rfl
@[simp] theorem State.intr_steer (s : State) (m : Word) : (s.intr m).steer = s.steer := rfl
@[simp] theorem State.intr_brake (s : State) (m : Word) : (s.intr m).brake = s.brake := rfl
@[simp] theorem State.intr_vtb (s : State) (m : Word) : (s.intr m).vtb = s.vtb := rfl
@[simp] theorem State.intr_can (s : State) (m : Word) : (s.intr m).can = s.can := rfl
@[simp] theorem State.intr_eth (s : State) (m : Word) : (s.intr m).eth = s.eth := rfl
@[simp] theorem State.intr_arb (s : State) (m : Word) : (s.intr m).arb = s.arb := rfl
@[simp] theorem State.intr_st (s : State) (m : Word) : (s.intr m).st = s.st := rfl
@[simp] theorem State.intr_padReset (s : State) (m : Word) : (s.intr m).padReset = s.padReset := rfl
@[simp] theorem State.intr_free (s : State) (m : Word) : (s.intr m).free = s.free := rfl
@[simp] theorem State.intr_pending (s : State) (m : Word) : (s.intr m).pending = s.pending := rfl

end Sys2Proof.Machine
end

