-- ==== Sys2Proof/Laws/Cells.lean ====
section
/-!
SUPPORT. The sparse stores: what a write leaves at each address, that every operation on a store keeps its canonical form, and that
canonical stores with the same contents are the same list.
-/

namespace Sys2Proof.Machine

/-! ## The canonical form -/

theorem Cells.wfFrom_mono {d : Nat → Word} {lo lo' : Nat} {c : Cells} (h : lo ≤ lo') (hc : Cells.wfFrom d lo' c) :
    Cells.wfFrom d lo c := by
  cases c with
  | nil => rfl
  | cons p r =>
    simp only [Cells.wfFrom, Bool.and_eq_true, decide_eq_true_eq] at hc ⊢
    exact ⟨⟨by omega, hc.1.2⟩, hc.2⟩

/-- Below its first address a store in canonical form reads as unlisted. -/
theorem Cells.read_below {d : Nat → Word} {lo a : Nat} {c : Cells} (hc : Cells.wfFrom d lo c) (h : a < lo) :
    Cells.read d c a = d a := by
  cases c with
  | nil => rfl
  | cons p r =>
    simp only [Cells.wfFrom, Bool.and_eq_true, decide_eq_true_eq] at hc
    rw [Cells.read, if_neg (by omega), if_pos (by omega)]

theorem Cells.wfFrom_write {d : Nat → Word} {lo a : Nat} {c : Cells} (v : Word) (hc : Cells.wfFrom d lo c) (h : lo ≤ a) :
    Cells.wfFrom d lo (Cells.write d c a v) := by
  induction c generalizing lo with
  | nil =>
    unfold Cells.write
    split
    · rfl
    · next hv => simp [Cells.wfFrom, h, hv]
  | cons p r ih =>
    obtain ⟨b, w⟩ := p
    simp only [Cells.wfFrom, Bool.and_eq_true, decide_eq_true_eq] at hc
    obtain ⟨⟨h1, h2⟩, h3⟩ := hc
    unfold Cells.write
    split
    · next he =>
      subst he
      split
      · exact Cells.wfFrom_mono (by omega) h3
      · next hv => simp [Cells.wfFrom, h, hv, h3]
    · next hne =>
      split
      · next hlt =>
        split
        · simp [Cells.wfFrom, h1, h2, h3]
        · next hv =>
          simp only [Cells.wfFrom, Bool.and_eq_true, decide_eq_true_eq]
          exact ⟨⟨h, hv⟩, ⟨by omega, h2⟩, h3⟩
      · next hge =>
        simp only [Cells.wfFrom, Bool.and_eq_true, decide_eq_true_eq]
        exact ⟨⟨h1, h2⟩, ih h3 (by omega)⟩

/-- A write keeps the canonical form. -/
theorem Cells.wf_write (d : Nat → Word) (c : Cells) (a : Nat) (v : Word) (hc : Cells.wf d c) : Cells.wf d (Cells.write d c a v) :=
  Cells.wfFrom_write v hc (Nat.zero_le a)

/-- The empty store is in canonical form. -/
@[simp] theorem Cells.wf_nil (d : Nat → Word) : Cells.wf d [] = true := rfl

theorem Cells.wfFrom_filter {d : Nat → Word} {lo : Nat} {c : Cells} (f : Nat × Word → Bool) (hc : Cells.wfFrom d lo c) :
    Cells.wfFrom d lo (c.filter f) := by
  induction c generalizing lo with
  | nil => rfl
  | cons p r ih =>
    simp only [Cells.wfFrom, Bool.and_eq_true, decide_eq_true_eq] at hc
    rw [List.filter_cons]
    split
    · simp only [Cells.wfFrom, Bool.and_eq_true, decide_eq_true_eq]
      exact ⟨hc.1, ih hc.2⟩
    · exact Cells.wfFrom_mono (by omega) (ih hc.2)

/-- Entries dropped from a store leave it in canonical form. -/
theorem Cells.wf_filter (d : Nat → Word) (c : Cells) (f : Nat × Word → Bool) (hc : Cells.wf d c) : Cells.wf d (c.filter f) :=
  Cells.wfFrom_filter f hc

/-! ## Read after write -/

theorem Cells.read_write_from {d : Nat → Word} {lo : Nat} {c : Cells} (a b : Nat) (v : Word) (hc : Cells.wfFrom d lo c) :
    Cells.read d (Cells.write d c a v) b = if b = a then v else Cells.read d c b := by
  induction c generalizing lo with
  | nil =>
    by_cases hv : v = d a <;> by_cases hb : b = a <;> simp [Cells.write, Cells.read, hv, hb]
  | cons p r ih =>
    obtain ⟨x, w⟩ := p
    simp only [Cells.wfFrom, Bool.and_eq_true, decide_eq_true_eq] at hc
    obtain ⟨-, h3⟩ := hc
    have ih := ih h3
    have hx : ∀ y, y ≤ x → Cells.read d r y = d y := fun y hy => Cells.read_below h3 (by omega)
    unfold Cells.write
    split
    · next he =>
      subst he
      by_cases hb : b = a
      · subst hb
        split
        · next hv => simp [hx b (Nat.le_refl b), hv]
        · simp [Cells.read]
      · by_cases hlt : b < a
        · split <;> simp [Cells.read, hb, hlt, hx b (by omega)]
        · split <;> simp [Cells.read, hb, hlt]
    · next hne =>
      by_cases hlt : a < x
      · rw [if_pos hlt]
        by_cases hb : b = a
        · subst hb
          split
          · next hv => simp [Cells.read, hne, hlt, hv]
          · simp [Cells.read]
        · split
          · simp
          · by_cases h4 : b < a
            · have h5 : b ≠ x := by omega
              have h6 : b < x := by omega
              simp [Cells.read, hb, h4, h5, h6]
            · simp [Cells.read, hb, h4]
      · rw [if_neg hlt]
        by_cases h5 : b = x
        · subst h5
          simp [Cells.read, Ne.symm hne]
        · by_cases h6 : b < x
          · have h7 : b ≠ a := by omega
            simp [Cells.read, h5, h6, h7]
          · simp only [Cells.read, if_neg h5, if_neg h6, ih]

/-- A read after a write gives the value written at its address and leaves every other address alone. -/
theorem Cells.read_write (d : Nat → Word) (c : Cells) (a b : Nat) (v : Word) (hc : Cells.wf d c) :
    Cells.read d (Cells.write d c a v) b = if b = a then v else Cells.read d c b :=
  Cells.read_write_from a b v hc

/-- A read of the address written. -/
theorem Cells.read_write_same (d : Nat → Word) (c : Cells) (a : Nat) (v : Word) (hc : Cells.wf d c) :
    Cells.read d (Cells.write d c a v) a = v := by
  rw [Cells.read_write d c a a v hc, if_pos rfl]

/-- A read of another address. -/
theorem Cells.read_write_ne (d : Nat → Word) (c : Cells) (a b : Nat) (v : Word) (hc : Cells.wf d c) (h : b ≠ a) :
    Cells.read d (Cells.write d c a v) b = Cells.read d c b := by
  rw [Cells.read_write d c a b v hc, if_neg h]

/-! ## Equal contents, equal lists -/

theorem Cells.ext_from {d : Nat → Word} {lo : Nat} {c e : Cells} (hc : Cells.wfFrom d lo c) (he : Cells.wfFrom d lo e)
    (h : ∀ a, Cells.read d c a = Cells.read d e a) : c = e := by
  induction c generalizing lo e with
  | nil =>
    cases e with
    | nil => rfl
    | cons q r =>
      simp only [Cells.wfFrom, Bool.and_eq_true, decide_eq_true_eq] at he
      have := h q.1
      simp only [Cells.read, if_true] at this
      exact absurd this.symm he.1.2
  | cons p r ih =>
    obtain ⟨x, w⟩ := p
    simp only [Cells.wfFrom, Bool.and_eq_true, decide_eq_true_eq] at hc
    cases e with
    | nil =>
      have := h x
      simp only [Cells.read, if_true] at this
      exact absurd this hc.1.2
    | cons q r' =>
      obtain ⟨y, z⟩ := q
      simp only [Cells.wfFrom, Bool.and_eq_true, decide_eq_true_eq] at he
      have hxy : x = y := by
        rcases Nat.lt_trichotomy x y with hl | hl | hl
        · have := h x
          simp only [Cells.read, if_true, if_neg (Nat.ne_of_lt hl), if_pos hl] at this
          exact absurd this hc.1.2
        · exact hl
        · have := h y
          simp only [Cells.read, if_true, if_neg (Nat.ne_of_lt hl), if_pos hl] at this
          exact absurd this.symm he.1.2
      subst hxy
      have hw : w = z := by have := h x; simpa [Cells.read] using this
      subst hw
      congr 1
      refine ih hc.2 he.2 fun a => ?_
      by_cases ha : a ≤ x
      · rw [Cells.read_below hc.2 (by omega), Cells.read_below he.2 (by omega)]
      · have := h a
        simpa only [Cells.read, if_neg (show a ≠ x by omega), if_neg (show ¬ a < x by omega)] using this

/-- Two stores in canonical form that read alike at every address are equal. -/
theorem Cells.ext (d : Nat → Word) (c e : Cells) (hc : Cells.wf d c) (he : Cells.wf d e)
    (h : ∀ a, Cells.read d c a = Cells.read d e a) : c = e :=
  Cells.ext_from hc he h

/-! ## Counters -/

/-- A count keeps the canonical form of the counters. -/
theorem Counters.wf_bump (c : Counters) (i : Nat) (hc : Cells.wf zeroD c) : Cells.wf zeroD (Counters.bump c i).1 := by
  unfold Counters.bump
  simp only []
  split
  · exact hc
  · split <;> exact Cells.wf_write _ _ _ _ hc

/-- A counter below FFFEh counts to the next value and does not saturate (R504). -/
theorem Counters.bump_below (c : Counters) (i : Nat) (h : (Cells.read zeroD c i).toNat < 65534) :
    Counters.bump c i = (Cells.write zeroD c i (Cells.read zeroD c i + 1), false) := by
  unfold Counters.bump
  have h16 : (Cells.read zeroD c i).getLsbD 16 = false := by
    rw [BitVec.getLsbD, Nat.testBit_lt_two_pow (by omega)]
  have hne : Cells.read zeroD c i + 1 ≠ 0xFFFF := by
    intro he
    have := congrArg BitVec.toNat he
    simp only [BitVec.toNat_add] at this
    have h2 : (0xFFFF : BitVec 32).toNat = 65535 := rfl
    have h3 : (1 : BitVec 32).toNat = 1 := rfl
    rw [h2, h3, Nat.mod_eq_of_lt (by omega)] at this
    omega
  simp only [h16, Bool.false_eq_true, if_false, if_neg hne]

/-- Counting on a counter that does not saturate changes nothing but the counters. -/
theorem State.bump_below (s : State) (i : Nat) (h : (s.counter i).toNat < 65534) :
    s.bump i = { s with cnt := Cells.write zeroD s.cnt i (s.counter i + 1) } := by
  unfold State.bump
  rw [Counters.bump_below s.cnt i h]
  rfl

/-! ## Reset -/

/-- The memories of an engine at reset are in canonical form. -/
theorem Engine.canonical_default (e : EngineId) : Engine.canonical {} e = true := rfl

/-- Every store of the lane at reset is in canonical form. -/
theorem State.canonical_reset : State.reset.canonical = true := by
  have h : ∀ l : AxisNo, State.reset.ax[l].eng = {} := by
    intro l
    simp [State.reset]
  simp only [State.canonical, h]
  rfl

end Sys2Proof.Machine
end

