-- ==== Sys2Proof/Laws/Ops.lean ====
section
/-!
SUPPORT. What each shared operation can do: events, counters and queues touch the mailbox, the counters, the interrupt flags and the
record of late events only; a change of state, a torque-off and an axis fault touch what the manual says and nothing else.
-/

namespace Sys2Proof.Machine

/-! ## Events, counters and queues -/

/-- What an event, a count or an entry of a queue may touch. -/
def State.logOnly (s t : State) : Prop := { t with mb := s.mb, cnt := s.cnt, regs := s.regs, aon := s.aon } = s

theorem State.logOnly_refl (s : State) : s.logOnly s := rfl

theorem State.logOnly_trans {s t u : State} (h : s.logOnly t) (k : t.logOnly u) : s.logOnly u := by
  unfold State.logOnly at *
  rw [← k] at h
  exact h

theorem State.queueEvent_logOnly (s : State) (e : LateEv) : s.logOnly (s.queueEvent e) := by
  unfold State.queueEvent State.pushEvent State.logOnly
  simp only []
  split <;> rfl

/-- Raising an event changes the mailbox, the counters, the interrupt flags or the record of late events, and nothing else. -/
theorem State.raise_logOnly (s : State) (code : Nat) (sev : Sev) (ax : Option AxisNo) (args : List Word) :
    s.logOnly (s.raise code sev ax args) := by
  unfold State.raise
  simp only []
  split
  · exact s.queueEvent_logOnly _
  · rfl

theorem State.logOnly.raise {s t : State} (h : s.logOnly t) (code : Nat) (sev : Sev) (ax : Option AxisNo) (args : List Word) :
    s.logOnly (t.raise code sev ax args) := State.logOnly_trans h (t.raise_logOnly code sev ax args)

/-- Counting changes what an event changes, and nothing else. -/
theorem State.bump_logOnly (s : State) (i : Nat) : s.logOnly (s.bump i) := by
  unfold State.bump
  simp only []
  split
  · refine State.logOnly.raise ?_ _ _ _ _
    rfl
  · rfl

theorem State.bumpN_logOnly (s : State) (i n : Nat) : s.logOnly (s.bumpN i n) := by
  induction n generalizing s with
  | zero => exact s.logOnly_refl
  | succ n ih => exact State.logOnly_trans (s.bump_logOnly i) (ih _)

/-- Placing an entry changes what an event changes, and nothing else. -/
theorem State.push_logOnly (s : State) (q : Fin 16) (e : QEntry) : s.logOnly (s.push q e) := by
  unfold State.push
  simp only []
  split
  · rfl
  · split
    · exact s.bump_logOnly _
    · refine State.logOnly.raise ?_ _ _ _ _
      exact State.logOnly_trans (s.bump_logOnly (qCnt q)) rfl

/-- Delivering a response changes what an event changes, and nothing else. -/
theorem State.deliver_logOnly (s : State) (src : Source) (cls : BitVec 4) (w : Slot) : s.logOnly (s.deliver src cls w) := by
  unfold State.deliver
  split
  · exact s.push_logOnly _ _
  · split
    · rfl
    · exact s.bump_logOnly _

theorem State.logOnly.ident {s t : State} (h : s.logOnly t) : t.ident = s.ident := by
  rw [← show _ = s from h]
theorem State.logOnly.clk {s t : State} (h : s.logOnly t) : t.clk = s.clk := by
  rw [← show _ = s from h]
theorem State.logOnly.life {s t : State} (h : s.logOnly t) : t.life = s.life := by
  rw [← show _ = s from h]
theorem State.logOnly.par {s t : State} (h : s.logOnly t) : t.par = s.par := by
  rw [← show _ = s from h]
theorem State.logOnly.ax {s t : State} (h : s.logOnly t) : t.ax = s.ax := by
  rw [← show _ = s from h]
theorem State.logOnly.pair {s t : State} (h : s.logOnly t) : t.pair = s.pair := by
  rw [← show _ = s from h]
theorem State.logOnly.ports {s t : State} (h : s.logOnly t) : t.ports = s.ports := by
  rw [← show _ = s from h]
theorem State.logOnly.wheels {s t : State} (h : s.logOnly t) : t.wheels = s.wheels := by
  rw [← show _ = s from h]
theorem State.logOnly.divs {s t : State} (h : s.logOnly t) : t.divs = s.divs := by
  rw [← show _ = s from h]
theorem State.logOnly.su {s t : State} (h : s.logOnly t) : t.su = s.su := by
  rw [← show _ = s from h]
theorem State.logOnly.safe {s t : State} (h : s.logOnly t) : t.safe = s.safe := by
  rw [← show _ = s from h]
theorem State.logOnly.nov {s t : State} (h : s.logOnly t) : t.nov = s.nov := by
  rw [← show _ = s from h]
theorem State.logOnly.twin {s t : State} (h : s.logOnly t) : t.twin = s.twin := by
  rw [← show _ = s from h]
theorem State.logOnly.integ {s t : State} (h : s.logOnly t) : t.integ = s.integ := by
  rw [← show _ = s from h]
theorem State.logOnly.vote {s t : State} (h : s.logOnly t) : t.vote = s.vote := by
  rw [← show _ = s from h]
theorem State.logOnly.steer {s t : State} (h : s.logOnly t) : t.steer = s.steer := by
  rw [← show _ = s from h]
theorem State.logOnly.brake {s t : State} (h : s.logOnly t) : t.brake = s.brake := by
  rw [← show _ = s from h]
theorem State.logOnly.vtb {s t : State} (h : s.logOnly t) : t.vtb = s.vtb := by
  rw [← show _ = s from h]
theorem State.logOnly.can {s t : State} (h : s.logOnly t) : t.can = s.can := by
  rw [← show _ = s from h]
theorem State.logOnly.eth {s t : State} (h : s.logOnly t) : t.eth = s.eth := by
  rw [← show _ = s from h]
theorem State.logOnly.arb {s t : State} (h : s.logOnly t) : t.arb = s.arb := by
  rw [← show _ = s from h]
theorem State.logOnly.st {s t : State} (h : s.logOnly t) : t.st = s.st := by
  rw [← show _ = s from h]
theorem State.logOnly.padReset {s t : State} (h : s.logOnly t) : t.padReset = s.padReset := by
  rw [← show _ = s from h]
theorem State.logOnly.free {s t : State} (h : s.logOnly t) : t.free = s.free := by
  rw [← show _ = s from h]
theorem State.logOnly.pending {s t : State} (h : s.logOnly t) : t.pending = s.pending := by
  rw [← show _ = s from h]

@[simp] theorem State.raise_ident (s : State) (code : Nat) (sev : Sev) (ax : Option AxisNo) (args : List Word) : (s.raise code sev ax args).ident = s.ident := (s.raise_logOnly code sev ax args).ident
@[simp] theorem State.raise_clk (s : State) (code : Nat) (sev : Sev) (ax : Option AxisNo) (args : List Word) : (s.raise code sev ax args).clk = s.clk := (s.raise_logOnly code sev ax args).clk
@[simp] theorem State.raise_life (s : State) (code : Nat) (sev : Sev) (ax : Option AxisNo) (args : List Word) : (s.raise code sev ax args).life = s.life := (s.raise_logOnly code sev ax args).life
@[simp] theorem State.raise_par (s : State) (code : Nat) (sev : Sev) (ax : Option AxisNo) (args : List Word) : (s.raise code sev ax args).par = s.par := (s.raise_logOnly code sev ax args).par
@[simp] theorem State.raise_ax (s : State) (code : Nat) (sev : Sev) (ax : Option AxisNo) (args : List Word) : (s.raise code sev ax args).ax = s.ax := (s.raise_logOnly code sev ax args).ax
@[simp] theorem State.raise_pair (s : State) (code : Nat) (sev : Sev) (ax : Option AxisNo) (args : List Word) : (s.raise code sev ax args).pair = s.pair := (s.raise_logOnly code sev ax args).pair
@[simp] theorem State.raise_ports (s : State) (code : Nat) (sev : Sev) (ax : Option AxisNo) (args : List Word) : (s.raise code sev ax args).ports = s.ports := (s.raise_logOnly code sev ax args).ports
@[simp] theorem State.raise_wheels (s : State) (code : Nat) (sev : Sev) (ax : Option AxisNo) (args : List Word) : (s.raise code sev ax args).wheels = s.wheels := (s.raise_logOnly code sev ax args).wheels
@[simp] theorem State.raise_divs (s : State) (code : Nat) (sev : Sev) (ax : Option AxisNo) (args : List Word) : (s.raise code sev ax args).divs = s.divs := (s.raise_logOnly code sev ax args).divs
@[simp] theorem State.raise_su (s : State) (code : Nat) (sev : Sev) (ax : Option AxisNo) (args : List Word) : (s.raise code sev ax args).su = s.su := (s.raise_logOnly code sev ax args).su
@[simp] theorem State.raise_safe (s : State) (code : Nat) (sev : Sev) (ax : Option AxisNo) (args : List Word) : (s.raise code sev ax args).safe = s.safe := (s.raise_logOnly code sev ax args).safe
@[simp] theorem State.raise_nov (s : State) (code : Nat) (sev : Sev) (ax : Option AxisNo) (args : List Word) : (s.raise code sev ax args).nov = s.nov := (s.raise_logOnly code sev ax args).nov
@[simp] theorem State.raise_twin (s : State) (code : Nat) (sev : Sev) (ax : Option AxisNo) (args : List Word) : (s.raise code sev ax args).twin = s.twin := (s.raise_logOnly code sev ax args).twin
@[simp] theorem State.raise_integ (s : State) (code : Nat) (sev : Sev) (ax : Option AxisNo) (args : List Word) : (s.raise code sev ax args).integ = s.integ := (s.raise_logOnly code sev ax args).integ
@[simp] theorem State.raise_vote (s : State) (code : Nat) (sev : Sev) (ax : Option AxisNo) (args : List Word) : (s.raise code sev ax args).vote = s.vote := (s.raise_logOnly code sev ax args).vote
@[simp] theorem State.raise_steer (s : State) (code : Nat) (sev : Sev) (ax : Option AxisNo) (args : List Word) : (s.raise code sev ax args).steer = s.steer := (s.raise_logOnly code sev ax args).steer
@[simp] theorem State.raise_brake (s : State) (code : Nat) (sev : Sev) (ax : Option AxisNo) (args : List Word) : (s.raise code sev ax args).brake = s.brake := (s.raise_logOnly code sev ax args).brake
@[simp] theorem State.raise_vtb (s : State) (code : Nat) (sev : Sev) (ax : Option AxisNo) (args : List Word) : (s.raise code sev ax args).vtb = s.vtb := (s.raise_logOnly code sev ax args).vtb
@[simp] theorem State.raise_can (s : State) (code : Nat) (sev : Sev) (ax : Option AxisNo) (args : List Word) : (s.raise code sev ax args).can = s.can := (s.raise_logOnly code sev ax args).can
@[simp] theorem State.raise_eth (s : State) (code : Nat) (sev : Sev) (ax : Option AxisNo) (args : List Word) : (s.raise code sev ax args).eth = s.eth := (s.raise_logOnly code sev ax args).eth
@[simp] theorem State.raise_arb (s : State) (code : Nat) (sev : Sev) (ax : Option AxisNo) (args : List Word) : (s.raise code sev ax args).arb = s.arb := (s.raise_logOnly code sev ax args).arb
@[simp] theorem State.raise_st (s : State) (code : Nat) (sev : Sev) (ax : Option AxisNo) (args : List Word) : (s.raise code sev ax args).st = s.st := (s.raise_logOnly code sev ax args).st
@[simp] theorem State.raise_padReset (s : State) (code : Nat) (sev : Sev) (ax : Option AxisNo) (args : List Word) : (s.raise code sev ax args).padReset = s.padReset := (s.raise_logOnly code sev ax args).padReset
@[simp] theorem State.raise_free (s : State) (code : Nat) (sev : Sev) (ax : Option AxisNo) (args : List Word) : (s.raise code sev ax args).free = s.free := (s.raise_logOnly code sev ax args).free
@[simp] theorem State.raise_pending (s : State) (code : Nat) (sev : Sev) (ax : Option AxisNo) (args : List Word) : (s.raise code sev ax args).pending = s.pending := (s.raise_logOnly code sev ax args).pending

@[simp] theorem State.bump_ident (s : State) (i : Nat) : (s.bump i).ident = s.ident := (s.bump_logOnly i).ident
@[simp] theorem State.bump_clk (s : State) (i : Nat) : (s.bump i).clk = s.clk := (s.bump_logOnly i).clk
@[simp] theorem State.bump_life (s : State) (i : Nat) : (s.bump i).life = s.life := (s.bump_logOnly i).life
@[simp] theorem State.bump_par (s : State) (i : Nat) : (s.bump i).par = s.par := (s.bump_logOnly i).par
@[simp] theorem State.bump_ax (s : State) (i : Nat) : (s.bump i).ax = s.ax := (s.bump_logOnly i).ax
@[simp] theorem State.bump_pair (s : State) (i : Nat) : (s.bump i).pair = s.pair := (s.bump_logOnly i).pair
@[simp] theorem State.bump_ports (s : State) (i : Nat) : (s.bump i).ports = s.ports := (s.bump_logOnly i).ports
@[simp] theorem State.bump_wheels (s : State) (i : Nat) : (s.bump i).wheels = s.wheels := (s.bump_logOnly i).wheels
@[simp] theorem State.bump_divs (s : State) (i : Nat) : (s.bump i).divs = s.divs := (s.bump_logOnly i).divs
@[simp] theorem State.bump_su (s : State) (i : Nat) : (s.bump i).su = s.su := (s.bump_logOnly i).su
@[simp] theorem State.bump_safe (s : State) (i : Nat) : (s.bump i).safe = s.safe := (s.bump_logOnly i).safe
@[simp] theorem State.bump_nov (s : State) (i : Nat) : (s.bump i).nov = s.nov := (s.bump_logOnly i).nov
@[simp] theorem State.bump_twin (s : State) (i : Nat) : (s.bump i).twin = s.twin := (s.bump_logOnly i).twin
@[simp] theorem State.bump_integ (s : State) (i : Nat) : (s.bump i).integ = s.integ := (s.bump_logOnly i).integ
@[simp] theorem State.bump_vote (s : State) (i : Nat) : (s.bump i).vote = s.vote := (s.bump_logOnly i).vote
@[simp] theorem State.bump_steer (s : State) (i : Nat) : (s.bump i).steer = s.steer := (s.bump_logOnly i).steer
@[simp] theorem State.bump_brake (s : State) (i : Nat) : (s.bump i).brake = s.brake := (s.bump_logOnly i).brake
@[simp] theorem State.bump_vtb (s : State) (i : Nat) : (s.bump i).vtb = s.vtb := (s.bump_logOnly i).vtb
@[simp] theorem State.bump_can (s : State) (i : Nat) : (s.bump i).can = s.can := (s.bump_logOnly i).can
@[simp] theorem State.bump_eth (s : State) (i : Nat) : (s.bump i).eth = s.eth := (s.bump_logOnly i).eth
@[simp] theorem State.bump_arb (s : State) (i : Nat) : (s.bump i).arb = s.arb := (s.bump_logOnly i).arb
@[simp] theorem State.bump_st (s : State) (i : Nat) : (s.bump i).st = s.st := (s.bump_logOnly i).st
@[simp] theorem State.bump_padReset (s : State) (i : Nat) : (s.bump i).padReset = s.padReset := (s.bump_logOnly i).padReset
@[simp] theorem State.bump_free (s : State) (i : Nat) : (s.bump i).free = s.free := (s.bump_logOnly i).free
@[simp] theorem State.bump_pending (s : State) (i : Nat) : (s.bump i).pending = s.pending := (s.bump_logOnly i).pending

@[simp] theorem State.bumpN_ident (s : State) (i n : Nat) : (s.bumpN i n).ident = s.ident := (s.bumpN_logOnly i n).ident
@[simp] theorem State.bumpN_clk (s : State) (i n : Nat) : (s.bumpN i n).clk = s.clk := (s.bumpN_logOnly i n).clk
@[simp] theorem State.bumpN_life (s : State) (i n : Nat) : (s.bumpN i n).life = s.life := (s.bumpN_logOnly i n).life
@[simp] theorem State.bumpN_par (s : State) (i n : Nat) : (s.bumpN i n).par = s.par := (s.bumpN_logOnly i n).par
@[simp] theorem State.bumpN_ax (s : State) (i n : Nat) : (s.bumpN i n).ax = s.ax := (s.bumpN_logOnly i n).ax
@[simp] theorem State.bumpN_pair (s : State) (i n : Nat) : (s.bumpN i n).pair = s.pair := (s.bumpN_logOnly i n).pair
@[simp] theorem State.bumpN_ports (s : State) (i n : Nat) : (s.bumpN i n).ports = s.ports := (s.bumpN_logOnly i n).ports
@[simp] theorem State.bumpN_wheels (s : State) (i n : Nat) : (s.bumpN i n).wheels = s.wheels := (s.bumpN_logOnly i n).wheels
@[simp] theorem State.bumpN_divs (s : State) (i n : Nat) : (s.bumpN i n).divs = s.divs := (s.bumpN_logOnly i n).divs
@[simp] theorem State.bumpN_su (s : State) (i n : Nat) : (s.bumpN i n).su = s.su := (s.bumpN_logOnly i n).su
@[simp] theorem State.bumpN_safe (s : State) (i n : Nat) : (s.bumpN i n).safe = s.safe := (s.bumpN_logOnly i n).safe
@[simp] theorem State.bumpN_nov (s : State) (i n : Nat) : (s.bumpN i n).nov = s.nov := (s.bumpN_logOnly i n).nov
@[simp] theorem State.bumpN_twin (s : State) (i n : Nat) : (s.bumpN i n).twin = s.twin := (s.bumpN_logOnly i n).twin
@[simp] theorem State.bumpN_integ (s : State) (i n : Nat) : (s.bumpN i n).integ = s.integ := (s.bumpN_logOnly i n).integ
@[simp] theorem State.bumpN_vote (s : State) (i n : Nat) : (s.bumpN i n).vote = s.vote := (s.bumpN_logOnly i n).vote
@[simp] theorem State.bumpN_steer (s : State) (i n : Nat) : (s.bumpN i n).steer = s.steer := (s.bumpN_logOnly i n).steer
@[simp] theorem State.bumpN_brake (s : State) (i n : Nat) : (s.bumpN i n).brake = s.brake := (s.bumpN_logOnly i n).brake
@[simp] theorem State.bumpN_vtb (s : State) (i n : Nat) : (s.bumpN i n).vtb = s.vtb := (s.bumpN_logOnly i n).vtb
@[simp] theorem State.bumpN_can (s : State) (i n : Nat) : (s.bumpN i n).can = s.can := (s.bumpN_logOnly i n).can
@[simp] theorem State.bumpN_eth (s : State) (i n : Nat) : (s.bumpN i n).eth = s.eth := (s.bumpN_logOnly i n).eth
@[simp] theorem State.bumpN_arb (s : State) (i n : Nat) : (s.bumpN i n).arb = s.arb := (s.bumpN_logOnly i n).arb
@[simp] theorem State.bumpN_st (s : State) (i n : Nat) : (s.bumpN i n).st = s.st := (s.bumpN_logOnly i n).st
@[simp] theorem State.bumpN_padReset (s : State) (i n : Nat) : (s.bumpN i n).padReset = s.padReset := (s.bumpN_logOnly i n).padReset
@[simp] theorem State.bumpN_free (s : State) (i n : Nat) : (s.bumpN i n).free = s.free := (s.bumpN_logOnly i n).free
@[simp] theorem State.bumpN_pending (s : State) (i n : Nat) : (s.bumpN i n).pending = s.pending := (s.bumpN_logOnly i n).pending

@[simp] theorem State.push_ident (s : State) (q : Fin 16) (e : QEntry) : (s.push q e).ident = s.ident := (s.push_logOnly q e).ident
@[simp] theorem State.push_clk (s : State) (q : Fin 16) (e : QEntry) : (s.push q e).clk = s.clk := (s.push_logOnly q e).clk
@[simp] theorem State.push_life (s : State) (q : Fin 16) (e : QEntry) : (s.push q e).life = s.life := (s.push_logOnly q e).life
@[simp] theorem State.push_par (s : State) (q : Fin 16) (e : QEntry) : (s.push q e).par = s.par := (s.push_logOnly q e).par
@[simp] theorem State.push_ax (s : State) (q : Fin 16) (e : QEntry) : (s.push q e).ax = s.ax := (s.push_logOnly q e).ax
@[simp] theorem State.push_pair (s : State) (q : Fin 16) (e : QEntry) : (s.push q e).pair = s.pair := (s.push_logOnly q e).pair
@[simp] theorem State.push_ports (s : State) (q : Fin 16) (e : QEntry) : (s.push q e).ports = s.ports := (s.push_logOnly q e).ports
@[simp] theorem State.push_wheels (s : State) (q : Fin 16) (e : QEntry) : (s.push q e).wheels = s.wheels := (s.push_logOnly q e).wheels
@[simp] theorem State.push_divs (s : State) (q : Fin 16) (e : QEntry) : (s.push q e).divs = s.divs := (s.push_logOnly q e).divs
@[simp] theorem State.push_su (s : State) (q : Fin 16) (e : QEntry) : (s.push q e).su = s.su := (s.push_logOnly q e).su
@[simp] theorem State.push_safe (s : State) (q : Fin 16) (e : QEntry) : (s.push q e).safe = s.safe := (s.push_logOnly q e).safe
@[simp] theorem State.push_nov (s : State) (q : Fin 16) (e : QEntry) : (s.push q e).nov = s.nov := (s.push_logOnly q e).nov
@[simp] theorem State.push_twin (s : State) (q : Fin 16) (e : QEntry) : (s.push q e).twin = s.twin := (s.push_logOnly q e).twin
@[simp] theorem State.push_integ (s : State) (q : Fin 16) (e : QEntry) : (s.push q e).integ = s.integ := (s.push_logOnly q e).integ
@[simp] theorem State.push_vote (s : State) (q : Fin 16) (e : QEntry) : (s.push q e).vote = s.vote := (s.push_logOnly q e).vote
@[simp] theorem State.push_steer (s : State) (q : Fin 16) (e : QEntry) : (s.push q e).steer = s.steer := (s.push_logOnly q e).steer
@[simp] theorem State.push_brake (s : State) (q : Fin 16) (e : QEntry) : (s.push q e).brake = s.brake := (s.push_logOnly q e).brake
@[simp] theorem State.push_vtb (s : State) (q : Fin 16) (e : QEntry) : (s.push q e).vtb = s.vtb := (s.push_logOnly q e).vtb
@[simp] theorem State.push_can (s : State) (q : Fin 16) (e : QEntry) : (s.push q e).can = s.can := (s.push_logOnly q e).can
@[simp] theorem State.push_eth (s : State) (q : Fin 16) (e : QEntry) : (s.push q e).eth = s.eth := (s.push_logOnly q e).eth
@[simp] theorem State.push_arb (s : State) (q : Fin 16) (e : QEntry) : (s.push q e).arb = s.arb := (s.push_logOnly q e).arb
@[simp] theorem State.push_st (s : State) (q : Fin 16) (e : QEntry) : (s.push q e).st = s.st := (s.push_logOnly q e).st
@[simp] theorem State.push_padReset (s : State) (q : Fin 16) (e : QEntry) : (s.push q e).padReset = s.padReset := (s.push_logOnly q e).padReset
@[simp] theorem State.push_free (s : State) (q : Fin 16) (e : QEntry) : (s.push q e).free = s.free := (s.push_logOnly q e).free
@[simp] theorem State.push_pending (s : State) (q : Fin 16) (e : QEntry) : (s.push q e).pending = s.pending := (s.push_logOnly q e).pending

@[simp] theorem State.deliver_ident (s : State) (src : Source) (cls : BitVec 4) (w : Slot) : (s.deliver src cls w).ident = s.ident := (s.deliver_logOnly src cls w).ident
@[simp] theorem State.deliver_clk (s : State) (src : Source) (cls : BitVec 4) (w : Slot) : (s.deliver src cls w).clk = s.clk := (s.deliver_logOnly src cls w).clk
@[simp] theorem State.deliver_life (s : State) (src : Source) (cls : BitVec 4) (w : Slot) : (s.deliver src cls w).life = s.life := (s.deliver_logOnly src cls w).life
@[simp] theorem State.deliver_par (s : State) (src : Source) (cls : BitVec 4) (w : Slot) : (s.deliver src cls w).par = s.par := (s.deliver_logOnly src cls w).par
@[simp] theorem State.deliver_ax (s : State) (src : Source) (cls : BitVec 4) (w : Slot) : (s.deliver src cls w).ax = s.ax := (s.deliver_logOnly src cls w).ax
@[simp] theorem State.deliver_pair (s : State) (src : Source) (cls : BitVec 4) (w : Slot) : (s.deliver src cls w).pair = s.pair := (s.deliver_logOnly src cls w).pair
@[simp] theorem State.deliver_ports (s : State) (src : Source) (cls : BitVec 4) (w : Slot) : (s.deliver src cls w).ports = s.ports := (s.deliver_logOnly src cls w).ports
@[simp] theorem State.deliver_wheels (s : State) (src : Source) (cls : BitVec 4) (w : Slot) : (s.deliver src cls w).wheels = s.wheels := (s.deliver_logOnly src cls w).wheels
@[simp] theorem State.deliver_divs (s : State) (src : Source) (cls : BitVec 4) (w : Slot) : (s.deliver src cls w).divs = s.divs := (s.deliver_logOnly src cls w).divs
@[simp] theorem State.deliver_su (s : State) (src : Source) (cls : BitVec 4) (w : Slot) : (s.deliver src cls w).su = s.su := (s.deliver_logOnly src cls w).su
@[simp] theorem State.deliver_safe (s : State) (src : Source) (cls : BitVec 4) (w : Slot) : (s.deliver src cls w).safe = s.safe := (s.deliver_logOnly src cls w).safe
@[simp] theorem State.deliver_nov (s : State) (src : Source) (cls : BitVec 4) (w : Slot) : (s.deliver src cls w).nov = s.nov := (s.deliver_logOnly src cls w).nov
@[simp] theorem State.deliver_twin (s : State) (src : Source) (cls : BitVec 4) (w : Slot) : (s.deliver src cls w).twin = s.twin := (s.deliver_logOnly src cls w).twin
@[simp] theorem State.deliver_integ (s : State) (src : Source) (cls : BitVec 4) (w : Slot) : (s.deliver src cls w).integ = s.integ := (s.deliver_logOnly src cls w).integ
@[simp] theorem State.deliver_vote (s : State) (src : Source) (cls : BitVec 4) (w : Slot) : (s.deliver src cls w).vote = s.vote := (s.deliver_logOnly src cls w).vote
@[simp] theorem State.deliver_steer (s : State) (src : Source) (cls : BitVec 4) (w : Slot) : (s.deliver src cls w).steer = s.steer := (s.deliver_logOnly src cls w).steer
@[simp] theorem State.deliver_brake (s : State) (src : Source) (cls : BitVec 4) (w : Slot) : (s.deliver src cls w).brake = s.brake := (s.deliver_logOnly src cls w).brake
@[simp] theorem State.deliver_vtb (s : State) (src : Source) (cls : BitVec 4) (w : Slot) : (s.deliver src cls w).vtb = s.vtb := (s.deliver_logOnly src cls w).vtb
@[simp] theorem State.deliver_can (s : State) (src : Source) (cls : BitVec 4) (w : Slot) : (s.deliver src cls w).can = s.can := (s.deliver_logOnly src cls w).can
@[simp] theorem State.deliver_eth (s : State) (src : Source) (cls : BitVec 4) (w : Slot) : (s.deliver src cls w).eth = s.eth := (s.deliver_logOnly src cls w).eth
@[simp] theorem State.deliver_arb (s : State) (src : Source) (cls : BitVec 4) (w : Slot) : (s.deliver src cls w).arb = s.arb := (s.deliver_logOnly src cls w).arb
@[simp] theorem State.deliver_st (s : State) (src : Source) (cls : BitVec 4) (w : Slot) : (s.deliver src cls w).st = s.st := (s.deliver_logOnly src cls w).st
@[simp] theorem State.deliver_padReset (s : State) (src : Source) (cls : BitVec 4) (w : Slot) : (s.deliver src cls w).padReset = s.padReset := (s.deliver_logOnly src cls w).padReset
@[simp] theorem State.deliver_free (s : State) (src : Source) (cls : BitVec 4) (w : Slot) : (s.deliver src cls w).free = s.free := (s.deliver_logOnly src cls w).free
@[simp] theorem State.deliver_pending (s : State) (src : Source) (cls : BitVec 4) (w : Slot) : (s.deliver src cls w).pending = s.pending := (s.deliver_logOnly src cls w).pending

/-- A new event slot makes the queue one longer, wherever it stands among those of its TIME. -/
@[simp] theorem sinkEvent_length (e : Slot) (q : List QEntry) : (sinkEvent e q).length = q.length + 1 := by
  induction q generalizing e with
  | nil => rfl
  | cons x r ih =>
    unfold sinkEvent
    split
    · simp only [List.length_cons, ih]
    · rfl

/-- Values that waited for an axis's sample change the values in effect, and nothing else. -/
theorem State.takeNow_eq (s : State) (l : AxisNo) : ∃ c ps, s.takeNow l = { s with par := { s.par with eff := c, posted := ps } } := by
  unfold State.takeNow
  simp only []
  split
  · exact ⟨s.par.eff, s.par.posted, rfl⟩
  · exact ⟨_, _, rfl⟩

/-- An entry placed in a queue with room. -/
theorem State.push_room (s : State) (q : Fin 16) (e : QEntry) (h : 0 < s.room q) :
    s.push q e = { s with mb := { s.mb with queues := vmod s.mb.queues q fun x => { x with entries := x.entries ++ [e] } } } := by
  unfold State.room at h
  unfold State.push
  rw [if_pos (by omega)]
  rfl

/-! ## Lane state -/

/-- A change of the lane state. -/
theorem State.setSt_eq (s : State) (x : LaneSt) :
    (s.setSt x).life.st = x ∧ ∃ l r, s.setSt x = { s with life := l, regs := r } ∧ { l with st := s.life.st, drdy := s.life.drdy } = s.life := by
  unfold State.setSt
  split
  · next h => exact ⟨h, s.life, s.regs, rfl, rfl⟩
  · exact ⟨rfl, _, _, rfl, rfl⟩

/-- ACTIVE and DRIVE follow the enables; every other lane state stays. -/
theorem State.syncDrive_eq (s : State) :
    ∃ l r, s.syncDrive = { s with life := l, regs := r } ∧ (s.life.st ≠ .active → s.life.st ≠ .drive → l = s.life ∧ r = s.regs) := by
  unfold State.syncDrive
  split
  · next h =>
    split
    · obtain ⟨-, l, r, he, -⟩ := s.setSt_eq .drive
      exact ⟨l, r, he, fun h1 _ => absurd h h1⟩
    · exact ⟨s.life, s.regs, rfl, fun _ _ => ⟨rfl, rfl⟩⟩
  · next h =>
    split
    · exact ⟨s.life, s.regs, rfl, fun _ _ => ⟨rfl, rfl⟩⟩
    · obtain ⟨-, l, r, he, -⟩ := s.setSt_eq .active
      exact ⟨l, r, he, fun _ h2 => absurd h h2⟩
  · exact ⟨s.life, s.regs, rfl, fun _ _ => ⟨rfl, rfl⟩⟩

/-- The axes of a torque-off: both axes of the pair are cut, and every other axis keeps its state. -/
theorem State.torqueOff_eq (s : State) (k : PairNo) :
    ∃ l r, s.torqueOff k = { s with ax := vmod (vmod s.ax (loAx k) Axis.cut) (hiAx k) Axis.cut, life := l, regs := r } ∧
      (s.life.st ≠ .active → s.life.st ≠ .drive → l = s.life ∧ r = s.regs) := by
  obtain ⟨l, r, h, hl⟩ := ((s.modAx (loAx k) Axis.cut).modAx (hiAx k) Axis.cut).syncDrive_eq
  exact ⟨l, r, h, hl⟩

/-- An axis fault cuts the axis but for its permission, and keeps the first cause. -/
theorem State.axisFault_eq (s : State) (a : AxisNo) (c : BitVec 4) :
    ∃ l r, s.axisFault a c =
        { s with ax := vmod s.ax a fun x => { x.cut with fault := if x.fault = 0 then c else x.fault, perm := x.perm }, life := l, regs := r } ∧
      (s.life.st ≠ .active → s.life.st ≠ .drive → l = s.life ∧ r = s.regs) := by
  obtain ⟨l, r, h, hl⟩ := (s.modAx a fun x => { x.cut with fault := if x.fault = 0 then c else x.fault, perm := x.perm }).syncDrive_eq
  exact ⟨l, r, h, hl⟩

@[simp] theorem Axis.cut_en (a : Axis) : a.cut.en = false := rfl
@[simp] theorem Axis.cut_gates (a : Axis) : a.cut.pwm.gates = false := rfl
@[simp] theorem Axis.cut_fault (a : Axis) : a.cut.fault = a.fault := by
  unfold Axis.cut Axis.stopLoops Axis.setMode
  split <;> rfl

/-! ## Folds -/

/-- A property that each step of a fold over indices keeps holds after the fold. -/
theorem forFin_keeps {σ : Type} {n : Nat} {f : Fin n → σ → σ} {p : σ → Prop} {s : σ} (h : p s) (k : ∀ i x, p x → p (f i x)) :
    p (forFin n f s) := by
  unfold forFin
  generalize fins n = is
  induction is generalizing s with
  | nil => exact h
  | cons i r ih => exact ih (k i s h)

end Sys2Proof.Machine
end

