-- ==== Sys2Proof/Laws/Requests.lean ====
section
/-!
SUPPORT. What serving a request does: an admitted request runs the body of its opcode once, on the state in which its source has been
heard, and its answer leaves.
-/

namespace Sys2Proof.Machine

theorem State.touch_eq (s : State) (src : Source) : ∃ m, s.touch src = { s with mb := m } ∧ m.queues = s.mb.queues ∧
    m.log = s.mb.log ∧ m.logNext = s.mb.logNext ∧ m.accepted = s.mb.accepted := by
  unfold State.touch
  split <;> exact ⟨_, rfl, rfl, rfl, rfl, rfl⟩

theorem State.heard_eq (s : State) (r : Req) : ∃ m, s.heard r = { s with mb := m } ∧ m.queues = s.mb.queues ∧
    m.log = s.mb.log ∧ m.logNext = s.mb.logNext ∧ m.accepted = s.mb.accepted := by
  unfold State.heard
  split
  · split
    · exact s.touch_eq r.src
    · exact ⟨s.mb, rfl, rfl, rfl, rfl, rfl⟩
  · exact s.touch_eq r.src

theorem State.precheck_heard (s : State) (o : OpSpec) (r : Req) : (s.heard r).precheck o r = s.precheck o r := by
  obtain ⟨m, h, -⟩ := s.heard_eq r
  rw [h]; rfl

/-- An admitted request: the body's answer leaves. -/
theorem State.serve_admits (s : State) (o : OpSpec) (body : Body) (r : Req) (h : s.admits o r = true) :
    s.serve o body r = (body r (s.heard r)).close o r := by
  simp only [State.admits, Bool.and_eq_true, Option.isNone_iff_eq_none] at h
  obtain ⟨⟨⟨hm, hs⟩, hf⟩, hp⟩ := h
  have hp' : (s.heard r).precheck o r = none := by rw [State.precheck_heard]; exact hp
  unfold State.follows at hf
  unfold State.serve Ans.close
  rw [hm]
  simp only [hs, Bool.not_true, Bool.false_eq_true, if_false]
  cases hc : clsFin r.cls with
  | none => rw [hc] at hf; cases hf
  | some c =>
    rw [hc] at hf
    simp only [Bool.or_eq_true, decide_eq_true_eq] at hf
    cases hn : r.noseq with
    | true =>
      have : (if (s.peer r.src).isSome = true then s.touch r.src else s) = s.heard r := by simp [State.heard, hn]
      simp only [if_true, this, State.execute, hp']
    | false =>
      have ht : s.touch r.src = s.heard r := by simp [State.heard, hn]
      simp only [hn, Bool.false_eq_true, false_or] at hf
      simp only [Bool.false_eq_true, if_false, ht, hf, State.execute, hp']

end Sys2Proof.Machine
end

