-- ==== Sys2Proof/Tests/Slice0.lean ====
section
/-!
SUPPORT. Tests of the model: the well-formedness checks, small steps of the manual's own examples, and for each statement a witness
that meets its hypotheses.
-/

namespace Sys2Proof.Tests

open Sys2Proof.Machine

-- One thread per declaration would ask for more stack together than the memory limit allows.
set_option Elab.async false

/-! ## Small states and requests -/

/-- A lane in ACTIVE, without authority. -/
def up : State := { State.reset with life := { State.reset.life with st := .active, step := 8, domains := 0x7F } }

/-- A lane with values of parameters in effect. -/
def withPar (s : State) (c : Cells) : State := { s with par := { stored := c, eff := c } }

/-- A lane in ACTIVE with authority, local axis 0 allocated with KIND 4h and one motor. -/
def own : State := withPar { up with twin := { up.twin with claim := true, confirmed := true } } [(P.sysAlloc.pid 0 0, 0x4000)]

/-- That lane with axis 0 enabled, in DRIVE. -/
def driving : State := { own.modAx 0 fun a => { a with en := true, perm := true } with life := { own.life with st := .drive } }

/-- A request over SPI with NOSEQ. -/
def rq (cls : BitVec 4) (arg0 : Word := 0) (pl : List Word := []) : Req :=
  { src := .spi, cls := cls, tag := 1, seq := 0, noseq := true, arg0 := arg0, payload := pl }

/-! ## Well-formedness: one ill-formed command for each check -/

theorem test_wf_jcc : (Instr.jcc .su 7 0).wf = true ∧ (Instr.jcc .su 8 0).wf = false := by decide
theorem test_wf_dlvr : (Instr.dlvr .su 0 0 3).wf = true ∧ (Instr.dlvr (.loop 0) 0 0 0).wf = false := by decide

/-- The fields of a multiply word with a slice mask. -/
def macSm (sm : BitVec 2) : MacOps := ⟨false, false, false, false, 0, false, false, sm, 0, false, false⟩

theorem test_wf_multiply : (Instr.prd .su (macSm 2)).wf = true ∧ (Instr.prd .su (macSm 3)).wf = false ∧
    (Instr.pra .su (macSm 3)).wf = false ∧ (Instr.prs .su (macSm 3)).wf = false ∧ (Instr.prn .su (macSm 3)).wf = false ∧
    (Instr.pmv .su (macSm 3)).wf = false := by decide
theorem test_wf_operand : (Instr.operandLoad .su 7 0 false false 0).wf = true ∧ (Instr.operandLoad .su 8 0 false false 0).wf = false ∧
    (Instr.operandStore .su 8 0 false false 0).wf = false := by decide
theorem test_wf_immediate : (Instr.immediateLoad .su 6 0xFFFF).wf = true ∧ (Instr.immediateLoad .su 6 0x10000).wf = false ∧
    (Instr.immediateLoad .su 7 0).wf = false ∧ (Instr.immediateLoad .su 5 0x10000).wf = true := by decide
theorem test_wf_twin : (Instr.yield ⟨0, 0, []⟩ 0).wf = true ∧ (Instr.yield ⟨0, 0, [0]⟩ 0).wf = false ∧
    (Instr.status ⟨0, 0, [0, 0, 0]⟩ 0).wf = false ∧ (Instr.axis ⟨0, 0, [0]⟩ 0).wf = false ∧ (Instr.compare ⟨0, 0, [0]⟩ 0).wf = false := by
  decide
theorem test_wf_can : (Instr.canFrameReceived 0 ⟨0, true, true, false, false, false, 15, List.replicate 64 0, true⟩ 0).wf = true ∧
    (Instr.canFrameReceived 0 ⟨0, true, true, false, false, false, 15, List.replicate 65 0, true⟩ 0).wf = false := by decide
theorem test_wf_serial : (Instr.ssiFrame 0 ⟨0, true, List.replicate 34 true⟩ 0).wf = false ∧
    (Instr.ssiFrame 0 ⟨0, true, List.replicate 33 true⟩ 0).wf = true ∧ (Instr.sentFrame 0 ⟨List.replicate 11 0⟩ 0).wf = false := by decide
theorem test_wf_spi : (Instr.registerWrite []).wf = false ∧ (Instr.spiReadFrame []).wf = false ∧ (Instr.spiReadFrame [0x00]).wf = true := by
  decide
theorem test_wf_doorbell : (Instr.queueDoorbellPush 0 0).wf = true ∧ (Instr.queueDoorbellPush 4 0).wf = false ∧
    (Instr.queueDoorbellPop 4 0).wf = true ∧ (Instr.queueDoorbellPop 10 0).wf = false := by decide
theorem test_wf_sleep : (Instr.opPwrSleep (rq 1 1)).wf = true ∧ (Instr.opPwrSleep (rq 1 0)).wf = false ∧
    (Instr.opPwrSleepDoze (rq 1 0)).wf = true ∧ (Instr.opPwrSleepDoze (rq 1 1)).wf = false := by decide
theorem test_wf_request : (Instr.opNop (rq 1 0 (List.replicate 12 0))).wf = true ∧ (Instr.opNop (rq 1 0 (List.replicate 13 0))).wf = false := by
  decide

/-! ## Witnesses: states and operands that meet the hypotheses of the statements, clause by clause -/

/-! ### The block and its mailbox -/

/-- Two commands wait, and the step runs. -/
def twoWaiting : State := { up with pending := [.intstatClear 0x00400000, .tunnelResponseSend] }

theorem witness_StepRunsFrontCommand : twoWaiting.pending = .intstatClear 0x00400000 :: [.tunnelResponseSend] ∧ up.pending = [] := by decide +kernel
theorem witness_CommandQueueIsFifo : ran (step twoWaiting) = true := by decide +kernel
theorem witness_StepKeepsStoresCanonical : own.canonical = true ∧ ran (step { own with pending := [.intstatClear 0] }) = true := by decide +kernel
theorem witness_StepKeepsParametersInRange : own.canonical = true ∧ own.paramsInRange = true ∧
    ran (step { own with pending := [.intstatClear 0] }) = true := by decide +kernel

/-- An answer with room in the response queue of its class. -/
def answer12 : Ans := Ans.ok up (List.replicate 12 7)

theorem witness_AnswerEntersResponseQueue : (rq 3).src = .spi ∧ (rq 3).cls.toNat < 4 ∧ answer12.slots = [List.replicate 12 7] ∧
    (List.replicate 12 (7 : Word)).length ≤ 12 ∧ isRefusal answer12.code = false ∧ answer12.code < 65536 ∧ answer12.index < 256 ∧
    0 < answer12.st.room (respQ (rq 3).cls) := by decide +kernel

/-- A lane that has executed SEQ 4 of the SPI port on the DIAG queue and waits for 5. -/
def heard4 : State := { up with mb := { up.mb with peers := [⟨.spi, 1, #v[none, none, none, some ⟨5, some 4, [List.replicate 16 0]⟩]⟩] } }

/-- A DIAG request with a sequence number. -/
def rqSeq (n : BitVec 16) : Req := { rq 3 with noseq := false, seq := n }

theorem witness_RepeatedRequestIsReplayed : heard4.runStops = false ∧ heard4.serving = true ∧ clsFin (rqSeq 4).cls = some 3 ∧
    (rqSeq 4).noseq = false ∧ heard4.seqOf .spi 3 = some ⟨5, some 4, [List.replicate 16 0]⟩ ∧ (5 : BitVec 16) ≠ (rqSeq 4).seq := by decide +kernel
theorem witness_SequenceGapIsAnswered : heard4.runStops = false ∧ heard4.serving = true ∧ clsFin (rqSeq 9).cls = some 3 ∧
    heard4.seqOf (rqSeq 9).src 3 = some ⟨5, some 4, [List.replicate 16 0]⟩ ∧ some (4 : BitVec 16) ≠ some (rqSeq 9).seq ∧
    (5 : BitVec 16) ≠ (rqSeq 9).seq := by decide +kernel
theorem witness_ChecksComeInOrder : (up.meetTest 0x0101 (rq 2 1 [1])).isNone ∧ up.serving ∧ up.follows (rq 2 1 [1]) ∧
    (2 : BitVec 4).toNat ∈ specParRead.classes ∧ (up.precheck specParRead (rq 2 1 [])) = some 0x22 ∧
    (up.precheck specParRead (rq 1 1 [1])) = some 0x24 ∧ (up.precheck { opc := 0x0999, classes := [1], unknown := true } (rq 1)) = some 0x23 := by decide +kernel
theorem witness_AxisFaultStopsOneAxis : driving.life.st = .drive ∧ (driving.axisFault 0 2).anyEn = false := by decide +kernel

/-! ### Requests -/

theorem witness_ReadOpcodesAnswer : up.admits specNop (rq 0) ∧ up.admits specParRead (rq 2 12 (List.replicate 12 0x0F20)) ∧
    up.admits specParInfo (rq 3 0x0F20) ∧ (lookupPid 0x0F20).isSome ∧ up.admits specDigestRead (rq 2) ∧ up.admits specDiagIdent (rq 3) := by
  decide
theorem witness_ReadOpcodesAnswer_pids : (12 : Word).toNat % 16 = 12 ∧
    ∀ w ∈ (List.replicate 12 (0x0F20 : Word)).take 12, (lookupPid (w.toNat % 65536)).isSome := by
  refine ⟨by decide, fun w h => ?_⟩
  obtain rfl := List.eq_of_mem_replicate (List.mem_of_mem_take h)
  decide

/-- One entry: cas.loop of local axis 0 to 2. -/
def parWrite (v : Word) : Req := rq 2 1 [BitVec.ofNat 32 (P.casLoop.pid 0 0), v]

theorem witness_ParameterWriteAllOrNone : up.canonical ∧ up.admits specParWrite (parWrite 2) ∧
    (up.checkEntries 0 (writeEntries 1 (parWrite 1).payload)).1 = 0 ∧ (up.checkEntries 0 (writeEntries 1 (parWrite 9).payload)).1 ≠ 0 := by
  decide +kernel

/-- One event waits. -/
def oneEvent : State := up.raise 0x0020 .grey none []

theorem witness_DiagnosisOpcodesAnswer : up.admits specDiagCounters (rq 3 0x5000) ∧ counterNums 5 0 ≠ [] ∧ up.admits specDiagCounters (rq 3 0x8000) ∧ counterNums 8 0 = [] ∧
    up.admits specLogRead (rq 3 1) ∧
    ({ up with mb := { up.mb with log := [List.replicate 10 1] } } : State).logAt 1 = some (List.replicate 10 1) ∧
    up.admits specEventRead (rq 3) ∧ up.mb.queues[(8 : Fin 16)].entries = [] ∧ oneEvent.admits specEventRead (rq 3) ∧
    oneEvent.mb.queues[(8 : Fin 16)].entries.length = 1 ∧ up.admits specNetSend (rq 1 2) ∧ 0 < up.room 14 := by decide +kernel

/-- An alignment run of axis 0 in progress, as a request asked for it. -/
def alignOf (done : Bool) : AccOp := { opc := 0x0209, req := rq 1, committed := done }
/-- A lane with that run. -/
def aligning (done : Bool) : State :=
  { driving.modAx 0 fun a => { a with com := { a.com with align := some (.turning 0), alignOp := some (alignOf done) } }
    with mb := { driving.mb with accepted := [alignOf done] } }

theorem witness_AbortOpcode : (aligning true).admits specAbort (rq 1 0x00010001) ∧
    (aligning true).abortTarget 0x00010001 = some (alignOf true) ∧ (alignOf true).committed = true ∧
    up.admits specAbort (rq 1 0x00010001) ∧ up.abortTarget 0x00010001 = none ∧
    (aligning false).admits specAbort (rq 1 0x00010001) ∧ (aligning false).abortTarget 0x00010001 = some (alignOf false) ∧
    (alignOf false).committed = false ∧ (aligning false).ax[(0 : AxisNo)].com.alignOp = some (alignOf false) ∧
    (alignOf false).same (alignOf false) ∧ (∀ m : AxisNo, m ≠ 0 → (aligning false).ax[m].com.alignOp = none) := by decide +kernel

theorem witness_AxisEnableAndDisable : own.argAxis 0 = some 0 ∧ own.admits specAxEnable (rq 1) ∧ own.holds ∧ own.allocated 0 ∧
    own.enableRefused 0 = false ∧ own.safe.phase ≠ .steeroff ∧
    (own.modPair (pairOf 0) fun p => { p with toDemand := false }).toDemanded (pairOf 0) = false ∧
    driving.admits specAxDisable (rq 1) ∧ driving.standby = false := by decide +kernel

/-- A lane in STANDBY. -/
def standing : State := { own with life := { own.life with st := .standby }, twin := { own.twin with claim := false, seen := true } }

theorem witness_AxisEnableAndDisable_standby : standing.argAxis 0 = some 0 ∧ standing.admits specAxDisable (rq 1) ∧ standing.standby = true := by decide +kernel

/-- Axis 0 with its loops set to the speed loop. -/
def speedAxis : State := withPar driving [(P.sysAlloc.pid 0 0, 0x4000), (P.casLoop.pid 0 0, 1)]

theorem witness_AxisMotionOpcodes : driving.argAxis 0 = some 0 ∧ driving.holds ∧ driving.allocated 0 ∧ driving.admits specAxMove (rq 1 0 [1, 0]) ∧
    driving.pn P.casLoop 0 = 2 ∧ driving.admits specAxAbort (rq 0) ∧ driving.ax[(0 : AxisNo)].en ∧ driving.admits specAxRelease (rq 1) ∧
    driving.admits specAxSetpos (rq 1 0 [1, 0]) ∧ driving.admits specAxArm (rq 1 0 [0]) ∧ driving.admits specAxPreset (rq 1) := by decide +kernel
theorem witness_AxisMotionOpcodes_setpoint : speedAxis.argAxis 0 = some 0 ∧ speedAxis.holds ∧ speedAxis.allocated 0 ∧
    speedAxis.admits specAxSetpoint (rq 1 0 [0x10000]) ∧ speedAxis.pn P.casLoop 0 ≠ 2 ∧ (speedAxis.split ∨ speedAxis.kind 0 = 4) := by decide +kernel

theorem witness_AxisServiceOpcodes : driving.argAxis 0 = some 0 ∧ driving.admits specAxAlign (rq 1) ∧ driving.ax[(0 : AxisNo)].en ∧
    driving.ax[(0 : AxisNo)].fault = 0 ∧ driving.src 0 = 1 ∧ driving.ax[(0 : AxisNo)].com.align = none ∧ driving.admits specAxCmp (rq 3) ∧
    driving.admits specAxStatus (rq 3) ∧ driving.admits specSsAxis (rq 0) ∧ driving.life.st.operating ∧
    driving.ax[(0 : AxisNo)].ss.ssa = false := by decide +kernel

/-- A lane in a vehicle-level stop that has reached STEEROFF. -/
def steerOff : State := { own with life := { own.life with st := .safeStop }, safe := { own.safe with phase := .steeroff } }

/-- A safety-input pair in mode 1. -/
def withSi : State := withPar own [(P.sysAlloc.pid 0 0, 0x4000), (P.siMode.pid 0 0, 1), (P.siMode.pid 0 1, 1), (P.siMode.pid 0 2, 1),
  (P.siMode.pid 0 3, 1), (P.siMode.pid 0 4, 1), (P.siMode.pid 0 5, 1)]

theorem witness_SafetyOpcodes : up.admits specSiClear (rq 0) ∧ (∀ n : Fin 6, up.pn P.siMode 0 n = 0) ∧ withSi.admits specSiClear (rq 0) ∧
    (∀ n : Fin 6, withSi.pn P.siMode 0 n ≠ 0) ∧ up.admits specSsVehicle (rq 0) ∧ up.life.st.operating ∧ steerOff.admits specSsRelease (rq 0) ∧
    steerOff.safe.phase = .steeroff ∧ steerOff.stopPersists = false ∧ up.admits specSsRelease (rq 0) ∧ up.safe.phase ≠ .steeroff ∧
    up.admits specChopfClear (rq 1) := by decide +kernel

/-- A lane whose level is not the one a request names. -/
def otherLevel : State := { withPar up [(P.pwrPlmin.base, 0)] with life := { up.life with pl := Config.levelOf 0 [] + 1 } }
/-- A lane whose level is the one a request names. -/
def sameLevel : State := { withPar up [(P.pwrPlmin.base, 0)] with life := { up.life with pl := Config.levelOf 0 [] } }

theorem witness_PowerOpcodes_level : (otherLevel.admits specPwrLevel (rq 1) ∧ otherLevel.life.plc = none ∧ otherLevel.life.entry = none ∧
    otherLevel.life.shutdown = none ∧ otherLevel.life.voutLinear ∧ otherLevel.life.pollBad = false ∧ otherLevel.pn P.pwrPlmin = 0 ∧
    sameLevel.admits specPwrLevel (rq 1) ∧ sameLevel.pn P.pwrPlmin = 0) ∧
    Config.levelOf (rq 1).arg0 (rq 1).payload ≠ otherLevel.life.pl ∧ Config.levelOf (rq 1).arg0 (rq 1).payload = sameLevel.life.pl := by
  refine ⟨by decide, ?_, rfl⟩
  change Config.levelOf 0 [] ≠ Config.levelOf 0 [] + 1
  generalize Config.levelOf 0 [] = v
  revert v
  decide

/-- A lane with the WAKE pin as a wake source. -/
def wakes : State := withPar up [(P.pwrWake.base, 1)]

theorem witness_PowerOpcodes : wakes.sleepAnswer = 1 ∧ wakes.admits specPwrSleep (rq 1 1) ∧ wakes.admits specPwrShutdown (rq 1 1) ∧
    up.admits specPwrStatus (rq 3) ∧ up.admits specStStart (rq 2) ∧ up.testAnswer = 1 ∧ up.admits specStStatus (rq 3) := by decide +kernel

/-- A lane with authority whose twin is ready. -/
def ready : State := { driving with twin := { driving.twin with tready := true } }

theorem witness_PowerOpcodes_waiting : ready.admits specStStart (rq 2) ∧ ready.testAnswer = 2 := by decide +kernel

/-- The park function is in service at standstill. -/
def parks (p : Park) : State :=
  { withPar own [(P.bwEn.base, 0x200), (P.bwParkmask.base, 0)] with brake := { own.brake with park := p } }

theorem witness_TwinAndVehicleOpcodes : up.admits specTwinStatus (rq 3) ∧ up.twin.supAt = none ∧ ready.admits specTwinCastle (rq 1) ∧
    ready.castlePlanned = false ∧ ready.st.waiting = none ∧ ready.auth ∧ ready.twin.tready ∧ up.admits specVfSteer (rq 3) ∧
    up.admits specVfBrake (rq 3) ∧ up.admits specLedgerRead (rq 3) ∧ up.admits specLedgerClear (rq 2) ∧ up.mb.logNext ≠ 0xFFFFFFFF := by
  decide +kernel
theorem witness_TwinAndVehicleOpcodes_park : (parks .off).admits specVfPark (rq 1) ∧ (parks .off).life.st.operating ∧ (parks .off).parkOn ∧
    (parks .off).brake.park = .off ∧ (parks .off).canPark ∧ (parks .latch).admits specVfPark (rq 1) ∧ (parks .latch).parkOn ∧
    (parks .hold).admits specVfPark (rq 1) ∧ (parks .hold).parkOn := by decide +kernel

/-- Program memory of the signal unit, at its first integrator word. -/
def suArg (n : Nat) : Word := BitVec.ofNat 32 (0x1400 + 65536 * n)

theorem witness_SignalUnitOpcodes : up.canonical ∧ memOf (suArg 1) = .suProg ∧ up.admits specSuWrite (rq 2 (suArg 0) [5]) ∧
    up.memBusy .suProg = false ∧ (memBounds .suProg).1 ≤ reqAddr (rq 2 (suArg 0) [5]) ∧
    reqAddr (rq 2 (suArg 0) [5]) + 1 ≤ (memBounds .suProg).2 ∧ up.admits specSuRead (rq 3 (suArg 12)) ∧
    reqAddr (rq 3 (suArg 12)) + 12 ≤ (memBounds .suProg).2 ∧ up.admits specSuCommit (rq 2 (suArg 0) [0]) ∧
    up.admits specSuStatus (rq 3) := by decide +kernel

theorem witness_NetworkOpcodes : up.admits specVtbStatus (rq 3) ∧ up.admits specCanStatus (rq 3) ∧ up.admits specEthStatus (rq 3) ∧
    up.admits specMdio (rq 2) ∧ up.admits specNovmiStatus (rq 3) := by decide +kernel

/-! ### Doorbells, registers and frames -/

/-- A full queue 12. -/
def full12 : State := { up with mb := { up.mb with queues := vset up.mb.queues 12 { entries := List.replicate 32 ⟨.spi, []⟩ } } }
/-- One entry in queue 9. -/
def one9 : State := { up with mb := { up.mb with queues := vset up.mb.queues 9 { entries := [⟨.spi, []⟩] } } }

theorem witness_DoorbellsMoveQueues : up.spiOn ∧ up.spiRow = 0 ∧ qToHost 10 = false ∧ up.wptrOf 10 = 0 ∧ 0 < up.room 10 ∧
    full12.spiOn ∧ full12.spiRow = 0 ∧ full12.wptrOf 12 = 0 ∧ full12.room 12 = 0 ∧ (1 : Fin 16) = reqQ 1 ∧ up.wptrOf 1 = 0 ∧ 0 < up.room 1 ∧
    qToHost 9 = true ∧ one9.spiRow = 0 ∧ one9.mb.queues[(9 : Fin 16)].rptr = 0 ∧ one9.mb.queues[(9 : Fin 16)].entries = [⟨.spi, []⟩] ∧
    (7 : BitVec 8).toNat ≠ up.wptrOf 10 ∧ (7 : BitVec 8).toNat ≠ up.mb.queues[(9 : Fin 16)].rptr := by decide +kernel

/-- A lane in CONFIGURED. -/
def configured : State := { up with life := { up.life with st := .configured } }

theorem witness_RegisterRowsAct : up.spiOn ∧ configured.mayRestart ∧ up.mayRestart = false ∧ (0 : Byte) ≠ 0x5A ∧ up.spiRow = 0 ∧
    configured.spiOn ∧ up.checkWrite 0xDF03 60 = (0, 60) ∧ up.checkWrite 0xDF02 1 = (0, 1) := by decide +kernel

/-- A lane in SPI-LOAD, with an erase or a program under way. -/
def spiLoad (c : Option BootCmd) : State :=
  { State.reset with regs := { State.reset.regs with bstate := 4, bootcmd := c, bootpage := 6143 } }

theorem witness_BootCommandsAct : (spiLoad none).spiOn ∧ servedIn (spiLoad none).spiRow .boot ∧ (spiLoad none).regs.bstate = 4 ∧
    (spiLoad none).canonical ∧ (spiLoad none).regs.bootpage.toNat ≤ 6143 ∧ (spiLoad (some .erase)).spiOn ∧
    (spiLoad (some .erase)).regs.bootcmd = some .erase ∧ (spiLoad (some (.program 2))).regs.bootcmd = some (.program 2) := by decide +kernel

/-- A frame of one word: its command byte, its address, its right command CRC, and its data with their CRC or with the clocks of a read. -/
def frame (cmd : Byte) (a : Byte) (rest : List Byte) : List Byte := [cmd, a, 0] ++ [crc8 [cmd, a, 0]] ++ rest

theorem witness_SpiFramesReadAndWrite : up.spiOn ∧ 4 ≤ (frame 0x80 0x10 []).length ∧
    crc8 ((frame 0x80 0x10 [1, 2, 3, 4, crc8 [1, 2, 3, 4]]).take 3) = (frame 0x80 0x10 [1, 2, 3, 4, crc8 [1, 2, 3, 4]]).getD 3 0 ∧
    ((frame 0x80 0x10 []).getD 0 0).getLsbD 7 = true ∧ 5 + 4 * 1 ≤ (frame 0x80 0x10 [1, 2, 3, 4, 0]).length ∧
    ((0x80 : Byte).toNat / 2) % 64 + 1 = 1 ∧
    crc8 (((frame 0x80 0x10 [1, 2, 3, 4, crc8 [1, 2, 3, 4]]).drop 4).take 4) = (frame 0x80 0x10 [1, 2, 3, 4, crc8 [1, 2, 3, 4]]).getD 8 0 ∧
    crc8 (((frame 0x80 0x10 [1, 2, 3, 4, crc8 [1, 2, 3, 4] + 1]).drop 4).take 4) ≠
      (frame 0x80 0x10 [1, 2, 3, 4, crc8 [1, 2, 3, 4] + 1]).getD 8 0 ∧
    crc8 (([0x80, 0x10, 0, crc8 [0x80, 0x10, 0] + 1] : List Byte).take 3) ≠ crc8 [0x80, 0x10, 0] + 1 ∧
    ((frame 0x00 0x10 (List.replicate 10 0)).getD 0 0).getLsbD 7 = false ∧ 10 + 4 * 1 ≤ (frame 0x00 0x10 (List.replicate 10 0)).length := by
  decide +kernel
theorem witness_SpiFramesReadAndWrite_end : up.aon.armed = false ∧ up.canonical ∧ (up.counter 0x0F00).toNat < 0xFFFE := by decide +kernel

/-- A tunnel response waits. -/
def tunnelled : State := { up with mb := { up.mb with tunnel := [⟨.tunnel 1 2, []⟩] } }

theorem witness_FsreqAndTunnelResponse : up.life.st ≠ .off ∧ up.life.st ≠ .sleep ∧ up.life.st ≠ .failSilent ∧
    tunnelled.mb.tunnel = [⟨.tunnel 1 2, []⟩] ∧ tunnelled.macOn := by decide +kernel

/-! ### The loop instruction set -/

/-- An engine with a program counter, a call stack and a standing REPEAT. -/
def engineWith (e : EngineId) (depth : Nat) (rep : Option Nat) : State :=
  up.modEng e fun g => { g with running := true, ctx := { g.ctx with pc := 0x1400, stack := List.replicate depth 3, rep := rep } }

theorem witness_ControlInstructions : (engineWith .su 1 none).steady .su 2 ∧ (engineWith (.loop 3) 2 none).steady (.loop 3) 2 ∧
    ((engineWith .su 1 none).eng .su).ctx.stack = [3] ∧ ((engineWith (.loop 3) 2 none).eng (.loop 3)).ctx.stack.length ≤ 2 := by decide +kernel
theorem witness_ProgramTrapsEndTheRun : (engineWith (.loop 1) 8 none).ax[(1 : AxisNo)].eng.ctx.stack.length = 8 ∧
    (engineWith (.loop 1) 8 none).ax[(1 : AxisNo)].eng.ctx.halted = false ∧ (engineWith (.loop 1) 8 none).ax[(1 : AxisNo)].eng.ctx.trap = none ∧
    (engineWith (.loop 1) 8 none).ax[(1 : AxisNo)].eng.integ = true ∧
    (withPar (engineWith (.loop 1) 0 none) [(P.leCmax.pid 1 0, 1)]).pn P.leCmax 1 ≤ 0 + 1 := by decide +kernel
/-- The signal unit while a vendor kernel runs. -/
def vendorRuns : State := (engineWith .su 0 none).modSu fun u => { u with eng := { u.eng with integ := false } }

/-- A vendor kernel runs while a sample of axis 0 is due. -/
def lateSample : State := vendorRuns.modAx 0 fun a => { a with sch := { a.sch with due := [(1, 0)] } }

theorem witness_DeliveryAndReservedWords_late : ((lateSample.at 1000000).tooLate 0) = true ∧ lateSample.tooLate 1 = false ∧
    (lateSample.at 1000000).steady .su 7 ∧ ran (exec (.dlvr .su 0 0 15) (lateSample.at 1000000)) = true := by decide +kernel
theorem witness_DeliveryAndReservedWords : (engineWith .su 0 none).steady .su 7 ∧ (3 : BitVec 4).toNat < 4 ∧
    4 ≤ (15 : BitVec 4).toNat ∧ vendorRuns.steady .su 7 ∧ vendorRuns.su.eng.integ = false ∧ (engineWith .su 0 none).su.eng.integ = true ∧
    ran (exec (.dlvr .su 0 0 15) vendorRuns) = true ∧
    ((engineWith .su 0 (some 5)).eng .su).ctx.rep.isSome ∧ ((engineWith .su 0 (some 5)).eng .su).ctx.halted = false := by decide +kernel

/-- The signal unit with pointers in its integrator region. -/
def pointing : State := up.modEng .su fun g => { g with ctx := { g.ctx with p := Vector.replicate 8 0x2000, w := vset g.ctx.w 1 6,
                                                                            g := vset g.ctx.g 1 0x1FFE } }
/-- A multiply word that loads its broadcast register and stores its accumulator. -/
def storing : MacOps := ⟨true, false, true, true, 0, true, true, 2, 1, false, true⟩

theorem witness_MultiplyInstructions : pointing.steady .su 3 ∧ storing.wf ∧ storing.sm = 2 ∧
    (∀ j : Fin 4, (pointing.env .su).lo ≤ 4 * (((pointing.eng .su).ctx.addr (pointing.env .su) storing.spt) / 4) + j.val ∧
      4 * (((pointing.eng .su).ctx.addr (pointing.env .su) storing.spt) / 4) + j.val < (pointing.env .su).hi) := by decide +kernel
theorem witness_AccumulatorArithmetic : up.steady (.loop 7) 2 ∧ up.steady .su 2 := by decide +kernel
theorem witness_SaturateTestAndBroadcastAdd : pointing.steady .su 2 := by decide +kernel
theorem witness_LoadInstructions : pointing.steady .su 2 ∧ regWf 7 ∧ (6 : BitVec 4).toNat < 7 ∧ (0xFFFF : W24).toNat < 65536 := by decide +kernel
theorem witness_StoreInstruction : pointing.canonical ∧ pointing.steady .su 3 ∧ regWf 5 ∧ wideReg 5 ∧
    (pointing.eng .su).ctx.ea (pointing.env .su) 1 true 0x2001 = 0x2001 ∧
    (∀ b, (b = 0x2001 ∨ (wideReg 5 ∧ b / 4 = 0x2001 / 4)) → (pointing.env .su).lo ≤ b ∧ b < (pointing.env .su).hi) := by
  refine ⟨by decide +kernel, by decide +kernel, by decide, by decide, by decide +kernel, ?_⟩
  have h : (pointing.env .su).lo = 0x2000 ∧ (pointing.env .su).hi = 0x4000 := by decide +kernel
  rw [h.1, h.2]
  omega
theorem witness_StoreInstruction_outside : (engineWith (.loop 2) 0 none).steady (.loop 2) 3 ∧
    ((engineWith (.loop 2) 0 none).eng (.loop 2)).ctx.ea ((engineWith (.loop 2) 0 none).env (.loop 2)) 0 true 0x10 <
      ((engineWith (.loop 2) 0 none).env (.loop 2)).lo := by decide +kernel
theorem witness_PointerInstructions : pointing.steady .su 1 ∧ ((pointing.eng .su).ctx.w[(0 : Fin 8)]) = 0 ∧
    0 < ((pointing.eng .su).ctx.w[(1 : Fin 8)]).toNat ∧ ((pointing.eng .su).ctx.g[(1 : Fin 8)]).toNat ≤ 0x2000 ∧
    0x2000 < ((pointing.eng .su).ctx.g[(1 : Fin 8)]).toNat + 6 ∧ ((pointing.eng .su).ctx.g[(1 : Fin 8)]).toNat + 6 ≤ operSize .su := by
  decide +kernel
theorem witness_RepeatRunsNextInstruction : ((engineWith .su 0 (some 5)).eng .su).ctx.rep = some 5 ∧
    ((engineWith .su 0 (some 5)).eng .su).ctx.halted = false ∧ ((engineWith .su 0 (some 5)).eng .su).ctx.trap = none ∧
    ((engineWith .su 0 (some 5)).eng .su).ctx.w[(0 : Fin 8)] = 0 ∧ (engineWith .su 0 (some 5)).cycleLimit .su = none ∧
    (engineWith .su 0 (some 5)).firstPending = none ∧ ((engineWith (.loop 2) 0 (some 1)).eng (.loop 2)).ctx.rep = some 1 ∧
    ((engineWith (.loop 2) 0 (some 1)).eng (.loop 2)).ctx.trap = none := by decide +kernel
theorem witness_RegisterMoves : pointing.steady .su 2 ∧ up.steady (.loop 0) 2 := by decide +kernel

/-! ### Axes -/

/-- The lane with authority and its axis 0 changed. -/
def ax0 (f : Axis → Axis) : State := own.modAx 0 f

/-- The lane with authority and a feedback source of axis 0. -/
def srcIs (w : Word) (f : Axis → Axis) : State := withPar (ax0 f) [(P.sysAlloc.pid 0 0, 0x4000), (P.fbSrc.pid 0 0, w)]

theorem witness_CurrentProtection : (State.reset).axOn 0 = false ∧ own.axOn 0 ∧ own.pn P.dsmIch 0 ≠ 2 ∧
    (ax0 fun a => { a with cur := { a.cur with sumCount := 4 } }).ax[(0 : AxisNo)].fault = 0 ∧
    4 ≤ (ax0 fun a => { a with cur := { a.cur with sumCount := 4 } }).ax[(0 : AxisNo)].cur.sumCount ∧
    (ax0 fun a => { a with fault := 5, cur := { a.cur with sumCount := 4 } }).ax[(0 : AxisNo)].fault ≠ 0 ∧
    own.ax[(0 : AxisNo)].cur.sumCount < 4 := by decide +kernel

/-- Every input has held level 0 for 10 clocks, one input for `n`. -/
def heldAt (i : Fin 6) (n : Nat) : Dsm := { held := vset (Vector.replicate 6 10) i n }
/-- One clock of level 0 at every input of axis 0. -/
def clocked (d : Dsm) : Dsm := d.step (own.pq P.curIoc 0) 0
/-- The fast outputs are due, and the first has been beyond the limit once. -/
def nearLimit : Dsm := { heldAt 0 10 with phase := 15, oc := #v[1, 0, 0] }

theorem witness_CurrentProtection_clock : own.ax[(0 : AxisNo)].com.pulse = none ∧ own.ax[(0 : AxisNo)].fault = 0 ∧
    (∀ i : Fin 6, (clocked (heldAt 0 10)).held[i] ≠ 64) ∧ (clocked (heldAt 0 10)).phase ≠ 0 ∧ (heldAt 0 10).phase + 1 < 16 ∧
    16 ≤ nearLimit.phase + 1 ∧ (clocked nearLimit).phase = 0 ∧ (clocked nearLimit).oc[(0 : Fin 3)] = 2 ∧
    (∀ j : Fin 6, (clocked nearLimit).held[j] ≠ 64) := by decide +kernel
theorem witness_CurrentProtection_stuck : (clocked (heldAt 1 63)).held[(1 : Fin 6)] = 64 ∧
    (∀ j : Fin 6, j ≠ 1 → (clocked (heldAt 1 63)).held[j] ≠ 64) ∧ (clocked (heldAt 3 63)).held[(3 : Fin 6)] = 64 ∧
    (∀ j : Fin 6, j ≠ 3 → (clocked (heldAt 3 63)).held[j] ≠ 64) ∧ (srcIs 2 id).pn P.fbSrc 0 = 2 ∧
    (srcIs 2 id).ax[(0 : AxisNo)].fb.lost = false ∧ (srcIs 2 id).ax[(0 : AxisNo)].fb.loss = 0 ∧
    (srcIs 2 id).pq P.curIoc 0 = own.pq P.curIoc 0 ∧ (clocked (heldAt 5 63)).held[(5 : Fin 6)] = 64 ∧
    (∀ j : Fin 6, j ≠ 5 → (clocked (heldAt 5 63)).held[j] ≠ 64) ∧ (clocked (heldAt 5 63)).phase ≠ 0 := by decide +kernel

/-- Axis 0 in a calibration of `n` samples with the sums of its channels and of the first 16 magnitudes. -/
def calibrating (n : Nat) (sum mag : Vector Q 3) : State :=
  ax0 fun a => { a with cur := { a.cur with calDue := true, calN := n, calSum := sum, calMag := mag } }

theorem witness_CurrentProtection_calibration : own.ax[(0 : AxisNo)].cur.calDue = false ∧ own.pq P.elecIfs 0 * 2 / 100 = 5 ∧
    own.pn P.dsmIch 0 = 3 ∧ (calibrating 15 #v[0, 0, 0] #v[0, 0, 0]).ax[(0 : AxisNo)].cur.calN < 16 ∧
    (5 : Q) ≤ (calibrating 16 #v[0, 0, 0] #v[80, 0, 0]).ax[(0 : AxisNo)].cur.calMag[(0 : Fin 3)] / 16 ∧
    (∀ i : Fin 3, (calibrating 16 #v[0, 0, 0] #v[79, 0, 0]).ax[(0 : AxisNo)].cur.calMag[i] / 16 < 5) ∧
    (calibrating 255 #v[0, 0, 0] #v[0, 0, 0]).ax[(0 : AxisNo)].cur.calN < 256 ∧
    (∀ i : Fin 3, |(calibrating 256 #v[1280, -1280, 0] #v[0, 0, 0]).ax[(0 : AxisNo)].cur.calSum[i] / 256| ≤ 5) ∧
    (5 : Q) < |(calibrating 256 #v[0, 1281, 0] #v[0, 0, 0]).ax[(0 : AxisNo)].cur.calSum[(1 : Fin 3)] / 256| ∧
    (∀ j : Fin 3, j < 1 → |(calibrating 256 #v[0, 1281, 0] #v[0, 0, 0]).ax[(0 : AxisNo)].cur.calSum[j] / 256| ≤ 5) ∧
    own.ax[(0 : AxisNo)].pwm.gates = false := by decide +kernel

/-- The lane with authority and its pair 0 changed. -/
def pair0 (f : Pair → Pair) : State := own.modPair 0 f

theorem witness_LinkWatchActs : (pair0 fun p => { p with vunk := true }).pair[(0 : PairNo)].vunk ∧ own.pair[(0 : PairNo)].vunk = false ∧
    (pair0 fun p => { p with above := #v[2, 2, 2] }).pair[(0 : PairNo)].ov[(2 : Fin 3)] = false ∧
    2 ≤ (pair0 fun p => { p with above := #v[2, 2, 2] }).pair[(0 : PairNo)].above[(2 : Fin 3)] ∧
    (pair0 fun p => { p with vunk := true }).pair[(0 : PairNo)].stuckAt + 150 * own.pn P.dsmDec 0 ≤ (own.at 9600).clk.lclk ∧
    (own.at 9599).clk.lclk < own.pair[(0 : PairNo)].stuckAt + 150 * own.pn P.dsmDec 0 ∧ own.pairOn 0 ∧
    own.pair[(0 : PairNo)].chopf = false ∧ own.pair[(0 : PairNo)].chop ≠ true ∧ own.auth ∧ own.pair[(0 : PairNo)].chBad = none ∧
    (pair0 fun p => { p with chBad := some 0, chfb := true }).chopBad 0 ∧
    ((pair0 fun p => { p with chBad := some 0, chfb := true }).at 5000).clk.lclk ≤ 0 + 5000 ∧
    0 + 5000 < ((pair0 fun p => { p with chBad := some 0, chfb := true }).at 5001).clk.lclk := by decide +kernel
theorem witness_LinkWatchActs_twin : up.auth = false ∧ (up.modPair 0 fun p => { p with chBad := some 0, chfb := true }).chopBad 0 ∧
    0 + 1000000 ≤ (up.at 1000000).clk.lclk ∧
    up.pq P.chopVoff - 1 / 2 < (up.modPair 0 fun p => { p with vlink := 53 }).pair[(0 : PairNo)].vlink ∧
    (up.modPair 0 fun p => { p with vlink := 53 }).pair[(0 : PairNo)].vlink < up.pq P.chopVon + 1 / 2 := by decide +kernel

/-- Axis 0 with a load point at 50 µs that has no sample yet, a sample before it or none, and one value that waits for the sample. -/
def dueAxis (started : Bool) : State :=
  let s := ax0 fun a => { a with sch := { a.sch with due := [(1, 50000)], started := started } }
  { s with par := { s.par with posted := [P.casLoop.pid 0 0] } }

theorem witness_CurrentLoopSampleRuns : own.axOn 0 ∧ own.allocated 0 ∧ own.allocated 1 = false ∧ own.ax[(0 : AxisNo)].sch.due = [] ∧
    P.casLoop.pid 0 0 / 256 % 16 = (0 : AxisNo).val ∧ P.casLoop.pid 1 0 / 256 % 16 ≠ (0 : AxisNo).val ∧ (dueAxis true).canonical ∧
    P.casLoop.pid 0 0 ∈ (dueAxis true).par.posted ∧ (dueAxis true).axOn 0 ∧ (dueAxis true).allocated 0 ∧
    (∀ b, (dueAxis b).ax[(0 : AxisNo)].sch.due = (1, 50000) :: []) ∧ (dueAxis true).ax[(0 : AxisNo)].cur.calDue = false ∧
    ((dueAxis true).takeNow 0).pn P.dsmIch 0 = 3 := by decide +kernel

/-- The lane drives axis 0: its PWM unit changed. -/
def pwm0 (f : Pwm → Pwm) : State := driving.modAx 0 fun a => { a with pwm := f a.pwm }
/-- Axis 0 with its carrier at a valley at time 0, its gates switching. -/
def runs0 (f : Pwm → Pwm) : State := pwm0 fun p => f { p with run := true, up := true, gates := true }
/-- Duties written at a time for load point 0. -/
def duty (t : Ns) : Duty := ⟨t, 0, #v[1, 2, 3]⟩

theorem witness_PwmLoadPointActs : (State.reset).axOn 0 = false ∧ driving.axOn 0 ∧ driving.allocated 0 ∧ driving.allocated 1 = false ∧
    driving.ax[(0 : AxisNo)].pwm.run = false ∧ 0 ≤ driving.phaseErr 0 (driving.at 0).clk.lclk ∧ driving.phaseErr 0 0 < 5 ∧
    5 ≤ driving.phaseErr 0 (driving.at 5).clk.lclk ∧ (runs0 id).ax[(0 : AxisNo)].pwm.up = true ∧
    (0 : Q) + (5 * (runs0 id).pn P.pwmHalf 0 + 0) ≤ ((5 * (runs0 id).pn P.pwmHalf 0 : Nat) : Q) ∧
    ((5 * (runs0 id).pn P.pwmHalf 0 - 1 : Nat) : Q) < 0 + (5 * (runs0 id).pn P.pwmHalf 0 + 0) ∧ driving.pn P.pwmUpdate 0 ≠ 1 ∧
    (withPar driving [(P.pwmUpdate.pid 0 0, 1)]).pn P.pwmUpdate 0 = 1 ∧ 5000 < (driving.phaseErr 0 10000).natAbs ∧
    (driving.phaseErr 0 0).natAbs ≤ 5000 ∧ driving.pulsePlan 0 = none := by decide +kernel
theorem witness_PwmLoadPointActs_duties : (runs0 id).ax[(0 : AxisNo)].pwm.gateReq = none ∧
    ((runs0 fun p => { p with next := [duty 10] }).ax[(0 : AxisNo)].pwm.next.filter fun d => decide (d.at_ / 5 < 50000 / 5)).getLast? = some (duty 10) ∧
    (∀ d ∈ (runs0 fun p => { p with next := [duty 50000] }).ax[(0 : AxisNo)].pwm.next, 50000 / 5 ≤ d.at_ / 5) ∧
    (runs0 fun p => { p with owed := true, next := [duty 50000] }).ax[(0 : AxisNo)].pwm.owed ∧ driving.canonical ∧
    (driving.counter 0x2001).toNat < 65534 ∧ (runs0 id).ax[(0 : AxisNo)].pwm.owed = false ∧
    (runs0 fun p => { p with gateReq := some false }).ax[(0 : AxisNo)].pwm.gateReq = some false ∧
    (pwm0 fun p => { p with gateReq := some true }).ax[(0 : AxisNo)].pwm.gateReq = some true ∧
    (pwm0 fun p => { p with gateReq := some true }).toPermit 0 ∧ driving.ax[(0 : AxisNo)].en ∧ driving.ax[(0 : AxisNo)].fault = 0 ∧
    (up.modAx 0 fun a => { a with en := true }).toPermit 0 = false := by decide +kernel

theorem witness_CountedChecksActOnce :
    up.pn P.supN1 0 ≤ (ax0 fun a => { a with cur := { a.cur with warn := 40 } }).ax[(0 : AxisNo)].cur.warn ∧
    up.pn P.casPvn 0 ≤ (ax0 fun a => { a with cas := { a.cas with spdN := 3 } }).ax[(0 : AxisNo)].cas.spdN ∧
    up.pn P.casRn 0 ≤ (ax0 fun a => { a with cas := { a.cas with rackN := 5 } }).ax[(0 : AxisNo)].cas.rackN ∧
    up.pn P.casFerrn 0 ≤ (ax0 fun a => { a with cas := { a.cas with ferrN := 10 } }).ax[(0 : AxisNo)].cas.ferrN ∧
    up.ax[(0 : AxisNo)].cur.warn < up.pn P.supN1 0 ∧ up.ax[(0 : AxisNo)].cas.spdf = false ∧ up.ax[(0 : AxisNo)].cur.res1 = false ∧
    up.ax[(0 : AxisNo)].cur.fail < up.pn P.supN2 0 := by decide +kernel

/-- An axis whose model check has failed four times, in a commutation mode. -/
def modelBad (m : CMode) : State := ax0 fun a => { a with cur := { a.cur with fail := 4 }, com := { a.com with mode := m } }

theorem witness_CountedChecksActOnce_model : (∀ m ∈ [CMode.sensored, .stepped, .off], (modelBad m).ax[(0 : AxisNo)].cur.failRep = false ∧
    (modelBad m).pn P.supN2 0 ≤ (modelBad m).ax[(0 : AxisNo)].cur.fail ∧ (modelBad m).ax[(0 : AxisNo)].com.mode = m) ∧
    (modelBad .sensored).ax[(0 : AxisNo)].fb.loss = 0 := by decide +kernel

/-- An axis with `n` stale results in a row. -/
def staleBy (n r : Nat) : State := srcIs 2 fun a => { a with del := { a.del with stale := n, staleRep := r } }

theorem witness_CountedChecksActOnce_stale : (staleBy 2 0).ax[(0 : AxisNo)].del.stale < 3 ∧ 3 ≤ (staleBy 3 0).ax[(0 : AxisNo)].del.stale ∧
    (staleBy 3 0).ax[(0 : AxisNo)].del.staleRep < 3 ∧ 5 ≤ (staleBy 5 3).ax[(0 : AxisNo)].del.stale ∧
    (staleBy 5 3).ax[(0 : AxisNo)].del.staleRep = 3 ∧ (staleBy 5 3).ax[(0 : AxisNo)].fb.loss = 0 ∧ (staleBy 5 3).ax[(0 : AxisNo)].fb.lost = false ∧
    (staleBy 5 3).pn P.fbSrc 0 = 2 ∧ (staleBy 5 3).ax[(0 : AxisNo)].del.fStale < 3 := by decide +kernel

/-- An axis with `n` stale force results in a row. -/
def staleForce (n r : Nat) : State := ax0 fun a => { a with del := { a.del with fStale := n, fStaleRep := r } }

theorem witness_CountedChecksActOnce_staleForce : 3 ≤ (staleForce 3 0).ax[(0 : AxisNo)].del.fStale ∧ (staleForce 3 0).ax[(0 : AxisNo)].del.fStaleRep < 3 ∧
    5 ≤ (staleForce 5 3).ax[(0 : AxisNo)].del.fStale ∧ (staleForce 5 3).ax[(0 : AxisNo)].del.fStaleRep = 3 ∧
    (staleForce 5 3).ax[(0 : AxisNo)].del.stale < 3 ∧ (staleForce 5 3).ax[(0 : AxisNo)].fb.loss = 0 := by decide +kernel

/-- Two axes of a pair in the axis-level safe stop, the second removed already or not. -/
def stopping (off : Bool) : State := (ax0 fun a => { a with ss := { a.ss with ssa := true, due := true } }).modAx 1 fun a => { a with ss := { a.ss with ssoff := off } }

theorem witness_CountedChecksActOnce_stop : (stopping true).ax[(0 : AxisNo)].ss.due ∧ (stopping true).standby = false ∧
    (stopping true).ax[(1 : AxisNo)].ss.ssoff ∧ pairOf 1 = pairOf 0 ∧ (stopping false).ax[(1 : AxisNo)].ss.ssoff = false ∧
    own.ax[(0 : AxisNo)].ss.due = false := by decide +kernel

/-- Axis 0 at the end of a window: the end `k` before it, with its counts, and the check of the window before it. -/
def windowed (k : Int) (spd : Word) : State :=
  withPar (ax0 fun a => { a with fb := { a.fb with winK := some k, winMov := some 5, winPos := some 7, winEnd := some (0, some 1), winN := 8 } })
    [(P.sysAlloc.pid 0 0, 0x4000), (P.fbSpd.pid 0 0, spd)]

theorem witness_CountedChecksActOnce_window : State.reset.axOn 0 = false ∧ own.axOn 0 ∧ own.ax[(0 : AxisNo)].fb.winK = none ∧
    (windowed 0 1).ax[(0 : AxisNo)].fb.winK = some ((windowed 0 1).gt / (windowed 0 1).winNs 0) ∧
    (windowed (-1) 1).ax[(0 : AxisNo)].fb.winK = some ((windowed (-1) 1).gt / (windowed (-1) 1).winNs 0 - 1) ∧
    (windowed (-1) 1).ax[(0 : AxisNo)].fb.winMov = some 5 ∧ (windowed (-1) 1).ax[(0 : AxisNo)].fb.winPos = some 7 ∧
    (windowed (-2) 1).ax[(0 : AxisNo)].fb.winK ≠ some ((windowed (-2) 1).gt / (windowed (-2) 1).winNs 0 - 1) ∧
    (windowed (-1) 1).ax[(0 : AxisNo)].fb.winEnd = some (0, some 1) ∧ (windowed (-1) 1).ax[(0 : AxisNo)].fb.winN ≠ 0 ∧
    (windowed (-1) 1).pn P.fbSrc 0 = 1 ∧ (windowed (-1) 1).pn P.fbSpd 0 = 1 ∧ own.ax[(0 : AxisNo)].com.est = false ∧
    own.ax[(0 : AxisNo)].fb.winEnd = none := by decide +kernel

/-- An axis whose last eight illegal transitions fell within 1 ms. -/
def burst : State := ax0 fun a => { a with fb := { a.fb with illegal := [8, 7, 6, 5, 4, 3, 2, 1], illBurst := true } }

/-- The lane with parameters of axis 0 in effect. -/
def setPar (c : Cells) (f : Axis → Axis) : State := withPar (ax0 f) c

theorem witness_PositionSensorsCount : own.axOn 0 ∧ own.ax[(0 : AxisNo)].fb.ba = 0 ∧ (1 : BitVec 2) ≠ 0 ∧ (1 : BitVec 2) ≠ ~~~(0 : BitVec 2) ∧
    (3 : BitVec 2) = ~~~(0 : BitVec 2) ∧ own.pn P.pdSrc 0 0 ≠ 8 ∧ (withPar own [(P.pdSrc.pid 0 0, 8)]).pn P.pdSrc 0 0 = 8 ∧
    (withPar own [(P.pdSrc.pid 0 0, 8)]).pn P.pdDen 0 0 ≠ 0 ∧ (ax0 fun a => { a with fb := { a.fb with illRep := true } }).ax[(0 : AxisNo)].fb.illRep ∧
    own.canonical ∧ (own.counter 0x5000).toNat < 65534 := by decide +kernel
theorem witness_PositionSensorsCount_burst : burst.ax[(0 : AxisNo)].fb.illBurst ∧ burst.ax[(0 : AxisNo)].fb.loss = 0 ∧
    burst.ax[(0 : AxisNo)].fb.lost = false ∧ burst.pn P.fbSrc 0 = 1 ∧ own.ax[(0 : AxisNo)].fb.illBurst = false ∧
    (srcIs 2 fun a => { a with fb := { a.fb with illBurst := true } }).ax[(0 : AxisNo)].fb.illBurst ∧
    (ax0 fun a => { a with fb := { a.fb with illRep := false } }).ax[(0 : AxisNo)].fb.illRep = false ∧
    (ax0 fun a => { a with fb := { a.fb with loadAt := some 5 } }).ax[(0 : AxisNo)].fb.loadAt = some 5 ∧ (own.at 9).clk.lclk / 5 = 5 / 5 ∧
    (own.at 10).clk.lclk / 5 ≠ 5 / 5 := by decide +kernel

/-- Axis 0 one transition past the tolerance of the line count since its last index. -/
def overRun : State := ax0 fun a => { a with fb := { a.fb with zref := some 0, mov := BitVec.ofNat 32 (4 * own.pn P.fbLines 0 + own.pn P.fbLctol 0) } }

theorem witness_PositionSensorsCount_missing : overRun.ax[(0 : AxisNo)].fb.zref = some 0 ∧ overRun.pn P.fbLcchk 0 = 1 ∧ overRun.pn P.fbSrc 0 = 1 ∧
    overRun.ax[(0 : AxisNo)].fb.loss = 0 ∧
    4 * overRun.pn P.fbLines 0 + overRun.pn P.fbLctol 0 < (diff32 (overRun.ax[(0 : AxisNo)].fb.mov + 1) 0).natAbs ∧
    own.ax[(0 : AxisNo)].fb.zref = none := by decide +kernel
theorem witness_PositionSensorsCount_index : zQualified (own.pn P.fbZqual 0) own.ax[(0 : AxisNo)].fb.ba ∧ own.ax[(0 : AxisNo)].fb.fwd = true ∧
    zQualified 4 own.ax[(0 : AxisNo)].fb.ba = false ∧ (setPar [(P.fbZmode.pid 0 0, 1)] id).pn P.fbZmode 0 = 1 ∧
    (setPar [(P.fbZmode.pid 0 0, 2)] fun a => { a with fb := { a.fb with armed := true, armAt := some 5 } }).pn P.fbZmode 0 = 2 ∧
    5 / 5 ≠ (own.at 10).clk.lclk / 5 ∧ 5 / 5 = (own.at 9).clk.lclk / 5 ∧ own.ax[(0 : AxisNo)].fb.lossAct = false ∧
    own.pn P.fbLcchk 0 = 1 ∧ 4 * (own.pn P.fbLines 0 : Int) = 8192 ∧ (∀ x ∈ [(0 : Int), 8192, -8192], (own.pn P.fbLctol 0 : Int) < |4096 - x|) ∧
    (ax0 fun a => { a with fb := { a.fb with zref := some 0, mov := 4096 } }).ax[(0 : AxisNo)].fb.zref = some 0 ∧ diff32 4096 0 = 4096 ∧
    own.ax[(0 : AxisNo)].fb.idxSave = none := by decide +kernel
theorem witness_PositionSensorsCount_latch : (setPar [(P.refMode.pid 0 0, 1), (P.refEdge.pid 0 0, 2)] id).pn P.refMode 0 = 1 ∧
    (setPar [(P.refMode.pid 0 0, 1), (P.refEdge.pid 0 0, 2)] id).pn P.refEdge 0 = 2 ∧
    (setPar [(P.refMode.pid 0 0, 1), (P.refEdge.pid 0 0, 2)] id).axle 0 = none ∧ own.pn P.refMode 0 ≠ 1 ∧ own.pn P.refMode 0 ≠ 2 := by decide +kernel

/-- Axis 0 on a resolver whose sine filter reads a fraction `y` / 262144 of its range, its record changed. -/
def resolverAt (y : Nat) (f : Fb → Fb) : State :=
  srcIs 2 fun a => { a with fb := f a.fb, dsm := { a.dsm with ch := vset (vset a.dsm.ch 3 { hist := [y] }) 4 { hist := [131072] } } }
/-- The square of the amplitude that the filters of axis 0 read. -/
def ampl (s : State) : Q :=
  let si := ofQ23 ((s.feed 0 [] 0).ax[(0 : AxisNo)].dsm.ch[(3 : Fin 6)].out (s.decOf 0 3))
  let co := ofQ23 ((s.feed 0 [] 0).ax[(0 : AxisNo)].dsm.ch[(4 : Fin 6)].out (s.decOf 0 4))
  si * si + co * co

theorem witness_PositionSensorsCount_resolver : (resolverAt 0 id).axOn 0 ∧ (resolverAt 0 id).pn P.fbSrc 0 = 2 ∧
    ((resolverAt 0 id).feed 0 [] 0).ax[(0 : AxisNo)].del.valid = false ∧
    ((resolverAt 0 id).feed 0 [] 0).ax[(0 : AxisNo)].fb.resK ≠ some (((resolverAt 0 id).feed 0 [] 0).excPeak 0 ((resolverAt 0 id).feed 0 [] 0).gt) ∧
    (resolverAt 196608 id).pq P.resAmin 0 * (resolverAt 196608 id).pq P.resAmin 0 ≤ ampl (resolverAt 196608 id) ∧
    ampl (resolverAt 196608 id) ≤ (resolverAt 196608 id).pq P.resAmax 0 * (resolverAt 196608 id).pq P.resAmax 0 ∧
    ampl (resolverAt 131072 fun b => { b with ampBad := 3 }) < (resolverAt 131072 id).pq P.resAmin 0 * (resolverAt 131072 id).pq P.resAmin 0 ∧
    (resolverAt 131072 fun b => { b with ampBad := 3 }).ax[(0 : AxisNo)].fb.ampBad = 3 ∧
    (resolverAt 131072 fun b => { b with ampBad := 3 }).ax[(0 : AxisNo)].fb.loss = 0 ∧ own.pn P.fbSrc 0 ≠ 2 := by decide +kernel

/-- Serial port 0 in a mode, with its record changed. -/
def port0 (mode : Word) (f : Port → Port) : State :=
  withPar { own with ports := vset own.ports 0 (f own.ports[(0 : Fin 3)]) } [(P.spMode.pid 0 0, mode)]

/-- A SENT frame at 3 µs a tick: its sync pulse, a status nibble, six data nibbles, and a nibble for their CRC. -/
def sentOf (sync : Ns) (crc : BitVec 4) : SentIn :=
  ⟨sync :: (([0, 1, 2, 3, 4, 5, 6, crc] : List (BitVec 4)).map fun v => 3000 * (12 + v.toNat))⟩
/-- The CRC of those nibbles. -/
def sentCrc : BitVec 4 := crc4 true [1, 2, 3, 4, 5, 6]

theorem witness_SensorInputsDeliver : (port0 1 id).linkOn ∧ (port0 1 id).pn P.spMode 0 0 = 1 ∧ State.reset.linkOn = false ∧
    (port0 1 id).pn P.spNib 0 0 = 6 ∧ (port0 1 id).pn P.spPause 0 0 = 0 ∧ (port0 1 id).pn P.spCrc 0 0 = 1 ∧ (port0 1 id).pn P.spSer 0 0 = 0 ∧
    (port0 1 id).ports[(0 : Fin 3)].sync = none ∧ (port0 1 id).pq P.spTick 0 0 * 56000 * 3 / 4 ≤ 168000 ∧
    (168000 : Q) ≤ (port0 1 id).pq P.spTick 0 0 * 56000 * 5 / 4 ∧
    sentNibbles 168000 (((sentOf 168000 sentCrc).pulses.drop 1).take 8) = some ([0, 1, 2, 3, 4, 5, 6] ++ [sentCrc]) ∧
    (port0 1 id).pq P.spTick 0 0 * 56000 * 5 / 4 < 300000 ∧ (⟨[]⟩ : SentIn).pulses = [] := by decide +kernel

/-- Port 0 as an SSI port with its frame running, or with a trigger that waits. -/
def ssi (busy : Bool) (trig : Option Ns) : State := port0 2 fun p => { p with busy := busy, trigDue := trig, busyUntil := 9 }

theorem witness_SensorInputsDeliver_ssi : (ssi false none).linkOn ∧ (ssi false none).pn P.spMode 0 0 = 2 ∧ (ssi false none).auth ∧
    (ssi false none).ports[(0 : Fin 3)].trigDue = none ∧ (ssi false (some 8)).ports[(0 : Fin 3)].trigDue = some 8 ∧
    8 < (ssi false (some 8)).ports[(0 : Fin 3)].busyUntil ∧ (ssi false (some 9)).ports[(0 : Fin 3)].busyUntil ≤ 9 ∧
    up.auth = false ∧ (ssi true none).pn P.spEbit 0 0 = 0 ∧ (List.replicate 25 true).length = (ssi true none).pn P.spBits 0 0 ∧
    (ssi true none).ports[(0 : Fin 3)].busy ∧ (⟨0, false, []⟩ : SsiIn).lineBefore = false ∧
    (⟨0, true, []⟩ : SsiIn).lineBefore := by decide +kernel
theorem witness_SensorInputsDeliver_times : (port0 1 id).ports[(0 : Fin 3)].timedOut = false ∧ (port0 1 id).pn P.spMode 0 0 ≠ 0 ∧
    (port0 1 id).ports[(0 : Fin 3)].lastAt + 1000 * own.pn P.spTmo 0 0 ≤ (own.at 5000000).clk.lclk ∧
    (own.at 4999999).clk.lclk < 0 + 1000 * own.pn P.spTmo 0 0 ∧ (port0 1 fun p => { p with timedOut := true }).ports[(0 : Fin 3)].timedOut ∧
    (∀ w : Fin 8, own.wheels[w].tLast = none) ∧ own.pn P.wsEdge = 0 ∧ 7 + 1000000 * (own.pn P.wsTmo : Int) ≤ 250000007 ∧
    own.pn P.pdSrc 0 0 ≠ (7 : Fin 8).val ∧
    own.canonical := by decide +kernel
theorem witness_SensorInputsDeliver_divider : own.linkOn ∧ own.pn P.pdSrc 0 0 = 0 ∧ own.pn P.pdSrc 0 0 ≠ (7 : Fin 8).val ∧
    own.pn P.pdDen 0 0 ≤ own.divs[(0 : Fin 2)].acc + own.pn P.pdNum 0 0 ∧ own.divs[(0 : Fin 2)].acc + own.pn P.pdNum 0 0 < 2 * own.pn P.pdDen 0 0 ∧
    (own.counter 0x5F20).toNat < 65534 ∧ (own.bump 0x5F20).canonical ∧ ((own.bump 0x5F20).counter 0x5F20).toNat % 65536 ≠ 0 ∧
    (own.bump 0x5F20).divs[(0 : Fin 2)].nextAt ≤ ((own.bump 0x5F20).at 0).clk.lclk ∧ (own.counter 0x5F20).toNat % 65536 = 0 := by decide +kernel

/-- Axis 0 in a commutation mode. -/
def com0 (f : Com → Com) : State := ax0 fun a => { a with com := f a.com }

/-- Axis 0 after the twelve pulses, with the current along the pulse of each; the sequence has run before or not. -/
def pulsed (i : Nat → Q) (runs : Nat) : State :=
  com0 fun c => { c with mode := .satStart, satRuns := runs, ends := ((List.range 12).map fun m => (m, ⟨i m, 0⟩)).reverse }

theorem witness_StartsAdvance_saturation : (pulsed (fun _ => 1) 0).ax[(0 : AxisNo)].com.mode = .satStart ∧
    12 ≤ (pulsed (fun _ => 1) 0).ax[(0 : AxisNo)].com.ends.length ∧ (pulsed (fun _ => 1) 0).ax[(0 : AxisNo)].com.want = none ∧
    own.ax[(0 : AxisNo)].com.mode ≠ .satStart ∧ (pulsed (fun _ => 0) 1).ax[(0 : AxisNo)].com.satRuns ≠ 0 ∧
    (0 : Q) ∈ ((pulsed (fun _ => 0) 0).ax[(0 : AxisNo)].com.endsOf).toList ∧
    (∀ x ∈ ((pulsed (fun _ => 0) 0).ax[(0 : AxisNo)].com.endsOf).toList, x ≤ 0 ∧ 0 ≤ x) ∧
    own.pq P.comScont 0 * 0 ≤ 0 - 0 ∧ own.pn P.fbSrc 0 = 1 ∧ own.ax[(0 : AxisNo)].fb.lost = false := by decide +kernel

/-- Pulses of equal end currents along every vector. -/
def evenEnds (runs : Nat) : State :=
  com0 fun c => { c with mode := .satStart, satRuns := runs
                         ends := ((List.range 12).map fun m => (m, (⟨cosRev (pulseAngle m), sinRev (pulseAngle m)⟩ : Vec2))).reverse }

theorem witness_StartsAdvance_flat : (evenEnds 0).ax[(0 : AxisNo)].com.mode = .satStart ∧ (evenEnds 1).ax[(0 : AxisNo)].com.satRuns ≠ 0 ∧
    (∃ hi lo, hi ∈ ((evenEnds 0).ax[(0 : AxisNo)].com.endsOf).toList ∧ (∀ x ∈ ((evenEnds 0).ax[(0 : AxisNo)].com.endsOf).toList, x ≤ hi) ∧
      lo ∈ ((evenEnds 0).ax[(0 : AxisNo)].com.endsOf).toList ∧ (∀ x ∈ ((evenEnds 0).ax[(0 : AxisNo)].com.endsOf).toList, lo ≤ x) ∧
      hi - lo < own.pq P.comScont 0 * hi) := by
  refine ⟨by decide +kernel, by decide +kernel, ((evenEnds 0).ax[(0 : AxisNo)].com.endsOf).toList.foldl max 0,
    ((evenEnds 0).ax[(0 : AxisNo)].com.endsOf).toList.foldl min 100, ?_⟩
  decide +kernel

/-- Axis 0 in the probe after its two pulses, and with a mode change that waits. -/
def probed (w : Option ModeReq) : State :=
  com0 fun c => { c with mode := .catching, want := w, ends := [(100000, ⟨1, 0⟩), (0, ⟨1, 1⟩)] }

theorem witness_StartsAdvance_probe : (probed none).ax[(0 : AxisNo)].com.mode = .catching ∧ (probed none).ax[(0 : AxisNo)].com.want = none ∧
    (probed none).ax[(0 : AxisNo)].com.ends = [(100000, ⟨1, 0⟩), (0, ⟨1, 1⟩)] ∧ (probed none).ax[(0 : AxisNo)].com.dir = 0 ∧
    (probed (some .start)).ax[(0 : AxisNo)].com.want = some .start ∧ (probed (some .rest)).ax[(0 : AxisNo)].com.want = some .rest ∧
    (probed (some (.found 0 1 0 5))).ax[(0 : AxisNo)].com.want = some (.found 0 1 0 5) ∧
    (probed (some .stepped)).ax[(0 : AxisNo)].com.want = some .stepped ∧
    (probed (some (.braking 0 1 5))).ax[(0 : AxisNo)].com.want = some (.braking 0 1 5) ∧ own.pn P.fbSrc 0 = 1 ∧
    (ax0 fun a => { a with fb := { a.fb with lost := true } }).ax[(0 : AxisNo)].fb.lost := by decide +kernel

/-- Axis 0 in a phase of the I/f start that began at time 0. -/
def ifPhase (p : IfPhase) (sum : Q) (j : Nat) : State :=
  com0 fun c => { c with mode := .ifStart, phase := p, olSpeed := own.pq P.comWif 0 * twoPi, emfSum := sum, emfN := 1, attempt := j }

theorem witness_StartsAdvance_phases : (ifPhase .align 0 0).ax[(0 : AxisNo)].com.mode = .ifStart ∧
    (ifPhase .align 0 0).ax[(0 : AxisNo)].com.phase = .align ∧ (ifPhase .align 0 0).ax[(0 : AxisNo)].com.since = 0 ∧
    (ifPhase .ramp 0 0).ax[(0 : AxisNo)].com.phase = .ramp ∧ (ifPhase .check 0 0).ax[(0 : AxisNo)].com.phase = .check ∧
    (ifPhase .check 0 0).ax[(0 : AxisNo)].com.emfN ≠ 0 ∧ (ifPhase .check 0 0).ax[(0 : AxisNo)].com.attempt + 1 < own.pn P.comIfn 0 ∧
    own.pn P.comIfn 0 ≤ (ifPhase .check 0 2).ax[(0 : AxisNo)].com.attempt + 1 ∧ (ifPhase .wait 0 0).ax[(0 : AxisNo)].com.phase = .wait ∧
    0 + 1000000 * own.pn P.comTifa 0 ≤ (own.at 100000000).clk.lclk ∧ 0 + 1000000 * 11 ≤ (own.at 11000000).clk.lclk := by decide +kernel
theorem witness_StartsAdvance_speed :
    own.pq P.comWif 0 * twoPi ≤ |(ifPhase .ramp 0 0).ax[(0 : AxisNo)].com.olSpeed| := le_abs_self _
/-- With the axis at rest, a back-EMF of zero passes the Check phase and one of 1 V fails it. -/
theorem witness_StartsAdvance_check : |(0 : Q) / 1 - |(0 : Q)| * (own.pq P.elecPsi 0 / 1000)| ≤ own.pq P.comEtol 0 * (|(0 : Q)| * (own.pq P.elecPsi 0 / 1000)) ∧
    own.pq P.comEtol 0 * (|(0 : Q)| * (own.pq P.elecPsi 0 / 1000)) < |(1 : Q) / 1 - |(0 : Q)| * (own.pq P.elecPsi 0 / 1000)| := by decide +kernel
theorem witness_StartsAdvance_braking : (com0 fun c => { c with mode := .braking }).ax[(0 : AxisNo)].com.mode = .braking ∧
    (com0 fun c => { c with mode := .braking }).ax[(0 : AxisNo)].com.brkWait = false ∧
    (com0 fun c => { c with mode := .braking }).ax[(0 : AxisNo)].com.brkAt = 0 ∧ own.ax[(0 : AxisNo)].fault = 0 ∧
    (com0 fun c => { c with mode := .braking, brkWait := true }).ax[(0 : AxisNo)].com.brkWait ∧
    0 + 1000000 * own.pn P.comTbrk 0 ≤ (own.at 2000000000).clk.lclk ∧ own.ax[(0 : AxisNo)].com.mode ≠ .braking ∧
    (com0 fun c => { c with align := some .hold, alignOp := some (alignOf false) }).ax[(0 : AxisNo)].com.align = some .hold ∧
    (com0 fun c => { c with align := some .hold, alignOp := some (alignOf false) }).ax[(0 : AxisNo)].com.alignOp = some (alignOf false) ∧
    (com0 fun c => { c with align := some .hold, alignOp := some (alignOf false) }).canonical ∧
    0 + 1000000 * own.pn P.comTalign 0 ≤ (own.at 500000000).clk.lclk := by decide +kernel

/-! ### Safety, the vehicle cycle, steering and braking -/

/-- Safety input 0 in mode 1 with an action on pair 0, and its pair changed. -/
def si0 (func : Word) (f : SiPair → SiPair) : State :=
  withPar { own with aon := { own.aon with si := vset own.aon.si 0 (f own.aon.si[(0 : Fin 6)]) } }
    [(P.siMode.pid 0 0, 1), (P.siFunc.pid 0 0, func), (P.siMask.pid 0 0, 1)]

theorem witness_SafetyInputsJudge : (si0 1 fun x => { x with dem := false, ch1 := true }).pn P.siMode 0 0 = 1 ∧ siActive 1 true false = false ∧
    (si0 1 fun x => { x with dem := false, ch1 := true }).aon.si[(0 : Fin 6)].dem = false ∧ (si0 1 id).pn P.siFunc 0 0 = 1 ∧
    (si0 2 id).pn P.siFunc 0 0 = 2 ∧ (si0 3 id).pn P.siFunc 0 0 = 3 ∧ ((si0 1 id).pw P.siMask 0 0).getLsbD (pairOf 0).val ∧
    ((si0 1 id).pw P.siMask 0 0).getLsbD (pairOf 2).val = false ∧ (si0 2 id).underTest = 0 ∧
    32768 * (si0 1 id).pn P.siDt 0 0 ≤ 1000 * (si0 1 fun x => { x with count := 1639 }).aon.si[(0 : Fin 6)].count ∧
    1000 * (si0 1 fun x => { x with count := 1638 }).aon.si[(0 : Fin 6)].count < 32768 * (si0 1 id).pn P.siDt 0 0 ∧
    (si0 1 id).aon.si[(0 : Fin 6)].flt = false ∧ (si0 1 id).aon.si[(0 : Fin 6)].rep = false ∧
    (si0 1 fun x => { x with rep := true }).aon.si[(0 : Fin 6)].rep := by decide +kernel
theorem witness_SafetyInputsJudge_tick : ({ own with aon := { own.aon with powered := false } } : State).aon.powered = false ∧ own.aon.powered ∧
    own.aon.armed = false ∧ own.life.entry = none ∧ own.life.shutdown = none ∧ own.aon.postWake = none ∧ own.aon.postTimer = none ∧
    own.aon.si[(0 : Fin 6)].clear = [] ∧
    ({ own with safe := { own.safe with phase := .decel, stillSince := some 5 } } : State).safe.phase = .decel ∧
    5 + 1000000 * own.pn P.ssTstill ≤ (own.at 1000000005).clk.lclk ∧ own.safe.phase ≠ .decel := by decide +kernel

/-- The publications of three lanes, each with AUTH, and the vote of one set-point enabled. -/
def published (n : Nat) : State :=
  withPar { up with nov := { up.nov with pubIn := Vector.ofFn fun (i : Fin 6) =>
      if 1 ≤ i.val ∧ i.val ≤ n then { b0 := some (1 :: BitVec.ofNat 32 (100 * i.val) :: List.replicate 7 0) } else {} } } [(P.sbwEn.base, 1)]

/-- Lane 0 is the lane itself, so the three valid publications come with its own block. -/
def published3 : State :=
  { published 2 with vtb := { up.vtb with sentBlk := #v[true, false, false] },
                     vote := { up.vote with commit := vset up.vote.commit 0 (some (1 :: 50 :: List.replicate 7 0)) } }

/-- A level change in progress. -/
def levelling : State := { up with life := { up.life with plc := some { target := 3, old := 1, started := true } } }

theorem witness_VehicleCycleAndVote : State.reset.cyclesRun = false ∧ up.cyclesRun ∧ up.life.cycles = 0 ∧ (5 : Ns) ≤ 5 + 4000000 ∧
    up.changing = false ∧ up.life.cycWait = [] ∧ levelling.cyclesRun ∧ levelling.life.plc = some { target := 3, old := 1, started := true } ∧
    ({ up with life := { up.life with cycles := 9, cycStart := 4000000, cycEnd := 9000000 } } : State).cyclesRun ∧
    (4900000 : Ns) + 4000000 < max 4900000 (max 9000000 (4000000 + 750000)) ∧ (published 2).spOn 0 := by decide +kernel
theorem witness_VehicleCycleAndVote_publications : published3.validPubs.length = 3 ∧ (published 2).validPubs.length = 2 ∧
    (published 1).validPubs.length = 1 ∧ up.validPubs = [] ∧ up.vote.none_ < 3 := by decide +kernel

/-- The vote's counters set. -/
def voteIs (f : Vote → Vote) : State := { up with vote := f up.vote }
/-- Connection 0 in a state. -/
def conn0 (f : Conn → Conn) : State := { up with nov := { up.nov with rx := vset up.nov.rx 0 (f up.nov.rx[(0 : Fin 16)]) } }

theorem witness_VehicleCycleAndVote_limits : 10 ≤ (voteIs fun v => { v with held := 10 }).vote.held ∧ up.vote.held < 10 ∧
    up.safe.askHeld = false ∧ ({ up with safe := { up.safe with askHeld := true } } : State).safe.askHeld ∧
    (voteIs fun v => { v with count := 0, none_ := 3 }).vote.count = 0 ∧ 3 ≤ (voteIs fun v => { v with count := 0, none_ := 3 }).vote.none_ ∧
    (voteIs fun v => { v with count := 0, none_ := 3 }).vote.safe = false ∧ (voteIs fun v => { v with safe := true }).vote.safe ∧
    up.life.cycStart + 1000000 ≤ (up.at 1000000).clk.lclk ∧ (up.at 999999).clk.lclk < up.life.cycStart + 1000000 ∧
    up.vote.count ≠ 0 ∧ (voteIs fun v => { v with out := vset v.out 2 5 }).vote.out[(2 : LaneNo)] = 5 ∧ up.vote.out[(2 : LaneNo)] ≠ 5 ∧
    (conn0 fun c => { c with st := .valid }).nov.rx[(0 : Fin 16)].st = .valid ∧ 0 + 1000 * up.pn P.nvDl 0 0 ≤ (up.at 3000000).clk.lclk ∧
    up.nvNsub 0 ≠ 0 ∧ (withPar up [(P.nvCfg.pid 0 0, 1)]).nvNsub 0 = 0 ∧ (conn0 fun c => { c with st := .subst, subN := 3 }).nov.rx[(0 : Fin 16)].st = .subst ∧
    up.nvNsub 0 ≤ (conn0 fun c => { c with st := .subst, subN := 3 }).nov.rx[(0 : Fin 16)].subN ∧ up.nov.rx[(0 : Fin 16)].st = .init := by decide +kernel

/-- The winding on axis 2 of group 1 has been missed for `n` cycles. -/
def missed (n : Nat) : State :=
  { up with brake := { up.brake with wind := vmod up.brake.wind 1 fun v => vset v 2 { clear := n } } }
/-- Steering changed. -/
def steerIs (f : Steer → Steer) : State := { up with steer := f up.steer }
/-- A centre search at its limit. -/
def searched : State := steerIs fun x => { x with search := vset x.search 1 (some ⟨0, 1, up.pq P.sbwHsearch, true⟩) }

theorem witness_SteeringAndBrakingEvents : (10 : Fin 24).val = 8 * (1 : Fin 3).val + (2 : AxisNo).val ∧
    (((missed 3).brake.wind[(1 : Fin 3)])[(2 : AxisNo)]).lost = false ∧ 3 ≤ (((missed 3).brake.wind[(1 : Fin 3)])[(2 : AxisNo)]).clear ∧
    (((missed 2).brake.wind[(1 : Fin 3)])[(2 : AxisNo)]).clear < 3 ∧ (steerIs fun x => { x with hwLost := 3 }).steer.hwLost = 3 ∧
    up.steer.hwLost ≠ 3 ∧ searched.steer.search[(1 : Fin 3)] = some ⟨0, 1, up.pq P.sbwHsearch, true⟩ ∧
    searched.pq P.sbwHsearch ≤ |up.pq P.sbwHsearch| ∧ 0 < 1 * up.pq P.sbwHsearch ∧ up.steer.search[(1 : Fin 3)] = none := by decide +kernel

/-- Axis 0 on the caliper of wheel 0, its braking function changed. -/
def caliper (f : Brake → Brake) : State :=
  withPar { up with brake := f up.brake } [(P.sysAlloc.pid 0 0, 0x3000), (P.bwEn.base, 1), (P.bwMotor.pid 0 0, 0)]

theorem witness_SteeringAndBrakingEvents_brake : (caliper fun b => { b with fimpN := vset b.fimpN 0 10 }).wheel 0 = some 0 ∧
    (caliper fun b => { b with fimpN := vset b.fimpN 0 10 }).brake.fimp[(0 : AxisNo)] = false ∧
    up.pn P.bwFn ≤ (caliper fun b => { b with fimpN := vset b.fimpN 0 10 }).brake.fimpN[(0 : AxisNo)] ∧ up.wheel 0 = none ∧
    (caliper fun b => { b with unconf := 1 }).brake.regUnconf = false ∧ up.pn P.bwInvn ≤ (caliper fun b => { b with unconf := 1 }).brake.unconf ∧
    up.brake.unconf < up.pn P.bwInvn ∧ (caliper fun b => { b with regSlip := true }).brake.regSlip ∧
    (∀ w : Fin 8, up.brake.slip[w] = false) ∧ 0 + 1000000 * up.pn P.bwTrre ≤ (up.at 500000000).clk.lclk ∧ up.brake.regSlip = false ∧
    (caliper fun b => { b with park := .latch }).brake.park = .latch ∧ 0 + 1000000 * up.pn P.bwTlatch ≤ (up.at 200000000).clk.lclk ∧
    (caliper fun b => { b with park := .latch, parkRel := true }).brake.parkRel ∧ up.brake.park ≠ .latch ∧ up.brake.park ≠ .holdact ∧
    (caliper fun b => { b with park := .holdact }).brake.park = .holdact ∧ 0 + 1000000000 ≤ (up.at 1000000000).clk.lclk ∧
    up.brake.ledAt + 1000000000 * up.pn P.bwLedsave ≤ (up.at 60000000000).clk.lclk ∧
    (up.at 59999999999).clk.lclk < up.brake.ledAt + 1000000000 * up.pn P.bwLedsave := by decide +kernel

/-! ### Arbiter, power and integrity -/

/-- Axis 0 with a floor of 7000 W against a budget of 6000 W. -/
def deficit : State := withPar own [(P.sysAlloc.pid 0 0, 0x4000), (P.arbFloor.pid 0 0, 7000)]
/-- A level change. -/
def changing (c : PlChange) : State := { own with life := { own.life with plc := some c } }
/-- A change to level 3. -/
def toLevel3 : PlChange := { target := 3, old := 1 }

theorem witness_ArbiterGrantsStayInBudget : State.reset.arbOn = false ∧ own.arbOn ∧
    own.floorsHeld ≤ min (own.pq P.arbBdrive) (min own.bVeh own.bSag) ∧ (∀ l : AxisNo, own.pq P.arbFloor l ≤ own.pq P.arbCeil l) ∧
    own.holdsFloor 0 ∧ own.holdsFloor 1 = false ∧ (own.at 100000).arbOn ∧ own.st.waiting = none := by decide +kernel
theorem witness_ArbiterGrantsStayInBudget_deficit : deficit.arbOn ∧ deficit.pq P.arbBdrive < deficit.floorsHeld ∧ (0 : Fin 4) < 1 ∧
    0 < deficit.classFloor (deficit.classOf 0) := by decide +kernel
theorem witness_ArbiterGrantsStayInBudget_ends : 10 ≤ ({ own with arb := { own.arb with okN := 10, brkcls := 2 } } : State).arb.okN ∧
    ({ own with arb := { own.arb with okN := 10, brkcls := 2 } } : State).arb.brkcls ≠ 0 ∧ own.arb.okN < 10 ∧
    (changing { toLevel3 with waiting := true }).life.plc = some { toLevel3 with waiting := true } ∧
    0 + 10000000 ≤ (own.at 10000000).clk.lclk ∧ (changing toLevel3).life.plc = some toLevel3 ∧ toLevel3.waiting = false := by decide +kernel

theorem witness_SupplyEventsAct : own.fwOn ∧ (changing toLevel3).fwOn ∧ (changing toLevel3).life.plc = some toLevel3 ∧
    toLevel3.started = false ∧ ({ toLevel3 with started := true, attempts := 4 } : PlChange).attempts = 4 ∧
    ({ toLevel3 with ack := some 7 } : PlChange).ack.isSome ∧ own.pn P.pmbConf = 0 ∧ |own.voutMv 481 - levelMv 3| ≤ own.pq P.pmbWin ∧
    7 + 500000 ≤ (own.at 500007).clk.lclk ∧ (((0x20 : BitVec 16).setWidth 8 : BitVec 8) >>> 5) ≠ 0 ∧ own.life.plc = none ∧ own.life.st ≠ .boot ∧
    (withPar own [(P.pmbConf.base, 1)]).pn P.pmbConf = 1 ∧ 3 ≤ ({ own with life := { own.life with pollOut := 3 } } : State).life.pollOut ∧
    3 ≤ ({ own with life := { own.life with pollFails := 3 } } : State).life.pollFails ∧ own.life.pollBad = false := by decide +kernel
theorem witness_SupplyEventsAct_boundary : own.atBoundary 1000000 = true ∧ own.atBoundary 1000001 = false ∧ own.changing = false ∧
    own.life.cycWait = [] ∧ ({ own with life := { own.life with pgoodLow := some 7 } } : State).life.pgoodLow = some 7 ∧
    7 + 10000 ≤ (own.at 10007).clk.lclk ∧ (own.at 10006).clk.lclk < 7 + 10000 ∧ own.life.pgoodLow = none := by decide +kernel
theorem witness_SupplyEventsAct_wait : ({ State.reset with life := { State.reset.life with step := 0 } } : State).life.st = .boot ∧
    State.reset.aon.control = true ∧ State.reset.aon.controlAt + 2000000 ≤ (State.reset.at 2000000).clk.lclk := by decide +kernel

/-- A lane in split mode. -/
def splitLane : State := { own with ident := { own.ident with straps := ⟨false, true, false, false⟩ } }

theorem witness_IntegrityFaultsAct : own.life.st ≠ .off ∧ own.life.st ≠ .failSilent ∧ (0 : BitVec 4) ≠ parityOf 1 ∧ own.lockstep ∧
    splitLane.lockstep = false ∧ own.scrubs .sram ∧ own.split = false ∧ own.scrubs (.engine .suProg) ∧ own.scrubs (.engine .suOper) ∧
    own.scrubs .flash ∧ own.life.st ≠ .boot ∧ splitLane.split ∧
    splitLane.integ.wdog[(0 : Fin 2)] + 4000000 ≤ (splitLane.at 4000000).clk.lclk ∧ (own.at 3999999).clk.lclk < own.integ.wdog[(0 : Fin 2)] + 4000000 ∧
    State.reset.life.st = .boot ∧ State.reset.split = false ∧
    ({ State.reset with life := { State.reset.life with step := 4 } } : State).life.step = 4 ∧ splitLane.integ.core1Off = false ∧
    own.cellOn 0 ∧ own.blockOn 0 ∧ State.reset.cellOn 0 = false ∧ State.reset.blockOn 4 = false ∧ own.ax[(0 : AxisNo)].fault = 0 ∧
    own.regs.parrec.getLsbD 31 = false ∧ own.scrubs (.engine (.leProg 0)) ∧ State.reset.scrubs (.engine .suProg) = false := by decide +kernel
theorem witness_IntegrityFaultsAct_groups : (firstDiff 0 (1 <<< 9)).map (fun g => BitVec.ofNat 8 g.val) = some (1 : Byte) ∧
    firstMissed (~~~(1 <<< 9)) (~~~0) = some 1 ∧ firstDiff 0 0 = none := by decide +kernel
theorem witness_IntegrityFaultsAct_corrected :
    let s : State := { own with integ := { own.integ with eccSeen := [eccBankKey .sram 2], eccPass := [eccBankKey .sram 2 * 2 ^ 32 + 5] } }
    s.scrubs .sram ∧ eccBankKey .sram 2 ∈ s.integ.eccSeen ∧ eccBankKey .sram 2 * 2 ^ 32 + 5 ∈ s.integ.eccPass := by decide +kernel

/-- An exchange source that has disagreed 15 times in a row, and interrupt 3 that has 15 times. -/
def disagreed : State := { own with integ := { own.integ with ex := [⟨9, 0, 15⟩], irqRun := vset own.integ.irqRun 3 15 } }

theorem witness_IntegrityFaultsAct_exchange : own.life.st ≠ .sleep ∧ own.split = false ∧ (255 : BitVec 64).toNat < 2 ^ (8 : Fin 65).val ∧

    ExClass.freeCounter.kind = .ordered ∧ ((0 : BitVec 64).toNat + 2 ^ 8 - (255 : BitVec 64).toNat) % 2 ^ 8 ≤ ExClass.freeCounter.stepOf ∧
    ExClass.freeCounter.stepOf < ((9 : BitVec 64).toNat + 2 ^ 8 - (0 : BitVec 64).toNat) % 2 ^ 8 ∧
    ((9 : BitVec 64).toNat + 2 ^ 8 - (0 : BitVec 64).toNat) % 2 ^ 8 + ExClass.freeCounter.stepOf < 2 ^ 8 ∧
    ExClass.level.kind = .stable ∧ (own.exSrc 9).run + 1 < 16 ∧ 16 ≤ (disagreed.exSrc 9).run + 1 ∧
    (∀ j : Fin 32, own.integ.irqRun[j] + 1 < 16) ∧ 16 ≤ disagreed.integ.irqRun[(3 : Fin 32)] + 1 ∧
    (8 : Word).getLsbD 3 ≠ (0 : Word).getLsbD 3 ∧ own.canonical ∧ (own.counter 0x0F01).toNat < 65534 := by decide +kernel

/-- Activation 24 enabled, its record changed. -/
def act24 (f : Act → Act) : State := { own with su := { own.su with enabled := 1 <<< 24, acts := vset own.su.acts 24 (f {}) } }
/-- Activation 24 runs. -/
def runs24 : State :=
  let s := act24 fun a => { a with active := true }
  { s with su := { s.su with eng := { s.su.eng with running := true, ctx := { s.su.eng.ctx with act := some 24 } } } }

theorem witness_ActivationsRun : State.reset.suOn = false ∧ own.su.enabled.getLsbD 24 = false ∧ (act24 id).suOn ∧
    (act24 id).su.enabled.getLsbD 24 ∧ (act24 id).su.acts[(24 : Fin 40)].off = false ∧ (act24 id).running = none ∧ (act24 id).su.saved = [] ∧
    (∀ b : Fin 40, (act24 id).su.acts[b].pend = false) ∧ (act24 fun a => { a with pend := true }).su.acts[(24 : Fin 40)].pend ∧
    (act24 id).canonical ∧ runs24.suOn ∧ runs24.running = some 24 ∧ runs24.su.eng.ctx.trap = none ∧ runs24.su.acts[(24 : Fin 40)].pend = false ∧
    runs24.su.acts[(24 : Fin 40)].active ∧ runs24.su.acts[(24 : Fin 40)].judged = false ∧
    runs24.su.acts[(24 : Fin 40)].runDl ≤ (runs24.at 1).clk.lclk ∧ (act24 fun a => { a with judged := true }).su.acts[(24 : Fin 40)].judged := by
  decide +kernel

/-- Activation 24 runs with a latest end `d`, and activation 25 is enabled too. -/
def busySu (d : Ns) : State :=
  { runs24 with su := { runs24.su with enabled := 3 <<< 24, acts := vset runs24.su.acts 24 { runs24.su.acts[(24 : Fin 40)] with runDl := d } } }
/-- A user kernel's activation 32 runs and has halted. -/
def runs32 : State :=
  let a : Act := { active := true }
  let c : Ctx := { own.su.eng.ctx with act := some 32, halted := true }
  { own with su := { own.su with enabled := 1 <<< 32, acts := vset own.su.acts 32 a, eng := { own.su.eng with running := true, integ := true, ctx := c } } }
/-- The activation of axis 0's resolver runs, the samples of its carrier that are due given. -/
def resRuns (due : List (Nat × Ns)) : State :=
  let s := own.modAx 0 fun a => { a with sch := { a.sch with due := due } }
  let a : Act := { active := true, runDl := 9 }
  { s with su := { s.su with enabled := 1, acts := vset s.su.acts 0 a, eng := { s.su.eng with running := true, ctx := { s.su.eng.ctx with act := some 0 } } } }

theorem witness_ActivationsRun_release : (act24 fun a => { a with active := true }).su.acts[(24 : Fin 40)].wait = none ∧
    (act24 fun a => { a with active := true, wait := some (0, 1, 2) }).su.acts[(24 : Fin 40)].wait ≠ none ∧ (busySu 9000000).suOn ∧
    (busySu 9000000).running = some 24 ∧ (busySu 9000000).su.eng.ctx.rep = none ∧ (busySu 9000000).su.saved.length < 8 ∧
    (busySu 9000000).su.enabled.getLsbD 25 ∧ (∀ b : Fin 40, (busySu 9000000).su.acts[b].pend = false) ∧
    (0 : Ns) + (busySu 9000000).actDeadline 25 < (busySu 9000000).su.acts[(24 : Fin 40)].runDl ∧
    (busySu 5).su.acts[(24 : Fin 40)].runDl ≤ 0 + (busySu 5).actDeadline 25 ∧ (busySu 5).su.acts[(25 : Fin 40)].active = false := by decide +kernel
theorem witness_ActivationsRun_halt : runs32.suOn ∧ runs32.running = some 32 ∧ runs32.su.eng.ctx.trap = none ∧ runs32.su.eng.ctx.halted = true ∧
    runs32.su.acts[(32 : Fin 40)].pend = false ∧ runs32.su.acts[(32 : Fin 40)].wait = none ∧ (32 : Fin 40).val = 32 ∧
    (act24 fun a => { a with active := true, missed := true }).su.acts[(24 : Fin 40)].missed = true ∧
    own.life.cycStart ≤ (act24 id).su.acts[(24 : Fin 40)].release ∧ (resRuns []).running = some 0 ∧ (resRuns []).suOn ∧
    ((resRuns []).at 1).tooLate 0 = false ∧ ((resRuns [(0, 0)]).at 4800).tooLate 0 ∧ (act24 id).actKind 24 = 2 ∧ (act24 id).actKind 0 ≠ 2 := by decide +kernel

/-! ### Twin operation -/

/-- A lane's twin record changed. -/
def twinIs (s : State) (f : Twin → Twin) : State := { s with twin := f s.twin }
/-- A lane in STANDBY whose twin's claim is absent. -/
def alone : State := { own with life := { own.life with st := .standby }, twin := { up.twin with armd := true } }
/-- The BLACK lane in STANDBY. -/
def blackAlone : State := { alone with ident := { alone.ident with straps := ⟨true, false, false, false⟩ }, twin := { alone.twin with blackWait := true } }
/-- A lane in PAIRING. -/
def pairing (black : Bool) : State :=
  { up with life := { up.life with st := .pairing }, ident := { up.ident with straps := ⟨black, false, false, false⟩ } }

theorem witness_ClaimsFollowTheLines : up.twin.claim = false ∧ (twinIs own fun t => { t with confirmed := false }).twin.claim ∧
    (twinIs own fun t => { t with confirmed := false }).twin.confirmed = false ∧ (own.at 19999).clk.lclk < own.twin.claimAt + 20000 ∧
    own.canonical ∧ (own.counter 0xEF00).toNat < 65534 ∧ own.twin.collisions < 3 ∧
    3 ≤ (twinIs own fun t => { t with confirmed := false, collisions := 3 }).twin.collisions ∧ own.twin.confirmed ∧ own.twin.planned = none ∧
    own.twin.seen = false ∧ (twinIs alone fun t => { t with seen := true }).twin.seen ∧ alone.twin.edgeAt + 30000 ≤ (alone.at 30000).clk.lclk ∧
    alone.st.run = none := by decide +kernel
theorem witness_ClaimsFollowTheLines_start : (twinIs up fun t => { t with retry := true }).mayClaim ∧
    (twinIs up fun t => { t with retry := true }).twin.retry ∧ up.life.st ≠ .pairing ∧ up.standby = false ∧ up.black = false ∧
    up.twin.absentAt + 40000 ≤ (up.at 40000).clk.lclk ∧ (twinIs alone fun t => { t with castling := some 2 }).mayClaim ∧ alone.standby ∧
    (twinIs alone fun t => { t with castling := some 2 }).twin.castling.isSome ∧ alone.twin.retry = false ∧
    alone.twin.castAt + 40000 ≤ (alone.at 40000).clk.lclk ∧ alone.twin.absentAt ≤ alone.twin.castAt + 40000 ∧ alone.twin.castling = none ∧
    blackAlone.mayClaim ∧ blackAlone.black ∧ blackAlone.standby ∧ blackAlone.twin.blackWait ∧ blackAlone.twin.firstStatus = none ∧
    blackAlone.twin.pairExit + 200000000 ≤ (blackAlone.at 200000000).clk.lclk ∧ blackAlone.life.st = .standby := by decide +kernel
theorem witness_ClaimsFollowTheLines_confirm : (twinIs own fun t => { t with confirmed := false, castling := some 2 }).twin.castling = some 2 ∧
    own.twin.castling = none ∧ own.twin.claimAt + 20000 ≤ (own.at 20000).clk.lclk ∧ own.life.st ≠ .safeStop ∧
    (twinIs driving fun t => { t with gateWait := true }).twin.gateWait ∧
    (driving.ax[(0 : AxisNo)].en && !driving.ax[(0 : AxisNo)].pwm.gates && !driving.ax[(0 : AxisNo)].mir.take &&
      driving.ax[(0 : AxisNo)].fault == 0 && driving.toPermit (pairOf 0)) ∧ up.twin.gateWait = false ∧
    (pairing false).life.st = .pairing ∧ (pairing false).twin.roleClash = false ∧
    (pairing false).life.pairAt + 1000000 * up.pn P.twPairtmo ≤ (up.at 10000000).clk.lclk ∧ (pairing true).black ∧ (pairing false).black = false ∧
    (pairing false).twin.seen = false ∧ (pairing false).twin.clash = false ∧ (pairing false).twin.claim = false := by decide +kernel

/-- A frame with a payload. -/
def twinFrame (sub : BitVec 8) (n : Nat) : TwinIn := ⟨8, sub, List.replicate n 0⟩

theorem witness_TwinFramesAct : State.reset.twinOn = false ∧ ({ up with life := { up.life with st := .failSilent } } : State).twinOn = false ∧
    up.twinOn ∧ (twinFrame 0 24).payload.length = 24 ∧ (twinFrame 0 3).payload.length ≠ 24 ∧
    (twinIs up fun t => { t with rxSeq := some 7 }).twin.rxSeq = some 7 ∧ (twinFrame 0 0).seq = 7 + 1 ∧ up.twin.rxSeq = none ∧ up.canonical ∧
    (up.counter 0xEF01).toNat < 65534 ∧ (twinFrame 0 0).payload = [] ∧ (twinFrame 0 4).payload = [0, 0, 0, 0] ∧ (pairing false).twinOn ∧
    (twinFrame 0 24).sub.toNat = (0 : AxisNo).val ∧ alone.twinOn ∧ alone.auth = false ∧ alone.allocated 0 ∧ own.auth ∧
    (twinFrame 3 (superLen 3)).payload.length = superLen 3 := by decide +kernel
theorem witness_TwinFramesAct_link : up.twin.roleClash = false ∧ up.twin.planned = none ∧ up.life.st.operating ∧
    up.split = false ∧ (pairing false).life.st.operating = false ∧ up.twin.linkup = false ∧ (twinIs up fun t => { t with linkup := true }).twin.linkup ∧
    up.twin.frameAt + 1500000 ≤ (up.at 1500000).clk.lclk := by decide +kernel
theorem witness_TwinFramesAct_verdicts : up.twinVerdict true (twinBytes 1 up.twinId (twinFrame 0 0)) = .ownRole ∧
    ((up.twinId ^^^ 4) ||| 8) &&& 7 = (up.twinId ^^^ 4) &&& 7 ∧ twinLen 1 0 = some (twinFrame 0 0).payload.length ∧ (twinFrame 0 0).payload.length < 64 ∧
    up.twinVerdict true (twinBytes 1 ((up.twinId ^^^ 4) ||| 8) (twinFrame 0 0)) = .valid 1 (twinFrame 0 0) ∧
    (twinIs up fun t => { t with roleClash := true }).twin.roleClash ∧ up.twinVerdict true [1, 2] = .bad ∧
    twinLen 1 (twinFrame 0 3).sub ≠ some (twinFrame 0 3).payload.length ∧ (0x1B : Byte) &&& 3 ≠ up.twinId &&& 3 ∧
    (twinBytes 1 0 (twinFrame 0 0)).drop 6 ≠ [0, 0, 0, 0] := by decide +kernel
theorem witness_TwinFramesAct_send : own.twinOn ∧ own.twin.muted = false ∧ (twinIs own fun t => { t with muted := true }).twin.muted ∧
    (twinIs own fun t => { t with dueYield := true }).twin.dueYield ∧ own.twin.dueYield = false ∧
    (twinIs own fun t => { t with dueStatus := some [1, 2, 3] }).twin.dueStatus = some [1, 2, 3] ∧ own.twin.dueStatus = none ∧
    own.castlePlanned = false ∧ (own.modAx 2 fun a => { a with mir := { a.mir with due := some [] } }).ax[(2 : AxisNo)].mir.due = some [] ∧
    (∀ m : AxisNo, m.val < 2 → (own.modAx 2 fun a => { a with mir := { a.mir with due := some [] } }).ax[m].mir.due = none) ∧
    (∀ m : AxisNo, own.ax[m].mir.due = none ∧ own.ax[m].mir.cmpDue = none) ∧
    (own.modAx 2 fun a => { a with mir := { a.mir with cmpDue := some [] } }).ax[(2 : AxisNo)].mir.cmpDue = some [] ∧
    (twinIs own fun t => { t with dueSuper := [(0, [])] }).twin.dueSuper = [(0, [])] ∧ own.twin.dueSuper = [] := by decide +kernel

/-! ### The time bus and the networks -/

/-- A slot of 100 µs on both channels, with its owner, kind and SYNC. -/
def slotWord (owner kind : Nat) (sync : Bool) : Word := BitVec.ofNat 32 (1000 + 3072 + 4096 * owner + 65536 * kind) ||| bitAt sync 18

/-- The lane on the time bus in a state: slot 0 is its own sync slot of kind 3, slot 1 a sync slot of another node, slot 2 its slot of
kind 0, slot 3 its slot of kind 3 without SYNC, slot 4 a slot of another node of kind 3. -/
def bus (st : VtbSt) (f : Vtb → Vtb) : State :=
  withPar { own with vtb := f { own.vtb with st := st } } [(P.vtbSlot.pid 0 0, slotWord 1 3 true), (P.vtbSlot.pid 0 1, slotWord 8 3 true),
    (P.vtbSlot.pid 0 2, slotWord 1 0 false), (P.vtbSlot.pid 0 3, slotWord 1 3 false), (P.vtbSlot.pid 0 4, slotWord 8 3 false)]

theorem witness_TimeBusKeepsItsGrid : own.vtbOn = false ∧ (bus .listen id).vtb.st = .listen ∧ (bus .sync id).vtbOn ∧ (bus .sync id).vtb.first = false ∧
    (bus .coldstart fun v => { v with first := true }).vtb.first ∧ (bus .sync fun v => { v with dev := [(1, 40)] }).vtb.dev = [(1, 40)] ∧
    (bus .sync id).vtb.dev = [] ∧ (bus .sync id).vtb.sentSync = false ∧ (bus .sync fun v => { v with sentSync := true }).vtb.sentSync ∧
    (bus .coldstart fun v => { v with otherSync := true, okRun := 1 }).vtb.otherSync ∧ (bus .sync id).vtb.otherSync = false ∧
    7 ≤ (bus .sync fun v => { v with syncLost := 7 }).vtb.syncLost ∧ (bus .sync id).vtb.cyc ≠ 63 ∧
    (bus .sync fun v => { v with cyc := 63, exceed := true, exceedRuns := 1, otherSync := true }).vtb.cyc = 63 ∧
    1 ≤ (bus .passive fun v => { v with passRun := 1, otherSync := true }).vtb.passRun := by decide +kernel

/-- The lane in SYNC with its channel X changed. -/
def chanX (f : VChan → VChan) : State := bus .sync fun v => { v with chan := vset v.chan 0 (f v.chan[(0 : Fin 2)]), otherSync := true }

theorem witness_TimeBusKeepsItsGrid_turn : ((bus .sync id).at 999999).gt < (bus .sync id).vtb.cst + (bus .sync id).vtbCycleNs ∧
    (bus .sync id).vtb.cst + (bus .sync id).vtbCycleNs ≤ ((bus .sync id).at 1000000).gt ∧
    ((bus .sync id).at 1000000).gt < (bus .sync fun v => { v with nitStart := 9 }).vtb.cst + (bus .sync id).vtbCycleNs + 9 ∧
    (bus .sync id).vtbCycleNs = 1000000 ∧ 50 * (10 * ((#v[100000, 97999] : Vector Nat 2)[(0 : Fin 2)] : Int) - 1000000).natAbs ≤ 1000000 ∧
    1000000 < 50 * (10 * ((#v[100000, 97999] : Vector Nat 2)[(1 : Fin 2)] : Int) - 1000000).natAbs ∧
    own.vtb.chan[(0 : Fin 2)].scale = none := by decide +kernel
theorem witness_TimeBusKeepsItsGrid_guard : (((bus .sync id).at 302000).guardOpen 0 ∧ ((bus .sync id).at 302000).linkOn) ∧
    ((bus .sync id).at 105000).guardOpen 0 = false ∧ (∀ crc : Word, crc + 1 ≠ crc) := by
  refine ⟨by decide +kernel, by decide +kernel, ?_⟩
  intro c; bv_omega
theorem witness_TimeBusKeepsItsGrid_channels : (chanX fun c => { c with heard := true, up := true }).vtb.chan[(0 : Fin 2)].heard ∧
    7 ≤ (chanX fun c => { c with silent := 7, up := true }).vtb.chan[(0 : Fin 2)].silent ∧
    3 ≤ (chanX fun c => { c with rejected := 3, up := true }).vtb.chan[(0 : Fin 2)].rejected ∧ own.vtb.chan[(0 : Fin 2)].gd = false ∧
    (chanX fun c => { c with gd := true, accepted := 1 }).vtb.chan[(0 : Fin 2)].gd ∧ (chanNo .x = 0 ∧ chanNo .y = 1) ∧ State.reset.linkOn = false ∧
    own.linkOn ∧ own.canonical ∧ (own.counter (chanCnt 0 3)).toNat < 65534 ∧ own.vtb.chan[(0 : Fin 2)].attempts + 1 < own.pn P.vtbGdn ∧
    own.pn P.vtbGdn ≤ (chanX fun c => { c with attempts := 3 }).vtb.chan[(0 : Fin 2)].attempts + 1 ∧ own.vtb.chan[(0 : Fin 2)].gdHard = false ∧
    8 ≤ (chanX fun c => { c with silent := 8, up := true }).vtb.chan[(0 : Fin 2)].silent ∧
    2 ≤ (bus .sync fun v => { v with exceedRuns := 2 }).vtb.exceedRuns ∧ 8 ≤ (bus .passive fun v => { v with syncLost := 8 }).vtb.syncLost ∧
    (bus .sync id).vtb.syncLost < 8 := by decide +kernel

/-- The lane in LISTEN, as a coldstart node. -/
def coldNode : State := { bus .listen id with par := { (bus .listen id).par with eff := (P.vtbCold.base, 1) :: (bus .listen id).par.eff } }

theorem witness_TimeBusKeepsItsGrid_cold : coldNode.vtbOn ∧ coldNode.vtb.st = .listen ∧ coldNode.coldNode ∧
    coldNode.ownSync = some ⟨0, 0, slotWord 1 3 true⟩ ∧ 0 < coldNode.vtbCycleNs ∧ coldNode.vtb.chan[(0 : Fin 2)].gd = false ∧
    coldNode.vtb.listenAt + 2 * coldNode.vtbCycleNs + 1000 * coldNode.pn P.vtbCsoff 0 coldNode.idx.val ≤ (coldNode.at 2000000).clk.lclk ∧
    (coldNode.at 1999999).clk.lclk < coldNode.vtb.listenAt + 2 * coldNode.vtbCycleNs + 1000 * coldNode.pn P.vtbCsoff 0 coldNode.idx.val := by
  decide +kernel

/-- A message of two words waits in the VTB TX queue. -/
def busTx : State :=
  let s := bus .sync id
  { s with mb := { s.mb with queues := vset s.mb.queues 10 { entries := [⟨.spi, mkSlot 0 0 0 [0x2000, 0, 5, 6]⟩] } } }
/-- A block of kind 0 is committed for the cycle that runs. -/
def busBlock : State :=
  let s := bus .sync id
  { s with life := { s.life with cycEnd := 100000 }, vote := { s.vote with commit := vset s.vote.commit 0 (some (List.replicate 9 0)), commitFor := 0 } }

theorem witness_TimeBusFramesAct_send : (bus .sync id).slotOf 9 = none ∧ (bus .sync id).slotOf 3 = some ⟨3, 300000, slotWord 1 3 false⟩ ∧
    (bus .sync id).ownsSlot (slotWord 8 3 true) = false ∧ (bus .sync id).ownsSlot (slotWord 1 3 false) ∧ slotUsed (slotWord 1 3 false) 0 ∧
    (bus .sync id).vtb.chan[(0 : Fin 2)].gd = false ∧ (slotCh (slotWord 1 3 false) / 2 ^ 0) % 2 = 1 ∧
    (bus .sync id).fitsSlot (slotWord 1 3 false) (frameLen 0 false) ∧ (bus .sync id).fitsSlot (slotWord 1 3 true) (frameLen 0 true) ∧
    (bus .sync id).mb.queues[(10 : Fin 16)].entries = [] ∧ slotKind (slotWord 1 3 false) = 3 ∧ busTx.vtbOn ∧
    busTx.mb.queues[(10 : Fin 16)].entries.length = 1 ∧
    (∀ x ∈ busTx.mb.queues[(10 : Fin 16)].entries, x.desc.getLsbD 17 = false ∧ descLen x.desc = 2 ∧
      busTx.fitsSlot (slotWord 1 3 false) (frameLen (descLen x.desc) false)) ∧
    (bus .sync id).slotOf 2 = some ⟨2, 200000, slotWord 1 0 false⟩ ∧ (bus .sync id).vote.commit[(0 : Fin 3)] = none := by decide +kernel
theorem witness_TimeBusFramesAct_point : (((bus .sync id).at 302000).gt - ((bus .sync id).vtb.cst + 300000 + 2000)).natAbs < 8 ∧
    8 ≤ (((bus .sync id).at 302008).gt - ((bus .sync id).vtb.cst + 300000 + 2000)).natAbs ∧
    (bus .coldstart id).slotOf 0 = some ⟨0, 0, slotWord 1 3 true⟩ ∧ (bus .coldstart id).vtb.first = false ∧ (bus .coldstart id).vtbOn ∧
    (bus .coldstart id).syncSlots.contains ⟨0, 0, slotWord 1 3 true⟩ ∧
    (((bus .coldstart id).at 2000).gt - ((bus .coldstart id).vtb.cst + 0 + 2000)).natAbs < 8 := by decide +kernel
theorem witness_TimeBusFramesAct_block : busBlock.vtbOn ∧ busBlock.vote.commit[(0 : Fin 3)] = some (List.replicate 9 0) ∧
    busBlock.life.st.operating ∧ busBlock.split = false ∧ busBlock.vote.commitFor = (busBlock.vtb.cst + 200000) / 1000000 ∧
    busBlock.vtb.slotSeen[(0 : Fin 3)] ≠ some ((busBlock.vtb.cst + 200000) / 1000000) ∧ busBlock.life.cycEnd / 8 < busBlock.localOf (busBlock.vtb.cst + 200000) / 8 ∧
    busBlock.fitsSlot (slotWord 1 0 false) (frameLen 12 false) := by decide +kernel

/-- The bytes of a null frame of slot 1 with its cycle start, and of a frame of slot 4 with two words. -/
def nullBytes : List Byte := vtbFrame 1 0 true false (some 0) []
/-- The frame of slot 4. -/
def dataBytes : List Byte := vtbFrame 4 0 false false none [5, 6]
/-- A frame as the receiver of the lane samples it, every 4 ns, the first sample at a time. -/
def heardAt (first : Ns) (bs : List Byte) : VtbIn :=
  ⟨first, (vtbWave (vtbBits (own.pn P.vtbTss) bs)).flatMap fun x => List.replicate (x.1 / 4) x.2⟩

theorem witness_TimeBusFramesAct_read : ((bus .sync id).vtbRead (heardAt 102000 nullBytes)).2 = some nullBytes ∧
    ((bus .sync id).vtbRead (heardAt 402000 dataBytes)).2 = some dataBytes ∧ ((bus .sync id).vtbRead ⟨102000, []⟩).2 = none := by decide +kernel
theorem witness_TimeBusFramesAct_place :
    (bus .sync id).slotAt ((bus .sync id).gtAt ((bus .sync id).frameStart (heardAt 102000 nullBytes)) - (bus .sync id).vtb.cst) =
      some ⟨1, 100000, slotWord 8 3 true⟩ ∧
    |(bus .sync id).gtAt ((bus .sync id).frameStart (heardAt 102000 nullBytes)) - (bus .sync id).vtb.cst - (100000 + 2000)| ≤ 1000 ∧
    1000 < |(bus .sync id).gtAt ((bus .sync id).frameStart (heardAt 103400 nullBytes)) - (bus .sync id).vtb.cst - (100000 + 2000)| ∧
    (bus .sync id).slotAt ((bus .sync id).gtAt ((bus .sync id).frameStart (heardAt 103400 nullBytes)) - (bus .sync id).vtb.cst) =
      some ⟨1, 100000, slotWord 8 3 true⟩ ∧
    (bus .sync id).slotAt ((bus .sync id).gtAt ((bus .sync id).frameStart (heardAt 402000 dataBytes)) - (bus .sync id).vtb.cst) =
      some ⟨4, 400000, slotWord 8 3 false⟩ ∧
    |(bus .sync id).gtAt ((bus .sync id).frameStart (heardAt 402000 dataBytes)) - (bus .sync id).vtb.cst - (400000 + 2000)| ≤ 1000 := by
  decide +kernel
theorem witness_TimeBusFramesAct_receive : (bus .sync id).vtbOn ∧ (bus .sync id).vtb.st ≠ .listen ∧ own.vtbOn = false ∧
    parseHdr [] = none ∧ frameCrcOk nullBytes ∧
    (∃ h, parseHdr nullBytes = some h ∧ h.slot = 1 ∧ h.cyc = (bus .sync id).vtb.cyc ∧ h.sync ∧ h.cst = (bus .sync id).vtb.cst ∧
      (bus .sync id).lenOk ⟨1, 100000, slotWord 8 3 true⟩ h ∧ h.null) ∧
    (∃ h, parseHdr dataBytes = some h ∧ h.null = false ∧ h.slot ≠ 1 ∧ h.slot = 4 ∧ h.sync = false ∧
      (bus .sync id).lenOk ⟨4, 400000, slotWord 8 3 false⟩ h ∧ (bus .sync id).connOf (nvCid (bytesOf h.payload)) = none) ∧
    ¬(1 ≤ slotOwner (slotWord 8 3 false) ∧ slotOwner (slotWord 8 3 false) ≤ 6 ∧ slotKind (slotWord 8 3 false) < 3) ∧
    (bus .sync id).ownsSlot (slotWord 8 3 true) = false ∧
    (bus .sync id).vtb.rxCopy = none ∧ 2 ≤ (bus .sync id).room 11 ∧ frameCrcOk dataBytes ∧
    frameCrcOk (dataBytes.set 5 0xFF) = false := by
  have h1 : parseHdr nullBytes = some ⟨1, 0, 0, true, true, false, 0, []⟩ := by decide +kernel
  have h2 : parseHdr dataBytes = some ⟨4, 0, 2, false, false, false, 0, [5, 6]⟩ := by decide +kernel
  refine ⟨by decide +kernel, by decide +kernel, by decide +kernel, by decide +kernel, by decide +kernel,
    ⟨_, h1, by decide +kernel⟩, ⟨_, h2, by decide +kernel⟩, by decide +kernel⟩
theorem witness_TimeBusFramesAct_listen : (bus .listen id).vtbOn ∧ (bus .listen id).vtb.st = .listen ∧
    ((bus .listen id).vtbRead (heardAt 102000 nullBytes)).2 = some nullBytes ∧
    parseHdr nullBytes = some ⟨1, 0, 0, true, true, false, 0, []⟩ ∧ (bus .listen id).slotOf 1 = some ⟨1, 100000, slotWord 8 3 true⟩ ∧
    (bus .listen id).vtbCycleNs ≠ 0 ∧ (0 : Int) % ((bus .listen id).vtbCycleNs : Int) = 0 ∧
    ((0 : Int) / ((bus .listen id).vtbCycleNs : Int)) % 64 = (0 : BitVec 6).toNat ∧ (bus .listen id).slotOf 4 = some ⟨4, 400000, slotWord 8 3 false⟩ ∧
    parseHdr dataBytes = some ⟨4, 0, 2, false, false, false, 0, [5, 6]⟩ := by decide +kernel

/-- A CAN frame of identifier 0 with eight data bytes. -/
def can8 : CanIn := ⟨0, false, false, false, false, false, 8, List.replicate 8 0, true⟩
/-- Controller 0 is on, with its filter 0 enabled for the host, or for a connection. -/
def canUp (filter : Word) (f : Can → Can) : State :=
  withPar { own with can := vset own.can 0 (f own.can[(0 : Fin 2)]) } [(P.canMode.pid 0 0, 1), (P.canFid.pid 0 0, filter)]
/-- A CAN TX slot with eight data bytes. -/
def canSlot : Slot := [0, 0, 0, 0, 0, 8, 1, 2, 0, 0, 0, 0, 0, 0, 0, 0]
/-- A TX entry of controller 0 with eight data bytes, placed at time 0. -/
def canTx : State :=
  let s := canUp 1 id
  { s with mb := { s.mb with queues := vset s.mb.queues 12 { entries := [⟨.spi, canSlot⟩] }, canAt := [0] } }

theorem witness_NetworksMoveMessages_can : (canUp 0 fun c => { c with busoff := true }).canOn 0 = false ∧ (canUp 0 id).canOn 0 ∧ ({ can8 with ok := false } : CanIn).ok = false ∧ can8.ok ∧
    (∀ k, k < 16 → (canUp 0 id).canMatch 0 can8 k = false) ∧ (canUp 0x80000000 id).canMatch 0 can8 0 ∧ can8.rtr = false ∧
    ((canUp 0x80000000 id).canFilter 0 0).1.getLsbD 30 = false ∧ ((canUp 0xC0000000 id).canFilter 0 0).1.getLsbD 30 ∧
    (canUp 0xC0000000 id).canMatch 0 can8 0 ∧ 2 ≤ (canUp 0x80000000 id).room 13 ∧ own.mb.queues[(12 : Fin 16)].entries = [] ∧
    (canUp 0 fun c => { c with busoff := true }).can[(0 : Fin 2)].busoff ∧ own.can[(0 : Fin 2)].busoff = false ∧ own.netOn := by decide +kernel
theorem witness_NetworksMoveMessages_tx : canTx.mb.queues[(12 : Fin 16)].entries = [⟨.spi, canSlot⟩] ∧ canTx.mb.canAt = [0] ∧
    CanEnt.ctl (⟨.spi, canSlot⟩, 0) = 0 ∧ CanEnt.bad (⟨.spi, canSlot⟩, 0) (canTx.canMode 0) = false ∧
    CanEnt.long (⟨.spi, canSlot⟩, 0) = false ∧ canTx.canOn 0 ∧
    (CanEnt.frame (⟨.spi, canSlot⟩, 0) []).fdf = false ∧ canTx.netOn ∧
    0 + 1000000 * canTx.pn P.canTxtmo 0 0 ≤ (canTx.at 10000000).clk.lclk ∧ (canTx.at 9999999).clk.lclk < 0 + 1000000 * canTx.pn P.canTxtmo 0 0 ∧
    canTx.canonical ∧ (canTx.counter 0xC002).toNat < 65534 := by decide +kernel

/-- A broadcast frame of a kind. -/
def ethFrame (k : EthKind) : EthIn := ⟨true, 0xFFFFFFFFFFFF, none, k⟩
/-- One datagram waits in the Ethernet TX queue. -/
def ethTx : State := { own with mb := { own.mb with queues := vset own.mb.queues 14 { entries := [⟨.spi, mkSlot 0x00A00000 0 0 [1, 2, 3]⟩] } } }

theorem witness_NetworksMoveMessages_eth : own.macOn ∧ ({ own with eth := { own.eth with stopped := true } } : State).macOn = false ∧
    own.ethAccepts (ethFrame .other) ∧ own.ethAccepts (ethFrame (.arp own.ownIp)) ∧
    (49320 : BitVec 16).toNat = own.pn P.ethTport ∧ (49321 : BitVec 16).toNat = own.pn P.ethNport ∧ (49322 : BitVec 16).toNat = own.pn P.ethDport ∧
    own.pn P.ethNport ≠ own.pn P.ethTport ∧ own.pn P.ethDport ≠ own.pn P.ethTport ∧ own.pn P.ethDport ≠ own.pn P.ethNport ∧
    (80 : BitVec 16).toNat ≠ own.pn P.ethTport ∧ (List.replicate 65 (0 : Byte)).length % 64 ≠ 0 ∧ 40 < (List.replicate 41 (0 : Byte)).length ∧
    (List.replicate 40 (0 : Byte)).length ≤ 40 ∧ 0 < own.room 15 ∧ own.mb.queues[(14 : Fin 16)].entries = [] ∧ ethTx.macOn ∧
    ethTx.mb.queues[(14 : Fin 16)].entries = [⟨.spi, mkSlot 0x00A00000 0 0 [1, 2, 3]⟩] := by decide +kernel

/-! ### Lifecycle and self-test -/

/-- An armed latch with WAKE enabled, in a power state, CONTROL low since time 0. -/
def asleep (p : PState) : State :=
  { wakes with life := { wakes.life with st := .sleep, ps := p }, aon := { wakes.aon with armed := true, control := false } }

theorem witness_LifecycleFollowsItsSteps_wake : up.aon.armed = false ∧ (asleep .sleep).aon.armed ∧ (asleep .sleep).wakeEnabled .wake ∧
    (asleep .sleep).wakeEnabled .key = false ∧ (asleep .sleep).st.run = none ∧ (asleep .run).life.ps = .run ∧ (asleep .doze).life.ps = .doze ∧
    (asleep .sleep).life.ps = .sleep ∧ (asleep .sleep).aon.control = false ∧ ((asleep .sleep).at 499999).clk.lclk < (asleep .sleep).aon.controlAt + 500000 ∧
    (asleep .sleep).aon.controlAt + 500000 ≤ ((asleep .sleep).at 500000).clk.lclk ∧ up.aon.timer = none ∧
    ({ withPar up [(P.pwrWtimer.base, 60)] with aon := { up.aon with timer := some 5 } } : State).aon.timer = some 5 ∧
    (withPar up [(P.pwrWtimer.base, 60)]).pn P.pwrWtimer ≠ 0 ∧ up.aon.replay = none ∧
    ({ asleep .sleep with aon := { (asleep .sleep).aon with replay := some (0, 9) } } : State).aon.replay = some (0, 9) := by decide +kernel

/-- A sleep entry after some abort points. -/
def entering (k : SleepKind) (passed : Nat) (abort : Bool) : State :=
  { own with life := { own.life with entry := some { kind := k, op := alignOf false, from_ := .active, pl := 1, passed := passed, abort := abort, arming := false } } }

theorem witness_LifecycleFollowsItsSteps_entry : own.life.entry = none ∧
    (∀ k ∈ [SleepKind.doze, .sleep, .shutdown], ∀ p ∈ [0, 1, 2, 3], ∃ e, (entering k p false).life.entry = some e ∧ e.passed = p ∧ e.arming = false ∧
      e.abort = false ∧ e.kind = k) ∧ (entering .sleep 0 true).aon.wakesrc = 0 ∧ own.life.plc = none ∧ own.life.st ≠ .selftest ∧ own.twin.planned = none ∧
    (∃ e, (entering .sleep 0 true).life.entry = some e ∧ e.abort) ∧ own.auth ∧
    (changing toLevel3).life.plc = some toLevel3 := by
  refine ⟨by decide +kernel, ?_, by decide +kernel, by decide +kernel, by decide +kernel, by decide +kernel, ⟨_, rfl, by decide +kernel⟩,
    by decide +kernel, by decide +kernel⟩
  intro k _ p _
  exact ⟨_, rfl, rfl, rfl, rfl, rfl⟩

/-- A lane in BOOT at a step. -/
def booting (n : Nat) (f : Life → Life) : State := { State.reset with life := f { State.reset.life with step := n } }

theorem witness_LifecycleFollowsItsSteps_resume : ∃ (sigs : Vector Word 28) (lost : BitVec 28),
    (∀ i : Fin 28, lost.getLsbD i.val =
      (decide (sigs[i] ≠ (asleep .sleep).aon.sigs[i]) || (2 : BitVec 28).getLsbD i.val)) ∧ lost = 2 :=
  ⟨(asleep .sleep).aon.sigs, 2, by simp, rfl⟩
theorem witness_LifecycleFollowsItsSteps_start : up.life.st ≠ .sleep ∧ (asleep .sleep).life.st = .sleep ∧ (asleep .sleep).life.st ≠ .failSilent ∧
    ({ asleep .sleep with aon := { (asleep .sleep).aon with control := true } } : State).aon.control ∧ up.life.nrstLow = false ∧
    (booting 0 fun f => { f with nrstLow := true }).life.nrstLow ∧ up.aon.powered ∧ (booting 1 id).life.step = 1 ∧ (booting 1 id).life.st = .boot ∧
    (booting 1 id).regs.bstate.toNat < 3 ∧ up.life.st ≠ .boot ∧ (booting 3 id).life.step = 3 ∧ up.aon.postWake = none ∧ up.aon.postTimer = none ∧
    (booting 5 id).life.step = 5 ∧ (booting 5 id).twin.claim = false ∧ (booting 5 id).recordPass = false ∧
    ({ booting 5 id with aon := { up.aon with testrec := 0x107F0010 } } : State).recordPass ∧ (booting 5 id).life.mustFull = false := by decide +kernel
theorem witness_LifecycleFollowsItsSteps_isolation : State.reset.fwOn = false ∧ up.life.isolated.getLsbD 3 = false ∧ up.fwOn ∧
    ({ up with life := { up.life with isolated := 8 } } : State).life.isolated.getLsbD 3 ∧ up.underTest.getLsbD 3 = false := by decide +kernel

/-- A lane in CONFIGURED that is due for its start checks. -/
def checking : State := { configured with life := { configured.life with step := 7 } }
/-- That lane with two axes of one lane group on the same winding. -/
def sameWinding : State := withPar checking [(P.sysAlloc.pid 0 0, 0x3000), (P.sysAlloc.pid 0 1, 0x3000)]

theorem witness_LifecycleFollowsItsSteps_checks : checking.life.st = .configured ∧ checking.life.step = 7 ∧ checking.life.testFail = false ∧
    up.life.step ≠ 7 ∧ sameWinding.life.step = 7 ∧ sameWinding.allocBad = some 1 := by decide +kernel
theorem witness_LifecycleFollowsItsSteps_bad : sameWinding.startBad = some (0x40, 1) := by
  have h : sameWinding.allocBad = some 1 := witness_LifecycleFollowsItsSteps_checks.2.2.2.2.2
  simp [State.startBad, h]

/-- A lane that is ready to drive. -/
def readyLane : State :=
  { up with vtb := { up.vtb with st := .sync }, life := { up.life with checksOk := true },
            ax := up.ax.map fun (a : Axis) => { a with cur := { a.cur with calDone := true } } }

theorem witness_LifecycleFollowsItsSteps_ready : up.readyToDrive = false ∧ (readyLane.at 1).readyToDrive ∧ readyLane.life.drdy = false := by
  decide +kernel

/-- A run over the signal unit and pair 0. -/
def testing (f : Run → Run) : State :=
  { up with life := { up.life with st := .selftest },
            st := { up.st with run := some (f { origin := .demand, doms := 0x22, npat := 16, mem := false, from_ := .active }) } }

theorem witness_SelfTestRunsItsDomains : up.st.run = none ∧ up.st.held = [] ∧ up.st.latched = false ∧
    (∃ r, (testing fun r => { r with granted := some 5 }).st.run = some r ∧ r.granted = some 5 ∧ r.stop = none) ∧
    (∃ r, (testing fun r => { r with under := 0x20 }).st.run = some r ∧ r.under.getLsbD 5 = true ∧ r.stop = none ∧ r.res[(5 : Fin 7)] = none ∧
      r.under ≠ 0 ∧ r.pats[(5 : Fin 7)] < r.npat ∧ r.under.getLsbD 1 = false) ∧
    (∃ r, (testing fun r => { r with under := 0x22, pats := Vector.replicate 7 16 }).st.run = some r ∧ r.under.getLsbD 5 = true ∧
      r.npat ≤ r.pats[(5 : Fin 7)] ∧ r.under ≠ 0x20 ∧ (5 : Fin 7) ≠ 6) := by
  refine ⟨by decide +kernel, by decide +kernel, by decide +kernel, ⟨_, rfl, by decide +kernel⟩, ⟨_, rfl, by decide +kernel⟩, ⟨_, rfl, by decide +kernel⟩⟩
theorem witness_SelfTestRunsItsDomains_end :
    (∃ r, (testing fun r => { r with origin := .fullStart, doms := up.allDomains, mem := true, under := 0x20, ended := up.allDomains, from_ := .configured,
                                     pats := Vector.replicate 7 16 }).st.run = some r ∧ r.origin = .fullStart ∧ r.under = 0x20 ∧
      r.doms &&& ~~~(r.ended ||| 0x20) = 0 ∧ r.stop = none ∧ r.npat ≤ r.pats[(5 : Fin 7)] ∧ r.res[(5 : Fin 7)] = none ∧ r.npat = up.npatUnits ∧
      r.doms = up.allDomains ∧ ∀ e : Fin 7, r.res[e] = none) ∧
    (∃ r, (testing fun r => { r with under := 0x20 }).st.run = some r ∧ r.origin = .demand ∧ r.stop = none ∧ StopCause.wake ≠ .twinClaim ∧
      (∀ e : Fin 7, r.res[e] ≠ some .fail) ∧ (∀ e : Fin 7, r.under.getLsbD e.val = true → r.npat ≤ 64 ∧ r.pats[e] < r.npat) ∧
      r.under &&& 0x41 = 0) := by
  refine ⟨⟨_, rfl, by decide +kernel⟩, ⟨_, rfl, by decide +kernel⟩⟩

/-! ## The manual's worked examples -/

/-- The OP_PAR_WRITE slot of chapter 15: cur.imax of local axis 3 to 100.0 A, with its slot CRC in word 3. -/
def exampleBody : Slot := [0x00820102, 0x00070031, 1, 0, 0x2302, 0x00640000] ++ List.replicate 10 0
def exampleSlot : Slot := exampleBody.set 3 (crc32 (bytesOf exampleBody))
/-- A lane whose last SEQ from SPI on the CONFIG queue was 0006h. -/
def heard6 : State := { up with mb := { up.mb with peers := [⟨.spi, 1, #v[none, none, some ⟨7, some 6, []⟩, none]⟩] } }
def exampleRun : State := match exec (.opParWrite (slotReq .spi exampleSlot)) heard6 with | .next t => t | _ => heard6
/-- A slot at the front of a queue. -/
def frontSlot (s : State) (q : Fin 16) : Slot := ((s.mb.queues[q].entries.map (·.slot)).headD [])

-- Chapter 15, example: word 0 of the response in queue 6, its STATUS, its first payload word, and the value in effect.
theorem test_example_par_write : slotCrcOk exampleSlot = true ∧ P.curImax.pid 3 0 = 0x2302 ∧
    (frontSlot exampleRun 6).getD 0 0 = 0x04820102 ∧ (frontSlot exampleRun 6).getD 1 0 = 0x00070031 ∧
    (frontSlot exampleRun 6).getD 2 0 = 0x00FF0000 ∧ (frontSlot exampleRun 6).getD 4 0 = 1 ∧
    exampleRun.pw P.curImax 3 0 = 0x00640000 := by decide +kernel
-- Chapter 15, example: one log entry, with its ID, SOURCE, old value and new value.
theorem test_example_par_write_log : (frontSlot exampleRun 9).getD 0 0 ≠ 0 ∧ exampleRun.mb.log.map (fun e => (e.drop 3).take 3) = [[0x00102302, 0x000A0000, 0x00640000]] := by decide +kernel
-- Chapter 15, example: the same slot again is answered again and appends no second log entry.
theorem test_example_par_write_again :
    (match exec (.opParWrite (slotReq .spi exampleSlot)) exampleRun with | .next t => t.mb.log.length | _ => (9 : Nat)) = 1 := by decide +kernel
-- Chapter 10, example: si.dt2 = 20 ms gives 656 ticks.
theorem test_example_discrepancy_limit : siLimit 20 = 656 := by decide
-- Chapter 1, example: publications 2.00, 2.01 and 2.40 give 2.01.
theorem test_example_mid_value : mid3 (200 / 100) (201 / 100) (240 / 100) = 201 / 100 := by decide +kernel
-- Chapter 16, example: with N = −9 PL3 is sent as 01E1h.
theorem test_example_vout : ({ up with life := { up.life with voutMode := 0x17 } } : State).voutWord 3 = 0x01E1 := by decide +kernel
-- Chapter 14, example: 24 bytes have DLC Ch, and 28 bytes travel with 32 bytes of data (DLC Dh).
theorem test_example_dlc : dlcFor 24 = 0xC ∧ dlcFor 28 = 0xD := by decide
-- Chapter 7, under the pointer rules: a circular buffer of 12 words at 2405h runs to 2410h and returns.
theorem test_example_circular :
    ((({ p := Vector.replicate 8 0x2410, d := Vector.replicate 8 1, g := Vector.replicate 8 0x2405, w := Vector.replicate 8 12 } : Ctx).stepPtr
      (up.env .su) 0).p[(0 : Fin 8)]) = 0x2405 := by decide +kernel
-- Chapter 6, example: OV1 at 300 rad/s and −4,000 rad/s² with d_eff 1,000 rad/s²: 7.5 ms, 280 ms and 2.5 ms.
theorem test_example_stop_phases : (stopPlan 300 (-4000) 1000 400000).map (·.2) = [3 / 400, 28 / 100, 1 / 400] := by decide +kernel

end Sys2Proof.Tests
end

namespace Sys2Proof.Machine

/-! ## What a command leaves of the parameters

The stored parameters (R412 to R414) are written by `State.applyWrite` alone. Every operation that does not reach it has its lemma here:
`f_par` where all of `Params` stays, `f_stored` where values take effect but none is stored, `f_keepsStored` for a command. -/

/-- The next state of an outcome, where there is one, holds the parameters that `s` has stored. -/
def KeepsStored (s : State) (o : Out) : Prop := ∀ t, o = .next t → t.par.stored = s.par.stored

@[simp] theorem keepsStored_next (s t : State) : KeepsStored s (.next t) ↔ t.par.stored = s.par.stored := by
  simp [KeepsStored]

@[simp] theorem keepsStored_fault (s : State) (r : Fault) : KeepsStored s (.fault r) := by
  simp [KeepsStored]

@[simp] theorem keepsStored_ite (s : State) (c : Prop) [Decidable c] (o p : Out) :
    KeepsStored s (if c then o else p) ↔ if c then KeepsStored s o else KeepsStored s p := by
  split <;> rfl

/-! ### Choices and folds -/

@[simp] theorem State.ite_par (c : Prop) [Decidable c] (a b : State) : (if c then a else b).par = if c then a.par else b.par :=
  apply_ite State.par c a b

@[simp] theorem Params.ite_stored (c : Prop) [Decidable c] (a b : Params) :
    (if c then a else b).stored = if c then a.stored else b.stored :=
  apply_ite Params.stored c a b

@[simp] theorem State.ite_fst {α : Type} (c : Prop) [Decidable c] (a b : State × α) : (if c then a else b).1 = if c then a.1 else b.1 :=
  apply_ite Prod.fst c a b

@[simp] theorem State.ite_snd {α : Type} (c : Prop) [Decidable c] (a b : α × State) : (if c then a else b).2 = if c then a.2 else b.2 :=
  apply_ite Prod.snd c a b

@[simp] theorem Ans.ite_st (c : Prop) [Decidable c] (a b : Ans) : (if c then a else b).st = if c then a.st else b.st :=
  apply_ite Ans.st c a b

@[simp] theorem forFin_par {n : Nat} {f : Fin n → State → State} (h : ∀ i x, (f i x).par = x.par) (s : State) :
    (forFin n f s).par = s.par :=
  forFin_keeps (p := fun x => x.par = s.par) rfl fun i x hx => (h i x).trans hx

@[simp] theorem forFin_stored {n : Nat} {f : Fin n → State → State} (h : ∀ i x, (f i x).par.stored = x.par.stored) (s : State) :
    (forFin n f s).par.stored = s.par.stored :=
  forFin_keeps (p := fun x => x.par.stored = s.par.stored) rfl fun i x hx => (h i x).trans hx

@[simp] theorem foldl_par {α : Type} {f : State → α → State} (h : ∀ x i, (f x i).par = x.par) (is : List α) (s : State) :
    (is.foldl f s).par = s.par :=
  List.foldlRecOn (motive := fun x : State => x.par = s.par) is f rfl fun x hx i _ => (h x i).trans hx

@[simp] theorem foldl_stored {α : Type} {f : State → α → State} (h : ∀ x i, (f x i).par.stored = x.par.stored) (is : List α) (s : State) :
    (is.foldl f s).par.stored = s.par.stored :=
  List.foldlRecOn (motive := fun x : State => x.par.stored = s.par.stored) is f rfl fun x hx i _ => (h x i).trans hx

/-! ### Shared operations -/

@[simp] theorem State.takeNow_stored (s : State) (l : AxisNo) : (s.takeNow l).par.stored = s.par.stored := by
  simp [State.takeNow]

@[simp] theorem State.pushEvent_par (s : State) (slot : Slot) : (s.pushEvent slot).par = s.par := by
  simp [State.pushEvent]

@[simp] theorem State.queueEvent_par (s : State) (e : LateEv) : (s.queueEvent e).par = s.par := by
  simp [State.queueEvent]

@[simp] theorem State.pop_par (s : State) (q : Fin 16) : (s.pop q).par = s.par := by
  simp [State.pop]

@[simp] theorem State.place_par (s : State) (q : Fin 16) (e : QEntry) : (s.place q e).par = s.par := by
  simp [State.place]

@[simp] theorem State.setSt_par (s : State) (t : LaneSt) : (s.setSt t).par = s.par := by
  simp [State.setSt]

@[simp] theorem State.syncDrive_par (s : State) : s.syncDrive.par = s.par := by
  unfold State.syncDrive
  split <;> simp

@[simp] theorem State.axisFault_par (s : State) (l : AxisNo) (cause : BitVec 4) : (s.axisFault l cause).par = s.par := by
  simp [State.axisFault]

@[simp] theorem State.torqueOff_par (s : State) (k : PairNo) : (s.torqueOff k).par = s.par := by
  simp [State.torqueOff]

/-! ### Position and speed feedback -/

@[simp] theorem State.noteLoss_par (s : State) (l : AxisNo) (cause : BitVec 4) (source : Bool) :
    (s.noteLoss l cause source).par = s.par := by
  simp [State.noteLoss]

@[simp] theorem State.encoderLoss_par (s : State) (l : AxisNo) (cause : BitVec 4) : (s.encoderLoss l cause).par = s.par := by
  simp [State.encoderLoss]

@[simp] theorem State.pendPulse_par (s : State) (d : Nat) : (s.pendPulse d).par = s.par := by
  simp [State.pendPulse]

@[simp] theorem State.pendPulses_par (s : State) (d n : Nat) : (s.pendPulses d n).par = s.par := by
  induction n generalizing s with
  | zero => rfl
  | succ n ih => exact (ih _).trans (s.pendPulse_par d)

@[simp] theorem State.dividerEdge_par (s : State) (d : Fin 2) : (s.dividerEdge d).par = s.par := by
  simp [State.dividerEdge]

@[simp] theorem State.sourceEdge_par (s : State) (src : Nat) : (s.sourceEdge src).par = s.par := by
  simp [State.sourceEdge]

@[simp] theorem execPulseDividerPulse_keepsStored (d : Fin 2) (now : Ns) (s : State) :
    KeepsStored s (execPulseDividerPulse d now s) := by
  simp [execPulseDividerPulse]

@[simp] theorem State.indexMissing_par (s : State) (l : AxisNo) : (s.indexMissing l).par = s.par := by
  simp only [State.indexMissing]
  split <;> simp

@[simp] theorem State.illegalTransition_par (s : State) (l : AxisNo) (ba : BitVec 2) :
    (s.illegalTransition l ba).par = s.par := by
  simp [State.illegalTransition]

@[simp] theorem execEncoderTransition_keepsStored (l : AxisNo) (ba : BitVec 2) (now : Ns) (s : State) :
    KeepsStored s (execEncoderTransition l ba now s) := by
  simp [execEncoderTransition]

@[simp] theorem State.encoderFailed_par (s : State) (l : AxisNo) : (s.encoderFailed l).par = s.par := by
  simp [State.encoderFailed]

@[simp] theorem execEncoderIllegalBurst_keepsStored (l : AxisNo) (now : Ns) (s : State) :
    KeepsStored s (execEncoderIllegalBurst l now s) := by
  simp [execEncoderIllegalBurst]

@[simp] theorem State.lineCheck_par (s : State) (l : AxisNo) : (s.lineCheck l).2.par = s.par := by
  unfold State.lineCheck
  split <;> simp

@[simp] theorem State.indexCommutation_par (s : State) (l : AxisNo) : (s.indexCommutation l).par = s.par := by
  simp [State.indexCommutation]

@[simp] theorem State.indexLoad_par (s : State) (l : AxisNo) : (s.indexLoad l).par = s.par := by
  simp [State.indexLoad]

@[simp] theorem State.indexEvent_par (s : State) (l : AxisNo) : (s.indexEvent l).par = s.par := by
  simp only [State.indexEvent]
  split <;> simp

@[simp] theorem execIndexEvent_keepsStored (l : AxisNo) (rising : Bool) (now : Ns) (s : State) :
    KeepsStored s (execIndexEvent l rising now s) := by
  simp [execIndexEvent]

@[simp] theorem State.referenceEdge_par (s : State) (l : AxisNo) (rising : Bool) : (s.referenceEdge l rising).2.par = s.par := by
  simp [State.referenceEdge]

@[simp] theorem State.resolverTake_par (s : State) (l : AxisNo) : (s.resolverTake l).par = s.par := by
  simp [State.resolverTake]

@[simp] theorem execSentFrame_keepsStored (p : Fin 3) (f : SentIn) (now : Ns) (s : State) :
    KeepsStored s (execSentFrame p f now s) := by
  simp only [execSentFrame]
  split
  · simp
  · split <;> simp

@[simp] theorem State.ssiTrigger_par (s : State) (p : Fin 3) (t : Ns) : (s.ssiTrigger p t).par = s.par := by
  simp [State.ssiTrigger]

@[simp] theorem State.ssiDue_par (s : State) (trig : Nat) (t : Ns) : (s.ssiDue trig t).par = s.par := by
  refine forFin_par (fun p x => ?_) s
  split
  · split <;> simp
  · rfl

@[simp] theorem execSsiTrigger_keepsStored (p : Fin 3) (now : Ns) (s : State) : KeepsStored s (execSsiTrigger p now s) := by
  simp only [execSsiTrigger]
  split <;> simp

@[simp] theorem execSsiFrame_keepsStored (p : Fin 3) (f : SsiIn) (now : Ns) (s : State) :
    KeepsStored s (execSsiFrame p f now s) := by
  simp [execSsiFrame]

@[simp] theorem execSerialTimeout_keepsStored (p : Fin 3) (now : Ns) (s : State) : KeepsStored s (execSerialTimeout p now s) := by
  simp [execSerialTimeout]

@[simp] theorem execWheelSpeedEdge_keepsStored (w : Fin 8) (rising : Bool) (now : Ns) (s : State) :
    KeepsStored s (execWheelSpeedEdge w rising now s) := by
  simp [execWheelSpeedEdge]

@[simp] theorem execWheelSpeedStill_keepsStored (w : Fin 8) (now : Ns) (s : State) :
    KeepsStored s (execWheelSpeedStill w now s) := by
  simp [execWheelSpeedStill]

@[simp] theorem State.wheelCycle_par (s : State) (w : Fin 8) : (s.wheelCycle w).par = s.par := by
  simp [State.wheelCycle]

/-! ### The mailbox -/

@[simp] theorem State.deliverAll_par (s : State) (src : Source) (cls : BitVec 4) (slots : List Slot) :
    (s.deliverAll src cls slots).par = s.par := by
  simp [State.deliverAll]

@[simp] theorem State.countRefusal_par (s : State) (code : Nat) (opc : BitVec 16) (src : Source) :
    (s.countRefusal code opc src).par = s.par := by
  unfold State.countRefusal
  split <;> simp

@[simp] theorem State.touch_par (s : State) (src : Source) : (s.touch src).par = s.par := by
  unfold State.touch
  split <;> simp

@[simp] theorem State.setSeq_par (s : State) (src : Source) (c : Fin 4) (q : SeqState) : (s.setSeq src c q).par = s.par := by
  simp [State.setSeq]

@[simp] theorem State.stopRun_par (s : State) (c : StopCause) : (s.stopRun c).par = s.par := by
  simp [State.stopRun]

@[simp] theorem State.accept_par (s : State) (o : AccOp) : (s.accept o).par = s.par := by
  simp [State.accept]

@[simp] theorem State.modOp_par (s : State) (o : AccOp) (f : AccOp → AccOp) : (s.modOp o f).par = s.par := by
  simp [State.modOp]

@[simp] theorem State.commitOp_par (s : State) (o : AccOp) : (s.commitOp o).par = s.par := by
  simp [State.commitOp]

@[simp] theorem State.complete_par (s : State) (o : AccOp) (code : Nat) (words : List Word) :
    (s.complete o code words).par = s.par := by
  simp [State.complete]

@[simp] theorem State.completeIf_par (s : State) (o : Option AccOp) (code : Nat) (words : List Word) :
    (s.completeIf o code words).par = s.par := by
  unfold State.completeIf
  split <;> simp

@[simp] theorem Ans.refuse_par (s : State) (code index : Nat) : (Ans.refuse s code index).st.par = s.par := by
  simp [Ans.refuse]

@[simp] theorem Ans.ok_par (s : State) (pl : List Word) : (Ans.ok s pl).st.par = s.par := by
  simp [Ans.ok]

@[simp] theorem Ans.accepted_par (s : State) : (Ans.accepted s).st.par = s.par := by
  simp [Ans.accepted]

@[simp] theorem Ans.send_par (a : Ans) (o : OpSpec) (r : Req) : (a.send o r).1.par = a.st.par := by
  simp [Ans.send]

/-- What the body of an opcode keeps of the stored parameters, its execution keeps: checks and answers leave them alone. -/
theorem State.execute_keeps {p : Cells → Prop} {body : Body} {r : Req} {s : State} (o : OpSpec)
    (hb : p s.par.stored → p (body r s).st.par.stored) (h : p s.par.stored) : p (s.execute o body r).1.par.stored := by
  rw [State.execute, Ans.send_par]
  split
  · exact h
  · exact hb h

@[simp] theorem State.turnAway_par (s : State) (r : Req) (opc : BitVec 16) (code : Nat) :
    (s.turnAway r opc code).par = s.par := by
  simp [State.turnAway]

theorem State.meetTest_par (s t : State) (opc : BitVec 16) (r : Req) (h : s.meetTest opc r = some t) : t.par = s.par := by
  unfold State.meetTest at h
  split at h
  · cases h
  · split at h
    · cases h
      split
      · simp
      · split <;> simp
    · split at h <;> cases h
      rfl

/-- What the body of an opcode keeps of the stored parameters, serving a request keeps. -/
theorem State.serve_keeps {p : Cells → Prop} {body : Body} {r : Req} {s : State} (o : OpSpec)
    (hb : ∀ x : State, p x.par.stored → p (body r x).st.par.stored) (h : p s.par.stored) : p (s.serve o body r).par.stored := by
  unfold State.serve
  split
  · next t ht => rwa [s.meetTest_par t _ r ht]
  · split
    · exact h
    · split
      · rwa [State.turnAway_par]
      · split
        · apply State.execute_keeps o (hb _)
          split
          · rwa [State.touch_par]
          · exact h
        · simp only []
          split
          · rwa [State.deliverAll_par, State.touch_par]
          · rwa [State.turnAway_par, State.setSeq_par, State.touch_par]
          · rw [State.setSeq_par]
            exact State.execute_keeps o (hb _) (by rwa [State.touch_par])

@[simp] theorem State.serve_stored {body : Body} {r : Req} (h : ∀ x, (body r x).st.par.stored = x.par.stored) (s : State) (o : OpSpec) :
    (s.serve o body r).par.stored = s.par.stored :=
  State.serve_keeps (p := (· = s.par.stored)) o (fun x hx => (h x).trans hx) rfl

/-! ### Profiles -/

@[simp] theorem State.profDone_par (s : State) (l : AxisNo) : (s.profDone l).par = s.par := by
  simp only [State.profDone]
  split <;> simp

@[simp] theorem State.adoptPlan_par (s : State) (l : AxisNo) (t : Ns) (target : Int) : (s.adoptPlan l t target).par = s.par := by
  simp only [State.adoptPlan]
  split
  · simp
  · split <;> simp

@[simp] theorem State.stopAxis_par (s : State) (l : AxisNo) (t : Ns) (d : Q) (code : BitVec 4) :
    (s.stopAxis l t d code).1.par = s.par := by
  simp [State.stopAxis]

@[simp] theorem State.answerLate_par (s : State) (r : Req) (opc : BitVec 16) (code : Nat) :
    (s.answerLate r opc code).par = s.par := by
  unfold State.answerLate
  split
  · split <;> simp
  · simp

@[simp] theorem State.judgeClamp_par (s : State) (l : AxisNo) (side : Option Bool) : (s.judgeClamp l side).par = s.par := by
  unfold State.judgeClamp
  split <;> simp

@[simp] theorem State.takeTag_par (s : State) (l : AxisNo) (replan : Bool) : (s.takeTag l replan).par = s.par := by
  unfold State.takeTag
  split <;> simp

@[simp] theorem State.profEval_par (s : State) (l : AxisNo) (t : Ns) (wAct : Q) : (s.profEval l t wAct).par = s.par := by
  simp only [State.profEval]
  split <;> simp

@[simp] theorem State.profAbort_par (s : State) (l : AxisNo) (t : Ns) (reqs : List Req) : (s.profAbort l t reqs).par = s.par := by
  simp [State.profAbort]

@[simp] theorem State.profStep_par (s : State) (l : AxisNo) (t : Ns) (wAct : Q) : (s.profStep l t wAct).par = s.par := by
  simp [State.profStep]

/-! ### Compare registers -/

@[simp] theorem State.modCmp_par (s : State) (l : AxisNo) (n : Fin 4) (f : Cmp → Cmp) : (s.modCmp l n f).par = s.par := by
  simp [State.modCmp]

@[simp] theorem State.missedCheck_par (s : State) (l : AxisNo) (n : Fin 4) (dir p : Int) :
    (s.missedCheck l n dir p).par = s.par := by
  simp [State.missedCheck]

@[simp] theorem State.endFlag_par (s : State) (l : AxisNo) (up : Bool) : (s.endFlag l up).par = s.par := by
  simp [State.endFlag]

@[simp] theorem State.endStop_par (s : State) (l : AxisNo) (up : Bool) : (s.endStop l up).par = s.par := by
  simp [State.endStop]

@[simp] theorem State.fireCmp_par (s : State) (l : AxisNo) (n : Fin 4) (p0 p1 : Int) (t0 t1 : Ns) :
    (s.fireCmp l n p0 p1 t0 t1).par = s.par := by
  simp [State.fireCmp]

@[simp] theorem State.compareSample_par (s : State) (l : AxisNo) (p0 p1 : Int) (t0 t1 : Ns) (dir : Int) (set : Bool) :
    (s.compareSample l p0 p1 t0 t1 dir set).par = s.par := by
  unfold State.compareSample
  simp only [State.modAx_par]
  refine forFin_par (fun n x => ?_) s
  split
  · simp
  · simp

/-! ### Link watch and chopper -/

@[simp] theorem State.faultWith_par (s : State) (l : AxisNo) (cause : BitVec 4) (code : Nat) (args : List Word) :
    (s.faultWith l cause code args).par = s.par := by
  simp [State.faultWith]

@[simp] theorem State.chopCount_par (s : State) (k : PairNo) : (s.chopCount k).par = s.par := by
  simp [State.chopCount]

@[simp] theorem State.chopFault_par (s : State) (k : PairNo) : (s.chopFault k).par = s.par := by
  simp [State.chopFault]

@[simp] theorem State.linkSample_par (s : State) (k : PairNo) (v : Q) : (s.linkSample k v).par = s.par := by
  simp [State.linkSample]

@[simp] theorem State.stageStep_par (s : State) (k : PairNo) (i : Fin 3) : (s.stageStep k i).par = s.par := by
  simp [State.stageStep]

@[simp] theorem State.stages_par (s : State) (k : PairNo) : (s.stages k).par = s.par := by
  simp [State.stages]

@[simp] theorem execLinkStageChange_keepsStored (k : PairNo) (now : Ns) (s : State) :
    KeepsStored s (execLinkStageChange k now s) := by
  simp [execLinkStageChange]

@[simp] theorem execLinkVoltageKnown_keepsStored (k : PairNo) (now : Ns) (s : State) :
    KeepsStored s (execLinkVoltageKnown k now s) := by
  simp [execLinkVoltageKnown]

@[simp] theorem execChopperFault_keepsStored (k : PairNo) (feedback : Bool) (now : Ns) (s : State) :
    KeepsStored s (execChopperFault k feedback now s) := by
  simp [execChopperFault]

@[simp] theorem State.stuckInput_par (s : State) (l : AxisNo) (i : Fin 6) : (s.stuckInput l i).par = s.par := by
  simp [State.stuckInput]

@[simp] theorem State.pulseCurrent_par (s : State) (l : AxisNo) (t : Ns) : (s.pulseCurrent l t).par = s.par := by
  unfold State.pulseCurrent
  split <;> simp

@[simp] theorem State.dsmClock_par (s : State) (l : AxisNo) (t : Ns) (x : DsBits) : (s.dsmClock l t x).par = s.par := by
  simp [State.dsmClock]

@[simp] theorem State.feed_par (s : State) (l : AxisNo) (bits : List DsBits) (now : Ns) : (s.feed l bits now).par = s.par := by
  simp [State.feed]

@[simp] theorem execDsmStuck_keepsStored (l : AxisNo) (bits : List DsBits) (now : Ns) (s : State) :
    KeepsStored s (execDsmStuck l bits now s) := by
  simp [execDsmStuck]

@[simp] theorem execOvercurrent_keepsStored (l : AxisNo) (bits : List DsBits) (now : Ns) (s : State) :
    KeepsStored s (execOvercurrent l bits now s) := by
  simp [execOvercurrent]

@[simp] theorem execResolverMeasurement_keepsStored (l : AxisNo) (bits : List DsBits) (now : Ns) (s : State) :
    KeepsStored s (execResolverMeasurement l bits now s) := by
  simp only [execResolverMeasurement]
  split
  · simp
  · split <;> simp

@[simp] theorem State.sumFault_par (s : State) (l : AxisNo) : (s.sumFault l).par = s.par := by
  simp [State.sumFault]

@[simp] theorem execCurrentSum_keepsStored (l : AxisNo) (now : Ns) (s : State) : KeepsStored s (execCurrentSum l now s) := by
  simp [execCurrentSum]

/-! ### Parameter requests -/

@[simp] theorem State.logEntry_par (s : State) (src : Source) (tag : BitVec 16) (id kind : Nat) (old new : Word) :
    (s.logEntry src tag id kind old new).par = s.par := by
  simp [State.logEntry]

@[simp] theorem State.setEff_stored (s : State) (pid : Nat) (v : Word) : (s.setEff pid v).par.stored = s.par.stored := by
  simp [State.setEff]

@[simp] theorem bodyNop_par (r : Req) (s : State) : (bodyNop r s).st.par = s.par := by
  simp [bodyNop]

@[simp] theorem execOpNop_keepsStored (r : Req) (s : State) : KeepsStored s (execOpNop r s) := by
  simp [execOpNop]

@[simp] theorem bodyParRead_par (r : Req) (s : State) : (bodyParRead r s).st.par = s.par := by
  simp only [bodyParRead]
  split
  · simp
  · split
    · simp
    · split <;> simp

@[simp] theorem execOpParRead_keepsStored (r : Req) (s : State) : KeepsStored s (execOpParRead r s) := by
  simp [execOpParRead]

@[simp] theorem bodyParInfo_par (r : Req) (s : State) : (bodyParInfo r s).st.par = s.par := by
  simp only [bodyParInfo]
  split <;> simp

@[simp] theorem execOpParInfo_keepsStored (r : Req) (s : State) : KeepsStored s (execOpParInfo r s) := by
  simp [execOpParInfo]

@[simp] theorem bodyDigestRead_par (r : Req) (s : State) : (bodyDigestRead r s).st.par = s.par := by
  simp [bodyDigestRead]

@[simp] theorem execOpDigestRead_keepsStored (r : Req) (s : State) : KeepsStored s (execOpDigestRead r s) := by
  simp [execOpDigestRead]

@[simp] theorem bodyLogRead_par (r : Req) (s : State) : (bodyLogRead r s).st.par = s.par := by
  simp only [bodyLogRead]
  split <;> simp

@[simp] theorem execOpLogRead_keepsStored (r : Req) (s : State) : KeepsStored s (execOpLogRead r s) := by
  simp [execOpLogRead]

@[simp] theorem bodyDiagIdent_par (r : Req) (s : State) : (bodyDiagIdent r s).st.par = s.par := by
  simp [bodyDiagIdent]

@[simp] theorem execOpDiagIdent_keepsStored (r : Req) (s : State) : KeepsStored s (execOpDiagIdent r s) := by
  simp [execOpDiagIdent]

@[simp] theorem bodyDiagCounters_par (r : Req) (s : State) : (bodyDiagCounters r s).st.par = s.par := by
  simp only [bodyDiagCounters]
  split <;> simp

@[simp] theorem execOpDiagCounters_keepsStored (r : Req) (s : State) : KeepsStored s (execOpDiagCounters r s) := by
  simp [execOpDiagCounters]

@[simp] theorem bodyEventRead_par (r : Req) (s : State) : (bodyEventRead r s).st.par = s.par := by
  unfold bodyEventRead
  split <;> simp

@[simp] theorem execOpEventRead_keepsStored (r : Req) (s : State) : KeepsStored s (execOpEventRead r s) := by
  simp [execOpEventRead]

@[simp] theorem bodyNetSend_par (r : Req) (s : State) : (bodyNetSend r s).st.par = s.par := by
  simp [bodyNetSend]

@[simp] theorem execOpNetSend_keepsStored (r : Req) (s : State) : KeepsStored s (execOpNetSend r s) := by
  simp [execOpNetSend]

/-! ### Commutation -/

@[simp] theorem State.setMode_par (s : State) (l : AxisNo) (m : CMode) : (s.setMode l m).par = s.par := by
  simp [State.setMode]

@[simp] theorem State.enterLoops_par (s : State) (l : AxisNo) : (s.enterLoops l).par = s.par := by
  simp [State.enterLoops]

@[simp] theorem State.enterStepped_par (s : State) (l : AxisNo) (theta speed i : Q) :
    (s.enterStepped l theta speed i).par = s.par := by
  simp [State.enterStepped]

@[simp] theorem State.loseSensor_par (s : State) (l : AxisNo) (dt : Q) : (s.loseSensor l dt).par = s.par := by
  simp [State.loseSensor]

@[simp] theorem State.startRest_par (s : State) (l : AxisNo) : (s.startRest l).par = s.par := by
  simp [State.startRest]

@[simp] theorem State.startProbe_par (s : State) (l : AxisNo) : (s.startProbe l).par = s.par := by
  simp [State.startProbe]

@[simp] theorem State.startCommutation_par (s : State) (l : AxisNo) : (s.startCommutation l).par = s.par := by
  simp [State.startCommutation]

@[simp] theorem State.wantMode_par (s : State) (l : AxisNo) (m : ModeReq) : (s.wantMode l m).par = s.par := by
  simp [State.wantMode]

@[simp] theorem State.startFailed_par (s : State) (l : AxisNo) (cmode : Word) : (s.startFailed l cmode).par = s.par := by
  simp [State.startFailed]

@[simp] theorem State.setProv_par (s : State) (l : AxisNo) (theta : Q) : (s.setProv l theta).par = s.par := by
  simp [State.setProv]

@[simp] theorem State.startDone_par (s : State) (l : AxisNo) (theta olTheta speed : Q) :
    (s.startDone l theta olTheta speed).par = s.par := by
  simp [State.startDone]

@[simp] theorem State.pulsePoint_par (s : State) (l : AxisNo) (t : Ns) : (s.pulsePoint l t).par = s.par := by
  unfold State.pulsePoint
  split <;> simp

@[simp] theorem State.satDone_par (s : State) (l : AxisNo) : (s.satDone l).par = s.par := by
  simp [State.satDone]

@[simp] theorem execSaturationPulseDone_keepsStored (l : AxisNo) (now : Ns) (s : State) :
    KeepsStored s (execSaturationPulseDone l now s) := by
  simp [execSaturationPulseDone]

@[simp] theorem State.probeDone_par (s : State) (l : AxisNo) : (s.probeDone l).par = s.par := by
  simp only [State.probeDone]
  split <;> simp

@[simp] theorem execProbeDone_keepsStored (l : AxisNo) (now : Ns) (s : State) : KeepsStored s (execProbeDone l now s) := by
  simp [execProbeDone]

@[simp] theorem State.ifCheck_par (s : State) (l : AxisNo) : (s.ifCheck l).par = s.par := by
  simp [State.ifCheck]

@[simp] theorem execIfStartPhaseEnd_keepsStored (l : AxisNo) (now : Ns) (s : State) :
    KeepsStored s (execIfStartPhaseEnd l now s) := by
  simp only [execIfStartPhaseEnd]
  (repeat' split) <;> simp

@[simp] theorem execIfRetryWaitEnd_keepsStored (l : AxisNo) (now : Ns) (s : State) :
    KeepsStored s (execIfRetryWaitEnd l now s) := by
  simp only [execIfRetryWaitEnd]
  split <;> simp

@[simp] theorem execDAxisBrakingTimeout_keepsStored (l : AxisNo) (now : Ns) (s : State) :
    KeepsStored s (execDAxisBrakingTimeout l now s) := by
  simp only [execDAxisBrakingTimeout]
  split <;> simp

@[simp] theorem execDAxisBrakingWaitEnd_keepsStored (l : AxisNo) (now : Ns) (s : State) :
    KeepsStored s (execDAxisBrakingWaitEnd l now s) := by
  simp only [execDAxisBrakingWaitEnd]
  split <;> simp

@[simp] theorem State.alignFailed_par (s : State) (l : AxisNo) : (s.alignFailed l).par = s.par := by
  simp [State.alignFailed]

@[simp] theorem State.applyMode_par (s : State) (l : AxisNo) (inst : Ns) (dt : Q) : (s.applyMode l inst dt).par = s.par := by
  simp only [State.applyMode]
  split <;> simp

@[simp] theorem State.catchBraking_par (s : State) (l : AxisNo) : (s.catchBraking l).par = s.par := by
  simp [State.catchBraking]

@[simp] theorem State.modeChanges_par (s : State) (l : AxisNo) (inst : Ns) (dt : Q) : (s.modeChanges l inst dt).par = s.par := by
  simp [State.modeChanges]

@[simp] theorem State.advanceMode_par (s : State) (l : AxisNo) (dt : Q) : (s.advanceMode l dt).par = s.par := by
  simp only [State.advanceMode]
  split <;> simp

@[simp] theorem State.commutate_par (s : State) (l : AxisNo) (mov : Word) (inst : Ns) (dt : Q) :
    (s.commutate l mov inst dt).par = s.par := by
  simp only [State.commutate]
  split <;> simp

/-! ### The cascade -/

@[simp] theorem State.modCas_par (s : State) (l : AxisNo) (f : Cas → Cas) : (s.modCas l f).par = s.par := by
  simp [State.modCas]

@[simp] theorem State.swapWin_par (s : State) (l : AxisNo) : (s.swapWin l).par = s.par := by
  simp [State.swapWin]

@[simp] theorem State.changeLoop_par (s : State) (l : AxisNo) (n : Nat) : (s.changeLoop l n).par = s.par := by
  simp [State.changeLoop]

@[simp] theorem State.posLoop_par (s : State) (l : AxisNo) (inst : Ns) : (s.posLoop l inst).par = s.par := by
  simp [State.posLoop]

@[simp] theorem State.forceLoop_par (s : State) (l : AxisNo) (inst : Ns) : (s.forceLoop l inst).par = s.par := by
  simp [State.forceLoop]

@[simp] theorem State.posChecks_par (s : State) (l : AxisNo) : (s.posChecks l).par = s.par := by
  simp [State.posChecks]

@[simp] theorem State.followError_par (s : State) (l : AxisNo) : (s.followError l).par = s.par := by
  simp [State.followError]

@[simp] theorem execFollowingError_keepsStored (l : AxisNo) (now : Ns) (s : State) :
    KeepsStored s (execFollowingError l now s) := by
  simp [execFollowingError]

@[simp] theorem State.posTick_par (s : State) (l : AxisNo) (inst : Ns) : (s.posTick l inst).par = s.par := by
  simp [State.posTick]

@[simp] theorem State.ssStart_par (s : State) (l : AxisNo) (cause : Nat) : (s.ssStart l cause).par = s.par := by
  simp [State.ssStart]

@[simp] theorem State.ssTick_par (s : State) (l : AxisNo) : (s.ssTick l).par = s.par := by
  simp [State.ssTick]

@[simp] theorem State.ssRemove_par (s : State) (l : AxisNo) : (s.ssRemove l).par = s.par := by
  simp [State.ssRemove]

@[simp] theorem execAxisSafestopRemoval_keepsStored (l : AxisNo) (now : Ns) (s : State) :
    KeepsStored s (execAxisSafestopRemoval l now s) := by
  simp [execAxisSafestopRemoval]

@[simp] theorem State.windowCheck_par (s : State) (l : AxisNo) : (s.windowCheck l).par = s.par := by
  simp only [State.windowCheck]
  split
  · simp
  · split <;> simp

@[simp] theorem State.windowTick_par (s : State) (l : AxisNo) (inst : Ns) (w : Q) : (s.windowTick l inst w).par = s.par := by
  unfold State.windowTick
  split <;> simp

@[simp] theorem State.speedLoop_par (s : State) (l : AxisNo) (dt : Q) : (s.speedLoop l dt).par = s.par := by
  simp [State.speedLoop]

@[simp] theorem State.loopZero_par (s : State) (l : AxisNo) : (s.loopZero l).par = s.par := by
  simp [State.loopZero]

@[simp] theorem State.learnContact_par (s : State) (l : AxisNo) : (s.learnContact l).par = s.par := by
  unfold State.learnContact
  split <;> simp

@[simp] theorem State.cycleSums_par (s : State) (l : AxisNo) : (s.cycleSums l).par = s.par := by
  simp [State.cycleSums]

@[simp] theorem State.profMirror_par (s : State) (l : AxisNo) : (s.profMirror l).par = s.par := by
  simp [State.profMirror]

@[simp] theorem State.speedMeasure_par (s : State) (l : AxisNo) (inst : Ns) : (s.speedMeasure l inst).par = s.par := by
  simp [State.speedMeasure]

@[simp] theorem State.speedTick_par (s : State) (l : AxisNo) (inst : Ns) : (s.speedTick l inst).par = s.par := by
  simp [State.speedTick]

@[simp] theorem State.speedFailed_par (s : State) (l : AxisNo) : (s.speedFailed l).par = s.par := by
  simp [State.speedFailed]

@[simp] theorem execSpeedImplausible_keepsStored (l : AxisNo) (now : Ns) (s : State) :
    KeepsStored s (execSpeedImplausible l now s) := by
  simp [execSpeedImplausible]

@[simp] theorem execSpeedWindowEnd_keepsStored (l : AxisNo) (now : Ns) (s : State) :
    KeepsStored s (execSpeedWindowEnd l now s) := by
  simp [execSpeedWindowEnd]

@[simp] theorem State.rackCount_par (s : State) (l : AxisNo) : (s.rackCount l).par = s.par := by
  simp only [State.rackCount]
  split <;> simp

@[simp] theorem State.rackFailed_par (s : State) (l : AxisNo) : (s.rackFailed l).par = s.par := by
  simp [State.rackFailed]

@[simp] theorem execRackImplausible_keepsStored (l : AxisNo) (now : Ns) (s : State) :
    KeepsStored s (execRackImplausible l now s) := by
  simp [execRackImplausible]

/-! ### Operands -/

@[simp] theorem State.modEng_par (s : State) (e : EngineId) (f : Engine → Engine) : (s.modEng e f).par = s.par := by
  unfold State.modEng
  split <;> simp

/-! ### Schedules -/

@[simp] theorem State.modAct_par (s : State) (a : ActNo) (f : Act → Act) : (s.modAct a f).par = s.par := by
  simp [State.modAct]

@[simp] theorem State.beginRun_par (s : State) (a : ActNo) : (s.beginRun a).par = s.par := by
  simp [State.beginRun]

@[simp] theorem State.resumeRun_par (s : State) (c : Ctx) : (s.resumeRun c).par = s.par := by
  simp [State.resumeRun]

@[simp] theorem State.nextRun_par (s : State) : s.nextRun.par = s.par := by
  unfold State.nextRun
  split <;> simp

@[simp] theorem State.dispatch_par (s : State) : s.dispatch.par = s.par := by
  unfold State.dispatch
  split
  · simp
  · split <;> simp

@[simp] theorem State.deliverTo_par (s : State) (l : AxisNo) (x : Delivery) : (s.deliverTo l x).par = s.par := by
  simp [State.deliverTo]

/-! ### Loop instructions -/

@[simp] theorem State.trapped_par (s : State) (e : EngineId) (pc : BitVec 13) (cause : Nat) :
    (s.trapped e pc cause).par = s.par := by
  simp only [State.trapped]
  split
  · simp
  · split <;> simp

@[simp] theorem State.issue_par (s : State) (e : EngineId) (m : Micro) : (s.issue e m).par = s.par := by
  simp only [State.issue]
  split <;> simp

@[simp] theorem State.boundary_par (s : State) (e : EngineId) (rep : Bool) : (s.boundary e rep).par = s.par := by
  unfold State.boundary
  split <;> simp

@[simp] theorem State.command_keepsStored (s : State) (e : EngineId) (ok : Bool) (m : Micro) :
    KeepsStored s (s.command e ok m) := by
  simp [State.command]

@[simp] theorem State.dlvr_par (s : State) (l : AxisNo) (p : BitVec 3) (slot : BitVec 4) : (s.dlvr l p slot).par = s.par := by
  simp [State.dlvr]

@[simp] theorem State.deliverRun_par (s : State) (l : AxisNo) (p : BitVec 3) (slot : BitVec 4) :
    (s.deliverRun l p slot).par = s.par := by
  simp [State.deliverRun]

@[simp] theorem execNop_keepsStored (e : EngineId) (s : State) : KeepsStored s (execNop e s) := by
  simp [execNop]

@[simp] theorem execHalt_keepsStored (e : EngineId) (s : State) : KeepsStored s (execHalt e s) := by
  simp [execHalt]

@[simp] theorem execJmp_keepsStored (e : EngineId) (target : BitVec 13) (s : State) : KeepsStored s (execJmp e target s) := by
  simp [execJmp]

@[simp] theorem execJcc_keepsStored (e : EngineId) (cond : BitVec 4) (target : BitVec 13) (s : State) :
    KeepsStored s (execJcc e cond target s) := by
  simp [execJcc]

@[simp] theorem execCall_keepsStored (e : EngineId) (target : BitVec 13) (s : State) : KeepsStored s (execCall e target s) := by
  simp [execCall]

@[simp] theorem execRet_keepsStored (e : EngineId) (s : State) : KeepsStored s (execRet e s) := by
  simp [execRet]

@[simp] theorem execRepeat_keepsStored (e : EngineId) (count : BitVec 12) (s : State) : KeepsStored s (execRepeat e count s) := by
  simp [execRepeat]

@[simp] theorem execDecj_keepsStored (e : EngineId) (target : BitVec 13) (s : State) : KeepsStored s (execDecj e target s) := by
  simp [execDecj]

@[simp] theorem execDlvr_keepsStored (e : EngineId) (axis : AxisNo) (ptr : BitVec 3) (slot : BitVec 4) (s : State) :
    KeepsStored s (execDlvr e axis ptr slot s) := by
  unfold execDlvr
  split <;> simp

@[simp] theorem execPrd_keepsStored (e : EngineId) (f : MacOps) (s : State) : KeepsStored s (execPrd e f s) := by
  simp [execPrd]

@[simp] theorem execPra_keepsStored (e : EngineId) (f : MacOps) (s : State) : KeepsStored s (execPra e f s) := by
  simp [execPra]

@[simp] theorem execPrs_keepsStored (e : EngineId) (f : MacOps) (s : State) : KeepsStored s (execPrs e f s) := by
  simp [execPrs]

@[simp] theorem execPrn_keepsStored (e : EngineId) (f : MacOps) (s : State) : KeepsStored s (execPrn e f s) := by
  simp [execPrn]

@[simp] theorem execPmv_keepsStored (e : EngineId) (f : MacOps) (s : State) : KeepsStored s (execPmv e f s) := by
  simp [execPmv]

@[simp] theorem execAdd_keepsStored (e : EngineId) (d src : Bool) (s : State) : KeepsStored s (execAdd e d src s) := by
  simp [execAdd]

@[simp] theorem execSub_keepsStored (e : EngineId) (d src : Bool) (s : State) : KeepsStored s (execSub e d src s) := by
  simp [execSub]

@[simp] theorem execNeg_keepsStored (e : EngineId) (d src : Bool) (s : State) : KeepsStored s (execNeg e d src s) := by
  simp [execNeg]

@[simp] theorem execAbsA_keepsStored (e : EngineId) (d src : Bool) (s : State) : KeepsStored s (execAbsA e d src s) := by
  simp [execAbsA]

@[simp] theorem execClr_keepsStored (e : EngineId) (d src : Bool) (s : State) : KeepsStored s (execClr e d src s) := by
  simp [execClr]

@[simp] theorem execAsl_keepsStored (e : EngineId) (d src : Bool) (sh : BitVec 6) (s : State) :
    KeepsStored s (execAsl e d src sh s) := by
  simp [execAsl]

@[simp] theorem execAsr_keepsStored (e : EngineId) (d src : Bool) (sh : BitVec 6) (s : State) :
    KeepsStored s (execAsr e d src sh s) := by
  simp [execAsr]

@[simp] theorem execSat_keepsStored (e : EngineId) (d src : Bool) (s : State) : KeepsStored s (execSat e d src s) := by
  simp [execSat]

@[simp] theorem execMaxA_keepsStored (e : EngineId) (d src : Bool) (s : State) : KeepsStored s (execMaxA e d src s) := by
  simp [execMaxA]

@[simp] theorem execMinA_keepsStored (e : EngineId) (d src : Bool) (s : State) : KeepsStored s (execMinA e d src s) := by
  simp [execMinA]

@[simp] theorem execAddb_keepsStored (e : EngineId) (d src : Bool) (s : State) : KeepsStored s (execAddb e d src s) := by
  simp [execAddb]

@[simp] theorem execTst_keepsStored (e : EngineId) (d src : Bool) (s : State) : KeepsStored s (execTst e d src s) := by
  simp [execTst]

@[simp] theorem execRndh_keepsStored (e : EngineId) (d src : Bool) (s : State) : KeepsStored s (execRndh e d src s) := by
  simp [execRndh]

@[simp] theorem execOperandLoad_keepsStored (e : EngineId) (reg : BitVec 4) (ptr : BitVec 3) (ps abs : Bool) (addr : BitVec 14) (s : State) :
    KeepsStored s (execOperandLoad e reg ptr ps abs addr s) := by
  simp [execOperandLoad]

@[simp] theorem execOperandStore_keepsStored (e : EngineId) (reg : BitVec 4) (ptr : BitVec 3) (ps abs : Bool) (addr : BitVec 14) (s : State) :
    KeepsStored s (execOperandStore e reg ptr ps abs addr s) := by
  simp [execOperandStore]

@[simp] theorem execImmediateLoad_keepsStored (e : EngineId) (reg : BitVec 4) (imm : BitVec 24) (s : State) :
    KeepsStored s (execImmediateLoad e reg imm s) := by
  simp [execImmediateLoad]

@[simp] theorem execPointerLoad_keepsStored (e : EngineId) (n : BitVec 3) (imm : BitVec 14) (s : State) :
    KeepsStored s (execPointerLoad e n imm s) := by
  simp [execPointerLoad]

@[simp] theorem execPointerAdd_keepsStored (e : EngineId) (n : BitVec 3) (imm : BitVec 14) (s : State) :
    KeepsStored s (execPointerAdd e n imm s) := by
  simp [execPointerAdd]

@[simp] theorem execStepLoad_keepsStored (e : EngineId) (n : BitVec 3) (imm : BitVec 14) (s : State) :
    KeepsStored s (execStepLoad e n imm s) := by
  simp [execStepLoad]

@[simp] theorem execWrapLoad_keepsStored (e : EngineId) (n : BitVec 3) (imm : BitVec 14) (s : State) :
    KeepsStored s (execWrapLoad e n imm s) := by
  simp [execWrapLoad]

@[simp] theorem execRegisterMove_keepsStored (e : EngineId) (dst src : BitVec 4) (s : State) :
    KeepsStored s (execRegisterMove e dst src s) := by
  simp [execRegisterMove]

@[simp] theorem State.runProg_par (s : State) (e : EngineId) (n : Nat) : (s.runProg e n).par = s.par := by
  induction n generalizing s with
  | zero => rfl
  | succ n ih =>
    unfold State.runProg
    split
    · rfl
    · split <;> simp [ih]

/-! ### The sample -/

@[simp] theorem State.modCur_par (s : State) (l : AxisNo) (f : Cur → Cur) : (s.modCur l f).par = s.par := by
  simp [State.modCur]

@[simp] theorem State.modDel_par (s : State) (l : AxisNo) (f : Deliv → Deliv) : (s.modDel l f).par = s.par := by
  simp [State.modDel]

@[simp] theorem State.schedule_par (s : State) (l : AxisNo) (pt : Nat) (nom : Ns) (x : SampleIn) :
    (s.schedule l pt nom x).par = s.par := by
  simp [State.schedule]

@[simp] theorem State.staleReact_par (s : State) (l : AxisNo) : (s.staleReact l).par = s.par := by
  simp [State.staleReact]

@[simp] theorem execFeedbackStale_keepsStored (l : AxisNo) (now : Ns) (s : State) :
    KeepsStored s (execFeedbackStale l now s) := by
  simp [execFeedbackStale]

@[simp] theorem State.takeResults_par (s : State) (l : AxisNo) (tick : Bool) : (s.takeResults l tick).par = s.par := by
  simp [State.takeResults]

@[simp] theorem State.posUpdate_par (s : State) (l : AxisNo) (mov : Word) (dRev : Q) :
    (s.posUpdate l mov dRev).1.par = s.par := by
  simp [State.posUpdate]

@[simp] theorem State.noteCmp_par (s : State) (l : AxisNo) (was : List (Int × Word)) : (s.noteCmp l was).par = s.par := by
  simp [State.noteCmp]

@[simp] theorem State.compareStep_par (s : State) (l : AxisNo) (t0 t1 : Ns) (dir : Int) (set : Bool) :
    (s.compareStep l t0 t1 dir set).par = s.par := by
  simp [State.compareStep]

@[simp] theorem State.measure_par (s : State) (l : AxisNo) : (s.measure l).par = s.par := by
  simp [State.measure]

@[simp] theorem State.takeover_par (s : State) (l : AxisNo) (sp : Bool) : (s.takeover l sp).par = s.par := by
  simp only [State.takeover]
  split
  · simp
  · split <;> simp

@[simp] theorem State.enterCurrent_par (s : State) (l : AxisNo) : (s.enterCurrent l).par = s.par := by
  simp [State.enterCurrent]

@[simp] theorem State.currentLoop_par (s : State) (l : AxisNo) (r : Refs) : (s.currentLoop l r).par = s.par := by
  simp [State.currentLoop]

@[simp] theorem State.modelCheck_par (s : State) (l : AxisNo) : (s.modelCheck l).par = s.par := by
  simp [State.modelCheck]

@[simp] theorem State.modelResid_par (s : State) (l : AxisNo) : (s.modelResid l).par = s.par := by
  simp [State.modelResid]

@[simp] theorem execModelResidual_keepsStored (l : AxisNo) (now : Ns) (s : State) :
    KeepsStored s (execModelResidual l now s) := by
  simp [execModelResidual]

@[simp] theorem State.modelFailed_par (s : State) (l : AxisNo) : (s.modelFailed l).par = s.par := by
  simp [State.modelFailed]

@[simp] theorem execModelImplausible_keepsStored (l : AxisNo) (now : Ns) (s : State) :
    KeepsStored s (execModelImplausible l now s) := by
  simp [execModelImplausible]

@[simp] theorem State.attached_par (s : State) (l : AxisNo) (sp ps : Bool) : (s.attached l sp ps).par = s.par := by
  simp [State.attached]

@[simp] theorem State.tickEnd_par (s : State) (l : AxisNo) : (s.tickEnd l).par = s.par := by
  simp [State.tickEnd]

@[simp] theorem State.calSample_par (s : State) (l : AxisNo) : (s.calSample l).par = s.par := by
  simp [State.calSample]

@[simp] theorem State.calEnd_par (s : State) (l : AxisNo) : (s.calEnd l).par = s.par := by
  simp only [State.calEnd]
  (repeat' split) <;> simp

@[simp] theorem execCurrentOffsetCalibration_keepsStored (l : AxisNo) (now : Ns) (s : State) :
    KeepsStored s (execCurrentOffsetCalibration l now s) := by
  simp [execCurrentOffsetCalibration]

@[simp] theorem State.dueAxis_par (s : State) (l : AxisNo) : (s.dueAxis l).par = s.par := by
  simp [State.dueAxis]

@[simp] theorem State.sumMeans_par (s : State) (l : AxisNo) : (s.sumMeans l).par = s.par := by
  simp [State.sumMeans]

@[simp] theorem State.loops_par (s : State) (l : AxisNo) (sp ps : Bool) : (s.loops l sp ps).par = s.par := by
  simp only [State.loops]
  split <;> simp

@[simp] theorem State.sampleRun_stored (s : State) (l : AxisNo) (pt : Nat) (nom : Ns) (x : SampleIn) :
    (s.sampleRun l pt nom x).par.stored = s.par.stored := by
  simp only [State.sampleRun, State.ite_par, State.ssiDue_par, State.tickEnd_par, State.attached_par, State.sumMeans_par,
    State.modelCheck_par, State.loops_par, State.linkSample_par, State.calSample_par, State.measure_par, State.compareStep_par,
    State.posUpdate_par, State.commutate_par, State.takeResults_par, State.feed_par, State.schedule_par, State.dueAxis_par,
    State.takeNow_stored, ite_self]

@[simp] theorem execCurrentLoopSample_keepsStored (l : AxisNo) (x : SampleIn) (s : State) :
    KeepsStored s (execCurrentLoopSample l x s) := by
  unfold execCurrentLoopSample
  split
  · simp
  · split <;> simp

@[simp] theorem State.carrier_par (s : State) (l : AxisNo) (t : Ns) (err : Int) : (s.carrier l t err).par = s.par := by
  simp [State.carrier]

@[simp] theorem State.gatePoint_par (s : State) (l : AxisNo) : (s.gatePoint l).par = s.par := by
  simp only [State.gatePoint]
  split <;> simp

@[simp] theorem State.loadPoint_par (s : State) (l : AxisNo) (t : Ns) : (s.loadPoint l t).par = s.par := by
  simp [State.loadPoint]

@[simp] theorem State.extreme_par (s : State) (l : AxisNo) (peak : Bool) (t : Q) : (s.extreme l peak t).par = s.par := by
  simp [State.extreme]

@[simp] theorem execPwmLoadPoint_keepsStored (l : AxisNo) (peak : Bool) (now : Ns) (s : State) :
    KeepsStored s (execPwmLoadPoint l peak now s) := by
  simp [execPwmLoadPoint]

/-! ### References -/

@[simp] theorem State.writeStops_par (s : State) (l : AxisNo) (a b : Int) : (s.writeStops l a b).par = s.par := by
  simp [State.writeStops]

@[simp] theorem State.gainRef_par (s : State) (l : AxisNo) : (s.gainRef l).par = s.par := by
  simp only [State.gainRef]
  split <;> simp

@[simp] theorem State.setPos_par (s : State) (l : AxisNo) (p : Int) : (s.setPos l p).par = s.par := by
  simp [State.setPos]

@[simp] theorem State.startSearch_par (s : State) (l : AxisNo) (n : Fin 3) : (s.startSearch l n).par = s.par := by
  simp [State.startSearch]

@[simp] theorem State.firstEnable_par (s : State) (l : AxisNo) : (s.firstEnable l).par = s.par := by
  simp only [State.firstEnable]
  (repeat' split) <;> simp

@[simp] theorem State.searchFailed_par (s : State) (n : Fin 3) : (s.searchFailed n).par = s.par := by
  simp [State.searchFailed]

@[simp] theorem State.searchEnd_par (s : State) (n : Fin 3) : (s.searchEnd n).par = s.par := by
  unfold State.searchEnd
  split <;> simp

@[simp] theorem execCentreSearch_keepsStored (n : Fin 3) (now : Ns) (s : State) : KeepsStored s (execCentreSearch n now s) := by
  simp [execCentreSearch]

@[simp] theorem State.centreLatch_par (s : State) (l : AxisNo) (n : Fin 3) : (s.centreLatch l n).par = s.par := by
  simp [State.centreLatch]

@[simp] theorem State.searchLatch_par (s : State) (l : AxisNo) (n : Fin 3) : (s.searchLatch l n).par = s.par := by
  simp [State.searchLatch]

@[simp] theorem execReferenceSwitchEdge_keepsStored (l : AxisNo) (rising : Bool) (now : Ns) (s : State) :
    KeepsStored s (execReferenceSwitchEdge l rising now s) := by
  simp only [execReferenceSwitchEdge]
  split <;> simp

/-! ### Axis requests -/

@[simp] theorem axisBody_par (f : Req → AxisNo → State → Ans) (r : Req) (s : State) (h : ∀ l, (f r l s).st.par = s.par) :
    (axisBody f r s).st.par = s.par := by
  unfold axisBody
  split
  · exact h _
  · rfl

@[simp] theorem holdBody_par (f : Req → AxisNo → State → Ans) (r : Req) (s : State) (h : ∀ l, (f r l s).st.par = s.par) :
    (holdBody f r s).st.par = s.par := by
  refine axisBody_par _ r s fun l => ?_
  split
  · exact h l
  · rfl

@[simp] theorem State.startAxis_par (s : State) (l : AxisNo) : (s.startAxis l).par = s.par := by
  simp [State.startAxis]

@[simp] theorem State.enableAxis_par (s : State) (l : AxisNo) : (s.enableAxis l).par = s.par := by
  simp [State.enableAxis]

@[simp] theorem bodyAxEnable_par (r : Req) (s : State) : (bodyAxEnable r s).st.par = s.par :=
  holdBody_par _ r s fun l => by simp

@[simp] theorem execOpAxEnable_keepsStored (r : Req) (s : State) : KeepsStored s (execOpAxEnable r s) := by
  simp [execOpAxEnable]

@[simp] theorem bodyAxDisable_par (r : Req) (s : State) : (bodyAxDisable r s).st.par = s.par :=
  axisBody_par _ r s fun l => by simp

@[simp] theorem execOpAxDisable_keepsStored (r : Req) (s : State) : KeepsStored s (execOpAxDisable r s) := by
  simp [execOpAxDisable]

@[simp] theorem bodyAxMove_par (r : Req) (s : State) : (bodyAxMove r s).st.par = s.par :=
  holdBody_par _ r s fun l => by simp

@[simp] theorem execOpAxMove_keepsStored (r : Req) (s : State) : KeepsStored s (execOpAxMove r s) := by
  simp [execOpAxMove]

@[simp] theorem bodyAxAbort_par (r : Req) (s : State) : (bodyAxAbort r s).st.par = s.par :=
  holdBody_par _ r s fun l => by simp

@[simp] theorem execOpAxAbort_keepsStored (r : Req) (s : State) : KeepsStored s (execOpAxAbort r s) := by
  simp [execOpAxAbort]

@[simp] theorem bodyAxRelease_par (r : Req) (s : State) : (bodyAxRelease r s).st.par = s.par :=
  holdBody_par _ r s fun l => by simp

@[simp] theorem execOpAxRelease_keepsStored (r : Req) (s : State) : KeepsStored s (execOpAxRelease r s) := by
  simp [execOpAxRelease]

@[simp] theorem bodyAxSetpos_par (r : Req) (s : State) : (bodyAxSetpos r s).st.par = s.par := holdBody_par _ r s fun l => by
  split <;> simp

@[simp] theorem execOpAxSetpos_keepsStored (r : Req) (s : State) : KeepsStored s (execOpAxSetpos r s) := by
  simp [execOpAxSetpos]

@[simp] theorem bodyAxArmIndex_par (r : Req) (s : State) : (bodyAxArmIndex r s).st.par = s.par :=
  holdBody_par _ r s fun l => by simp

@[simp] theorem bodyAxArmLatch_par (r : Req) (s : State) : (bodyAxArmLatch r s).st.par = s.par :=
  holdBody_par _ r s fun l => by simp

@[simp] theorem bodyAxArm_par (r : Req) (s : State) : (bodyAxArm r s).st.par = s.par := by
  simp [bodyAxArm]

@[simp] theorem execOpAxArmIndex_keepsStored (r : Req) (s : State) : KeepsStored s (execOpAxArmIndex r s) := by
  simp [execOpAxArmIndex]

@[simp] theorem execOpAxArmLatch_keepsStored (r : Req) (s : State) : KeepsStored s (execOpAxArmLatch r s) := by
  simp [execOpAxArmLatch]

@[simp] theorem bodyAxPreset_par (r : Req) (s : State) : (bodyAxPreset r s).st.par = s.par :=
  holdBody_par _ r s fun l => by simp

@[simp] theorem execOpAxPreset_keepsStored (r : Req) (s : State) : KeepsStored s (execOpAxPreset r s) := by
  simp [execOpAxPreset]

@[simp] theorem bodyAxAlign_par (r : Req) (s : State) : (bodyAxAlign r s).st.par = s.par :=
  holdBody_par _ r s fun l => by simp

@[simp] theorem execOpAxAlign_keepsStored (r : Req) (s : State) : KeepsStored s (execOpAxAlign r s) := by
  simp [execOpAxAlign]

@[simp] theorem bodyAxCmpWrite_par (r : Req) (s : State) : (bodyAxCmpWrite r s).st.par = s.par :=
  holdBody_par _ r s fun l => by simp

@[simp] theorem bodyAxCmpRead_par (r : Req) (s : State) : (bodyAxCmpRead r s).st.par = s.par :=
  axisBody_par _ r s fun l => by simp

@[simp] theorem bodyAxCmp_par (r : Req) (s : State) : (bodyAxCmp r s).st.par = s.par := by
  simp [bodyAxCmp]

@[simp] theorem execOpAxCmpWrite_keepsStored (r : Req) (s : State) : KeepsStored s (execOpAxCmpWrite r s) := by
  simp [execOpAxCmpWrite]

@[simp] theorem execOpAxCmpRead_keepsStored (r : Req) (s : State) : KeepsStored s (execOpAxCmpRead r s) := by
  simp [execOpAxCmpRead]

@[simp] theorem bodyAxSetpoint_par (r : Req) (s : State) : (bodyAxSetpoint r s).st.par = s.par :=
  holdBody_par _ r s fun l => by simp

@[simp] theorem execOpAxSetpoint_keepsStored (r : Req) (s : State) : KeepsStored s (execOpAxSetpoint r s) := by
  simp [execOpAxSetpoint]

@[simp] theorem bodyAxStatus_par (r : Req) (s : State) : (bodyAxStatus r s).st.par = s.par :=
  axisBody_par _ r s fun l => by simp

@[simp] theorem execOpAxStatus_keepsStored (r : Req) (s : State) : KeepsStored s (execOpAxStatus r s) := by
  simp [execOpAxStatus]

@[simp] theorem bodySsAxis_par (r : Req) (s : State) : (bodySsAxis r s).st.par = s.par :=
  axisBody_par _ r s fun l => by simp

@[simp] theorem execOpSsAxis_keepsStored (r : Req) (s : State) : KeepsStored s (execOpSsAxis r s) := by
  simp [execOpSsAxis]

@[simp] theorem bodyChopfClear_par (r : Req) (s : State) : (bodyChopfClear r s).st.par = s.par := by
  simp [bodyChopfClear]

@[simp] theorem execOpChopfClear_keepsStored (r : Req) (s : State) : KeepsStored s (execOpChopfClear r s) := by
  simp [execOpChopfClear]

/-! ### The Novmi envelope -/

@[simp] theorem State.countNv_par (s : State) (base : Nat) (r : NvRes) : (s.countNv base r).par = s.par := by
  unfold State.countNv
  split <;> simp

@[simp] theorem State.modConn_par (s : State) (c : Fin 16) (f : Conn → Conn) : (s.modConn c f).par = s.par := by
  simp [State.modConn]

@[simp] theorem State.nvAccepted_par (s : State) (c : Fin 16) : (s.nvAccepted c).par = s.par := by
  simp only [State.nvAccepted]
  split <;> simp

@[simp] theorem State.nvReceive_par (s : State) (c : Fin 16) (bs : List Byte) : (s.nvReceive c bs).par = s.par := by
  simp [State.nvReceive]

@[simp] theorem State.nvNetwork_par (s : State) (net : Nat) (bs : List Byte) (padded : Bool) :
    (s.nvNetwork net bs padded).par = s.par := by
  unfold State.nvNetwork
  split <;> simp

@[simp] theorem State.pubReceive_par (s : State) (i : LaneNo) (blk : Fin 3) (bs : List Byte) :
    (s.pubReceive i blk bs).par = s.par := by
  simp [State.pubReceive]

@[simp] theorem State.nvDeadline_par (s : State) (c : Fin 16) : (s.nvDeadline c).par = s.par := by
  simp only [State.nvDeadline]
  split <;> simp

@[simp] theorem execNovmiDeadline_keepsStored (c : Fin 16) (now : Ns) (s : State) :
    KeepsStored s (execNovmiDeadline c now s) := by
  simp [execNovmiDeadline]

@[simp] theorem State.nvCycle_par (s : State) : s.nvCycle.par = s.par := by
  simp [State.nvCycle]

/-! ### Safety inputs -/

@[simp] theorem State.modSi_par (s : State) (n : Fin 6) (f : SiPair → SiPair) : (s.modSi n f).par = s.par := by
  simp [State.modSi]

@[simp] theorem State.siAct_par (s : State) (n : Fin 6) : (s.siAct n).par = s.par := by
  simp [State.siAct]

@[simp] theorem State.siJudge_par (s : State) (n : Fin 6) : (s.siJudge n).par = s.par := by
  simp [State.siJudge]

@[simp] theorem execSafetyInputChange_keepsStored (n : Fin 6) (now : Ns) (s : State) :
    KeepsStored s (execSafetyInputChange n now s) := by
  simp [execSafetyInputChange]

@[simp] theorem State.siLatch_par (s : State) (n : Fin 6) : (s.siLatch n).par = s.par := by
  simp [State.siLatch]

@[simp] theorem execSiDiscrepancy_keepsStored (n : Fin 6) (now : Ns) (s : State) : KeepsStored s (execSiDiscrepancy n now s) := by
  simp [execSiDiscrepancy]

@[simp] theorem State.siClears_par (s : State) (n : Fin 6) : (s.siClears n).par = s.par := by
  simp [State.siClears]

@[simp] theorem State.siTick_par (s : State) (n : Fin 6) (c1 c2 : Bool) : (s.siTick n c1 c2).par = s.par := by
  simp [State.siTick]

@[simp] theorem bodySiClear_par (r : Req) (s : State) : (bodySiClear r s).st.par = s.par := by
  simp [bodySiClear]

@[simp] theorem execOpSiClear_keepsStored (r : Req) (s : State) : KeepsStored s (execOpSiClear r s) := by
  simp [execOpSiClear]

@[simp] theorem State.askStop_par (s : State) (cause : Nat) : (s.askStop cause).par = s.par := by
  simp [State.askStop]

@[simp] theorem State.siTake_par (s : State) : s.siTake.par = s.par := by
  simp [State.siTake]

@[simp] theorem State.siStart_par (s : State) : s.siStart.par = s.par := by
  simp [State.siStart]

@[simp] theorem State.stopCauses_par (s : State) : s.stopCauses.par = s.par := by
  simp only [State.stopCauses]
  split
  · simp
  · split <;> simp

@[simp] theorem State.safeStill_par (s : State) : s.safeStill.par = s.par := by
  unfold State.safeStill
  split <;> simp

@[simp] theorem execSafestopStill_keepsStored (now : Ns) (s : State) : KeepsStored s (execSafestopStill now s) := by
  simp [execSafestopStill]

@[simp] theorem State.steerOff_par (s : State) : s.steerOff.par = s.par := by
  simp [State.steerOff]

@[simp] theorem State.decelMonitor_par (s : State) : s.decelMonitor.par = s.par := by
  simp [State.decelMonitor]

@[simp] theorem State.safePhases_par (s : State) : s.safePhases.par = s.par := by
  simp only [State.safePhases]
  split <;> simp

@[simp] theorem State.releaseStop_par (s : State) : s.releaseStop.par = s.par := by
  simp [State.releaseStop]

@[simp] theorem bodySsVehicle_par (r : Req) (s : State) : (bodySsVehicle r s).st.par = s.par := by
  simp [bodySsVehicle]

@[simp] theorem execOpSsVehicle_keepsStored (r : Req) (s : State) : KeepsStored s (execOpSsVehicle r s) := by
  simp [execOpSsVehicle]

@[simp] theorem bodySsRelease_par (r : Req) (s : State) : (bodySsRelease r s).st.par = s.par := by
  simp [bodySsRelease]

@[simp] theorem execOpSsRelease_keepsStored (r : Req) (s : State) : KeepsStored s (execOpSsRelease r s) := by
  simp [execOpSsRelease]

/-! ### The vote -/

@[simp] theorem State.voteOutlier_par (s : State) (i : LaneNo) : (s.voteOutlier i).par = s.par := by
  simp [State.voteOutlier]

@[simp] theorem execVoteOutlier_keepsStored (i : LaneNo) (now : Ns) (s : State) : KeepsStored s (execVoteOutlier i now s) := by
  simp [execVoteOutlier]

@[simp] theorem State.judgeOutlier_par (s : State) (mid : SetPts) (p : LaneNo × SetPts) : (s.judgeOutlier mid p).par = s.par := by
  unfold State.judgeOutlier
  split <;> simp

@[simp] theorem State.heldLimit_par (s : State) : s.heldLimit.par = s.par := by
  simp [State.heldLimit]

@[simp] theorem execVoteHeldLimit_keepsStored (now : Ns) (s : State) : KeepsStored s (execVoteHeldLimit now s) := by
  simp [execVoteHeldLimit]

@[simp] theorem State.noneLimit_par (s : State) : s.noneLimit.par = s.par := by
  simp [State.noneLimit]

@[simp] theorem execVoteNoneLimit_keepsStored (now : Ns) (s : State) : KeepsStored s (execVoteNoneLimit now s) := by
  simp only [execVoteNoneLimit]
  split <;> simp

@[simp] theorem State.voteEvents_par (s : State) (n : Nat) (single : Option LaneNo) : (s.voteEvents n single).par = s.par := by
  simp [State.voteEvents]

@[simp] theorem State.castVote_par (s : State) : s.castVote.par = s.par := by
  simp [State.castVote]

/-! ### Steering -/

@[simp] theorem State.handLost_par (s : State) : s.handLost.par = s.par := by
  simp [State.handLost]

@[simp] theorem execHwAngleLost_keepsStored (now : Ns) (s : State) : KeepsStored s (execHwAngleLost now s) := by
  simp [execHwAngleLost]

@[simp] theorem State.handCycle_par (s : State) : s.handCycle.par = s.par := by
  simp [State.handCycle]

@[simp] theorem State.articCycle_par (s : State) : s.articCycle.par = s.par := by
  simp [State.articCycle]

@[simp] theorem State.axleLost_par (s : State) (n : Fin 3) : (s.axleLost n).par = s.par := by
  simp [State.axleLost]

@[simp] theorem State.axleWindings_par (s : State) (n : Fin 3) : (s.axleWindings n).par = s.par := by
  simp [State.axleWindings]

@[simp] theorem State.handWindings_par (s : State) : s.handWindings.par = s.par := by
  simp [State.handWindings]

@[simp] theorem State.wheelWindings_par (s : State) (w : Fin 8) : (s.wheelWindings w).par = s.par := by
  simp [State.wheelWindings]

@[simp] theorem State.motorFlags_par (s : State) : s.motorFlags.par = s.par := by
  simp [State.motorFlags]

@[simp] theorem State.modWind_par (s : State) (g : Fin 3) (l : AxisNo) (f : Winding → Winding) :
    (s.modWind g l f).par = s.par := by
  simp [State.modWind]

@[simp] theorem State.windingLost_par (s : State) (g : Fin 3) (l : AxisNo) : (s.windingLost g l).par = s.par := by
  simp [State.windingLost]

@[simp] theorem execWindingLost_keepsStored (g : Fin 3) (l : AxisNo) (now : Ns) (s : State) :
    KeepsStored s (execWindingLost g l now s) := by
  simp [execWindingLost]

@[simp] theorem State.windCycle_par (s : State) : s.windCycle.par = s.par := by
  simp [State.windCycle]

@[simp] theorem State.ferrCycle_par (s : State) (n : Fin 3) : (s.ferrCycle n).par = s.par := by
  simp [State.ferrCycle]

@[simp] theorem State.steerSetPts_par (s : State) (gOld : Vector Q 2) : (s.steerSetPts gOld).1.par = s.par := by
  simp [State.steerSetPts]

@[simp] theorem State.setTarget_par (s : State) (l : AxisNo) (t : Int) : (s.setTarget l t).par = s.par := by
  simp [State.setTarget]

@[simp] theorem State.setValue_par (s : State) (l : AxisNo) (x : Q) : (s.setValue l x).par = s.par := by
  simp [State.setValue]

@[simp] theorem State.searchMove_par (s : State) (n : Fin 3) : (s.searchMove n).par = s.par := by
  unfold State.searchMove
  split <;> simp

@[simp] theorem State.applyAngle_par (s : State) (l : AxisNo) (n : Fin 3) : (s.applyAngle l n).par = s.par := by
  unfold State.applyAngle
  split
  · simp
  · split <;> simp

@[simp] theorem State.applyFeel_par (s : State) (l : AxisNo) : (s.applyFeel l).par = s.par := by
  simp [State.applyFeel]

@[simp] theorem State.applySteer_par (s : State) : s.applySteer.par = s.par := by
  refine (forFin_par (fun l x => ?_) _).trans ?_
  · split <;> simp
  · simp

@[simp] theorem bodyVfSteer_par (r : Req) (s : State) : (bodyVfSteer r s).st.par = s.par := by
  simp [bodyVfSteer]

@[simp] theorem execOpVfSteer_keepsStored (r : Req) (s : State) : KeepsStored s (execOpVfSteer r s) := by
  simp [execOpVfSteer]

/-! ### Braking -/

@[simp] theorem State.pedalLost_par (s : State) : s.pedalLost.par = s.par := by
  simp [State.pedalLost]

@[simp] theorem State.pedalCycle_par (s : State) : s.pedalCycle.par = s.par := by
  simp [State.pedalCycle]

@[simp] theorem State.speedCycle_par (s : State) : s.speedCycle.par = s.par := by
  simp [State.speedCycle]

@[simp] theorem State.forceImplausible_par (s : State) (l : AxisNo) : (s.forceImplausible l).par = s.par := by
  unfold State.forceImplausible
  split <;> simp

@[simp] theorem execForceImplausible_keepsStored (l : AxisNo) (now : Ns) (s : State) :
    KeepsStored s (execForceImplausible l now s) := by
  simp [execForceImplausible]

@[simp] theorem State.forceCycle_par (s : State) (l : AxisNo) : (s.forceCycle l).par = s.par := by
  simp [State.forceCycle]

@[simp] theorem State.demandCycle_par (s : State) : s.demandCycle.par = s.par := by
  simp [State.demandCycle]

@[simp] theorem State.regenUnconfirmed_par (s : State) : s.regenUnconfirmed.par = s.par := by
  simp [State.regenUnconfirmed]

@[simp] theorem execRegenUnconfirmed_keepsStored (now : Ns) (s : State) : KeepsStored s (execRegenUnconfirmed now s) := by
  simp [execRegenUnconfirmed]

@[simp] theorem State.regenExpiry_par (s : State) : s.regenExpiry.par = s.par := by
  simp [State.regenExpiry]

@[simp] theorem execRegenBlockExpiry_keepsStored (now : Ns) (s : State) : KeepsStored s (execRegenBlockExpiry now s) := by
  simp [execRegenBlockExpiry]

@[simp] theorem State.confirmCycle_par (s : State) (fresh : Bool) : (s.confirmCycle fresh).par = s.par := by
  simp [State.confirmCycle]

@[simp] theorem State.slipCycle_par (s : State) (f4 : Vector Q 8) : (s.slipCycle f4).par = s.par := by
  simp [State.slipCycle]

@[simp] theorem State.deficitCycle_par (s : State) (d : Q) : (s.deficitCycle d).par = s.par := by
  simp [State.deficitCycle]

@[simp] theorem State.setPark_par (s : State) (p : Park) : (s.setPark p).par = s.par := by
  simp [State.setPark]

@[simp] theorem State.completeAll_par (s : State) (os : List AccOp) : (s.completeAll os).par = s.par := by
  simp [State.completeAll]

@[simp] theorem State.parkDone_par (s : State) : s.parkDone.par = s.par := by
  simp [State.parkDone]

@[simp] theorem State.parkOff_par (s : State) : s.parkOff.par = s.par := by
  simp [State.parkOff]

@[simp] theorem State.parkEnable_par (s : State) : s.parkEnable.par = s.par := by
  simp [State.parkEnable]

@[simp] theorem State.parkHold_par (s : State) : s.parkHold.par = s.par := by
  simp [State.parkHold]

@[simp] theorem State.parkToRelease_par (s : State) : s.parkToRelease.par = s.par := by
  simp [State.parkToRelease]

@[simp] theorem State.parkRelease_par (s : State) : s.parkRelease.par = s.par := by
  unfold State.parkRelease
  split <;> simp

@[simp] theorem State.parkRequest_par (s : State) : s.parkRequest.par = s.par := by
  simp [State.parkRequest]

@[simp] theorem State.latchTimeout_par (s : State) : s.latchTimeout.par = s.par := by
  simp [State.latchTimeout]

@[simp] theorem execParkLatchTimeout_keepsStored (now : Ns) (s : State) : KeepsStored s (execParkLatchTimeout now s) := by
  simp [execParkLatchTimeout]

@[simp] theorem State.parkRetry_par (s : State) : s.parkRetry.par = s.par := by
  simp [State.parkRetry]

@[simp] theorem execParkRetry_keepsStored (now : Ns) (s : State) : KeepsStored s (execParkRetry now s) := by
  simp [execParkRetry]

@[simp] theorem State.parkInputs_par (s : State) : s.parkInputs.par = s.par := by
  simp only [State.parkInputs]
  (repeat' split) <;> simp

@[simp] theorem State.parkStep_par (s : State) : s.parkStep.par = s.par := by
  unfold State.parkStep
  split <;> simp

@[simp] theorem State.parkCycle_par (s : State) : s.parkCycle.par = s.par := by
  simp [State.parkCycle]

@[simp] theorem bodyVfParkRequest_par (r : Req) (s : State) : (bodyVfParkRequest r s).st.par = s.par := by
  simp [bodyVfParkRequest]

@[simp] theorem bodyVfParkRelease_par (r : Req) (s : State) : (bodyVfParkRelease r s).st.par = s.par := by
  simp [bodyVfParkRelease]

@[simp] theorem bodyVfPark_par (r : Req) (s : State) : (bodyVfPark r s).st.par = s.par := by
  simp [bodyVfPark]

@[simp] theorem execOpVfParkRequest_keepsStored (r : Req) (s : State) : KeepsStored s (execOpVfParkRequest r s) := by
  simp [execOpVfParkRequest]

@[simp] theorem execOpVfParkRelease_keepsStored (r : Req) (s : State) : KeepsStored s (execOpVfParkRelease r s) := by
  simp [execOpVfParkRelease]

@[simp] theorem State.parkAbort_par (s : State) : s.parkAbort.par = s.par := by
  simp only [State.parkAbort]
  split <;> simp

@[simp] theorem State.brakeSetPts_par (s : State) (fresh : Bool) (df : List Q) : (s.brakeSetPts fresh df).1.par = s.par := by
  simp [State.brakeSetPts]

@[simp] theorem State.defaultCycle_par (s : State) : s.defaultCycle.par = s.par := by
  simp [State.defaultCycle]

@[simp] theorem State.applyForce_par (s : State) (l : AxisNo) (w : Fin 8) : (s.applyForce l w).par = s.par := by
  simp [State.applyForce]

@[simp] theorem State.applyBrake_par (s : State) : s.applyBrake.par = s.par := by
  refine forFin_par (fun l x => ?_) s
  split <;> simp

@[simp] theorem State.ledRecord_par (s : State) (i : Fin 9) (fric req conf : Q) (n : Nat) :
    (s.ledRecord i fric req conf n).par = s.par := by
  simp [State.ledRecord]

@[simp] theorem State.ledgerCycle_par (s : State) (req conf : Vector Q 8) : (s.ledgerCycle req conf).par = s.par := by
  simp [State.ledgerCycle]

@[simp] theorem State.ledgerWrite_par (s : State) : s.ledgerWrite.par = s.par := by
  simp [State.ledgerWrite]

@[simp] theorem State.ledgerSave_par (s : State) : s.ledgerSave.par = s.par := by
  simp [State.ledgerSave]

@[simp] theorem execLedgerSave_keepsStored (now : Ns) (s : State) : KeepsStored s (execLedgerSave now s) := by
  simp [execLedgerSave]

@[simp] theorem bodyLedgerRead_par (r : Req) (s : State) : (bodyLedgerRead r s).st.par = s.par := by
  simp [bodyLedgerRead]

@[simp] theorem execOpLedgerRead_keepsStored (r : Req) (s : State) : KeepsStored s (execOpLedgerRead r s) := by
  simp [execOpLedgerRead]

@[simp] theorem bodyLedgerClear_par (r : Req) (s : State) : (bodyLedgerClear r s).st.par = s.par := by
  simp [bodyLedgerClear]

@[simp] theorem execOpLedgerClear_keepsStored (r : Req) (s : State) : KeepsStored s (execOpLedgerClear r s) := by
  simp [execOpLedgerClear]

@[simp] theorem bodyVfBrake_par (r : Req) (s : State) : (bodyVfBrake r s).st.par = s.par := by
  simp [bodyVfBrake]

@[simp] theorem execOpVfBrake_keepsStored (r : Req) (s : State) : KeepsStored s (execOpVfBrake r s) := by
  simp [execOpVfBrake]

/-! ### Lane integrity -/

@[simp] theorem State.fail_par (s : State) (cause : BitVec 4) (group : Byte) : (s.fail cause group).par = s.par := by
  simp [State.fail]

@[simp] theorem State.compare_par (s : State) (c0 c1 : CmpBits) : (s.compare c0 c1).par = s.par := by
  unfold State.compare
  split <;> simp

@[simp] theorem execLockstepMismatch_keepsStored (c0 c1 : CmpBits) (now : Ns) (s : State) :
    KeepsStored s (execLockstepMismatch c0 c1 now s) := by
  simp [execLockstepMismatch]

@[simp] theorem execFsreq_keepsStored (reason : Byte) (s : State) : KeepsStored s (execFsreq reason s) := by
  unfold execFsreq
  split <;> simp

@[simp] theorem State.setEx_par (s : State) (x : ExSrc) : (s.setEx x).par = s.par := by
  simp [State.setEx]

@[simp] theorem State.exchange_par (s : State) (cls : ExClass) (src : Byte) (width : Nat) (s0 s1 : BitVec 64) :
    (s.exchange cls src width s0 s1).par = s.par := by
  unfold State.exchange
  split
  · simp
  · split <;> simp

@[simp] theorem execExchangeRead_keepsStored (cls : ExClass) (src : BitVec 8) (width : Fin 65) (s0 s1 : BitVec 64) (now : Ns) (s : State) :
    KeepsStored s (execExchangeRead cls src width s0 s1 now s) := by
  simp only [execExchangeRead]
  split <;> simp

@[simp] theorem State.irqWindow_par (s : State) (p0 p1 : Word) : (s.irqWindow p0 p1).par = s.par := by
  simp [State.irqWindow]

@[simp] theorem execInterruptWindowEnd_keepsStored (p0 p1 : Word) (now : Ns) (s : State) :
    KeepsStored s (execInterruptWindowEnd p0 p1 now s) := by
  simp only [execInterruptWindowEnd]
  split <;> simp

@[simp] theorem State.injectionTest_par (s : State) (caught0 caught1 : CmpBits) (ordered stable clean : Bool) :
    (s.injectionTest caught0 caught1 ordered stable clean).par = s.par := by
  unfold State.injectionTest
  split
  · simp
  · split <;> simp

@[simp] theorem execComparatorInjectionTest_keepsStored (caught0 caught1 : CmpBits) (ordered stable clean : Bool) (now : Ns) (s : State) :
    KeepsStored s (execComparatorInjectionTest caught0 caught1 ordered stable clean now s) := by
  simp [execComparatorInjectionTest]

@[simp] theorem State.noteParity_par (s : State) (lane : Bool) (axis : Nat) (block : Byte) (word : BitVec 16) :
    (s.noteParity lane axis block word).par = s.par := by
  simp [State.noteParity]

@[simp] theorem State.axisParity_par (s : State) (l : AxisNo) (block : Word) (word : BitVec 16) :
    (s.axisParity l block word).par = s.par := by
  simp [State.axisParity]

@[simp] theorem State.parityFault_par (s : State) (owner : ParityOwner) (word : BitVec 16) :
    (s.parityFault owner word).par = s.par := by
  unfold State.parityFault
  split <;> simp

@[simp] theorem execConfigParityFault_keepsStored (owner : ParityOwner) (word : BitVec 16) (value : Word) (par : BitVec 4) (now : Ns) (s : State) :
    KeepsStored s (execConfigParityFault owner word value par now s) := by
  simp [execConfigParityFault]

@[simp] theorem execUnmappedAccess_keepsStored (_write : Bool) (s : State) : KeepsStored s (execUnmappedAccess _write s) := by
  simp [execUnmappedAccess]

@[simp] theorem State.coreFault_par (s : State) (core : Fin 2) (cause : CoreFault) : (s.coreFault core cause).par = s.par := by
  simp [State.coreFault]

@[simp] theorem State.splitWatchdog_par (s : State) (core : Fin 2) : (s.splitWatchdog core).par = s.par := by
  simp [State.splitWatchdog]

@[simp] theorem execSplitWatchdog_keepsStored (core : Fin 2) (now : Ns) (s : State) :
    KeepsStored s (execSplitWatchdog core now s) := by
  simp [execSplitWatchdog]

@[simp] theorem execSplitCoreFault_keepsStored (core : Fin 2) (cause : CoreFault) (now : Ns) (s : State) :
    KeepsStored s (execSplitCoreFault core cause now s) := by
  simp [execSplitCoreFault]

@[simp] theorem State.eccCorrected_par (s : State) (m : EccMem) (bank : Byte) (addr : Nat) :
    (s.eccCorrected m bank addr).par = s.par := by
  simp [State.eccCorrected]

@[simp] theorem State.eccAxis_par (s : State) (l : AxisNo) (m : MemId) (addr : Nat) : (s.eccAxis l m addr).par = s.par := by
  simp [State.eccAxis]

@[simp] theorem State.eccFatal_par (s : State) (m : EccMem) (bank : Byte) (addr : Nat) :
    (s.eccFatal m bank addr).par = s.par := by
  unfold State.eccFatal
  split <;> simp

@[simp] theorem State.eccRead_par (s : State) (m : EccMem) (bank : Byte) (addr : Nat) (r : EccResult) :
    (s.eccRead m bank addr r).par = s.par := by
  unfold State.eccRead
  split <;> simp

@[simp] theorem execScrubAccess_keepsStored (m : EccMem) (bank : Byte) (addr : Nat) (r : EccResult) (now : Ns) (s : State) :
    KeepsStored s (execScrubAccess m bank addr r now s) := by
  simp [execScrubAccess]

/-! ### Mirrors -/

@[simp] theorem State.modMir_par (s : State) (l : AxisNo) (f : AxMirror → AxMirror) : (s.modMir l f).par = s.par := by
  simp [State.modMir]

@[simp] theorem State.shadowMode_par (s : State) (l : AxisNo) : (s.shadowMode l).par = s.par := by
  simp [State.shadowMode]

@[simp] theorem State.mirrorProv_par (s : State) (l : AxisNo) : (s.mirrorProv l).par = s.par := by
  unfold State.mirrorProv
  split
  · split <;> simp
  · simp

@[simp] theorem State.mirrorIndex_par (s : State) (l : AxisNo) : (s.mirrorIndex l).par = s.par := by
  simp only [State.mirrorIndex]
  split
  · simp
  · split <;> simp

@[simp] theorem State.mirrorRef_par (s : State) (l : AxisNo) : (s.mirrorRef l).par = s.par := by
  unfold State.mirrorRef
  split <;> simp

@[simp] theorem State.mirrorStop_par (s : State) (l : AxisNo) : (s.mirrorStop l).par = s.par := by
  simp [State.mirrorStop]

@[simp] theorem State.takeAxis_par (s : State) (l : AxisNo) (ws : List Word) : (s.takeAxis l ws).par = s.par := by
  simp [State.takeAxis]

@[simp] theorem State.takeCompare_par (s : State) (l : AxisNo) (ws : List Word) : (s.takeCompare l ws).par = s.par := by
  unfold State.takeCompare
  split
  · rfl
  · exact forFin_par (fun n x => by simp) s

@[simp] theorem State.takeSuper_par (s : State) (i : Fin 6) (ws : List Word) : (s.takeSuper i ws).par = s.par := by
  simp [State.takeSuper]

@[simp] theorem State.applySuper_par (s : State) : s.applySuper.par = s.par := by
  simp [State.applySuper]

/-! ### The twin link -/

@[simp] theorem State.startClaim_par (s : State) : s.startClaim.par = s.par := by
  simp [State.startClaim]

@[simp] theorem State.stopClaim_par (s : State) : s.stopClaim.par = s.par := by
  simp [State.stopClaim]

@[simp] theorem State.failPlanned_par (s : State) : s.failPlanned.par = s.par := by
  simp [State.failPlanned]

@[simp] theorem State.dropMirrors_par (s : State) : s.dropMirrors.par = s.par := by
  simp [State.dropMirrors]

@[simp] theorem State.giveUp_par (s : State) : s.giveUp.par = s.par := by
  simp [State.giveUp]

@[simp] theorem State.toStandby_par (s : State) : s.toStandby.par = s.par := by
  simp [State.toStandby]

@[simp] theorem State.noteCastling_par (s : State) (cause : BitVec 2) (took : Bool) :
    (s.noteCastling cause took).par = s.par := by
  simp [State.noteCastling]

@[simp] theorem State.takeCom_par (s : State) (l : AxisNo) : (s.takeCom l).par = s.par := by
  simp only [State.takeCom]
  (repeat' split) <;> simp

@[simp] theorem State.takeCompares_par (s : State) (l : AxisNo) : (s.takeCompares l).par = s.par := by
  simp [State.takeCompares]

@[simp] theorem State.takeOne_par (s : State) (l : AxisNo) : (s.takeOne l).par = s.par := by
  simp [State.takeOne]

@[simp] theorem State.castlingClaim_par (s : State) : s.castlingClaim.par = s.par := by
  simp [State.castlingClaim]

@[simp] theorem State.confirmClaim_par (s : State) : s.confirmClaim.par = s.par := by
  simp only [State.confirmClaim]
  split
  · split <;> simp
  · simp

@[simp] theorem execClaimConfirmed_keepsStored (now : Ns) (s : State) : KeepsStored s (execClaimConfirmed now s) := by
  simp [execClaimConfirmed]

@[simp] theorem State.collide_par (s : State) : s.collide.par = s.par := by
  simp [State.collide]

@[simp] theorem State.doubleClaim_par (s : State) : s.doubleClaim.par = s.par := by
  simp [State.doubleClaim]

@[simp] theorem State.claimEdge_par (s : State) : s.claimEdge.par = s.par := by
  simp only [State.claimEdge]
  split
  · simp
  · split <;> simp

@[simp] theorem execTwinClaimEdge_keepsStored (now : Ns) (s : State) : KeepsStored s (execTwinClaimEdge now s) := by
  simp [execTwinClaimEdge]

@[simp] theorem State.startCastle_par (s : State) (cause : BitVec 2) : (s.startCastle cause).par = s.par := by
  simp [State.startCastle]

@[simp] theorem State.claimAbsent_par (s : State) : s.claimAbsent.par = s.par := by
  simp only [State.claimAbsent]
  split
  · split
    · simp
    · split <;> simp
  · simp

@[simp] theorem execTwinClaimAbsent_keepsStored (now : Ns) (s : State) : KeepsStored s (execTwinClaimAbsent now s) := by
  simp [execTwinClaimAbsent]

@[simp] theorem State.blackClaim_par (s : State) : s.blackClaim.par = s.par := by
  simp [State.blackClaim]

@[simp] theorem State.claimStep_par (s : State) : s.claimStep.par = s.par := by
  simp [State.claimStep]

@[simp] theorem execClaimStart_keepsStored (now : Ns) (s : State) : KeepsStored s (execClaimStart now s) := by
  simp [execClaimStart]

@[simp] theorem execClaimRetry_keepsStored (now : Ns) (s : State) : KeepsStored s (execClaimRetry now s) := by
  simp only [execClaimRetry]
  split <;> simp

@[simp] theorem execCastlingSettle_keepsStored (now : Ns) (s : State) : KeepsStored s (execCastlingSettle now s) := by
  simp [execCastlingSettle]

@[simp] theorem execBlackClaimTimer_keepsStored (now : Ns) (s : State) : KeepsStored s (execBlackClaimTimer now s) := by
  simp [execBlackClaimTimer]

@[simp] theorem State.castleGate_par (s : State) (l : AxisNo) : (s.castleGate l).par = s.par := by
  simp [State.castleGate]

@[simp] theorem State.castleGates_par (s : State) : s.castleGates.par = s.par := by
  simp [State.castleGates]

@[simp] theorem execCastlingGateEnable_keepsStored (now : Ns) (s : State) : KeepsStored s (execCastlingGateEnable now s) := by
  simp [execCastlingGateEnable]

@[simp] theorem State.leavePairing_par (s : State) (byTimeout : Bool) : (s.leavePairing byTimeout).par = s.par := by
  simp [State.leavePairing]

@[simp] theorem execPairingTimeout_keepsStored (now : Ns) (s : State) : KeepsStored s (execPairingTimeout now s) := by
  simp [execPairingTimeout]

@[simp] theorem State.twinBad_par (s : State) : s.twinBad.par = s.par := by
  simp [State.twinBad]

@[simp] theorem State.noteFrame_par (s : State) (seq : BitVec 16) (yield : Bool) : (s.noteFrame seq yield).par = s.par := by
  simp [State.noteFrame]

@[simp] theorem State.recvTwin_par (s : State) (f : TwinIn) (len : Nat) (yield : Bool) (act : State → State) (h : ∀ x, (act x).par = x.par) :
    (s.recvTwin f len yield act).par = s.par := by
  simp [State.recvTwin, h]

-- The digest stands in a condition here, and a definitional check that reduces the `if` would compute it: the `par` of the update is
-- taken by its lemma first.
@[simp] theorem State.mismatches_par (s : State) (w : List Word) : (s.mismatches w).par = s.par := by
  refine (State.modTwin_par _ _).trans ?_
  simp only [State.ite_par, State.raise_par, ite_self]

@[simp] theorem State.takeStatus_par (s : State) (w : List Word) : (s.takeStatus w).par = s.par := by
  unfold State.takeStatus
  extract_lets x st late t
  have ht : t.par = s.par := (State.modTwin_par _ _).trans (s.mismatches_par w)
  split
  · exact (t.leavePairing_par false).trans ht
  · exact ht

@[simp] theorem State.twinAct_par (s : State) (type : Byte) (f : TwinIn) : (s.twinAct type f).par = s.par := by
  simp only [State.twinAct]
  (repeat' split) <;> simp

@[simp] theorem execYield_keepsStored (f : TwinIn) (now : Ns) (s : State) : KeepsStored s (execYield f now s) := by
  simp [execYield]

@[simp] theorem execStatus_keepsStored (f : TwinIn) (now : Ns) (s : State) : KeepsStored s (execStatus f now s) := by
  simp [execStatus]

@[simp] theorem execAxis_keepsStored (f : TwinIn) (now : Ns) (s : State) : KeepsStored s (execAxis f now s) := by
  simp [execAxis]

@[simp] theorem execCompare_keepsStored (f : TwinIn) (now : Ns) (s : State) : KeepsStored s (execCompare f now s) := by
  simp [execCompare]

@[simp] theorem execSuper_keepsStored (f : TwinIn) (now : Ns) (s : State) : KeepsStored s (execSuper f now s) := by
  simp [execSuper]

@[simp] theorem State.roleMismatch_par (s : State) : s.roleMismatch.par = s.par := by
  simp [State.roleMismatch]

@[simp] theorem State.twinReceive_par (s : State) (coded : Bool) (bs : List Byte) : (s.twinReceive coded bs).par = s.par := by
  unfold State.twinReceive
  split
  · simp
  · split <;> simp

@[simp] theorem execTwinFrameDiscard_keepsStored (coded : Bool) (bytes : List Byte) (now : Ns) (s : State) :
    KeepsStored s (execTwinFrameDiscard coded bytes now s) := by
  simp [execTwinFrameDiscard]

@[simp] theorem execTwinLinkLost_keepsStored (now : Ns) (s : State) : KeepsStored s (execTwinLinkLost now s) := by
  simp [execTwinLinkLost]

@[simp] theorem State.sendTwin_par (s : State) (type sub : BitVec 8) (ws : List Word) : (s.sendTwin type sub ws).par = s.par := by
  simp [State.sendTwin]

@[simp] theorem State.planStep_par (s : State) : s.planStep.par = s.par := by
  simp [State.planStep]

@[simp] theorem State.sendYield_par (s : State) : s.sendYield.par = s.par := by
  simp [State.sendYield]

@[simp] theorem State.sendAxis_par (s : State) (l : AxisNo) (w : List Word) : (s.sendAxis l w).par = s.par := by
  simp [State.sendAxis]

@[simp] theorem State.twinSend_par (s : State) : s.twinSend.par = s.par := by
  simp only [State.twinSend]
  (repeat' split) <;> simp

@[simp] theorem execTwinFrameTransmit_keepsStored (now : Ns) (s : State) : KeepsStored s (execTwinFrameTransmit now s) := by
  simp [execTwinFrameTransmit]

@[simp] theorem State.twinCycle_par (s : State) (t : Int) : (s.twinCycle t).par = s.par := by
  simp [State.twinCycle]

@[simp] theorem State.formGrade_par (s : State) : s.formGrade.par = s.par := by
  simp [State.formGrade]

@[simp] theorem bodyTwinStatus_par (r : Req) (s : State) : (bodyTwinStatus r s).st.par = s.par := by
  simp [bodyTwinStatus]

@[simp] theorem execOpTwinStatus_keepsStored (r : Req) (s : State) : KeepsStored s (execOpTwinStatus r s) := by
  simp [execOpTwinStatus]

@[simp] theorem State.planCastle_par (s : State) (o : Option AccOp) : (s.planCastle o).par = s.par := by
  simp [State.planCastle]

@[simp] theorem bodyTwinCastle_par (r : Req) (s : State) : (bodyTwinCastle r s).st.par = s.par := by
  simp [bodyTwinCastle]

@[simp] theorem execOpTwinCastle_keepsStored (r : Req) (s : State) : KeepsStored s (execOpTwinCastle r s) := by
  simp [execOpTwinCastle]

/-! ### Kernels and activations -/

@[simp] theorem State.suCheck_par (s : State) : s.suCheck.par = s.par := by
  simp only [State.suCheck]
  split
  · simp
  · split <;> simp

@[simp] theorem execSuActivationRelease_keepsStored (a : Fin 40) (now : Ns) (s : State) :
    KeepsStored s (execSuActivationRelease a now s) := by
  simp only [execSuActivationRelease]
  split
  · simp
  · split
    · split <;> simp
    · simp

@[simp] theorem State.judgeRun_par (s : State) (a : ActNo) : (s.judgeRun a).par = s.par := by
  simp [State.judgeRun]

@[simp] theorem execSuDeadline_keepsStored (a : Fin 40) (now : Ns) (s : State) : KeepsStored s (execSuDeadline a now s) := by
  simp [execSuDeadline]

@[simp] theorem State.resolverRun_par (s : State) (l : AxisNo) : (s.resolverRun l).par = s.par := by
  simp [State.resolverRun]

@[simp] theorem State.deliverAxis_par (s : State) (a : ActNo) (l : AxisNo) (stamp : Int) :
    (s.deliverAxis a l stamp).par = s.par := by
  simp [State.deliverAxis]

@[simp] theorem State.deliverKernel_par (s : State) (a : ActNo) (stamp : Int) : (s.deliverKernel a stamp).par = s.par := by
  unfold State.deliverKernel
  split
  · simp
  · split <;> simp

@[simp] theorem State.lateServe_par (s : State) : s.lateServe.par = s.par := by
  simp [State.lateServe]

@[simp] theorem State.finishKernel_par (s : State) (a : ActNo) : (s.finishKernel a).par = s.par := by
  simp [State.finishKernel]

@[simp] theorem State.runCycles_par (s : State) (a : ActNo) : (s.runCycles a).2.par = s.par := by
  simp [State.runCycles]

@[simp] theorem execSuKernelHalt_keepsStored (a : Fin 40) (now : Ns) (s : State) : KeepsStored s (execSuKernelHalt a now s) := by
  simp [execSuKernelHalt]

@[simp] theorem State.memPut_par (s : State) (m : MemId) (a : Nat) (w : Word) : (s.memPut m a w).par = s.par := by
  simp [State.memPut]

@[simp] theorem bodySuWrite_par (r : Req) (s : State) : (bodySuWrite r s).st.par = s.par := by
  simp [bodySuWrite]

@[simp] theorem execOpSuWrite_keepsStored (r : Req) (s : State) : KeepsStored s (execOpSuWrite r s) := by
  simp [execOpSuWrite]

@[simp] theorem bodySuRead_par (r : Req) (s : State) : (bodySuRead r s).st.par = s.par := by
  simp [bodySuRead]

@[simp] theorem execOpSuRead_keepsStored (r : Req) (s : State) : KeepsStored s (execOpSuRead r s) := by
  simp [execOpSuRead]

@[simp] theorem State.commitRegion_par (s : State) (m : MemId) (crc : Word) (r : Req) : (s.commitRegion m crc r).par = s.par := by
  simp [State.commitRegion]

@[simp] theorem bodySuCommit_par (r : Req) (s : State) : (bodySuCommit r s).st.par = s.par := by
  simp only [bodySuCommit]
  split <;> simp

@[simp] theorem execOpSuCommit_keepsStored (r : Req) (s : State) : KeepsStored s (execOpSuCommit r s) := by
  simp [execOpSuCommit]

@[simp] theorem bodySuStatus_par (r : Req) (s : State) : (bodySuStatus r s).st.par = s.par := by
  simp [bodySuStatus]

@[simp] theorem execOpSuStatus_keepsStored (r : Req) (s : State) : KeepsStored s (execOpSuStatus r s) := by
  simp [execOpSuStatus]

/-! ### The time bus -/

@[simp] theorem State.schedCheck_par (s : State) : s.schedCheck.par = s.par := by
  simp [State.schedCheck]

@[simp] theorem State.modChan_par (s : State) (c : Fin 2) (f : VChan → VChan) : (s.modChan c f).par = s.par := by
  simp [State.modChan]

@[simp] theorem State.anchor_par (s : State) (t : VtbSt) : (s.anchor t).par = s.par := by
  simp [State.anchor]

@[simp] theorem State.vtbTo_par (s : State) (t : VtbSt) : (s.vtbTo t).par = s.par := by
  simp [State.vtbTo]

@[simp] theorem State.chanDown_par (s : State) (c : Fin 2) : (s.chanDown c).par = s.par := by
  simp [State.chanDown]

@[simp] theorem State.chanHeard_par (s : State) (c : Fin 2) : (s.chanHeard c).par = s.par := by
  simp [State.chanHeard]

@[simp] theorem State.guardOff_par (s : State) (c : Fin 2) (cause : Nat) : (s.guardOff c cause).par = s.par := by
  simp [State.guardOff]

@[simp] theorem State.guardAttempt_par (s : State) (c : Fin 2) : (s.guardAttempt c).par = s.par := by
  simp [State.guardAttempt]

@[simp] theorem execGuardianAttempt_keepsStored (ch : Chan) (now : Ns) (s : State) :
    KeepsStored s (execGuardianAttempt ch now s) := by
  simp [execGuardianAttempt]

@[simp] theorem execGuardianScheduleCrc_keepsStored (ch : Chan) (crc : Word) (now : Ns) (s : State) :
    KeepsStored s (execGuardianScheduleCrc ch crc now s) := by
  simp [execGuardianScheduleCrc]

@[simp] theorem State.chanSilent_par (s : State) (c : Fin 2) : (s.chanSilent c).par = s.par := by
  simp [State.chanSilent]

@[simp] theorem execVtbChannelDown_keepsStored (ch : Chan) (now : Ns) (s : State) :
    KeepsStored s (execVtbChannelDown ch now s) := by
  simp [execVtbChannelDown]

@[simp] theorem State.syncGone_par (s : State) : s.syncGone.par = s.par := by
  simp [State.syncGone]

@[simp] theorem State.exceedOut_par (s : State) : s.exceedOut.par = s.par := by
  simp [State.exceedOut]

@[simp] theorem execVtbSyncLost_keepsStored (now : Ns) (s : State) : KeepsStored s (execVtbSyncLost now s) := by
  simp [execVtbSyncLost]

@[simp] theorem State.coldCollide_par (s : State) : s.coldCollide.par = s.par := by
  simp [State.coldCollide]

@[simp] theorem State.blockData_par (s : State) (k : Fin 3) (start : Int) (fits : Nat → Bool) :
    (s.blockData k start fits).2.par = s.par := by
  simp only [State.blockData]
  split <;> simp

@[simp] theorem State.txData_par (s : State) (fits : Nat → Bool) : (s.txData fits).2.par = s.par := by
  simp [State.txData]

@[simp] theorem State.sendSlot_par (s : State) (e : SlotEnt) (echo : Vector (List Bool) 2) : (s.sendSlot e echo).par = s.par := by
  unfold State.sendSlot
  split
  · simp
  · split <;> simp

@[simp] theorem State.slotTransmit_par (s : State) (slot : BitVec 6) (echo : Vector (List Bool) 2) :
    (s.slotTransmit slot echo).par = s.par := by
  unfold State.slotTransmit
  split <;> simp

@[simp] theorem execVtbSlotTransmit_keepsStored (slot : BitVec 6) (echo : Vector (List Bool) 2) (now : Ns) (s : State) :
    KeepsStored s (execVtbSlotTransmit slot echo now s) := by
  simp [execVtbSlotTransmit]

@[simp] theorem State.rxQueue_par (s : State) (ch : Chan) (h : VtbHdr) (bs : List Byte) (start : Word) :
    (s.rxQueue ch h bs start).par = s.par := by
  unfold State.rxQueue
  split <;> simp

@[simp] theorem State.vtbDeliver_par (s : State) (ch : Chan) (e : SlotEnt) (h : VtbHdr) (bs : List Byte) (start : Word) :
    (s.vtbDeliver ch e h bs start).par = s.par := by
  simp only [State.vtbDeliver]
  split
  · simp
  · split <;> simp

@[simp] theorem State.vtbValid_par (s : State) (ch : Chan) (e : SlotEnt) (h : VtbHdr) (dev : Int) (bs : List Byte) :
    (s.vtbValid ch e h dev bs).par = s.par := by
  simp [State.vtbValid]

@[simp] theorem State.vtbGrid_par (s : State) (ch : Chan) (f : VtbIn) : (s.vtbGrid ch f).par = s.par := by
  simp only [State.vtbGrid]
  split
  · simp
  · split <;> simp

@[simp] theorem State.adopt_par (s : State) (h : VtbHdr) (at_ : Ns) (start : Nat) : (s.adopt h at_ start).par = s.par := by
  simp [State.adopt]

@[simp] theorem State.vtbListen_par (s : State) (ch : Chan) (f : VtbIn) : (s.vtbListen ch f).par = s.par := by
  simp only [State.vtbListen]
  (repeat' split) <;> simp

@[simp] theorem execVtbFrameReceived_keepsStored (ch : Chan) (f : VtbIn) (now : Ns) (s : State) :
    KeepsStored s (execVtbFrameReceived ch f now s) := by
  simp only [execVtbFrameReceived]
  split
  · simp
  · split <;> simp

@[simp] theorem State.correct_par (s : State) : s.correct.par = s.par := by
  simp [State.correct]

@[simp] theorem State.roundEnd_par (s : State) : s.roundEnd.par = s.par := by
  simp [State.roundEnd]

@[simp] theorem State.vtbStep_par (s : State) : s.vtbStep.par = s.par := by
  simp only [State.vtbStep]
  split
  · simp
  · split <;> simp

@[simp] theorem State.chanCycle_par (s : State) (c : Fin 2) (ticks : Nat) : (s.chanCycle c ticks).par = s.par := by
  simp [State.chanCycle]

@[simp] theorem State.cycleStart_par (s : State) : s.cycleStart.par = s.par := by
  simp [State.cycleStart]

@[simp] theorem State.vtbTurn_par (s : State) (ticks : Vector Nat 2) : (s.vtbTurn ticks).par = s.par := by
  simp [State.vtbTurn]

@[simp] theorem execVtbCycleStart_keepsStored (ticks : Vector Nat 2) (now : Ns) (s : State) :
    KeepsStored s (execVtbCycleStart ticks now s) := by
  simp [execVtbCycleStart]

@[simp] theorem State.coldTimeout_par (s : State) (echo : Vector (List Bool) 2) : (s.coldTimeout echo).par = s.par := by
  unfold State.coldTimeout
  split <;> simp

@[simp] theorem execColdstartTimeout_keepsStored (echo : Vector (List Bool) 2) (now : Ns) (s : State) :
    KeepsStored s (execColdstartTimeout echo now s) := by
  simp [execColdstartTimeout]

@[simp] theorem execVtbBusActivityEnd_keepsStored (now : Ns) (s : State) : KeepsStored s (execVtbBusActivityEnd now s) := by
  simp only [execVtbBusActivityEnd]
  split <;> simp

@[simp] theorem bodyVtbStatus_par (r : Req) (s : State) : (bodyVtbStatus r s).st.par = s.par := by
  simp [bodyVtbStatus]

@[simp] theorem execOpVtbStatus_keepsStored (r : Req) (s : State) : KeepsStored s (execOpVtbStatus r s) := by
  simp [execOpVtbStatus]

/-! ### Power levels -/

@[simp] theorem State.requestLevel_par (s : State) (t : BitVec 2) (op : Option AccOp) : (s.requestLevel t op).par = s.par := by
  simp [State.requestLevel]

@[simp] theorem State.endLevel_par (s : State) (op : Option AccOp) (code : Word) : (s.endLevel op code).par = s.par := by
  simp [State.endLevel]

@[simp] theorem State.levelDone_par (s : State) (c : PlChange) : (s.levelDone c).par = s.par := by
  simp [State.levelDone]

@[simp] theorem State.revertLevel_par (s : State) (c : PlChange) : (s.revertLevel c).par = s.par := by
  simp [State.revertLevel]

@[simp] theorem State.attemptFails_par (s : State) (c : PlChange) : (s.attemptFails c).par = s.par := by
  simp [State.attemptFails]

@[simp] theorem State.levelPoll_par (s : State) : s.levelPoll.par = s.par := by
  unfold State.levelPoll
  split
  · split <;> simp
  · simp

@[simp] theorem execLevelRaiseNoBudget_keepsStored (now : Ns) (s : State) : KeepsStored s (execLevelRaiseNoBudget now s) := by
  simp only [execLevelRaiseNoBudget]
  split <;> simp

@[simp] theorem State.voutWindow_par (s : State) : s.voutWindow.par = s.par := by
  simp [State.voutWindow]

@[simp] theorem State.voutPoll_par (s : State) : s.voutPoll.par = s.par := by
  simp [State.voutPoll]

@[simp] theorem State.pgoodWatch_par (s : State) : s.pgoodWatch.par = s.par := by
  unfold State.pgoodWatch
  split <;> simp

@[simp] theorem execVoutFault_keepsStored (kind : VoutFaultKind) (now : Ns) (s : State) :
    KeepsStored s (execVoutFault kind now s) := by
  unfold execVoutFault
  split <;> simp

@[simp] theorem State.dividerBack_par (s : State) (d : Q) : (s.dividerBack d).par = s.par := by
  simp [State.dividerBack]

@[simp] theorem State.voutRead_par (s : State) (mv : Q) : (s.voutRead mv).par = s.par := by
  simp [State.voutRead]

@[simp] theorem State.voutMissed_par (s : State) : s.voutMissed.par = s.par := by
  simp [State.voutMissed]

@[simp] theorem State.pmbus_par (s : State) (kind : PmbKind) (result : PmbResult) : (s.pmbus kind result).par = s.par := by
  simp only [State.pmbus]
  (repeat' split) <;> simp

@[simp] theorem bodyPwrLevel_par (r : Req) (s : State) : (bodyPwrLevel r s).st.par = s.par := by
  simp [bodyPwrLevel]

@[simp] theorem execOpPwrLevel_keepsStored (r : Req) (s : State) : KeepsStored s (execOpPwrLevel r s) := by
  simp [execOpPwrLevel]

@[simp] theorem execVddioPadReset_keepsStored (low : Bool) (now : Ns) (s : State) :
    KeepsStored s (execVddioPadReset low now s) := by
  simp [execVddioPadReset]

@[simp] theorem execVddFixDrop_keepsStored (now : Ns) (s : State) : KeepsStored s (execVddFixDrop now s) := by
  simp [execVddFixDrop]

/-! ### Starts, sleep and wake -/

@[simp] theorem State.loadPars_stored (s : State) : s.loadPars.par.stored = s.par.stored := by
  simp only [State.loadPars]
  split
  · simp
  · split <;> simp

@[simp] theorem State.rebooted_stored (s : State) : s.rebooted.par.stored = s.par.stored := by
  simp [State.rebooted]

@[simp] theorem State.coldBoot_stored (s : State) (step : Nat) : (s.coldBoot step).par.stored = s.par.stored := by
  simp [State.coldBoot]

@[simp] theorem State.powerOff_stored (s : State) : s.powerOff.par.stored = s.par.stored := by
  simp [State.powerOff]

@[simp] theorem State.newStart_stored (s : State) : s.newStart.par.stored = s.par.stored := by
  simp [State.newStart]

@[simp] theorem State.firmwareUp_par (s : State) : s.firmwareUp.par = s.par := by
  simp only [State.firmwareUp]
  split <;> simp

@[simp] theorem State.noteWake_par (s : State) : s.noteWake.par = s.par := by
  simp [State.noteWake]

@[simp] theorem State.controlUp_par (s : State) : s.controlUp.par = s.par := by
  simp [State.controlUp]

@[simp] theorem State.wakeUp_stored (s : State) : s.wakeUp.par.stored = s.par.stored := by
  unfold State.wakeUp
  split
  · simp
  · split <;> simp

@[simp] theorem State.latchWake_stored (s : State) (w : WakeSrc) : (s.latchWake w).par.stored = s.par.stored := by
  simp only [State.latchWake]
  split
  · simp
  · split <;> simp

@[simp] theorem execWakeSource_keepsStored (w : WakeSrc) (now : Ns) (s : State) : KeepsStored s (execWakeSource w now s) := by
  simp [execWakeSource]

@[simp] theorem State.timerWake_stored (s : State) : s.timerWake.par.stored = s.par.stored := by
  unfold State.timerWake
  split <;> simp

@[simp] theorem execWakeTimer_keepsStored (now : Ns) (s : State) : KeepsStored s (execWakeTimer now s) := by
  simp [execWakeTimer]

@[simp] theorem State.replayWake_stored (s : State) : s.replayWake.par.stored = s.par.stored := by
  unfold State.replayWake
  split <;> simp

@[simp] theorem execWakeReplayed_keepsStored (now : Ns) (s : State) : KeepsStored s (execWakeReplayed now s) := by
  simp [execWakeReplayed]

@[simp] theorem State.startEntry_par (s : State) (e : Entry) : (s.startEntry e).par = s.par := by
  simp [State.startEntry]

@[simp] theorem State.admitSleep_par (s : State) (kind : SleepKind) (r : Req) : (s.admitSleep kind r).st.par = s.par := by
  simp [State.admitSleep]

@[simp] theorem bodyPwrSleep_par (r : Req) (s : State) : (bodyPwrSleep r s).st.par = s.par := by
  simp [bodyPwrSleep]

@[simp] theorem execOpPwrSleep_keepsStored (r : Req) (s : State) : KeepsStored s (execOpPwrSleep r s) := by
  simp [execOpPwrSleep]

@[simp] theorem bodyPwrSleepDoze_par (r : Req) (s : State) : (bodyPwrSleepDoze r s).st.par = s.par := by
  simp [bodyPwrSleepDoze]

@[simp] theorem execOpPwrSleepDoze_keepsStored (r : Req) (s : State) : KeepsStored s (execOpPwrSleepDoze r s) := by
  simp [execOpPwrSleepDoze]

@[simp] theorem State.armLatch_par (s : State) : s.armLatch.par = s.par := by
  simp [State.armLatch]

@[simp] theorem State.abandonEntry_par (s : State) (e : Entry) (ap : Nat) : (s.abandonEntry e ap).par = s.par := by
  simp [State.abandonEntry]

@[simp] theorem State.axClockStops_par (s : State) (l : AxisNo) : (s.axClockStops l).par = s.par := by
  simp [State.axClockStops]

@[simp] theorem State.clearCval_par (s : State) : s.clearCval.par = s.par := by
  simp [State.clearCval]

@[simp] theorem State.pairClockStops_par (s : State) (k : PairNo) : (s.pairClockStops k).par = s.par := by
  simp [State.pairClockStops]

@[simp] theorem State.entryE2_par (s : State) (e : Entry) : (s.entryE2 e).par = s.par := by
  simp [State.entryE2]

@[simp] theorem State.entryE5_par (s : State) (e : Entry) : (s.entryE5 e).par = s.par := by
  simp [State.entryE5]

@[simp] theorem State.saveGroups_par (s : State) (sleep : Bool) : (s.saveGroups sleep).par = s.par := by
  simp [State.saveGroups]

@[simp] theorem State.abortPoint_par (s : State) (ap : Fin 4) : (s.abortPoint ap).par = s.par := by
  unfold State.abortPoint
  split <;> simp

@[simp] theorem execSleepEntryAbortPoint_keepsStored (ap : Fin 4) (now : Ns) (s : State) :
    KeepsStored s (execSleepEntryAbortPoint ap now s) := by
  simp [execSleepEntryAbortPoint]

@[simp] theorem execSleepGrantTimeout_keepsStored (now : Ns) (s : State) : KeepsStored s (execSleepGrantTimeout now s) := by
  simp only [execSleepGrantTimeout]
  split
  · split <;> simp
  · simp

@[simp] theorem State.reinitAxis_par (s : State) (l : AxisNo) : (s.reinitAxis l).par = s.par := by
  simp [State.reinitAxis]

@[simp] theorem State.reinit_par (s : State) (lost : BitVec 28) : (s.reinit lost).par = s.par := by
  simp [State.reinit]

@[simp] theorem State.resumeCheck_stored (s : State) (lost : BitVec 28) : (s.resumeCheck lost).par.stored = s.par.stored := by
  simp [State.resumeCheck]

@[simp] theorem execResumeSupplyConfirmed_keepsStored (sigs : Vector Word 28) (par : BitVec 28) (now : Ns) (s : State) :
    KeepsStored s (execResumeSupplyConfirmed sigs par now s) := by
  simp only [execResumeSupplyConfirmed]
  split <;> simp

@[simp] theorem State.supplyUp_par (s : State) : s.supplyUp.par = s.par := by
  simp [State.supplyUp]

@[simp] theorem State.pgoodEdge_par (s : State) (high : Bool) : (s.pgoodEdge high).par = s.par := by
  simp [State.pgoodEdge]

@[simp] theorem execPgoodWaitTimeout_keepsStored (now : Ns) (s : State) : KeepsStored s (execPgoodWaitTimeout now s) := by
  simp only [execPgoodWaitTimeout]
  split <;> simp

@[simp] theorem State.resetLow_stored (s : State) : s.resetLow.par.stored = s.par.stored := by
  simp [State.resetLow]

@[simp] theorem State.resetHigh_stored (s : State) (straps : Straps) : (s.resetHigh straps).par.stored = s.par.stored := by
  simp only [State.resetHigh]
  split <;> simp

@[simp] theorem execNrst_keepsStored (released : Bool) (straps : Straps) (now : Ns) (s : State) :
    KeepsStored s (execNrst released straps now s) := by
  simp only [execNrst]
  split
  · simp
  · split <;> simp

@[simp] theorem execVddAonApplied_keepsStored (crystal : Bool) (lane : BitVec 2) (s : State) :
    KeepsStored s (execVddAonApplied crystal lane s) := by
  simp only [execVddAonApplied]
  split <;> simp

@[simp] theorem execVddAonLost_keepsStored (s : State) : KeepsStored s (execVddAonLost s) := by
  simp [execVddAonLost]

@[simp] theorem State.runBank_par (s : State) (bankB : Bool) (ver : BitVec 16) (older : Bool) :
    (s.runBank bankB ver older).par = s.par := by
  simp [State.runBank]

@[simp] theorem State.noBank_par (s : State) (verA verB : BitVec 16) (headA headB : Bool) :
    (s.noBank verA verB headA headB).par = s.par := by
  simp [State.noBank]

@[simp] theorem execFirmwareImageCheck_keepsStored (verA verB : BitVec 16) (headA headB okA okB : Bool) (now : Ns) (s : State) :
    KeepsStored s (execFirmwareImageCheck verA verB headA headB okA okB now s) := by
  simp only [execFirmwareImageCheck]
  split <;> simp

@[simp] theorem execConfigurationLoad_keepsStored (now : Ns) (s : State) : KeepsStored s (execConfigurationLoad now s) := by
  simp only [execConfigurationLoad]
  split <;> simp

/-! ### The arbiter -/

@[simp] theorem State.breakClass_par (s : State) (c : Fin 4) (first : Bool) : (s.breakClass c first).par = s.par := by
  simp [State.breakClass]

@[simp] theorem State.breaks_par (s : State) (sc : Vector Q 4) : (s.breaks sc).par = s.par := by
  simp [State.breaks]

@[simp] theorem State.restoreGuarantee_par (s : State) : s.restoreGuarantee.par = s.par := by
  simp [State.restoreGuarantee]

@[simp] theorem execGuaranteeRestored_keepsStored (now : Ns) (s : State) : KeepsStored s (execGuaranteeRestored now s) := by
  simp [execGuaranteeRestored]

@[simp] theorem State.driveGrant_par (s : State) : s.driveGrant.par = s.par := by
  simp [State.driveGrant]

@[simp] theorem State.grantRaise_par (s : State) : s.grantRaise.par = s.par := by
  unfold State.grantRaise
  split <;> simp

@[simp] theorem State.powerDomain_par (s : State) (d : Fin 7) : (s.powerDomain d).par = s.par := by
  simp [State.powerDomain]

@[simp] theorem State.grantWake_par (s : State) : s.grantWake.par = s.par := by
  unfold State.grantWake
  split <;> simp

@[simp] theorem State.grantLoad_par (s : State) : s.grantLoad.par = s.par := by
  simp [State.grantLoad]

@[simp] theorem State.grantTest_par (s : State) : s.grantTest.par = s.par := by
  unfold State.grantTest
  split
  · simp
  · split <;> simp

@[simp] theorem State.dieGrant_par (s : State) : s.dieGrant.par = s.par := by
  simp [State.dieGrant]

@[simp] theorem State.arbGrant_par (s : State) : s.arbGrant.par = s.par := by
  simp [State.arbGrant]

@[simp] theorem bodyPwrStatus_par (r : Req) (s : State) : (bodyPwrStatus r s).st.par = s.par := by
  simp [bodyPwrStatus]

@[simp] theorem execOpPwrStatus_keepsStored (r : Req) (s : State) : KeepsStored s (execOpPwrStatus r s) := by
  simp [execOpPwrStatus]

/-! ### Self-test -/

@[simp] theorem State.beginTests_par (s : State) (r : Run) : (s.beginTests r).par = s.par := by
  simp [State.beginTests]

@[simp] theorem State.beginShutdown_par (s : State) (e : Entry) : (s.beginShutdown e).par = s.par := by
  simp [State.beginShutdown]

@[simp] theorem State.domainStart_par (s : State) (d : Fin 7) : (s.domainStart d).par = s.par := by
  unfold State.domainStart
  split
  · simp
  · split
    · simp
    · split <;> simp

@[simp] theorem execSelftestDomainStart_keepsStored (d : Fin 7) (now : Ns) (s : State) :
    KeepsStored s (execSelftestDomainStart d now s) := by
  simp [execSelftestDomainStart]

@[simp] theorem State.checkpoint_par (s : State) (d : Fin 7) (ok : Bool) : (s.checkpoint d ok).par = s.par := by
  unfold State.checkpoint
  split <;> simp

@[simp] theorem execSelftestCheckpoint_keepsStored (d : Fin 7) (ok : Bool) (now : Ns) (s : State) :
    KeepsStored s (execSelftestCheckpoint d ok now s) := by
  simp [execSelftestCheckpoint]

@[simp] theorem State.domainBack_par (s : State) (r : Run) (d : Fin 7) (restoreOk : Bool) :
    (s.domainBack r d restoreOk).par = s.par := by
  simp [State.domainBack]

@[simp] theorem State.domainEnd_par (s : State) (d : Fin 7) (marchOk restoreOk : Bool) :
    (s.domainEnd d marchOk restoreOk).par = s.par := by
  unfold State.domainEnd
  split <;> simp

@[simp] theorem State.writeRecord_par (s : State) (r : Run) : (s.writeRecord r).par = s.par := by
  simp only [State.writeRecord]
  split <;> simp

@[simp] theorem State.afterFull_par (s : State) (r : Run) : (s.afterFull r).par = s.par := by
  simp [State.afterFull]

@[simp] theorem State.afterDemand_par (s : State) (r : Run) : (s.afterDemand r).par = s.par := by
  simp [State.afterDemand]

@[simp] theorem State.afterShutdown_par (s : State) (r : Run) : (s.afterShutdown r).par = s.par := by
  unfold State.afterShutdown
  split <;> simp

@[simp] theorem State.enterConfigured_par (s : State) : s.enterConfigured.par = s.par := by
  simp [State.enterConfigured]

@[simp] theorem State.endRun_stored (s : State) (r : Run) (cold : Bool) : (s.endRun r cold).par.stored = s.par.stored := by
  unfold State.endRun
  split
  · simp
  · split <;> simp

@[simp] theorem State.runOver_stored (s : State) (cold : Bool) : (s.runOver cold).par.stored = s.par.stored := by
  unfold State.runOver
  split <;> simp

@[simp] theorem State.domainDone_stored (s : State) (d : Fin 7) (marchOk restoreOk : Bool) :
    (s.domainDone d marchOk restoreOk).par.stored = s.par.stored := by
  simp [State.domainDone]

@[simp] theorem State.stopDone_stored (s : State) (cause : StopCause) : (s.stopDone cause).par.stored = s.par.stored := by
  simp [State.stopDone]

@[simp] theorem bodyPwrShutdown_par (r : Req) (s : State) : (bodyPwrShutdown r s).st.par = s.par := by
  simp [bodyPwrShutdown]

@[simp] theorem execOpPwrShutdown_keepsStored (r : Req) (s : State) : KeepsStored s (execOpPwrShutdown r s) := by
  simp [execOpPwrShutdown]

@[simp] theorem bodyStStart_par (r : Req) (s : State) : (bodyStStart r s).st.par = s.par := by
  simp [bodyStStart]

@[simp] theorem execOpStStart_keepsStored (r : Req) (s : State) : KeepsStored s (execOpStStart r s) := by
  simp [execOpStStart]

@[simp] theorem State.pollTest_par (s : State) : s.pollTest.par = s.par := by
  unfold State.pollTest
  split
  · simp
  · split
    · simp
    · split <;> simp

@[simp] theorem bodyStStatus_par (r : Req) (s : State) : (bodyStStatus r s).st.par = s.par := by
  simp [bodyStStatus]

@[simp] theorem execOpStStatus_keepsStored (r : Req) (s : State) : KeepsStored s (execOpStStatus r s) := by
  simp [execOpStStatus]

@[simp] theorem execArbiterGrant_keepsStored (now : Ns) (s : State) : KeepsStored s (execArbiterGrant now s) := by
  simp [execArbiterGrant]

/-! ### Start checks -/

@[simp] theorem State.quickStart_par (s : State) : s.quickStart.par = s.par := by
  simp only [State.quickStart]
  split <;> simp

@[simp] theorem State.fullStart_par (s : State) : s.fullStart.par = s.par := by
  simp [State.fullStart]

@[simp] theorem execVerdictCheck_keepsStored (now : Ns) (s : State) : KeepsStored s (execVerdictCheck now s) := by
  simp [execVerdictCheck]

@[simp] theorem State.releaseIso_par (s : State) (d : Fin 7) : (s.releaseIso d).par = s.par := by
  simp only [State.releaseIso]
  split
  · simp
  · split <;> simp

@[simp] theorem execIsolationRelease_keepsStored (d : Fin 7) (now : Ns) (s : State) :
    KeepsStored s (execIsolationRelease d now s) := by
  simp [execIsolationRelease]

@[simp] theorem State.calibrateAll_par (s : State) : s.calibrateAll.par = s.par := by
  simp [State.calibrateAll]

@[simp] theorem State.checksPass_par (s : State) : s.checksPass.par = s.par := by
  simp [State.checksPass]

@[simp] theorem State.startChecks_par (s : State) : s.startChecks.par = s.par := by
  simp only [State.startChecks]
  split <;> simp

@[simp] theorem execStartChecks_keepsStored (now : Ns) (s : State) : KeepsStored s (execStartChecks now s) := by
  simp [execStartChecks]

@[simp] theorem State.driveReady_par (s : State) : s.driveReady.par = s.par := by
  simp [State.driveReady]

@[simp] theorem execDriveReady_keepsStored (now : Ns) (s : State) : KeepsStored s (execDriveReady now s) := by
  simp [execDriveReady]

@[simp] theorem State.restart_stored (s : State) : s.restart.par.stored = s.par.stored := by
  simp [State.restart]

/-! ### Networks -/

@[simp] theorem State.setCanQueue_par (s : State) (es : List CanEnt) : (s.setCanQueue es).par = s.par := by
  simp [State.setCanQueue]

@[simp] theorem State.canClean_par (s : State) (n : Fin 2) : (s.canClean n).par = s.par := by
  simp [State.canClean]

@[simp] theorem State.modCan_par (s : State) (n : Fin 2) (f : Can → Can) : (s.modCan n f).par = s.par := by
  simp [State.modCan]

@[simp] theorem execCanFrameSent_keepsStored (n : Fin 2) (now : Ns) (s : State) : KeepsStored s (execCanFrameSent n now s) := by
  simp only [execCanFrameSent]
  split <;> simp

@[simp] theorem execCanTxTimeout_keepsStored (n : Fin 2) (now : Ns) (s : State) : KeepsStored s (execCanTxTimeout n now s) := by
  simp only [execCanTxTimeout]
  split <;> simp

@[simp] theorem execCanBusoff_keepsStored (n : Fin 2) (now : Ns) (s : State) : KeepsStored s (execCanBusoff n now s) := by
  simp [execCanBusoff]

@[simp] theorem execCanRecovered_keepsStored (n : Fin 2) (now : Ns) (s : State) : KeepsStored s (execCanRecovered n now s) := by
  simp only [execCanRecovered]
  split <;> simp

@[simp] theorem execCanFrameReceived_keepsStored (n : Fin 2) (f : CanIn) (now : Ns) (s : State) :
    KeepsStored s (execCanFrameReceived n f now s) := by
  simp only [execCanFrameReceived]
  (repeat' split) <;> simp

@[simp] theorem State.rxDatagram_par (s : State) (ip : Word) (port lport : BitVec 16) (data : List Byte) :
    (s.rxDatagram ip port lport data).par = s.par := by
  simp [State.rxDatagram]

@[simp] theorem State.ethSend_par (s : State) (ip : Word) : (s.ethSend ip).par = s.par := by
  simp [State.ethSend]

@[simp] theorem execEthDatagramSent_keepsStored (now : Ns) (s : State) : KeepsStored s (execEthDatagramSent now s) := by
  simp only [execEthDatagramSent]
  split <;> simp

@[simp] theorem State.enqueue_par (s : State) (q : Fin 16) (w : Slot) : (s.enqueue q w).par = s.par := by
  simp [State.enqueue]

@[simp] theorem State.sendCan_par (s : State) (n : Fin 2) (addr : Word) (msg : List Byte) :
    (s.sendCan n addr msg).par = s.par := by
  simp [State.sendCan]

@[simp] theorem State.sendMsg_par (s : State) (cid : Nat) (msg : List Byte) : (s.sendMsg cid msg).par = s.par := by
  unfold State.sendMsg
  split <;> simp

@[simp] theorem State.produce_par (s : State) (k : Fin 8) (cid : Nat) (pl : List Word) : (s.produce k cid pl).par = s.par := by
  simp [State.produce]

@[simp] theorem bodyCanStatus_par (r : Req) (s : State) : (bodyCanStatus r s).st.par = s.par := by
  simp [bodyCanStatus]

@[simp] theorem execOpCanStatus_keepsStored (r : Req) (s : State) : KeepsStored s (execOpCanStatus r s) := by
  simp [execOpCanStatus]

@[simp] theorem bodyEthStatus_par (r : Req) (s : State) : (bodyEthStatus r s).st.par = s.par := by
  simp [bodyEthStatus]

@[simp] theorem execOpEthStatus_keepsStored (r : Req) (s : State) : KeepsStored s (execOpEthStatus r s) := by
  simp [execOpEthStatus]

@[simp] theorem bodyMdioRead_par (r : Req) (s : State) : (bodyMdioRead r s).st.par = s.par := by
  simp [bodyMdioRead]

@[simp] theorem bodyMdioWrite_par (r : Req) (s : State) : (bodyMdioWrite r s).st.par = s.par := by
  simp [bodyMdioWrite]

@[simp] theorem bodyMdio_par (r : Req) (s : State) : (bodyMdio r s).st.par = s.par := by
  simp [bodyMdio]

@[simp] theorem execOpMdioRead_keepsStored (r : Req) (s : State) : KeepsStored s (execOpMdioRead r s) := by
  simp [execOpMdioRead]

@[simp] theorem execOpMdioWrite_keepsStored (r : Req) (s : State) : KeepsStored s (execOpMdioWrite r s) := by
  simp [execOpMdioWrite]

@[simp] theorem bodyNovmiStatus_par (r : Req) (s : State) : (bodyNovmiStatus r s).st.par = s.par := by
  simp [bodyNovmiStatus]

@[simp] theorem execOpNovmiStatus_keepsStored (r : Req) (s : State) : KeepsStored s (execOpNovmiStatus r s) := by
  simp [execOpNovmiStatus]

/-! ### Slots and queues -/

@[simp] theorem State.aborted_par (s : State) (o : AccOp) : (s.aborted o).par = s.par := by
  simp [State.aborted]

@[simp] theorem State.abortAlign_par (s : State) (o : AccOp) : (s.abortAlign o).par = s.par := by
  unfold State.abortAlign
  split <;> simp

@[simp] theorem State.abortLevel_par (s : State) (o : AccOp) : (s.abortLevel o).par = s.par := by
  unfold State.abortLevel
  split <;> simp

@[simp] theorem State.abortSleep_par (s : State) : s.abortSleep.par = s.par := by
  simp [State.abortSleep]

@[simp] theorem State.abortTest_par (s : State) (o : AccOp) : (s.abortTest o).par = s.par := by
  unfold State.abortTest
  split <;> simp

@[simp] theorem State.abortCastle_par (s : State) (o : AccOp) : (s.abortCastle o).par = s.par := by
  simp [State.abortCastle]

@[simp] theorem State.abortPark_par (s : State) (o : AccOp) : (s.abortPark o).par = s.par := by
  simp [State.abortPark]

@[simp] theorem State.abortOp_par (s : State) (o : AccOp) : (s.abortOp o).par = s.par := by
  simp [State.abortOp]

@[simp] theorem bodyAbort_par (r : Req) (s : State) : (bodyAbort r s).st.par = s.par := by
  unfold bodyAbort
  split <;> simp

@[simp] theorem execOpAbort_keepsStored (r : Req) (s : State) : KeepsStored s (execOpAbort r s) := by
  simp [execOpAbort]

@[simp] theorem bodyPwrSleepAny_par (r : Req) (s : State) : (bodyPwrSleepAny r s).st.par = s.par := by
  simp [bodyPwrSleepAny]

@[simp] theorem State.badCrc_par (s : State) (q : BitVec 4) (e : QEntry) : (s.badCrc q e).par = s.par := by
  simp [State.badCrc]

@[simp] theorem State.leaveIdle_par (s : State) : s.leaveIdle.par = s.par := by
  simp [State.leaveIdle]

@[simp] theorem State.dropFull_par (s : State) (q : Fin 16) (e : QEntry) : (s.dropFull q e).par = s.par := by
  unfold State.dropFull
  split <;> simp

@[simp] theorem State.testDoor_par (s : State) (q : Fin 16) : (s.testDoor q).par = s.par := by
  simp [State.testDoor]

@[simp] theorem State.popDoor_par (s : State) (q : Fin 16) (ptr : Nat) : (s.popDoor q ptr).1.par = s.par := by
  simp [State.popDoor]

@[simp] theorem execTunnelResponseSend_keepsStored (s : State) : KeepsStored s (execTunnelResponseSend s) := by
  unfold execTunnelResponseSend
  split <;> simp

/-! ### Host registers -/

@[simp] theorem State.latchTime_par (s : State) : s.latchTime.par = s.par := by
  simp [State.latchTime]

@[simp] theorem State.readReg_par (s : State) (a : Nat) : (s.readReg a).1.par = s.par := by
  simp [State.readReg]

@[simp] theorem State.programPage_par (s : State) (page : Nat) : (s.programPage page).par = s.par := by
  simp [State.programPage]

@[simp] theorem State.bootCommand_stored (s : State) (key : Byte) (cmd : Nat) (valid : Bool) :
    (s.bootCommand key cmd valid).1.par.stored = s.par.stored := by
  simp [State.bootCommand]

@[simp] theorem execBootCommandComplete_keepsStored (now : Ns) (s : State) : KeepsStored s (execBootCommandComplete now s) := by
  simp only [execBootCommandComplete]
  split <;> simp

@[simp] theorem State.writeLanectl_stored (s : State) (key : Byte) (restart : Bool) :
    (s.writeLanectl key restart).1.par.stored = s.par.stored := by
  simp [State.writeLanectl]

@[simp] theorem State.clearInt_par (s : State) (v : Word) : (s.clearInt v).par = s.par := by
  simp [State.clearInt]

@[simp] theorem State.clearPar_par (s : State) (v : Word) : (s.clearPar v).par = s.par := by
  simp [State.clearPar]

@[simp] theorem State.writePlain_par (s : State) (a : Nat) (v : Word) : (s.writePlain a v).1.par = s.par := by
  simp [State.writePlain]

@[simp] theorem State.endFrame_stored (s : State) (res : Byte) (miso : List Byte) :
    (s.endFrame res miso).par.stored = s.par.stored := by
  simp [State.endFrame]

@[simp] theorem State.readWords_par (s : State) (a n : Nat) : (s.readWords a n).1.par = s.par := by
  induction n generalizing s a with
  | zero => rfl
  | succ n ih => exact (ih _ _).trans (s.readReg_par _)

@[simp] theorem State.readFrame_stored (s : State) (mosi : List Byte) (nw a : Nat) :
    (s.readFrame mosi nw a).par.stored = s.par.stored := by
  simp [State.readFrame]

/-- What an access keeps of the stored parameters, its frame of one word keeps. -/
theorem State.oneWord_keeps {s : State} {p : Cells → Prop} {f : State → State × Byte} (h : p s.par.stored) (hf : p (f s).1.par.stored) :
    p (s.oneWord f).par.stored := by
  unfold State.oneWord
  split
  · exact h
  · simpa using hf

@[simp] theorem State.oneWord_stored {s : State} {f : State → State × Byte} (h : (f s).1.par.stored = s.par.stored) :
    (s.oneWord f).par.stored = s.par.stored :=
  State.oneWord_keeps (p := (· = s.par.stored)) rfl h

@[simp] theorem execLanectlRestart_keepsStored (key : Byte) (s : State) : KeepsStored s (execLanectlRestart key s) := by
  simp [execLanectlRestart]

@[simp] theorem State.bootWrite_stored (s : State) (key : Byte) (cmd : Nat) (valid : Bool) :
    (s.bootWrite key cmd valid).1.par.stored = s.par.stored := by
  simp [State.bootWrite]

@[simp] theorem execBootctlErase_keepsStored (key : Byte) (s : State) : KeepsStored s (execBootctlErase key s) := by
  simp [execBootctlErase]

@[simp] theorem execBootctlProgram_keepsStored (key : Byte) (s : State) : KeepsStored s (execBootctlProgram key s) := by
  simp [execBootctlProgram]

@[simp] theorem execBootctlCheckBoot_keepsStored (key : Byte) (valid : Bool) (s : State) :
    KeepsStored s (execBootctlCheckBoot key valid s) := by
  simp [execBootctlCheckBoot]

@[simp] theorem execIntstatClear_keepsStored (value : Word) (s : State) : KeepsStored s (execIntstatClear value s) := by
  simp [execIntstatClear]

@[simp] theorem execParrecClear_keepsStored (value : Word) (s : State) : KeepsStored s (execParrecClear value s) := by
  simp [execParrecClear]

@[simp] theorem execGtimelRead_keepsStored (now : Ns) (s : State) : KeepsStored s (execGtimelRead now s) := by
  refine (keepsStored_next _ _).2 ((State.oneWord_stored ?_).trans rfl)
  split <;> simp

@[simp] theorem State.takePosts_stored (s : State) : s.takePosts.par.stored = s.par.stored := by
  simp only [State.takePosts]
  split <;> split <;> simp

@[simp] theorem State.countTick_par (s : State) : s.countTick.par = s.par := by
  simp [State.countTick]

@[simp] theorem State.siTicks_stored (s : State) (x : AonIn) : (s.siTicks x).par.stored = s.par.stored := by
  simp [State.siTicks]

@[simp] theorem State.pinTick_stored (s : State) (x : AonIn) : (s.pinTick x).par.stored = s.par.stored := by
  simp [State.pinTick]

@[simp] theorem State.aonStep_stored (s : State) (x : AonIn) : (s.aonStep x).par.stored = s.par.stored := by
  simp [State.aonStep]

@[simp] theorem execAonTick_keepsStored (x : AonIn) (now : Ns) (s : State) : KeepsStored s (execAonTick x now s) := by
  simp [execAonTick]

/-! ### The vehicle cycle -/

@[simp] theorem State.cycSchedule_par (s : State) (work boundary : Ns) : (s.cycSchedule work boundary).par = s.par := by
  simp [State.cycSchedule]

@[simp] theorem State.tableEffect_stored (s : State) (due : List Nat) (xs ys : PSpec) (n l : Nat) (ax : Option AxisNo) :
    (s.tableEffect due xs ys n l ax).par.stored = s.par.stored := by
  unfold State.tableEffect
  extract_lets ps
  split
  · rfl
  · split
    · simp
    · exact foldl_stored (fun x p => State.setEff_stored x _ _) _ s

@[simp] theorem State.shareEffect_stored (s : State) (due : List Nat) : (s.shareEffect due).par.stored = s.par.stored := by
  unfold State.shareEffect
  extract_lets ps
  split
  · rfl
  · split
    · exact foldl_stored (fun x p => State.setEff_stored x _ _) _ s
    · simp

@[simp] theorem State.triggerWritten_par (s : State) (pid : Nat) : (s.triggerWritten pid).par = s.par := by
  unfold State.triggerWritten
  split <;> simp

@[simp] theorem State.cycleEffect_stored (s : State) : s.cycleEffect.par.stored = s.par.stored := by
  refine (foldl_stored (fun x p => ?_) _ _).trans ?_
  · simp
  · simp

@[simp] theorem State.loadCycle_par (s : State) : s.loadCycle.par = s.par := by
  simp [State.loadCycle]

@[simp] theorem State.boundaryEffect_stored (s : State) : s.boundaryEffect.par.stored = s.par.stored := by
  simp [State.boundaryEffect]

@[simp] theorem State.vssCycle_par (s : State) : s.vssCycle.par = s.par := by
  simp [State.vssCycle]

@[simp] theorem State.inputCycle_par (s : State) : s.inputCycle.par = s.par := by
  simp [State.inputCycle]

@[simp] theorem State.steerInputs_par (s : State) : s.steerInputs.par = s.par := by
  simp [State.steerInputs]

@[simp] theorem State.brakeInputs_par (s : State) : s.brakeInputs.par = s.par := by
  simp [State.brakeInputs]

@[simp] theorem State.computeCycle_par (s : State) (gOld : Vector Q 2) (inv : Bool) : (s.computeCycle gOld inv).par = s.par := by
  simp [State.computeCycle]

@[simp] theorem State.produceCycle_par (s : State) : s.produceCycle.par = s.par := by
  simp only [State.produceCycle]
  split <;> simp

@[simp] theorem State.resetSums_par (s : State) : s.resetSums.par = s.par := by
  simp [State.resetSums]

@[simp] theorem State.functionCycle_par (s : State) (cycle : Int) : (s.functionCycle cycle).par = s.par := by
  simp [State.functionCycle]

@[simp] theorem State.splitCycle_par (s : State) : s.splitCycle.par = s.par := by
  simp [State.splitCycle]

@[simp] theorem State.sweepAxis_par (s : State) (l : AxisNo) : (s.sweepAxis l).par = s.par := by
  simp [State.sweepAxis]

@[simp] theorem State.clearCycle_par (s : State) : s.clearCycle.par = s.par := by
  simp [State.clearCycle]

@[simp] theorem State.enterIdle_par (s : State) : s.enterIdle.par = s.par := by
  simp [State.enterIdle]

@[simp] theorem State.cycleInputs_par (s : State) : s.cycleInputs.par = s.par := by
  simp [State.cycleInputs]

@[simp] theorem State.startLevel_par (s : State) : s.startLevel.par = s.par := by
  unfold State.startLevel
  split <;> simp

@[simp] theorem execPlChangeStart_keepsStored (now : Ns) (s : State) : KeepsStored s (execPlChangeStart now s) := by
  simp [execPlChangeStart]

@[simp] theorem State.attemptTimeout_par (s : State) : s.attemptTimeout.par = s.par := by
  unfold State.attemptTimeout
  split
  · split <;> simp
  · simp

end Sys2Proof.Machine

namespace Sys2Proof.Machine

/-! ## The range of a stored word -/

/-- A word stored under a PID: the PID is implemented, and the word lies in the range of its row (R6). -/
def entryInRange (e : Nat × Word) : Bool :=
  match lookupPid e.1 with
  | some (p, _, _) => p.inRange e.2
  | none => false

/-- Every entry of a parameter store lies in the range of its row. -/
def Cells.InRange (c : Cells) : Prop := ∀ e ∈ c, entryInRange e = true

theorem State.paramsInRange_iff (s : State) : s.paramsInRange = true ↔ s.par.stored.InRange :=
  List.all_eq_true (p := entryInRange)

theorem Cells.mem_write {d : Nat → Word} {c : Cells} {a : Nat} {v : Word} {e : Nat × Word} (h : e ∈ Cells.write d c a v) :
    e = (a, v) ∨ e ∈ c := by
  induction c with
  | nil =>
    unfold Cells.write at h
    split at h <;> simp_all
  | cons x r ih =>
    unfold Cells.write at h
    grind

theorem Cells.InRange.write {d : Nat → Word} {c : Cells} {a : Nat} {v : Word} (h : c.InRange) (hv : entryInRange (a, v) = true) :
    (Cells.write d c a v).InRange := by
  intro e he
  obtain rfl | he := Cells.mem_write he
  · exact hv
  · exact h e he

@[simp] theorem Cells.inRange_ite (p : Prop) [Decidable p] (a b : Cells) :
    Cells.InRange (if p then a else b) ↔ if p then a.InRange else b.InRange := by
  split <;> rfl

theorem foldl_inRange {α : Type} {f : State → α → State} {is : List α} {s : State} (h : s.par.stored.InRange)
    (k : ∀ x : State, x.par.stored.InRange → ∀ i ∈ is, (f x i).par.stored.InRange) : (is.foldl f s).par.stored.InRange :=
  List.foldlRecOn (motive := fun x : State => x.par.stored.InRange) is f h k

/-! ## The writes of a parameter (R404, R414) -/

@[simp] theorem State.applyWrite_stored (s : State) (src : Source) (tag : BitVec 16) (pid : Nat) (v : Word) :
    (s.applyWrite src tag pid v).par.stored = Cells.write storeD s.par.stored pid v := by
  unfold State.applyWrite
  simp only [State.logEntry_par]
  split
  · split
    · rfl
    · split
      · rfl
      · split <;> simp [State.setStored]
  · rfl

theorem State.applyWrite_inRange {s : State} {pid : Nat} {v : Word} (h : s.par.stored.InRange) (hv : entryInRange (pid, v) = true)
    (src : Source) (tag : BitVec 16) : (s.applyWrite src tag pid v).par.stored.InRange := by
  rw [State.applyWrite_stored]
  exact h.write hv

/-- An entry that passes the check belongs to a row and lies in its range. -/
theorem State.checkWrite_inRange {s : State} {pid : Nat} {v w : Word} (h : s.checkWrite pid v = (0, w)) : entryInRange (pid, w) = true := by
  unfold State.checkWrite at h
  unfold entryInRange
  cases hp : lookupPid pid with
  | none => simp [hp] at h
  | some x =>
    obtain ⟨p, l, i⟩ := x
    simp only [hp] at h ⊢
    split at h
    · simp at h
    · split at h
      · next hc => exact absurd (congrArg Prod.fst h) hc
      · split at h
        · simp at h
        · next hin =>
          have hr : p.inRange (v &&& p.mask) = true := by simpa using hin
          split at h
          · simp at h
          · obtain ⟨-, rfl⟩ := Prod.mk.inj h
            exact hr

/-- Entries that pass their checks in order belong to rows and lie in their ranges. -/
theorem State.checkEntries_inRange {s : State} {i j : Nat} {es out : List (Nat × Word)} (h : s.checkEntries i es = (0, j, out)) :
    ∀ e ∈ out, entryInRange e = true := by
  induction es generalizing s i j out with
  | nil => simp_all [State.checkEntries]
  | cons x r ih =>
    obtain ⟨pid, v⟩ := x
    unfold State.checkEntries at h
    cases hc : s.checkWrite pid v with
    | mk c w =>
      cases hr : (s.setStored pid w).checkEntries (i + 1) r with
      | mk c' jo =>
        simp only [hc, hr] at h
        split at h
        · simp_all
        · next hc0 =>
          obtain rfl := not_not.1 hc0
          obtain ⟨rfl, rfl, rfl⟩ := h
          intro e he
          obtain rfl | he := List.mem_cons.1 he
          · exact State.checkWrite_inRange hc
          · exact ih hr e he

/-- OP_PAR_WRITE stores entries that have passed their checks, and nothing else (R414). -/
theorem bodyParWrite_inRange (r : Req) {s : State} (h : s.par.stored.InRange) : (bodyParWrite r s).st.par.stored.InRange := by
  unfold bodyParWrite
  extract_lets n
  split
  · exact h
  · split
    · exact h
    · cases hc : s.checkEntries 0 (writeEntries n r.payload) with
      | mk c x =>
        simp only []
        split
        · exact h
        · next hc0 =>
          rw [not_not.1 hc0] at hc
          exact foldl_inRange h fun t ht e he => t.applyWrite_inRange ht (State.checkEntries_inRange hc e he) r.src r.tag

/-- Every word lies in the range of com.off (R106), which the alignment run writes. -/
theorem comOff_inRange (l : AxisNo) (v : Word) : entryInRange (P.comOff.pid l.val 0, v) = true := by
  have hp : (lookupPid (P.comOff.pid l.val 0)).map Prod.fst = some P.comOff := by
    revert l
    decide
  obtain ⟨⟨p, x⟩, hx, rfl⟩ := Option.map_eq_some_iff.1 hp
  have hv := v.isLt
  simp only [entryInRange, hx]
  simp [PSpec.inRange, PSpec.rawInt, P.comOff]
  omega

/-! ## Serving a request -/

/-- Of the opcodes of groups 01h to 04h, OP_PAR_WRITE alone stores a parameter. -/
theorem opsLow_stored : ∀ x ∈ opsLow, x.2 = bodyParWrite ∨ ∀ r s, (x.2 r s).st.par.stored = s.par.stored := by
  simp [opsLow]

/-- No opcode of groups 05h to 0Fh stores a parameter. -/
theorem opsHigh_stored : ∀ x ∈ opsHigh, ∀ r s, (x.2 r s).st.par.stored = s.par.stored := by
  simp [opsHigh]

theorem opRow_inRange (opc : BitVec 16) (r : Req) {s : State} (h : s.par.stored.InRange) : ((opRow opc).2 r s).st.par.stored.InRange := by
  unfold opRow
  cases hf : (opsLow ++ opsHigh).find? (fun x => x.1.opc == opc) with
  | none => simpa using h
  | some x =>
    rw [Option.getD_some]
    obtain hl | hl := List.mem_append.1 (List.mem_of_find?_eq_some hf)
    · obtain hx | hx := opsLow_stored x hl
      · rw [hx]
        exact bodyParWrite_inRange r h
      · rwa [hx]
    · rwa [opsHigh_stored x hl]

theorem State.serveReq_inRange {s : State} (h : s.par.stored.InRange) (opc : BitVec 16) (r : Req) : (s.serveReq opc r).par.stored.InRange :=
  State.serve_keeps _ (fun _ hx => opRow_inRange opc r hx) h

theorem State.serveSlot_inRange {s : State} (h : s.par.stored.InRange) (q : Fin 4) (e : QEntry) : (s.serveSlot q e).par.stored.InRange := by
  unfold State.serveSlot
  extract_lets r opc
  split
  · simpa using h
  · split
    · simpa using h
    · exact s.serveReq_inRange h opc r

theorem State.serveQueue_inRange {s : State} (h : s.par.stored.InRange) (q : Fin 4) (n : Nat) : (s.serveQueue q n).par.stored.InRange := by
  induction n generalizing s with
  | zero => exact h
  | succ n ih =>
    unfold State.serveQueue
    split
    · exact h
    · exact ih (State.serveSlot_inRange (by simpa using h) q _)

theorem State.serveBoth_inRange {s : State} (h : s.par.stored.InRange) (n : Nat) : (s.serveBoth n).par.stored.InRange := by
  induction n generalizing s with
  | zero => exact h
  | succ n ih => exact ih (State.serveQueue_inRange (s.serveQueue_inRange h _ 1) _ 1)

theorem State.serveCycle_inRange {s : State} (h : s.par.stored.InRange) : s.serveCycle.par.stored.InRange := by
  rw [State.serveCycle, State.modMb_par]
  apply State.serveBoth_inRange
  exact s.serveQueue_inRange h 1 32

theorem State.arrived_inRange {s : State} (h : s.par.stored.InRange) (q : Fin 4) (e : QEntry) : (s.arrived q e).par.stored.InRange := by
  unfold State.arrived
  extract_lets t
  have ht : t.par.stored.InRange := by simpa [t] using h
  split
  · exact t.serveQueue_inRange ht 0 32
  · split
    · simpa using ht
    · exact ht

theorem State.accept_inRange {s : State} (h : s.par.stored.InRange) (q : Fin 16) (e : QEntry) : (s.accept_ q e).par.stored.InRange := by
  unfold State.accept_
  split
  · simpa using h
  · simp only []
    split
    · exact State.arrived_inRange (by simpa using h) _ e
    · simpa using h

theorem State.pushDoor_inRange {s : State} (h : s.par.stored.InRange) (q : Fin 16) (ptr : Nat) :
    (s.pushDoor q ptr).1.par.stored.InRange := by
  unfold State.pushDoor
  split
  · exact s.accept_inRange h q _
  · exact h

theorem State.tunnelSlot_inRange {s : State} (h : s.par.stored.InRange) (src : Source) (w : Slot) :
    (s.tunnelSlot src w).par.stored.InRange := by
  unfold State.tunnelSlot
  extract_lets r
  split
  · exact s.accept_inRange h _ _
  · split <;> simpa using h

theorem State.tunnelDatagram_inRange {s : State} (h : s.par.stored.InRange) (ip : Word) (port : BitVec 16) (data : List Byte) :
    (s.tunnelDatagram ip port data).par.stored.InRange := by
  unfold State.tunnelDatagram
  split
  · simpa using h
  · exact foldl_inRange h fun t ht w _ => t.tunnelSlot_inRange ht _ w

theorem State.ethReceive_inRange {s : State} (h : s.par.stored.InRange) (k : EthKind) : (s.ethReceive k).par.stored.InRange := by
  unfold State.ethReceive
  extract_lets t
  have ht : t.par.stored.InRange := by simpa [t] using h
  split
  · split
    · exact ht
    · split
      · exact t.tunnelDatagram_inRange ht _ _ _
      · simpa using ht
  all_goals simpa using ht

theorem State.serveHeld_inRange {s : State} (h : s.par.stored.InRange) : s.serveHeld.par.stored.InRange := by
  unfold State.serveHeld
  split
  · exact h
  · exact foldl_inRange h fun t ht x _ => t.serveReq_inRange ht _ _

/-! ## Register writes over SPI (R490) -/

theorem State.postWrite_inRange {s : State} (h : s.par.stored.InRange) (timer : Bool) (v : Word) :
    (s.postWrite timer v).1.par.stored.InRange := by
  unfold State.postWrite
  split
  · exact h
  · extract_lets pid
    cases hc : s.checkWrite pid (if timer then v else v &&& 0x7F) with
    | mk c w =>
      simp only []
      split
      · exact h
      · next hc0 =>
        rw [not_not.1 hc0] at hc
        simpa only using s.applyWrite_inRange h (State.checkWrite_inRange hc) .spi 0

theorem State.doorbell_inRange {s : State} (h : s.par.stored.InRange) (q : Fin 16) (ptr : Nat) :
    (s.doorbell q ptr).1.par.stored.InRange := by
  unfold State.doorbell
  split
  · simp only []
    split <;> simpa using h
  · show (if qToHost q = true then s.popDoor q ptr else s.pushDoor q ptr).1.par.stored.InRange
    split
    · simpa using h
    · exact s.pushDoor_inRange h q ptr

theorem State.writeReg_inRange {s : State} (h : s.par.stored.InRange) (a : Nat) (v : Word) : (s.writeReg a v).1.par.stored.InRange := by
  have hp := s.postWrite_inRange h (a = 0x88) v
  unfold State.writeReg
  split
  · exact s.doorbell_inRange h _ _
  · simp [h, hp]

theorem State.writeWords_inRange {s : State} (h : s.par.stored.InRange) (a : Nat) (ws : List Word) :
    (s.writeWords a ws).1.par.stored.InRange := by
  induction ws generalizing s a with
  | nil => exact h
  | cons v vs ih => exact ih (s.writeReg_inRange h _ v) _

theorem State.writeFrame_inRange {s : State} (h : s.par.stored.InRange) (mosi : List Byte) (nw a : Nat) :
    (s.writeFrame mosi nw a).par.stored.InRange := by
  unfold State.writeFrame
  extract_lets sum n data out
  split
  · rwa [State.endFrame_stored]
  · split
    · rwa [State.endFrame_stored]
    · simp only [State.endFrame_stored]
      exact s.writeWords_inRange h a _

theorem State.spiFrame_inRange {s : State} (h : s.par.stored.InRange) (mosi : List Byte) : (s.spiFrame mosi).par.stored.InRange := by
  have hw := s.writeFrame_inRange h mosi
  unfold State.spiFrame
  simp [h, hw]

/-! ## The vehicle cycle, which serves the queues (R400, R423) -/

theorem State.vehicleCycle_inRange {s : State} (h : s.par.stored.InRange) (cycle : Int) :
    (s.vehicleCycle cycle).par.stored.InRange := by
  simp only [State.vehicleCycle, State.enterIdle_par, State.driveReady_par, State.pollTest_par, State.suCheck_par]
  apply State.serveCycle_inRange
  simp [h]

theorem State.runCycle_inRange {s : State} (h : s.par.stored.InRange) (work boundary : Ns) :
    (s.runCycle work boundary).par.stored.InRange := by
  unfold State.runCycle
  split
  · exact h
  · extract_lets u
    have hu : u.par.stored.InRange := by simpa [u] using h
    split
    · simpa using hu
    · exact u.vehicleCycle_inRange hu _

theorem State.resumeCycles_inRange {s : State} (h : s.par.stored.InRange) : s.resumeCycles.par.stored.InRange := by
  unfold State.resumeCycles
  split
  · exact h
  · exact foldl_inRange h fun t ht x _ => t.runCycle_inRange ht _ _

/-! ## Commands -/

/-- The next state of an outcome keeps every stored parameter in its range when `s` does. -/
def KeepsRange (s : State) (o : Out) : Prop := s.par.stored.InRange → ∀ t, o = .next t → t.par.stored.InRange

theorem KeepsStored.keepsRange {s : State} {o : Out} (h : KeepsStored s o) : KeepsRange s o := fun hs t ht => by
  rwa [h t ht]

theorem keepsRange_next {s t : State} (h : s.par.stored.InRange → t.par.stored.InRange) : KeepsRange s (.next t) := by
  rintro hs _ ⟨⟩
  exact h hs

theorem execOpParWrite_keepsRange (r : Req) (s : State) : KeepsRange s (execOpParWrite r s) :=
  keepsRange_next fun h => State.serve_keeps _ (fun _ hx => bodyParWrite_inRange r hx) h

/-- The alignment run writes com.off, whose range holds every word (R106). -/
theorem execAlignHoldEnd_keepsRange (l : AxisNo) (now : Ns) (s : State) : KeepsRange s (execAlignHoldEnd l now s) := by
  unfold execAlignHoldEnd
  extract_lets u c
  split
  · split
    · next o _ _ _ =>
      refine keepsRange_next fun h => ?_
      simpa using u.applyWrite_inRange h (comOff_inRange l _) o.req.src o.req.tag
    · exact keepsRange_next id
  · exact keepsRange_next id

theorem execQueueDoorbellPush_keepsRange (q : Fin 16) (ptr : BitVec 8) (s : State) : KeepsRange s (execQueueDoorbellPush q ptr s) :=
  keepsRange_next fun h => State.oneWord_keeps h (s.doorbell_inRange h q _)

theorem execQueueDoorbellPop_keepsRange (q : Fin 16) (ptr : BitVec 8) (s : State) : KeepsRange s (execQueueDoorbellPop q ptr s) :=
  keepsRange_next fun h => State.oneWord_keeps h (s.doorbell_inRange h q _)

theorem execAonPostedWrite_keepsRange (timer : Bool) (v : Word) (s : State) : KeepsRange s (execAonPostedWrite timer v s) :=
  keepsRange_next fun h => State.oneWord_keeps h (s.postWrite_inRange h timer v)

theorem execRegisterWrite_keepsRange (mosi : List Byte) (s : State) : KeepsRange s (execRegisterWrite mosi s) :=
  keepsRange_next fun h => s.spiFrame_inRange h mosi

theorem execSpiReadFrame_keepsRange (mosi : List Byte) (s : State) : KeepsRange s (execSpiReadFrame mosi s) :=
  keepsRange_next fun h => s.spiFrame_inRange h mosi

theorem execEthFrameReceived_keepsRange (f : EthIn) (now : Ns) (s : State) : KeepsRange s (execEthFrameReceived f now s) := by
  refine keepsRange_next fun h => ?_
  split
  · exact (s.at now).ethReceive_inRange h _
  · exact h

theorem execSelftestDomainDone_keepsRange (d : Fin 7) (marchOk restoreOk : Bool) (now : Ns) (s : State) :
    KeepsRange s (execSelftestDomainDone d marchOk restoreOk now s) :=
  keepsRange_next fun h => State.serveHeld_inRange (by simpa using h)

theorem execSelftestStop_keepsRange (cause : StopCause) (now : Ns) (s : State) : KeepsRange s (execSelftestStop cause now s) :=
  keepsRange_next fun h => State.serveHeld_inRange (by simpa using h)

theorem execVehicleCycleStart_keepsRange (work now : Ns) (s : State) : KeepsRange s (execVehicleCycleStart work now s) := by
  unfold execVehicleCycleStart
  split
  · exact keepsRange_next id
  · extract_lets u
    refine keepsRange_next fun h => ?_
    have hu : u.par.stored.InRange := State.resumeCycles_inRange (by simpa using h)
    clear_value u
    split
    · exact hu
    · exact u.runCycle_inRange hu work now

theorem execPlAttemptTimeout_keepsRange (now : Ns) (s : State) : KeepsRange s (execPlAttemptTimeout now s) :=
  keepsRange_next fun h => State.resumeCycles_inRange (by simpa using h)

theorem execPmbusTransaction_keepsRange (kind : PmbKind) (result : PmbResult) (now : Ns) (s : State) :
    KeepsRange s (execPmbusTransaction kind result now s) := by
  refine keepsRange_next fun h => State.resumeCycles_inRange ?_
  split <;> simpa using h

theorem execPgoodChange_keepsRange (high : Bool) (now : Ns) (s : State) : KeepsRange s (execPgoodChange high now s) :=
  keepsRange_next fun h => State.resumeCycles_inRange (by simpa using h)

/-- Every command keeps the stored parameters in their ranges. The commands named here can reach a parameter write: by OP_PAR_WRITE itself or
a queue that it waits in, by a register, or by the alignment run. Every other one leaves the store alone. -/
theorem exec_keepsRange (i : Instr) (s : State) : KeepsRange s (exec i s) := by
  cases i with
  | opParWrite r => exact execOpParWrite_keepsRange r s
  | alignHoldEnd l now => exact execAlignHoldEnd_keepsRange l now s
  | queueDoorbellPush q ptr => exact execQueueDoorbellPush_keepsRange q ptr s
  | queueDoorbellPop q ptr => exact execQueueDoorbellPop_keepsRange q ptr s
  | aonPostedWrite timer v => exact execAonPostedWrite_keepsRange timer v s
  | registerWrite mosi => exact execRegisterWrite_keepsRange mosi s
  | spiReadFrame mosi => exact execSpiReadFrame_keepsRange mosi s
  | ethFrameReceived f now => exact execEthFrameReceived_keepsRange f now s
  | selftestDomainDone d m r now => exact execSelftestDomainDone_keepsRange d m r now s
  | selftestStop cause now => exact execSelftestStop_keepsRange cause now s
  | vehicleCycleStart work now => exact execVehicleCycleStart_keepsRange work now s
  | plAttemptTimeout now => exact execPlAttemptTimeout_keepsRange now s
  | pmbusTransaction kind result now => exact execPmbusTransaction_keepsRange kind result now s
  | pgoodChange high now => exact execPgoodChange_keepsRange high now s
  | _ => exact KeepsStored.keepsRange (by simp [exec])

/-- Settles O4: a step runs the command at the front of the queue, and every command keeps the stored parameters in their ranges. -/
theorem stepKeepsParametersInRange : Obligations.StepKeepsParametersInRange := by
  intro s t _ hs ht
  rw [State.paramsInRange_iff] at hs ⊢
  unfold step at ht
  split at ht
  · cases ht
    exact hs
  · next c rest _ => exact exec_keepsRange c { s with pending := rest } hs t ht

end Sys2Proof.Machine

namespace Sys2Proof.Machine

/-! ## The register rows (R481 to R497)

A row with a name of its own is a frame of one word: the access to its register, and the end of the frame with the access's result. -/

/-- A frame of one word over a slave that answers: the access, and the frame's end with its result (R481). -/
theorem State.oneWord_spiOn {s : State} (h : s.spiOn = true) (f : State → State × Byte) :
    s.oneWord f = (f s).1.endFrame (f s).2 (f s).1.regs.miso := by
  simp [State.oneWord, h]

/-- What a restart leaves: step 1 of BOOT at PL1, the always-on domain, the stored parameters and SCRATCH as they were, every axis off, and
no claim (R486). -/
theorem State.restart_eq (s : State) :
    s.restart.life.st = .boot ∧ s.restart.life.step = 1 ∧ s.restart.life.pl = 1 ∧ s.restart.aon = s.aon ∧
      s.restart.par.stored = s.par.stored ∧ s.restart.regs.scratch = s.regs.scratch ∧
      (∀ l : AxisNo, s.restart.ax[l].en = false ∧ s.restart.ax[l].pwm.gates = false) ∧ s.restart.twin.claim = false := by
  refine ⟨rfl, rfl, rfl, rfl, rfl, rfl, fun l => ?_, rfl⟩
  have hl : s.restart.ax[l] = s.ax[l].rebooted := by simp [State.restart, State.coldBoot, State.rebooted]
  rw [hl]
  exact ⟨rfl, rfl⟩

/-- A write of PWRWAKE or PWRWTIMER in the first row of R487 that passes its check is the parameter write (R489, R490). -/
theorem State.postWrite_ok {s : State} {timer : Bool} {v w : Word} (hr : s.spiRow = 0)
    (hc : s.checkWrite (if timer then 0xDF03 else 0xDF02) (if timer then v else v &&& 0x7F) = (0, w)) :
    s.postWrite timer v = (s.applyWrite .spi 0 (if timer then 0xDF03 else 0xDF02) w, 0) := by
  cases timer <;> simp_all [State.postWrite, P.pwrWake, P.pwrWtimer]

theorem lookupPid_pwrWake : lookupPid 0xDF02 = some (P.pwrWake, 0, 0) := by decide

theorem lookupPid_pwrWtimer : lookupPid 0xDF03 = some (P.pwrWtimer, 0, 0) := by decide

/-- Of the always-on domain, an event touches the record of late events only (R506). -/
def State.lateOnly (s t : State) : Prop := { t.aon with late := s.aon.late } = s.aon

theorem State.lateOnly_trans {s t u : State} (h : s.lateOnly t) (k : t.lateOnly u) : s.lateOnly u := by
  unfold State.lateOnly at *
  rw [← k] at h
  exact h

theorem State.raise_lateOnly (s : State) (code : Nat) (sev : Sev) (ax : Option AxisNo) (args : List Word) :
    s.lateOnly (s.raise code sev ax args) := by
  unfold State.raise State.queueEvent State.pushEvent State.lateOnly
  simp only []
  split
  · split <;> rfl
  · rfl

theorem State.bump_lateOnly (s : State) (i : Nat) : s.lateOnly (s.bump i) := by
  unfold State.bump
  simp only []
  split
  · exact State.raise_lateOnly ..
  · rfl

theorem State.push_lateOnly (s : State) (q : Fin 16) (e : QEntry) : s.lateOnly (s.push q e) := by
  unfold State.push
  simp only []
  split
  · rfl
  · split
    · exact s.bump_lateOnly _
    · exact State.lateOnly_trans (s.bump_lateOnly (qCnt q)) (State.raise_lateOnly ..)

theorem State.logEntry_lateOnly (s : State) (src : Source) (tag : BitVec 16) (id kind : Nat) (old new : Word) :
    s.lateOnly (s.logEntry src tag id kind old new) := by
  unfold State.logEntry
  exact State.push_lateOnly ..

@[simp] theorem State.logEntry_ax (s : State) (src : Source) (tag : BitVec 16) (id kind : Nat) (old new : Word) :
    (s.logEntry src tag id kind old new).ax = s.ax := by
  simp [State.logEntry]

@[simp] theorem State.logEntry_life (s : State) (src : Source) (tag : BitVec 16) (id kind : Nat) (old new : Word) :
    (s.logEntry src tag id kind old new).life = s.life := by
  simp [State.logEntry]

theorem State.lateOnly.postWake {s t : State} (h : s.lateOnly t) : t.aon.postWake = s.aon.postWake := by
  rw [← show _ = s.aon from h]

theorem State.lateOnly.postTimer {s t : State} (h : s.lateOnly t) : t.aon.postTimer = s.aon.postTimer := by
  rw [← show _ = s.aon from h]

/-- A written wake parameter waits in the always-on domain; the axes and the lane state stay (R490). -/
theorem State.applyWrite_wake (s : State) (timer : Bool) (w : Word) {t : State}
    (ht : t = s.applyWrite .spi 0 (if timer then 0xDF03 else 0xDF02) w) :
    (if timer then t.aon.postTimer else t.aon.postWake) = some w ∧ t.ax = s.ax ∧ t.life = s.life := by
  subst ht
  cases timer
  · simp only [State.applyWrite, lookupPid_pwrWake, Bool.false_eq_true, if_false, if_true]
    exact ⟨(State.logEntry_lateOnly ..).postWake, State.logEntry_ax .., State.logEntry_life ..⟩
  · have hne : P.pwrWtimer.base ≠ P.pwrWake.base := by decide
    simp only [State.applyWrite, lookupPid_pwrWtimer, if_true, if_neg hne]
    exact ⟨(State.logEntry_lateOnly ..).postTimer, State.logEntry_ax .., State.logEntry_life ..⟩

/-- LANECTL without its key writes nothing (R486). -/
theorem State.writeLanectl_wrongKey (s : State) {key : Byte} (h : key ≠ 0x5A) (restart : Bool) : s.writeLanectl key restart = (s, 0) :=
  if_pos (Or.inl h)

/-- LANECTL with its key restarts the lane where it may be restarted (R486). -/
theorem State.writeLanectl_key (s : State) : s.writeLanectl 0x5A true = if s.mayRestart then (s.restart, 0) else (s, resRowr) := by
  simp [State.writeLanectl]

/-- The first two rows of R487 serve the global time and the parity record. -/
theorem servedIn_of_lt_two {row : Nat} (h : row < 2) : servedIn row .gtime = true ∧ servedIn row .parity = true := by
  have h01 : row = 0 ∨ row = 1 := by omega
  obtain rfl | rfl := h01 <;> exact ⟨rfl, rfl⟩

/-- Settles O24: each row is a frame of one word over a slave that answers, and its access is the write or the read of its register. -/
theorem registerRowsAct : Obligations.RegisterRowsAct := by
  intro s hon
  have hrow : ∀ f : State → State × Byte, s.oneWord f = (f s).1.endFrame (f s).2 (f s).1.regs.miso := State.oneWord_spiOn hon
  refine ⟨fun hm => ⟨s.restart, ?_, s.restart_eq⟩, fun key hk => ?_, fun hm => ?_, fun v => ?_, fun v hv => ?_, fun now hg => ?_,
    fun timer v w hr hc => ⟨_, ?_, rfl, s.applyWrite_wake timer w rfl⟩⟩
  · simp only [exec, execLanectlRestart, hrow, s.writeLanectl_key, hm, if_true]
  · simp only [exec, execLanectlRestart, hrow, s.writeLanectl_wrongKey hk]
  · simp only [exec, execLanectlRestart, hrow, s.writeLanectl_key, hm, Bool.false_eq_true, if_false]
  · simp only [exec, execIntstatClear, hrow]
    rfl
  · simp only [exec, execParrecClear, hrow, (servedIn_of_lt_two hv).2, if_true]
    rfl
  · have hs : servedIn (s.at now).spiRow .gtime = true := (servedIn_of_lt_two hg).1
    simp only [exec, execGtimelRead, State.oneWord_spiOn (s := s.at now) hon, hs, if_true]
    rfl
  · simp only [exec, execAonPostedWrite, hrow, State.postWrite_ok hr hc]

end Sys2Proof.Machine

namespace Sys2Proof.Machine

/-! ## What keeps the stores in canonical form

Each operation of the model has its lemma here. Where it writes no store, `f_canonical` is an equation; where it writes one,
`f_canonical` is the equivalence of `canonical_iff`, which says that it keeps the form. An equivalence with `s.canonical` to its left lets
`simp` take an operation apart down to the state it began with, which an implication with a premise does not. -/

/-- `t` is in canonical form, and `s` was not. -/
def Mended (s t : State) : Prop := ¬ s.canonical = true ∧ t.canonical = true

/-- An operation from `s` to `t` that keeps the canonical form, as an equivalence for `simp`. -/
theorem canonical_iff {s t : State} (h : s.canonical = true → t.canonical = true) :
    t.canonical = true ↔ s.canonical = true ∨ Mended s t := by
  by_cases hs : s.canonical = true <;> simp [Mended, hs, h]

@[simp] theorem State.ite_canonical (c : Prop) [Decidable c] (a b : State) :
    (if c then a else b).canonical = if c then a.canonical else b.canonical :=
  apply_ite State.canonical c a b

theorem State.ite_canonical_iff (c : Prop) [Decidable c] (a b : State) :
    (if c then a else b).canonical = true ↔ if c then a.canonical = true else b.canonical = true := by
  split <;> rfl

@[simp] theorem Su.ite_eng (c : Prop) [Decidable c] (a b : Su) : (if c then a else b).eng = if c then a.eng else b.eng :=
  apply_ite Su.eng c a b

@[simp] theorem Axis.ite_eng (c : Prop) [Decidable c] (a b : Axis) : (if c then a else b).eng = if c then a.eng else b.eng :=
  apply_ite Axis.eng c a b

/-- The parts of the state that hold no store. -/
@[simp] theorem State.canonical_frame (s : State)
    (ident clk life mb aon pair ports wheels divs safe nov twin vote steer brake vtb can eth arb st padReset free pending) :
    State.canonical { s with
      ident := ident, clk := clk, life := life, mb := mb, aon := aon, pair := pair, ports := ports, wheels := wheels
      divs := divs, safe := safe, nov := nov, twin := twin, vote := vote, steer := steer, brake := brake, vtb := vtb
      can := can, eth := eth, arb := arb, st := st, padReset := padReset, free := free, pending := pending } = s.canonical := by
  simp only [State.canonical]

theorem State.canonical_parts (s : State) : s.canonical = true ↔
    (Cells.wf storeD s.par.stored = true ∧ Cells.wf storeD s.par.eff = true) ∧ Cells.wf zeroD s.cnt = true ∧
      (Cells.wf zeroD s.regs.bootwin = true ∧ Cells.wf flashD s.regs.flash = true) ∧ Cells.wf zeroD s.integ.sram = true ∧
      s.su.eng.canonical .su = true ∧ ∀ l : AxisNo, s.ax[l].eng.canonical (.loop l) = true := by
  simp only [State.canonical, Bool.and_eq_true, List.all_eq_true, and_assoc, fins, List.mem_finRange, true_imp_iff]

theorem State.canonical_regs {s : State} (h : s.canonical = true) {ident : Ident} {aon : Aon} {life : Life} {r : Regs}
    (hb : r.bootwin = s.regs.bootwin) (hf : r.flash = s.regs.flash) :
    State.canonical { s with ident := ident, aon := aon, life := life, regs := r } = true := by
  rw [State.canonical_parts] at h ⊢
  rw [← hb, ← hf] at h
  exact h

/-! ### The parts of the state -/

@[simp] theorem State.modClk_canonical (s : State) (f : Clk → Clk) : (s.modClk f).canonical = s.canonical := by
  simp only [State.modClk, State.canonical_frame]

@[simp] theorem State.modLife_canonical (s : State) (f : Life → Life) : (s.modLife f).canonical = s.canonical := by
  simp only [State.modLife, State.canonical_frame]

@[simp] theorem State.modMb_canonical (s : State) (f : Mailbox → Mailbox) : (s.modMb f).canonical = s.canonical := by
  simp only [State.modMb, State.canonical_frame]

@[simp] theorem State.modAon_canonical (s : State) (f : Aon → Aon) : (s.modAon f).canonical = s.canonical := by
  simp only [State.modAon, State.canonical_frame]

@[simp] theorem State.modSafe_canonical (s : State) (f : Safe → Safe) : (s.modSafe f).canonical = s.canonical := by
  simp only [State.modSafe, State.canonical_frame]

@[simp] theorem State.modNov_canonical (s : State) (f : Nov → Nov) : (s.modNov f).canonical = s.canonical := by
  simp only [State.modNov, State.canonical_frame]

@[simp] theorem State.modTwin_canonical (s : State) (f : Twin → Twin) : (s.modTwin f).canonical = s.canonical := by
  simp only [State.modTwin, State.canonical_frame]

@[simp] theorem State.modVote_canonical (s : State) (f : Vote → Vote) : (s.modVote f).canonical = s.canonical := by
  simp only [State.modVote, State.canonical_frame]

@[simp] theorem State.modSteer_canonical (s : State) (f : Steer → Steer) : (s.modSteer f).canonical = s.canonical := by
  simp only [State.modSteer, State.canonical_frame]

@[simp] theorem State.modBrake_canonical (s : State) (f : Brake → Brake) : (s.modBrake f).canonical = s.canonical := by
  simp only [State.modBrake, State.canonical_frame]

@[simp] theorem State.modVtb_canonical (s : State) (f : Vtb → Vtb) : (s.modVtb f).canonical = s.canonical := by
  simp only [State.modVtb, State.canonical_frame]

@[simp] theorem State.modEth_canonical (s : State) (f : Eth → Eth) : (s.modEth f).canonical = s.canonical := by
  simp only [State.modEth, State.canonical_frame]

@[simp] theorem State.modArb_canonical (s : State) (f : Arb → Arb) : (s.modArb f).canonical = s.canonical := by
  simp only [State.modArb, State.canonical_frame]

@[simp] theorem State.modSt_canonical (s : State) (f : SelfTest → SelfTest) : (s.modSt f).canonical = s.canonical := by
  simp only [State.modSt, State.canonical_frame]

@[simp] theorem State.modPair_canonical (s : State) (k : PairNo) (f : Pair → Pair) : (s.modPair k f).canonical = s.canonical := by
  simp only [State.modPair, State.canonical_frame]
@[simp] theorem State.at_canonical (s : State) (now : Ns) : (s.at now).canonical = s.canonical := by
  simp only [State.at, State.canonical_frame]
@[simp] theorem State.tickFree_canonical (s : State) : s.tickFree.canonical = s.canonical := by
  simp only [State.tickFree, State.canonical_frame]

@[simp] theorem State.modRegs_canonical (s : State) {f : Regs → Regs} (hb : ∀ r, (f r).bootwin = r.bootwin)
    (hf : ∀ r, (f r).flash = r.flash) : (s.modRegs f).canonical = s.canonical := by
  simp [State.canonical, hb, hf]

@[simp] theorem State.modSu_canonical (s : State) {f : Su → Su} (h : ∀ u, (f u).eng.canonical .su = u.eng.canonical .su) :
    (s.modSu f).canonical = s.canonical := by
  simp [State.canonical, h]

@[simp] theorem State.modInteg_canonical (s : State) {f : Integ → Integ} (h : ∀ g, (f g).sram = g.sram) :
    (s.modInteg f).canonical = s.canonical := by
  simp [State.canonical, h]

@[simp] theorem State.modPar_canonical (s : State) {f : Params → Params} (hs : ∀ p, (f p).stored = p.stored) (he : ∀ p, (f p).eff = p.eff) :
    (s.modPar f).canonical = s.canonical := by
  simp [State.canonical, hs, he]

/-- The words of an engine's memories alone tell whether they are in canonical form. -/
@[simp] theorem Engine.canonical_frame (g : Engine) (e : EngineId) (ctx running integ progCrc operCrc progFlashCrc operFlashCrc off reload reloadAt) :
    Engine.canonical { g with ctx := ctx, running := running, integ := integ, progCrc := progCrc, operCrc := operCrc,
                              progFlashCrc := progFlashCrc, operFlashCrc := operFlashCrc, off := off, reload := reload, reloadAt := reloadAt } e =
      g.canonical e := by
  simp only [Engine.canonical]

@[simp] theorem Engine.stop_canonical (g : Engine) (e : EngineId) : g.stop.canonical e = g.canonical e := by
  simp [Engine.stop]

/-- An engine loaded anew takes its memories from flash. -/
theorem Engine.loaded_canonical {g : Engine} {e : EngineId} (h : g.canonical e = true) : g.loaded.canonical e = true := by
  simp_all [Engine.canonical, Engine.loaded]

theorem Engine.reloaded_canonical {g : Engine} {e : EngineId} (h : g.canonical e = true) : g.reloaded.canonical e = true := by
  unfold Engine.reloaded
  split
  · simp_all [Engine.canonical]
  · exact h

theorem State.modAx_eng (s : State) {l : AxisNo} {f : Axis → Axis} (m : AxisNo) :
    (s.modAx l f).ax[m].eng = if m = l then (f s.ax[l]).eng else s.ax[m].eng := by
  split
  · next hm =>
    subst hm
    rw [State.modAx_ax, vmod_same]
  · next hm => rw [State.modAx_ax, vmod_ne _ _ _ _ hm]

@[simp] theorem State.modAx_canonical (s : State) {l : AxisNo} {f : Axis → Axis} (h : ∀ a, (f a).eng.canonical (.loop l) = a.eng.canonical (.loop l)) :
    (s.modAx l f).canonical = s.canonical := by
  have hm : ∀ m : AxisNo, (s.modAx l f).ax[m].eng.canonical (.loop m) = s.ax[m].eng.canonical (.loop m) := fun m => by
    rw [State.modAx_eng]
    split
    · next hm => rw [hm, h]
    · rfl
  simp only [State.canonical, State.modAx_par, State.modAx_cnt, State.modAx_regs, State.modAx_integ, State.modAx_su, hm]

theorem State.modAx_keeps {s : State} (hs : s.canonical = true) {l : AxisNo} {f : Axis → Axis}
    (h : s.ax[l].eng.canonical (.loop l) = true → (f s.ax[l]).eng.canonical (.loop l) = true) : (s.modAx l f).canonical = true := by
  rw [State.canonical_parts] at hs ⊢
  obtain ⟨hp, hc, hr, hi, hu, ha⟩ := hs
  refine ⟨hp, hc, hr, hi, hu, fun m => ?_⟩
  rw [State.modAx_eng]
  split
  · next hm =>
    subst hm
    exact h (ha m)
  · exact ha m

theorem State.modEng_keeps {s : State} (hs : s.canonical = true) {e : EngineId} {f : Engine → Engine}
    (h : (s.eng e).canonical e = true → (f (s.eng e)).canonical e = true) : (s.modEng e f).canonical = true := by
  cases e with
  | loop l => exact State.modAx_keeps hs h
  | su =>
    rw [State.canonical_parts] at hs ⊢
    obtain ⟨hp, hc, hr, hi, hu, ha⟩ := hs
    exact ⟨hp, hc, hr, hi, h hu, ha⟩

@[simp] theorem State.modEng_canonical (s : State) {e : EngineId} {f : Engine → Engine} (h : ∀ g, (f g).canonical e = g.canonical e) :
    (s.modEng e f).canonical = s.canonical := by
  cases e with
  | loop l => exact s.modAx_canonical fun a => h a.eng
  | su => exact s.modSu_canonical fun u => h u.eng

theorem State.eng_canonical {s : State} (hs : s.canonical = true) (e : EngineId) : (s.eng e).canonical e = true := by
  rw [State.canonical_parts] at hs
  obtain ⟨-, -, -, -, hu, ha⟩ := hs
  cases e with
  | loop l => exact ha l
  | su => exact hu

@[simp] theorem State.mapAx_canonical (s : State) {f : Axis → Axis} (h : ∀ a, (f a).eng = a.eng) :
    (s.mapAx f).canonical = s.canonical := by
  have hm : ∀ m : AxisNo, (s.mapAx f).ax[m].eng = s.ax[m].eng := fun m => by
    simp [State.mapAx, h]
  simp only [State.canonical, hm]
  rfl

@[simp] theorem Axis.gatesLow_eng (a : Axis) : a.gatesLow.eng = a.eng := by
  simp [Axis.gatesLow]

@[simp] theorem Axis.setMode_eng (a : Axis) (m : CMode) : (a.setMode m).eng = a.eng := by
  simp [Axis.setMode]

@[simp] theorem Axis.stopLoops_eng (a : Axis) : a.stopLoops.eng = a.eng := by
  simp [Axis.stopLoops]

@[simp] theorem Axis.disable_eng (a : Axis) : a.disable.eng = a.eng := by
  simp [Axis.disable]

@[simp] theorem Axis.cut_eng (a : Axis) : a.cut.eng = a.eng := by
  simp [Axis.cut]

@[simp] theorem Axis.dropAbort_eng (a : Axis) : a.dropAbort.eng = a.eng := by
  simp [Axis.dropAbort]

/-- A state in canonical form. -/
abbrev CanonicalState := { s : State // s.canonical = true }

@[simp] theorem CanonicalState.canonical (x : CanonicalState) : x.1.canonical = true := x.2

@[simp] theorem forFin_canonical {n : Nat} {f : Fin n → State → State} (k : ∀ i (x : CanonicalState), (f i x.1).canonical = true) (s : State) :
    (forFin n f s).canonical = true ↔ s.canonical = true ∨ Mended s (forFin n f s) := canonical_iff fun h =>
  forFin_keeps (p := fun x : State => x.canonical = true) h fun i x hx => k i ⟨x, hx⟩

@[simp] theorem foldl_canonical {α : Type} {f : State → α → State} (k : ∀ i (x : CanonicalState), (f x.1 i).canonical = true)
    (is : List α) (s : State) :
    (is.foldl f s).canonical = true ↔ s.canonical = true ∨ Mended s (is.foldl f s) := canonical_iff fun h =>
  List.foldlRecOn (motive := fun x : State => x.canonical = true) is f h fun x hx i _ => k i ⟨x, hx⟩

/-! ## Counters -/

theorem State.cnt_canonical (s : State) {c : Counters} (h : Cells.wf zeroD s.cnt = true → Cells.wf zeroD c = true) (hs : s.canonical = true) :
    State.canonical { s with cnt := c } = true := by
  rw [State.canonical_parts] at hs ⊢
  exact ⟨hs.1, h hs.2.1, hs.2.2⟩

@[simp] theorem State.intr_canonical (s : State) (m : Word) : (s.intr m).canonical = s.canonical := by
  simp only [State.intr, State.canonical]

@[simp] theorem State.pushEvent_canonical (s : State) (slot : Slot) :
    (s.pushEvent slot).canonical = true ↔ s.canonical = true ∨ Mended s (s.pushEvent slot) := canonical_iff fun h => by
  unfold State.pushEvent
  simp only []
  split
  · exact h
  · have hc := s.cnt_canonical (Counters.wf_bump s.cnt (qCnt 8)) h
    split <;> exact hc

@[simp] theorem State.queueEvent_canonical (s : State) (e : LateEv) :
    (s.queueEvent e).canonical = true ↔ s.canonical = true ∨ Mended s (s.queueEvent e) := canonical_iff fun h => by
  simp [State.queueEvent, h]

@[simp] theorem State.raise_canonical (s : State) (code : Nat) (sev : Sev) (ax : Option AxisNo) (args : List Word) :
    (s.raise code sev ax args).canonical = true ↔ s.canonical = true ∨ Mended s (s.raise code sev ax args) := canonical_iff fun h => by
  simp [State.raise, h]

@[simp] theorem State.bump_canonical (s : State) (i : Nat) :
    (s.bump i).canonical = true ↔ s.canonical = true ∨ Mended s (s.bump i) := canonical_iff fun h => by
  have hc := s.cnt_canonical (Counters.wf_bump s.cnt i) h
  unfold State.bump
  simp only []
  split
  · rw [State.raise_canonical]
    exact .inl hc
  · exact hc

@[simp] theorem State.bumpN_canonical (s : State) (i n : Nat) :
    (s.bumpN i n).canonical = true ↔ s.canonical = true ∨ Mended s (s.bumpN i n) := canonical_iff fun h => by
  induction n generalizing s with
  | zero => exact h
  | succ n ih => exact ih _ (by simp [h])

@[simp] theorem State.push_canonical (s : State) (q : Fin 16) (e : QEntry) :
    (s.push q e).canonical = true ↔ s.canonical = true ∨ Mended s (s.push q e) := canonical_iff fun h => by
  unfold State.push
  simp only []
  split
  · exact h
  · split
    · simp [h]
    · rw [State.raise_canonical]
      exact .inl ((State.bump_canonical s _).2 (.inl h))

@[simp] theorem State.deliver_canonical (s : State) (src : Source) (cls : BitVec 4) (w : Slot) :
    (s.deliver src cls w).canonical = true ↔ s.canonical = true ∨ Mended s (s.deliver src cls w) := canonical_iff fun h => by
  unfold State.deliver
  split
  · simp [h]
  · split <;> simp [h]

/-! ## Outcomes -/

/-- The next state of an outcome, where there is one, is in canonical form. -/
def NextCanonical (o : Out) : Prop := ∀ t, o = .next t → t.canonical = true

@[simp] theorem nextCanonical_next (t : State) : NextCanonical (.next t) ↔ t.canonical = true := by
  simp [NextCanonical]

@[simp] theorem nextCanonical_fault (r : Fault) : NextCanonical (.fault r) := by
  simp [NextCanonical]

@[simp] theorem nextCanonical_ite (c : Prop) [Decidable c] (o p : Out) :
    NextCanonical (if c then o else p) ↔ if c then NextCanonical o else NextCanonical p := by
  split <;> rfl

@[simp] theorem State.takeNow_canonical (s : State) (l : AxisNo) :
    (s.takeNow l).canonical = true ↔ s.canonical = true ∨ Mended s (s.takeNow l) := canonical_iff fun h => by
  unfold State.takeNow
  simp only []
  split
  · exact h
  · rw [State.canonical_parts] at h ⊢
    obtain ⟨⟨hs, he⟩, hr⟩ := h
    refine ⟨⟨hs, ?_⟩, hr⟩
    exact List.foldlRecOn (motive := fun c : Cells => Cells.wf storeD c = true) _ _ he fun c hc p _ => Cells.wf_write _ _ _ _ hc

@[simp] theorem State.pop_canonical (s : State) (q : Fin 16) : (s.pop q).canonical = s.canonical := by
  simp [State.pop]

@[simp] theorem State.place_canonical (s : State) (q : Fin 16) (e : QEntry) : (s.place q e).canonical = s.canonical := by
  simp [State.place]

@[simp] theorem State.setSt_canonical (s : State) (t : LaneSt) : (s.setSt t).canonical = s.canonical := by
  simp [State.setSt]

@[simp] theorem State.syncDrive_canonical (s : State) : s.syncDrive.canonical = s.canonical := by
  unfold State.syncDrive
  split <;> simp

@[simp] theorem State.axisFault_canonical (s : State) (l : AxisNo) (cause : BitVec 4) : (s.axisFault l cause).canonical = s.canonical := by
  simp [State.axisFault]

@[simp] theorem State.torqueOff_canonical (s : State) (k : PairNo) : (s.torqueOff k).canonical = s.canonical := by
  simp [State.torqueOff]

@[simp] theorem State.noteLoss_canonical (s : State) (l : AxisNo) (cause : BitVec 4) (source : Bool) :
    (s.noteLoss l cause source).canonical = true ↔ s.canonical = true ∨ Mended s (s.noteLoss l cause source) := canonical_iff fun h => by
  simp [State.noteLoss, h]

@[simp] theorem State.encoderLoss_canonical (s : State) (l : AxisNo) (cause : BitVec 4) :
    (s.encoderLoss l cause).canonical = true ↔ s.canonical = true ∨ Mended s (s.encoderLoss l cause) := canonical_iff fun h => by
  simp [State.encoderLoss, h]

@[simp] theorem State.pendPulse_canonical (s : State) (d : Nat) :
    (s.pendPulse d).canonical = true ↔ s.canonical = true ∨ Mended s (s.pendPulse d) := canonical_iff fun h => by
  have hc : ∀ v, State.canonical { s with cnt := Cells.write zeroD s.cnt (0x5F20 + d) v } = true := fun v =>
    s.cnt_canonical (Cells.wf_write zeroD s.cnt (0x5F20 + d) v) h
  simp [State.pendPulse, h, hc]

@[simp] theorem State.pendPulses_canonical (s : State) (d n : Nat) :
    (s.pendPulses d n).canonical = true ↔ s.canonical = true ∨ Mended s (s.pendPulses d n) := canonical_iff fun h => by
  induction n generalizing s with
  | zero => exact h
  | succ n ih => exact ih _ (by simp [h])

@[simp] theorem State.dividerEdge_canonical (s : State) (d : Fin 2) :
    (s.dividerEdge d).canonical = true ↔ s.canonical = true ∨ Mended s (s.dividerEdge d) := canonical_iff fun h => by
  simp [State.dividerEdge, h]

@[simp] theorem State.sourceEdge_canonical (s : State) (src : Nat) :
    (s.sourceEdge src).canonical = true ↔ s.canonical = true ∨ Mended s (s.sourceEdge src) := canonical_iff fun h => by
  simp [State.sourceEdge, h]

@[simp] theorem execPulseDividerPulse_canonical (d : Fin 2) (now : Ns) {s : State} (h : s.canonical = true) :
    NextCanonical (execPulseDividerPulse d now s) := by
  simp only [execPulseDividerPulse, nextCanonical_next]
  split
  · exact (s.at now).cnt_canonical (Cells.wf_write _ _ _ _) h
  · exact h

@[simp] theorem State.indexMissing_canonical (s : State) (l : AxisNo) :
    (s.indexMissing l).canonical = true ↔ s.canonical = true ∨ Mended s (s.indexMissing l) := canonical_iff fun h => by
  simp only [State.indexMissing]
  split <;> simp [h]

@[simp] theorem State.illegalTransition_canonical (s : State) (l : AxisNo) (ba : BitVec 2) :
    (s.illegalTransition l ba).canonical = true ↔ s.canonical = true ∨ Mended s (s.illegalTransition l ba) := canonical_iff fun h => by
  simp [State.illegalTransition, h]

@[simp] theorem execEncoderTransition_canonical (l : AxisNo) (ba : BitVec 2) (now : Ns) {s : State} (h : s.canonical = true) :
    NextCanonical (execEncoderTransition l ba now s) := by
  simp [execEncoderTransition, h]

@[simp] theorem State.encoderFailed_canonical (s : State) (l : AxisNo) :
    (s.encoderFailed l).canonical = true ↔ s.canonical = true ∨ Mended s (s.encoderFailed l) := canonical_iff fun h => by
  simp [State.encoderFailed, h]

@[simp] theorem execEncoderIllegalBurst_canonical (l : AxisNo) (now : Ns) {s : State} (h : s.canonical = true) :
    NextCanonical (execEncoderIllegalBurst l now s) := by
  simp [execEncoderIllegalBurst, h]

@[simp] theorem State.lineCheck_canonical (s : State) (l : AxisNo) :
    (s.lineCheck l).2.canonical = true ↔ s.canonical = true ∨ Mended s (s.lineCheck l).2 := canonical_iff fun h => by
  unfold State.lineCheck
  split <;> simp [h]

@[simp] theorem State.indexCommutation_canonical (s : State) (l : AxisNo) :
    (s.indexCommutation l).canonical = true ↔ s.canonical = true ∨ Mended s (s.indexCommutation l) := canonical_iff fun h => by
  simp [State.indexCommutation, h]

@[simp] theorem State.indexLoad_canonical (s : State) (l : AxisNo) :
    (s.indexLoad l).canonical = true ↔ s.canonical = true ∨ Mended s (s.indexLoad l) := canonical_iff fun h => by
  simp [State.indexLoad, h]

@[simp] theorem State.indexEvent_canonical (s : State) (l : AxisNo) :
    (s.indexEvent l).canonical = true ↔ s.canonical = true ∨ Mended s (s.indexEvent l) := canonical_iff fun h => by
  simp only [State.indexEvent]
  split <;> simp [h]

@[simp] theorem execIndexEvent_canonical (l : AxisNo) (rising : Bool) (now : Ns) {s : State} (h : s.canonical = true) :
    NextCanonical (execIndexEvent l rising now s) := by
  simp [execIndexEvent, h]

@[simp] theorem State.referenceEdge_canonical (s : State) (l : AxisNo) (rising : Bool) : (s.referenceEdge l rising).2.canonical = s.canonical := by
  simp [State.referenceEdge]

@[simp] theorem State.resolverTake_canonical (s : State) (l : AxisNo) :
    (s.resolverTake l).canonical = true ↔ s.canonical = true ∨ Mended s (s.resolverTake l) := canonical_iff fun h => by
  simp [State.resolverTake, h]

@[simp] theorem execSentFrame_canonical (p : Fin 3) (f : SentIn) (now : Ns) {s : State} (h : s.canonical = true) :
    NextCanonical (execSentFrame p f now s) := by
  simp only [execSentFrame]
  split
  · simp [h]
  · split <;> simp [h]

@[simp] theorem State.ssiTrigger_canonical (s : State) (p : Fin 3) (t : Ns) :
    (s.ssiTrigger p t).canonical = true ↔ s.canonical = true ∨ Mended s (s.ssiTrigger p t) := canonical_iff fun h => by
  simp [State.ssiTrigger, h]

@[simp] theorem State.ssiDue_canonical (s : State) (trig : Nat) (t : Ns) :
    (s.ssiDue trig t).canonical = true ↔ s.canonical = true ∨ Mended s (s.ssiDue trig t) := canonical_iff fun h => by
  refine (forFin_canonical (fun p x => ?_) s).2 (.inl h)
  split
  · split <;> simp [↓State.canonical_frame]
  · exact x.2

@[simp] theorem execSsiTrigger_canonical (p : Fin 3) (now : Ns) {s : State} (h : s.canonical = true) :
    NextCanonical (execSsiTrigger p now s) := by
  simp only [execSsiTrigger]
  split <;> simp [h]

@[simp] theorem execSsiFrame_canonical (p : Fin 3) (f : SsiIn) (now : Ns) {s : State} (h : s.canonical = true) :
    NextCanonical (execSsiFrame p f now s) := by
  simp [execSsiFrame, h]

@[simp] theorem execSerialTimeout_canonical (p : Fin 3) (now : Ns) {s : State} (h : s.canonical = true) :
    NextCanonical (execSerialTimeout p now s) := by
  simp [execSerialTimeout, h]

@[simp] theorem execWheelSpeedEdge_canonical (w : Fin 8) (rising : Bool) (now : Ns) {s : State} (h : s.canonical = true) :
    NextCanonical (execWheelSpeedEdge w rising now s) := by
  simp [execWheelSpeedEdge, h]

@[simp] theorem execWheelSpeedStill_canonical (w : Fin 8) (now : Ns) {s : State} (h : s.canonical = true) :
    NextCanonical (execWheelSpeedStill w now s) := by
  simp [execWheelSpeedStill, h]

@[simp] theorem State.wheelCycle_canonical (s : State) (w : Fin 8) :
    (s.wheelCycle w).canonical = true ↔ s.canonical = true ∨ Mended s (s.wheelCycle w) := canonical_iff fun h => by
  simp [State.wheelCycle, h]

@[simp] theorem State.deliverAll_canonical (s : State) (src : Source) (cls : BitVec 4) (slots : List Slot) :
    (s.deliverAll src cls slots).canonical = true ↔ s.canonical = true ∨ Mended s (s.deliverAll src cls slots) := canonical_iff fun h => by
  simp [State.deliverAll, h]

@[simp] theorem State.countRefusal_canonical (s : State) (code : Nat) (opc : BitVec 16) (src : Source) :
    (s.countRefusal code opc src).canonical = true ↔ s.canonical = true ∨ Mended s (s.countRefusal code opc src) := canonical_iff fun h => by
  unfold State.countRefusal
  split
  · exact h
  · next i _ =>
    have hb : (s.bump (0x0F30 + i)).canonical = true := by simp [h]
    simp only [State.ite_canonical_iff, State.raise_canonical, State.canonical_frame, hb, true_or, ite_self]

@[simp] theorem State.touch_canonical (s : State) (src : Source) : (s.touch src).canonical = s.canonical := by
  unfold State.touch
  split <;> simp

@[simp] theorem State.setSeq_canonical (s : State) (src : Source) (c : Fin 4) (q : SeqState) : (s.setSeq src c q).canonical = s.canonical := by
  simp [State.setSeq]

@[simp] theorem State.stopRun_canonical (s : State) (c : StopCause) : (s.stopRun c).canonical = s.canonical := by
  simp [State.stopRun]

@[simp] theorem State.accept_canonical (s : State) (o : AccOp) : (s.accept o).canonical = s.canonical := by
  simp [State.accept]

@[simp] theorem State.modOp_canonical (s : State) (o : AccOp) (f : AccOp → AccOp) : (s.modOp o f).canonical = s.canonical := by
  simp [State.modOp]

@[simp] theorem State.commitOp_canonical (s : State) (o : AccOp) : (s.commitOp o).canonical = s.canonical := by
  simp [State.commitOp]

@[simp] theorem State.complete_canonical (s : State) (o : AccOp) (code : Nat) (words : List Word) :
    (s.complete o code words).canonical = true ↔ s.canonical = true ∨ Mended s (s.complete o code words) := canonical_iff fun h => by
  simp [State.complete, h]

@[simp] theorem State.completeIf_canonical (s : State) (o : Option AccOp) (code : Nat) (words : List Word) :
    (s.completeIf o code words).canonical = true ↔ s.canonical = true ∨ Mended s (s.completeIf o code words) := canonical_iff fun h => by
  unfold State.completeIf
  split <;> simp [h]

@[simp] theorem Ans.refuse_canonical (s : State) (code index : Nat) : (Ans.refuse s code index).st.canonical = s.canonical := by
  simp [Ans.refuse]

@[simp] theorem Ans.ok_canonical (s : State) (pl : List Word) : (Ans.ok s pl).st.canonical = s.canonical := by
  simp [Ans.ok]

@[simp] theorem Ans.accepted_canonical (s : State) : (Ans.accepted s).st.canonical = s.canonical := by
  simp [Ans.accepted]

@[simp] theorem Ans.send_canonical (a : Ans) (o : OpSpec) (r : Req) :
    (a.send o r).1.canonical = true ↔ a.st.canonical = true ∨ Mended a.st (a.send o r).1 := canonical_iff fun h => by
  simp [Ans.send, h]

@[simp] theorem State.turnAway_canonical (s : State) (r : Req) (opc : BitVec 16) (code : Nat) :
    (s.turnAway r opc code).canonical = true ↔ s.canonical = true ∨ Mended s (s.turnAway r opc code) := canonical_iff fun h => by
  simp [State.turnAway, h]

theorem State.meetTest_canonical {s t : State} {opc : BitVec 16} {r : Req} (hs : s.canonical = true) (h : s.meetTest opc r = some t) :
    t.canonical = true := by
  unfold State.meetTest at h
  split at h
  · cases h
  · split at h
    · cases h
      split
      · simpa using hs
      · split <;> simp [hs]
    · split at h <;> cases h
      simpa using hs

/-- A request keeps the canonical form when the body of its opcode does: the checks and the answer keep it. -/
@[simp] theorem State.serve_canonical {body : Body} {r : Req} (hb : ∀ x : CanonicalState, (body r x.1).st.canonical = true) (s : State) (o : OpSpec) :
    (s.serve o body r).canonical = true ↔ s.canonical = true ∨ Mended s (s.serve o body r) := canonical_iff fun h => by
  have he : ∀ x : State, x.canonical = true → (x.execute o body r).1.canonical = true := fun x hx => by
    have := hb ⟨x, hx⟩
    unfold State.execute
    split <;> simp [hx, this]
  unfold State.serve
  split
  · next t ht => exact State.meetTest_canonical h ht
  · split
    · exact h
    · split
      · simp [h]
      · split
        · apply he
          split <;> simp [h]
        · simp only []
          split
          · simp [h]
          · simp [h]
          · simpa using he _ (by simpa using h)

@[simp] theorem State.profDone_canonical (s : State) (l : AxisNo) :
    (s.profDone l).canonical = true ↔ s.canonical = true ∨ Mended s (s.profDone l) := canonical_iff fun h => by
  simp only [State.profDone]
  split <;> simp [h]

@[simp] theorem State.adoptPlan_canonical (s : State) (l : AxisNo) (t : Ns) (target : Int) :
    (s.adoptPlan l t target).canonical = true ↔ s.canonical = true ∨ Mended s (s.adoptPlan l t target) := canonical_iff fun h => by
  simp only [State.adoptPlan]
  split
  · simp [h]
  · split <;> simp [h]

@[simp] theorem State.stopAxis_canonical (s : State) (l : AxisNo) (t : Ns) (d : Q) (code : BitVec 4) : (s.stopAxis l t d code).1.canonical = s.canonical := by
  simp [State.stopAxis]

@[simp] theorem State.answerLate_canonical (s : State) (r : Req) (opc : BitVec 16) (code : Nat) :
    (s.answerLate r opc code).canonical = true ↔ s.canonical = true ∨ Mended s (s.answerLate r opc code) := canonical_iff fun h => by
  unfold State.answerLate
  split
  · split <;> simp [h]
  · simp [h]

@[simp] theorem State.judgeClamp_canonical (s : State) (l : AxisNo) (side : Option Bool) :
    (s.judgeClamp l side).canonical = true ↔ s.canonical = true ∨ Mended s (s.judgeClamp l side) := canonical_iff fun h => by
  unfold State.judgeClamp
  split <;> simp [h]

@[simp] theorem State.takeTag_canonical (s : State) (l : AxisNo) (replan : Bool) : (s.takeTag l replan).canonical = s.canonical := by
  unfold State.takeTag
  split <;> simp

@[simp] theorem State.profEval_canonical (s : State) (l : AxisNo) (t : Ns) (wAct : Q) :
    (s.profEval l t wAct).canonical = true ↔ s.canonical = true ∨ Mended s (s.profEval l t wAct) := canonical_iff fun h => by
  simp only [State.profEval]
  split <;> simp [h]

@[simp] theorem State.profAbort_canonical (s : State) (l : AxisNo) (t : Ns) (reqs : List Req) :
    (s.profAbort l t reqs).canonical = true ↔ s.canonical = true ∨ Mended s (s.profAbort l t reqs) := canonical_iff fun h => by
  simp [State.profAbort, h]

@[simp] theorem State.profStep_canonical (s : State) (l : AxisNo) (t : Ns) (wAct : Q) :
    (s.profStep l t wAct).canonical = true ↔ s.canonical = true ∨ Mended s (s.profStep l t wAct) := canonical_iff fun h => by
  simp [State.profStep, h]

@[simp] theorem State.modCmp_canonical (s : State) (l : AxisNo) (n : Fin 4) (f : Cmp → Cmp) : (s.modCmp l n f).canonical = s.canonical := by
  simp [State.modCmp]

@[simp] theorem State.missedCheck_canonical (s : State) (l : AxisNo) (n : Fin 4) (dir p : Int) :
    (s.missedCheck l n dir p).canonical = true ↔ s.canonical = true ∨ Mended s (s.missedCheck l n dir p) := canonical_iff fun h => by
  simp [State.missedCheck, h]

@[simp] theorem State.endFlag_canonical (s : State) (l : AxisNo) (up : Bool) : (s.endFlag l up).canonical = s.canonical := by
  simp [State.endFlag]

@[simp] theorem State.endStop_canonical (s : State) (l : AxisNo) (up : Bool) :
    (s.endStop l up).canonical = true ↔ s.canonical = true ∨ Mended s (s.endStop l up) := canonical_iff fun h => by
  simp [State.endStop, h]

@[simp] theorem State.fireCmp_canonical (s : State) (l : AxisNo) (n : Fin 4) (p0 p1 : Int) (t0 t1 : Ns) :
    (s.fireCmp l n p0 p1 t0 t1).canonical = true ↔ s.canonical = true ∨ Mended s (s.fireCmp l n p0 p1 t0 t1) := canonical_iff fun h => by
  simp [State.fireCmp, h]

@[simp] theorem State.compareSample_canonical (s : State) (l : AxisNo) (p0 p1 : Int) (t0 t1 : Ns) (dir : Int) (set : Bool) :
    (s.compareSample l p0 p1 t0 t1 dir set).canonical = true ↔ s.canonical = true ∨ Mended s (s.compareSample l p0 p1 t0 t1 dir set) :=
  canonical_iff fun h => by
  unfold State.compareSample
  simp only [State.modAx_canonical, implies_true]
  refine (forFin_canonical (fun n x => ?_) s).2 (.inl h)
  split
  · simp
  · simp

@[simp] theorem State.faultWith_canonical (s : State) (l : AxisNo) (cause : BitVec 4) (code : Nat) (args : List Word) :
    (s.faultWith l cause code args).canonical = true ↔ s.canonical = true ∨ Mended s (s.faultWith l cause code args) := canonical_iff fun h => by
  simp [State.faultWith, h]

@[simp] theorem State.chopCount_canonical (s : State) (k : PairNo) : (s.chopCount k).canonical = s.canonical := by
  simp [State.chopCount]

@[simp] theorem State.chopFault_canonical (s : State) (k : PairNo) :
    (s.chopFault k).canonical = true ↔ s.canonical = true ∨ Mended s (s.chopFault k) := canonical_iff fun h => by
  simp [State.chopFault, h]

@[simp] theorem State.linkSample_canonical (s : State) (k : PairNo) (v : Q) :
    (s.linkSample k v).canonical = true ↔ s.canonical = true ∨ Mended s (s.linkSample k v) := canonical_iff fun h => by
  simp [State.linkSample, h]

@[simp] theorem State.stageStep_canonical (s : State) (k : PairNo) (i : Fin 3) :
    (s.stageStep k i).canonical = true ↔ s.canonical = true ∨ Mended s (s.stageStep k i) := canonical_iff fun h => by
  simp [State.stageStep, h]

@[simp] theorem State.stages_canonical (s : State) (k : PairNo) :
    (s.stages k).canonical = true ↔ s.canonical = true ∨ Mended s (s.stages k) := canonical_iff fun h => by
  simp [State.stages, h]

@[simp] theorem execLinkStageChange_canonical (k : PairNo) (now : Ns) {s : State} (h : s.canonical = true) :
    NextCanonical (execLinkStageChange k now s) := by
  simp [execLinkStageChange, h]

@[simp] theorem execLinkVoltageKnown_canonical (k : PairNo) (now : Ns) {s : State} (h : s.canonical = true) :
    NextCanonical (execLinkVoltageKnown k now s) := by
  simp [execLinkVoltageKnown, h]

@[simp] theorem execChopperFault_canonical (k : PairNo) (feedback : Bool) (now : Ns) {s : State} (h : s.canonical = true) :
    NextCanonical (execChopperFault k feedback now s) := by
  simp [execChopperFault, h]

@[simp] theorem State.stuckInput_canonical (s : State) (l : AxisNo) (i : Fin 6) :
    (s.stuckInput l i).canonical = true ↔ s.canonical = true ∨ Mended s (s.stuckInput l i) := canonical_iff fun h => by
  simp [State.stuckInput, h]

@[simp] theorem State.pulseCurrent_canonical (s : State) (l : AxisNo) (t : Ns) : (s.pulseCurrent l t).canonical = s.canonical := by
  unfold State.pulseCurrent
  split <;> simp

@[simp] theorem State.dsmClock_canonical (s : State) (l : AxisNo) (t : Ns) (x : DsBits) :
    (s.dsmClock l t x).canonical = true ↔ s.canonical = true ∨ Mended s (s.dsmClock l t x) := canonical_iff fun h => by
  simp [State.dsmClock, h]

@[simp] theorem State.feed_canonical (s : State) (l : AxisNo) (bits : List DsBits) (now : Ns) :
    (s.feed l bits now).canonical = true ↔ s.canonical = true ∨ Mended s (s.feed l bits now) := canonical_iff fun h => by
  simp [State.feed, h]

@[simp] theorem execDsmStuck_canonical (l : AxisNo) (bits : List DsBits) (now : Ns) {s : State} (h : s.canonical = true) :
    NextCanonical (execDsmStuck l bits now s) := by
  simp [execDsmStuck, h]

@[simp] theorem execOvercurrent_canonical (l : AxisNo) (bits : List DsBits) (now : Ns) {s : State} (h : s.canonical = true) :
    NextCanonical (execOvercurrent l bits now s) := by
  simp [execOvercurrent, h]

@[simp] theorem execResolverMeasurement_canonical (l : AxisNo) (bits : List DsBits) (now : Ns) {s : State} (h : s.canonical = true) :
    NextCanonical (execResolverMeasurement l bits now s) := by
  simp only [execResolverMeasurement]
  split
  · simp [h]
  · split <;> simp [h]

@[simp] theorem State.sumFault_canonical (s : State) (l : AxisNo) :
    (s.sumFault l).canonical = true ↔ s.canonical = true ∨ Mended s (s.sumFault l) := canonical_iff fun h => by
  simp [State.sumFault, h]

@[simp] theorem execCurrentSum_canonical (l : AxisNo) (now : Ns) {s : State} (h : s.canonical = true) :
    NextCanonical (execCurrentSum l now s) := by
  simp [execCurrentSum, h]

@[simp] theorem State.logEntry_canonical (s : State) (src : Source) (tag : BitVec 16) (id kind : Nat) (old new : Word) :
    (s.logEntry src tag id kind old new).canonical = true ↔ s.canonical = true ∨ Mended s (s.logEntry src tag id kind old new) := canonical_iff fun h => by
  simp [State.logEntry, h]

@[simp] theorem State.setEff_canonical (s : State) (pid : Nat) (v : Word) :
    (s.setEff pid v).canonical = true ↔ s.canonical = true ∨ Mended s (s.setEff pid v) := canonical_iff fun h => by
  rw [State.canonical_parts] at h ⊢
  obtain ⟨⟨hs, he⟩, hr⟩ := h
  exact ⟨⟨hs, Cells.wf_write storeD _ pid v he⟩, hr⟩

@[simp] theorem bodyNop_canonical (r : Req) (s : State) : (bodyNop r s).st.canonical = s.canonical := by
  simp [bodyNop]

@[simp] theorem execOpNop_canonical (r : Req) {s : State} (h : s.canonical = true) :
    NextCanonical (execOpNop r s) := by
  simp [execOpNop, h]

@[simp] theorem bodyParRead_canonical (r : Req) (s : State) : (bodyParRead r s).st.canonical = s.canonical := by
  simp only [bodyParRead]
  split
  · simp
  · split
    · simp
    · split <;> simp

@[simp] theorem execOpParRead_canonical (r : Req) {s : State} (h : s.canonical = true) :
    NextCanonical (execOpParRead r s) := by
  simp [execOpParRead, h]

@[simp] theorem bodyParInfo_canonical (r : Req) (s : State) : (bodyParInfo r s).st.canonical = s.canonical := by
  simp only [bodyParInfo]
  split <;> simp

@[simp] theorem execOpParInfo_canonical (r : Req) {s : State} (h : s.canonical = true) :
    NextCanonical (execOpParInfo r s) := by
  simp [execOpParInfo, h]

@[simp] theorem bodyDigestRead_canonical (r : Req) (s : State) : (bodyDigestRead r s).st.canonical = s.canonical := by
  simp [bodyDigestRead]

@[simp] theorem execOpDigestRead_canonical (r : Req) {s : State} (h : s.canonical = true) :
    NextCanonical (execOpDigestRead r s) := by
  simp [execOpDigestRead, h]

@[simp] theorem bodyLogRead_canonical (r : Req) (s : State) : (bodyLogRead r s).st.canonical = s.canonical := by
  simp only [bodyLogRead]
  split <;> simp

@[simp] theorem execOpLogRead_canonical (r : Req) {s : State} (h : s.canonical = true) :
    NextCanonical (execOpLogRead r s) := by
  simp [execOpLogRead, h]

@[simp] theorem bodyDiagIdent_canonical (r : Req) (s : State) : (bodyDiagIdent r s).st.canonical = s.canonical := by
  simp [bodyDiagIdent]

@[simp] theorem execOpDiagIdent_canonical (r : Req) {s : State} (h : s.canonical = true) :
    NextCanonical (execOpDiagIdent r s) := by
  simp [execOpDiagIdent, h]

@[simp] theorem bodyDiagCounters_canonical (r : Req) (s : State) : (bodyDiagCounters r s).st.canonical = s.canonical := by
  simp only [bodyDiagCounters]
  split <;> simp

@[simp] theorem execOpDiagCounters_canonical (r : Req) {s : State} (h : s.canonical = true) :
    NextCanonical (execOpDiagCounters r s) := by
  simp [execOpDiagCounters, h]

@[simp] theorem bodyEventRead_canonical (r : Req) (s : State) : (bodyEventRead r s).st.canonical = s.canonical := by
  unfold bodyEventRead
  split <;> simp

@[simp] theorem execOpEventRead_canonical (r : Req) {s : State} (h : s.canonical = true) :
    NextCanonical (execOpEventRead r s) := by
  simp [execOpEventRead, h]

@[simp] theorem bodyNetSend_canonical (r : Req) (s : State) :
    (bodyNetSend r s).st.canonical = true ↔ s.canonical = true ∨ Mended s (bodyNetSend r s).st := canonical_iff fun h => by
  simp [bodyNetSend, h]

@[simp] theorem execOpNetSend_canonical (r : Req) {s : State} (h : s.canonical = true) :
    NextCanonical (execOpNetSend r s) := by
  simp [execOpNetSend, h]

@[simp] theorem State.setMode_canonical (s : State) (l : AxisNo) (m : CMode) : (s.setMode l m).canonical = s.canonical := by
  simp [State.setMode]

@[simp] theorem State.enterLoops_canonical (s : State) (l : AxisNo) : (s.enterLoops l).canonical = s.canonical := by
  simp [State.enterLoops]

@[simp] theorem State.enterStepped_canonical (s : State) (l : AxisNo) (theta speed i : Q) : (s.enterStepped l theta speed i).canonical = s.canonical := by
  simp [State.enterStepped]

@[simp] theorem State.loseSensor_canonical (s : State) (l : AxisNo) (dt : Q) : (s.loseSensor l dt).canonical = s.canonical := by
  simp [State.loseSensor]

@[simp] theorem State.startRest_canonical (s : State) (l : AxisNo) : (s.startRest l).canonical = s.canonical := by
  simp [State.startRest]

@[simp] theorem State.startProbe_canonical (s : State) (l : AxisNo) : (s.startProbe l).canonical = s.canonical := by
  simp [State.startProbe]

@[simp] theorem State.startCommutation_canonical (s : State) (l : AxisNo) : (s.startCommutation l).canonical = s.canonical := by
  simp [State.startCommutation]

@[simp] theorem State.wantMode_canonical (s : State) (l : AxisNo) (m : ModeReq) : (s.wantMode l m).canonical = s.canonical := by
  simp [State.wantMode]

@[simp] theorem State.startFailed_canonical (s : State) (l : AxisNo) (cmode : Word) :
    (s.startFailed l cmode).canonical = true ↔ s.canonical = true ∨ Mended s (s.startFailed l cmode) := canonical_iff fun h => by
  simp [State.startFailed, h]

@[simp] theorem State.setProv_canonical (s : State) (l : AxisNo) (theta : Q) : (s.setProv l theta).canonical = s.canonical := by
  simp [State.setProv]

@[simp] theorem State.startDone_canonical (s : State) (l : AxisNo) (theta olTheta speed : Q) : (s.startDone l theta olTheta speed).canonical = s.canonical := by
  simp [State.startDone]

@[simp] theorem State.pulsePoint_canonical (s : State) (l : AxisNo) (t : Ns) : (s.pulsePoint l t).canonical = s.canonical := by
  unfold State.pulsePoint
  split <;> simp

@[simp] theorem State.satDone_canonical (s : State) (l : AxisNo) :
    (s.satDone l).canonical = true ↔ s.canonical = true ∨ Mended s (s.satDone l) := canonical_iff fun h => by
  simp [State.satDone, h]

@[simp] theorem execSaturationPulseDone_canonical (l : AxisNo) (now : Ns) {s : State} (h : s.canonical = true) :
    NextCanonical (execSaturationPulseDone l now s) := by
  simp [execSaturationPulseDone, h]

@[simp] theorem State.probeDone_canonical (s : State) (l : AxisNo) : (s.probeDone l).canonical = s.canonical := by
  simp only [State.probeDone]
  split <;> simp

@[simp] theorem execProbeDone_canonical (l : AxisNo) (now : Ns) {s : State} (h : s.canonical = true) :
    NextCanonical (execProbeDone l now s) := by
  simp [execProbeDone, h]

@[simp] theorem State.ifCheck_canonical (s : State) (l : AxisNo) :
    (s.ifCheck l).canonical = true ↔ s.canonical = true ∨ Mended s (s.ifCheck l) := canonical_iff fun h => by
  simp [State.ifCheck, h]

@[simp] theorem execIfStartPhaseEnd_canonical (l : AxisNo) (now : Ns) {s : State} (h : s.canonical = true) :
    NextCanonical (execIfStartPhaseEnd l now s) := by
  simp only [execIfStartPhaseEnd]
  (repeat' split) <;> simp [h]

@[simp] theorem execIfRetryWaitEnd_canonical (l : AxisNo) (now : Ns) {s : State} (h : s.canonical = true) :
    NextCanonical (execIfRetryWaitEnd l now s) := by
  simp only [execIfRetryWaitEnd]
  split <;> simp [h]

@[simp] theorem execDAxisBrakingTimeout_canonical (l : AxisNo) (now : Ns) {s : State} (h : s.canonical = true) :
    NextCanonical (execDAxisBrakingTimeout l now s) := by
  simp only [execDAxisBrakingTimeout]
  split <;> simp [h]

@[simp] theorem execDAxisBrakingWaitEnd_canonical (l : AxisNo) (now : Ns) {s : State} (h : s.canonical = true) :
    NextCanonical (execDAxisBrakingWaitEnd l now s) := by
  simp only [execDAxisBrakingWaitEnd]
  split <;> simp [h]

@[simp] theorem State.alignFailed_canonical (s : State) (l : AxisNo) :
    (s.alignFailed l).canonical = true ↔ s.canonical = true ∨ Mended s (s.alignFailed l) := canonical_iff fun h => by
  simp [State.alignFailed, h]

@[simp] theorem State.applyMode_canonical (s : State) (l : AxisNo) (inst : Ns) (dt : Q) : (s.applyMode l inst dt).canonical = s.canonical := by
  simp only [State.applyMode]
  split <;> simp

@[simp] theorem State.catchBraking_canonical (s : State) (l : AxisNo) : (s.catchBraking l).canonical = s.canonical := by
  simp [State.catchBraking]

@[simp] theorem State.modeChanges_canonical (s : State) (l : AxisNo) (inst : Ns) (dt : Q) : (s.modeChanges l inst dt).canonical = s.canonical := by
  simp [State.modeChanges]

@[simp] theorem State.advanceMode_canonical (s : State) (l : AxisNo) (dt : Q) : (s.advanceMode l dt).canonical = s.canonical := by
  simp only [State.advanceMode]
  split <;> simp

@[simp] theorem State.commutate_canonical (s : State) (l : AxisNo) (mov : Word) (inst : Ns) (dt : Q) :
    (s.commutate l mov inst dt).canonical = true ↔ s.canonical = true ∨ Mended s (s.commutate l mov inst dt) := canonical_iff fun h => by
  simp only [State.commutate]
  split <;> simp [h]

@[simp] theorem State.modCas_canonical (s : State) (l : AxisNo) (f : Cas → Cas) : (s.modCas l f).canonical = s.canonical := by
  simp [State.modCas]

@[simp] theorem State.swapWin_canonical (s : State) (l : AxisNo) : (s.swapWin l).canonical = s.canonical := by
  simp [State.swapWin]

@[simp] theorem State.changeLoop_canonical (s : State) (l : AxisNo) (n : Nat) : (s.changeLoop l n).canonical = s.canonical := by
  simp [State.changeLoop]

@[simp] theorem State.posLoop_canonical (s : State) (l : AxisNo) (inst : Ns) : (s.posLoop l inst).canonical = s.canonical := by
  simp [State.posLoop]

@[simp] theorem State.forceLoop_canonical (s : State) (l : AxisNo) (inst : Ns) : (s.forceLoop l inst).canonical = s.canonical := by
  simp [State.forceLoop]

@[simp] theorem State.posChecks_canonical (s : State) (l : AxisNo) : (s.posChecks l).canonical = s.canonical := by
  simp [State.posChecks]

@[simp] theorem State.followError_canonical (s : State) (l : AxisNo) :
    (s.followError l).canonical = true ↔ s.canonical = true ∨ Mended s (s.followError l) := canonical_iff fun h => by
  simp [State.followError, h]

@[simp] theorem execFollowingError_canonical (l : AxisNo) (now : Ns) {s : State} (h : s.canonical = true) :
    NextCanonical (execFollowingError l now s) := by
  simp [execFollowingError, h]

@[simp] theorem State.posTick_canonical (s : State) (l : AxisNo) (inst : Ns) :
    (s.posTick l inst).canonical = true ↔ s.canonical = true ∨ Mended s (s.posTick l inst) := canonical_iff fun h => by
  simp [State.posTick, h]

@[simp] theorem State.ssStart_canonical (s : State) (l : AxisNo) (cause : Nat) :
    (s.ssStart l cause).canonical = true ↔ s.canonical = true ∨ Mended s (s.ssStart l cause) := canonical_iff fun h => by
  simp [State.ssStart, h]

@[simp] theorem State.ssTick_canonical (s : State) (l : AxisNo) :
    (s.ssTick l).canonical = true ↔ s.canonical = true ∨ Mended s (s.ssTick l) := canonical_iff fun h => by
  simp [State.ssTick, h]

@[simp] theorem State.ssRemove_canonical (s : State) (l : AxisNo) : (s.ssRemove l).canonical = s.canonical := by
  simp [State.ssRemove]

@[simp] theorem execAxisSafestopRemoval_canonical (l : AxisNo) (now : Ns) {s : State} (h : s.canonical = true) :
    NextCanonical (execAxisSafestopRemoval l now s) := by
  simp [execAxisSafestopRemoval, h]

@[simp] theorem State.windowCheck_canonical (s : State) (l : AxisNo) : (s.windowCheck l).canonical = s.canonical := by
  simp only [State.windowCheck]
  split
  · simp
  · split <;> simp

@[simp] theorem State.windowTick_canonical (s : State) (l : AxisNo) (inst : Ns) (w : Q) : (s.windowTick l inst w).canonical = s.canonical := by
  unfold State.windowTick
  split <;> simp

@[simp] theorem State.speedLoop_canonical (s : State) (l : AxisNo) (dt : Q) : (s.speedLoop l dt).canonical = s.canonical := by
  simp [State.speedLoop]

@[simp] theorem State.loopZero_canonical (s : State) (l : AxisNo) : (s.loopZero l).canonical = s.canonical := by
  simp [State.loopZero]

@[simp] theorem State.learnContact_canonical (s : State) (l : AxisNo) :
    (s.learnContact l).canonical = true ↔ s.canonical = true ∨ Mended s (s.learnContact l) := canonical_iff fun h => by
  unfold State.learnContact
  split <;> simp [h]

@[simp] theorem State.cycleSums_canonical (s : State) (l : AxisNo) : (s.cycleSums l).canonical = s.canonical := by
  simp [State.cycleSums]

@[simp] theorem State.profMirror_canonical (s : State) (l : AxisNo) :
    (s.profMirror l).canonical = true ↔ s.canonical = true ∨ Mended s (s.profMirror l) := canonical_iff fun h => by
  unfold State.profMirror
  extract_lets w t tgt u x y
  have hu : u.canonical = true := by simp [u, h]
  clear_value u
  have hx : x.canonical = true := by
    simp only [x]
    split <;> simp [hu]
  have hy : y.canonical = true := by simpa [y] using hx
  clear_value x y
  rw [State.canonical_parts] at hu hy ⊢
  obtain ⟨hp, hc, hr, hi, he, -⟩ := hu
  obtain ⟨-, -, -, -, -, ha⟩ := hy
  exact ⟨hp, hc, hr, hi, he, ha⟩

@[simp] theorem State.speedMeasure_canonical (s : State) (l : AxisNo) (inst : Ns) :
    (s.speedMeasure l inst).canonical = true ↔ s.canonical = true ∨ Mended s (s.speedMeasure l inst) := canonical_iff fun h => by
  simp [State.speedMeasure, h]

@[simp] theorem State.speedTick_canonical (s : State) (l : AxisNo) (inst : Ns) :
    (s.speedTick l inst).canonical = true ↔ s.canonical = true ∨ Mended s (s.speedTick l inst) := canonical_iff fun h => by
  simp [State.speedTick, h]

@[simp] theorem State.speedFailed_canonical (s : State) (l : AxisNo) :
    (s.speedFailed l).canonical = true ↔ s.canonical = true ∨ Mended s (s.speedFailed l) := canonical_iff fun h => by
  simp [State.speedFailed, h]

@[simp] theorem execSpeedImplausible_canonical (l : AxisNo) (now : Ns) {s : State} (h : s.canonical = true) :
    NextCanonical (execSpeedImplausible l now s) := by
  simp [execSpeedImplausible, h]

@[simp] theorem execSpeedWindowEnd_canonical (l : AxisNo) (now : Ns) {s : State} (h : s.canonical = true) :
    NextCanonical (execSpeedWindowEnd l now s) := by
  simp [execSpeedWindowEnd, h]

@[simp] theorem State.rackCount_canonical (s : State) (l : AxisNo) : (s.rackCount l).canonical = s.canonical := by
  simp only [State.rackCount]
  split <;> simp

@[simp] theorem State.rackFailed_canonical (s : State) (l : AxisNo) :
    (s.rackFailed l).canonical = true ↔ s.canonical = true ∨ Mended s (s.rackFailed l) := canonical_iff fun h => by
  simp [State.rackFailed, h]

@[simp] theorem execRackImplausible_canonical (l : AxisNo) (now : Ns) {s : State} (h : s.canonical = true) :
    NextCanonical (execRackImplausible l now s) := by
  simp [execRackImplausible, h]

@[simp] theorem State.modAct_canonical (s : State) (a : ActNo) (f : Act → Act) : (s.modAct a f).canonical = s.canonical := by
  simp [State.modAct]

@[simp] theorem State.beginRun_canonical (s : State) (a : ActNo) : (s.beginRun a).canonical = s.canonical := by
  simp [State.beginRun]

@[simp] theorem State.resumeRun_canonical (s : State) (c : Ctx) : (s.resumeRun c).canonical = s.canonical := by
  simp [State.resumeRun]

@[simp] theorem State.nextRun_canonical (s : State) : s.nextRun.canonical = s.canonical := by
  unfold State.nextRun
  split <;> simp

@[simp] theorem State.dispatch_canonical (s : State) : s.dispatch.canonical = s.canonical := by
  unfold State.dispatch
  split
  · simp
  · split <;> simp

@[simp] theorem State.deliverTo_canonical (s : State) (l : AxisNo) (x : Delivery) : (s.deliverTo l x).canonical = s.canonical := by
  simp [State.deliverTo]

@[simp] theorem State.trapped_canonical (s : State) (e : EngineId) (pc : BitVec 13) (cause : Nat) :
    (s.trapped e pc cause).canonical = true ↔ s.canonical = true ∨ Mended s (s.trapped e pc cause) := canonical_iff fun h => by
  simp only [State.trapped]
  split
  · simp [h]
  · split <;> simp [h]

theorem Engine.poke_canonical {g : Engine} {l : AxisNo} (h : g.canonical (.loop l) = true) (a : Nat) (w : W24) :
    (g.poke l a w).canonical (.loop l) = true := by
  simp only [Engine.canonical, Engine.poke, Bool.and_eq_true] at h ⊢
  obtain ⟨⟨⟨hp, ho⟩, hpf⟩, hof⟩ := h
  exact ⟨⟨⟨hp, Cells.wf_write _ _ _ _ ho⟩, hpf⟩, hof⟩

/-! ### Loop instructions -/

/-- An instruction whose effect keeps the memories of its engine in canonical form. -/
def Micro.Keeps (m : Micro) : Prop := ∀ (v : Env) (g : Engine), g.canonical v.e = true → (m.act v g).canonical v.e = true

theorem Micro.once_canonical {m : Micro} (hm : m.Keeps) {v : Env} {g : Engine} (h : g.canonical v.e = true) : (m.once v g).canonical v.e = true := by
  simpa [Micro.once] using hm v g h

theorem Micro.times_canonical {m : Micro} (hm : m.Keeps) {v : Env} {g : Engine} (n : Nat) (h : g.canonical v.e = true) :
    (m.times v n g).canonical v.e = true := by
  induction n generalizing g with
  | zero => exact h
  | succ n ih =>
    unfold Micro.times
    split
    · exact h
    · exact ih (Micro.once_canonical hm h)

@[simp] theorem State.env_e (s : State) (e : EngineId) : (s.env e).e = e := by
  unfold State.env
  simp only []
  split
  · rfl
  · split
    · split
      · split <;> simp_all
      · simp_all
    · rfl

theorem State.issue_keeps {m : Micro} (hm : m.Keeps) {s : State} (h : s.canonical = true) (e : EngineId) : (s.issue e m).canonical = true := by
  unfold State.issue
  extract_lets t v g pc n c g₁ g₂ hit u
  have ht : t.canonical = true := by
    simp only [t]
    split <;> simp [h]
  have hg₁ : g₁.canonical v.e = true := by
    simpa [g₁, g, v] using t.eng_canonical ht e
  have hg₂ : g₂.canonical e = true := by
    simpa [v] using Micro.times_canonical hm n hg₁
  have hu : u.canonical = true := State.modEng_keeps ht fun _ => hg₂
  clear_value u
  split
  · simp [hu]
  · simp [hu]

theorem Engine.put_canonical {g : Engine} {v : Env} (h : g.canonical v.e = true) (a : Nat) (w : W24) : (g.put v a w).canonical v.e = true := by
  simp only [Engine.put]
  split
  · simp only [Engine.canonical, Bool.and_eq_true] at h ⊢
    obtain ⟨⟨⟨hp, ho⟩, hpf⟩, hof⟩ := h
    exact ⟨⟨⟨hp, Cells.wf_write _ _ _ _ ho⟩, hpf⟩, hof⟩
  · simpa using h

theorem Engine.putRow_canonical {g : Engine} {v : Env} (h : g.canonical v.e = true) (a : Nat) (w : Vector W24 4) :
    (g.putRow v a w).canonical v.e = true := by
  unfold Engine.putRow
  split
  · exact forFin_keeps (p := fun g : Engine => g.canonical v.e = true) h fun _ _ hg => Engine.put_canonical hg _ _
  · exact Engine.put_canonical h _ _

theorem Engine.storeReg_canonical {g : Engine} {v : Env} (h : g.canonical v.e = true) (r a : Nat) (w : Vector W24 4) :
    (g.storeReg v r a w).canonical v.e = true := by
  unfold Engine.storeReg
  split
  · exact Engine.putRow_canonical h _ _
  · exact Engine.put_canonical h _ _

/-- An effect on the registers alone. -/
theorem onCtx_canonical (f : Env → Ctx → Ctx) (v : Env) (g : Engine) (h : g.canonical v.e = true) : (onCtx f v g).canonical v.e = true := by
  simpa [onCtx] using h

@[simp] theorem mNop_keeps : mNop.Keeps := fun _ _ h => h
@[simp] theorem mHalt_keeps : mHalt.Keeps := fun _ g h => by simpa [mHalt, Engine.stop] using h
@[simp] theorem mJmp_keeps (t : BitVec 13) : (mJmp t).Keeps := onCtx_canonical _
@[simp] theorem mJcc_keeps (k : BitVec 4) (t : BitVec 13) : (mJcc k t).Keeps := onCtx_canonical _
@[simp] theorem mCall_keeps (t : BitVec 13) : (mCall t).Keeps := onCtx_canonical _
@[simp] theorem mRet_keeps : mRet.Keeps := fun v g h => by
  simp only [mRet]
  split
  · simpa [Engine.stop] using h
  · split <;> simpa using h
@[simp] theorem mRepeat_keeps (n : BitVec 12) : (mRepeat n).Keeps := onCtx_canonical _
@[simp] theorem mDecj_keeps (t : BitVec 13) : (mDecj t).Keeps := onCtx_canonical _
@[simp] theorem mDlvr_keeps (p : BitVec 3) : (mDlvr p).Keeps := fun _ _ h => h
@[simp] theorem mMul_keeps (o : MulOp) (f : MacOps) : (mMul o f).Keeps := fun v g h => by
  simp only [mMul, mulAct, Engine.canonical_frame]
  split
  · exact Engine.putRow_canonical h _ _
  · exact h
@[simp] theorem mAc_keeps (o : AcOp) (d a : Bool) (sh : Nat) : (mAc o d a sh).Keeps := onCtx_canonical _
@[simp] theorem mAddb_keeps (d b : Bool) : (mAddb d b).Keeps := onCtx_canonical _
@[simp] theorem mLoad_keeps (r : BitVec 4) (p : BitVec 3) (ps abs : Bool) (addr : BitVec 14) : (mLoad r p ps abs addr).Keeps := fun v g h => by
  simpa [mLoad] using h
@[simp] theorem mStore_keeps (r : BitVec 4) (p : BitVec 3) (ps abs : Bool) (addr : BitVec 14) : (mStore r p ps abs addr).Keeps := fun v g h => by
  simpa [mStore] using Engine.storeReg_canonical h _ _ _
@[simp] theorem mImm_keeps (r : BitVec 4) (x : W24) : (mImm r x).Keeps := onCtx_canonical _
@[simp] theorem mPtr_keeps (n : BitVec 3) (x : BitVec 14) : (mPtr n x).Keeps := onCtx_canonical _
@[simp] theorem mPtrAdd_keeps (n : BitVec 3) (x : BitVec 14) : (mPtrAdd n x).Keeps := onCtx_canonical _
@[simp] theorem mStep_keeps (n : BitVec 3) (x : BitVec 14) : (mStep n x).Keeps := onCtx_canonical _
@[simp] theorem mWrap_keeps (n : BitVec 3) (x : BitVec 14) : (mWrap n x).Keeps := onCtx_canonical _
@[simp] theorem mMove_keeps (dst src : BitVec 4) : (mMove dst src).Keeps := onCtx_canonical _

/-- A decoded word that keeps the memories; a delivery has no effect on its engine's. -/
def Decoded.Keeps : Decoded → Prop
  | .run m => m.Keeps
  | .deliver _ _ _ => True

@[simp] theorem Decoded.keeps_run (m : Micro) : (Decoded.run m).Keeps ↔ m.Keeps := Iff.rfl
@[simp] theorem Decoded.keeps_deliver (l : AxisNo) (p : BitVec 3) (slot : BitVec 4) : (Decoded.deliver l p slot).Keeps := trivial

theorem decodeControl_keeps {e : EngineId} {w : Word} {d : Decoded} (h : decodeControl e w = some d) : d.Keeps := by
  unfold decodeControl at h
  simp only [] at h
  (repeat' split at h) <;> cases h <;> simp

theorem decodeMul_keeps {w : Word} {d : Decoded} (h : decodeMul w = some d) : d.Keeps := by
  unfold decodeMul at h
  simp only [] at h
  (repeat' split at h) <;> cases h
  simp

theorem decodeAc_keeps {w : Word} {d : Decoded} (h : decodeAc w = some d) : d.Keeps := by
  unfold decodeAc at h
  extract_lets o c a sh ops at h
  split at h
  · cases h
  · split at h
    · cases h
      simp
    · split at h
      · cases h
        simp
      · split at h
        · cases h
          simp
        · obtain ⟨x, -, rfl⟩ := Option.map_eq_some_iff.1 h
          simp

theorem decodeMove_keeps {w : Word} {d : Decoded} (h : decodeMove w = some d) : d.Keeps := by
  unfold decodeMove at h
  simp only [] at h
  (repeat' split at h) <;> cases h <;> simp

/-- Every instruction of the set keeps the memories in canonical form. -/
theorem decodeWord_keeps {e : EngineId} {w : Word} {d : Decoded} (h : decodeWord e w = some d) : d.Keeps := by
  unfold decodeWord at h
  split at h
  · exact decodeControl_keeps h
  · exact decodeMul_keeps h
  · exact decodeAc_keeps h
  · exact decodeMove_keeps h

@[simp] theorem State.boundary_canonical (s : State) (e : EngineId) (rep : Bool) : (s.boundary e rep).canonical = s.canonical := by
  unfold State.boundary
  split <;> simp

@[simp] theorem State.command_canonical {m : Micro} (hm : m.Keeps) {s : State} (h : s.canonical = true) (e : EngineId) (ok : Bool) :
    NextCanonical (s.command e ok m) := by
  simp [State.command, State.issue_keeps hm h]

@[simp] theorem State.dlvr_canonical (s : State) (l : AxisNo) (p : BitVec 3) (slot : BitVec 4) : (s.dlvr l p slot).canonical = s.canonical := by
  simp [State.dlvr]

@[simp] theorem State.deliverRun_canonical (s : State) (l : AxisNo) (p : BitVec 3) (slot : BitVec 4) :
    (s.deliverRun l p slot).canonical = true ↔ s.canonical = true ∨ Mended s (s.deliverRun l p slot) := canonical_iff fun h => by
  have hi := State.issue_keeps (mDlvr_keeps p) h .su
  simp [State.deliverRun, hi]

@[simp] theorem execNop_canonical (e : EngineId) {s : State} (h : s.canonical = true) :
    NextCanonical (execNop e s) := by
  simp [execNop, h]

@[simp] theorem execHalt_canonical (e : EngineId) {s : State} (h : s.canonical = true) :
    NextCanonical (execHalt e s) := by
  simp [execHalt, h]

@[simp] theorem execJmp_canonical (e : EngineId) (target : BitVec 13) {s : State} (h : s.canonical = true) :
    NextCanonical (execJmp e target s) := by
  simp [execJmp, h]

@[simp] theorem execJcc_canonical (e : EngineId) (cond : BitVec 4) (target : BitVec 13) {s : State} (h : s.canonical = true) :
    NextCanonical (execJcc e cond target s) := by
  simp [execJcc, h]

@[simp] theorem execCall_canonical (e : EngineId) (target : BitVec 13) {s : State} (h : s.canonical = true) :
    NextCanonical (execCall e target s) := by
  simp [execCall, h]

@[simp] theorem execRet_canonical (e : EngineId) {s : State} (h : s.canonical = true) :
    NextCanonical (execRet e s) := by
  simp [execRet, h]

@[simp] theorem execRepeat_canonical (e : EngineId) (count : BitVec 12) {s : State} (h : s.canonical = true) :
    NextCanonical (execRepeat e count s) := by
  simp [execRepeat, h]

@[simp] theorem execDecj_canonical (e : EngineId) (target : BitVec 13) {s : State} (h : s.canonical = true) :
    NextCanonical (execDecj e target s) := by
  simp [execDecj, h]

@[simp] theorem execDlvr_canonical (e : EngineId) (axis : AxisNo) (ptr : BitVec 3) (slot : BitVec 4) {s : State} (h : s.canonical = true) :
    NextCanonical (execDlvr e axis ptr slot s) := by
  unfold execDlvr
  split <;> simp [h]

@[simp] theorem execPrd_canonical (e : EngineId) (f : MacOps) {s : State} (h : s.canonical = true) :
    NextCanonical (execPrd e f s) := by
  simp [execPrd, h]

@[simp] theorem execPra_canonical (e : EngineId) (f : MacOps) {s : State} (h : s.canonical = true) :
    NextCanonical (execPra e f s) := by
  simp [execPra, h]

@[simp] theorem execPrs_canonical (e : EngineId) (f : MacOps) {s : State} (h : s.canonical = true) :
    NextCanonical (execPrs e f s) := by
  simp [execPrs, h]

@[simp] theorem execPrn_canonical (e : EngineId) (f : MacOps) {s : State} (h : s.canonical = true) :
    NextCanonical (execPrn e f s) := by
  simp [execPrn, h]

@[simp] theorem execPmv_canonical (e : EngineId) (f : MacOps) {s : State} (h : s.canonical = true) :
    NextCanonical (execPmv e f s) := by
  simp [execPmv, h]

@[simp] theorem execAdd_canonical (e : EngineId) (d src : Bool) {s : State} (h : s.canonical = true) :
    NextCanonical (execAdd e d src s) := by
  simp [execAdd, h]

@[simp] theorem execSub_canonical (e : EngineId) (d src : Bool) {s : State} (h : s.canonical = true) :
    NextCanonical (execSub e d src s) := by
  simp [execSub, h]

@[simp] theorem execNeg_canonical (e : EngineId) (d src : Bool) {s : State} (h : s.canonical = true) :
    NextCanonical (execNeg e d src s) := by
  simp [execNeg, h]

@[simp] theorem execAbsA_canonical (e : EngineId) (d src : Bool) {s : State} (h : s.canonical = true) :
    NextCanonical (execAbsA e d src s) := by
  simp [execAbsA, h]

@[simp] theorem execClr_canonical (e : EngineId) (d src : Bool) {s : State} (h : s.canonical = true) :
    NextCanonical (execClr e d src s) := by
  simp [execClr, h]

@[simp] theorem execAsl_canonical (e : EngineId) (d src : Bool) (sh : BitVec 6) {s : State} (h : s.canonical = true) :
    NextCanonical (execAsl e d src sh s) := by
  simp [execAsl, h]

@[simp] theorem execAsr_canonical (e : EngineId) (d src : Bool) (sh : BitVec 6) {s : State} (h : s.canonical = true) :
    NextCanonical (execAsr e d src sh s) := by
  simp [execAsr, h]

@[simp] theorem execSat_canonical (e : EngineId) (d src : Bool) {s : State} (h : s.canonical = true) :
    NextCanonical (execSat e d src s) := by
  simp [execSat, h]

@[simp] theorem execMaxA_canonical (e : EngineId) (d src : Bool) {s : State} (h : s.canonical = true) :
    NextCanonical (execMaxA e d src s) := by
  simp [execMaxA, h]

@[simp] theorem execMinA_canonical (e : EngineId) (d src : Bool) {s : State} (h : s.canonical = true) :
    NextCanonical (execMinA e d src s) := by
  simp [execMinA, h]

@[simp] theorem execAddb_canonical (e : EngineId) (d src : Bool) {s : State} (h : s.canonical = true) :
    NextCanonical (execAddb e d src s) := by
  simp [execAddb, h]

@[simp] theorem execTst_canonical (e : EngineId) (d src : Bool) {s : State} (h : s.canonical = true) :
    NextCanonical (execTst e d src s) := by
  simp [execTst, h]

@[simp] theorem execRndh_canonical (e : EngineId) (d src : Bool) {s : State} (h : s.canonical = true) :
    NextCanonical (execRndh e d src s) := by
  simp [execRndh, h]

@[simp] theorem execOperandLoad_canonical (e : EngineId) (reg : BitVec 4) (ptr : BitVec 3) (ps abs : Bool) (addr : BitVec 14)
    {s : State} (h : s.canonical = true) :
    NextCanonical (execOperandLoad e reg ptr ps abs addr s) := by
  simp [execOperandLoad, h]

@[simp] theorem execOperandStore_canonical (e : EngineId) (reg : BitVec 4) (ptr : BitVec 3) (ps abs : Bool) (addr : BitVec 14)
    {s : State} (h : s.canonical = true) :
    NextCanonical (execOperandStore e reg ptr ps abs addr s) := by
  simp [execOperandStore, h]

@[simp] theorem execImmediateLoad_canonical (e : EngineId) (reg : BitVec 4) (imm : BitVec 24) {s : State} (h : s.canonical = true) :
    NextCanonical (execImmediateLoad e reg imm s) := by
  simp [execImmediateLoad, h]

@[simp] theorem execPointerLoad_canonical (e : EngineId) (n : BitVec 3) (imm : BitVec 14) {s : State} (h : s.canonical = true) :
    NextCanonical (execPointerLoad e n imm s) := by
  simp [execPointerLoad, h]

@[simp] theorem execPointerAdd_canonical (e : EngineId) (n : BitVec 3) (imm : BitVec 14) {s : State} (h : s.canonical = true) :
    NextCanonical (execPointerAdd e n imm s) := by
  simp [execPointerAdd, h]

@[simp] theorem execStepLoad_canonical (e : EngineId) (n : BitVec 3) (imm : BitVec 14) {s : State} (h : s.canonical = true) :
    NextCanonical (execStepLoad e n imm s) := by
  simp [execStepLoad, h]

@[simp] theorem execWrapLoad_canonical (e : EngineId) (n : BitVec 3) (imm : BitVec 14) {s : State} (h : s.canonical = true) :
    NextCanonical (execWrapLoad e n imm s) := by
  simp [execWrapLoad, h]

@[simp] theorem execRegisterMove_canonical (e : EngineId) (dst src : BitVec 4) {s : State} (h : s.canonical = true) :
    NextCanonical (execRegisterMove e dst src s) := by
  simp [execRegisterMove, h]

@[simp] theorem State.runProg_canonical (s : State) (e : EngineId) (n : Nat) :
    (s.runProg e n).canonical = true ↔ s.canonical = true ∨ Mended s (s.runProg e n) := canonical_iff fun h => by
  induction n generalizing s with
  | zero => exact h
  | succ n ih =>
    unfold State.runProg
    split
    · exact h
    · split
      · next m hd => exact ih _ (State.issue_keeps (decodeWord_keeps hd) h e)
      · exact ih _ (by simp [h])
      · simpa [Engine.stop] using h

@[simp] theorem State.modCur_canonical (s : State) (l : AxisNo) (f : Cur → Cur) : (s.modCur l f).canonical = s.canonical := by
  simp [State.modCur]

@[simp] theorem State.modDel_canonical (s : State) (l : AxisNo) (f : Deliv → Deliv) : (s.modDel l f).canonical = s.canonical := by
  simp [State.modDel]

@[simp] theorem State.schedule_canonical (s : State) (l : AxisNo) (pt : Nat) (nom : Ns) (x : SampleIn) :
    (s.schedule l pt nom x).canonical = true ↔ s.canonical = true ∨ Mended s (s.schedule l pt nom x) := canonical_iff fun h => by
  simp [State.schedule, h]

@[simp] theorem State.staleReact_canonical (s : State) (l : AxisNo) :
    (s.staleReact l).canonical = true ↔ s.canonical = true ∨ Mended s (s.staleReact l) := canonical_iff fun h => by
  simp [State.staleReact, h]

@[simp] theorem execFeedbackStale_canonical (l : AxisNo) (now : Ns) {s : State} (h : s.canonical = true) :
    NextCanonical (execFeedbackStale l now s) := by
  simp [execFeedbackStale, h]

@[simp] theorem State.takeResults_canonical (s : State) (l : AxisNo) (tick : Bool) : (s.takeResults l tick).canonical = s.canonical := by
  simp [State.takeResults]

@[simp] theorem State.posUpdate_canonical (s : State) (l : AxisNo) (mov : Word) (dRev : Q) : (s.posUpdate l mov dRev).1.canonical = s.canonical := by
  simp [State.posUpdate]

@[simp] theorem State.noteCmp_canonical (s : State) (l : AxisNo) (was : List (Int × Word)) : (s.noteCmp l was).canonical = s.canonical := by
  simp [State.noteCmp]

@[simp] theorem State.compareStep_canonical (s : State) (l : AxisNo) (t0 t1 : Ns) (dir : Int) (set : Bool) :
    (s.compareStep l t0 t1 dir set).canonical = true ↔ s.canonical = true ∨ Mended s (s.compareStep l t0 t1 dir set) := canonical_iff fun h => by
  simp [State.compareStep, h]

@[simp] theorem State.measure_canonical (s : State) (l : AxisNo) : (s.measure l).canonical = s.canonical := by
  simp [State.measure]

@[simp] theorem State.takeover_canonical (s : State) (l : AxisNo) (sp : Bool) :
    (s.takeover l sp).canonical = true ↔ s.canonical = true ∨ Mended s (s.takeover l sp) := canonical_iff fun h => by
  simp only [State.takeover]
  split
  · simp [h]
  · split <;> simp [h]

@[simp] theorem State.enterCurrent_canonical (s : State) (l : AxisNo) : (s.enterCurrent l).canonical = s.canonical := by
  simp [State.enterCurrent]

@[simp] theorem State.currentLoop_canonical (s : State) (l : AxisNo) (r : Refs) : (s.currentLoop l r).canonical = s.canonical := by
  simp [State.currentLoop]

@[simp] theorem State.modelCheck_canonical (s : State) (l : AxisNo) : (s.modelCheck l).canonical = s.canonical := by
  simp [State.modelCheck]

@[simp] theorem State.modelResid_canonical (s : State) (l : AxisNo) :
    (s.modelResid l).canonical = true ↔ s.canonical = true ∨ Mended s (s.modelResid l) := canonical_iff fun h => by
  simp [State.modelResid, h]

@[simp] theorem execModelResidual_canonical (l : AxisNo) (now : Ns) {s : State} (h : s.canonical = true) :
    NextCanonical (execModelResidual l now s) := by
  simp [execModelResidual, h]

@[simp] theorem State.modelFailed_canonical (s : State) (l : AxisNo) :
    (s.modelFailed l).canonical = true ↔ s.canonical = true ∨ Mended s (s.modelFailed l) := canonical_iff fun h => by
  simp [State.modelFailed, h]

@[simp] theorem execModelImplausible_canonical (l : AxisNo) (now : Ns) {s : State} (h : s.canonical = true) :
    NextCanonical (execModelImplausible l now s) := by
  simp [execModelImplausible, h]

@[simp] theorem State.attached_canonical (s : State) (l : AxisNo) (sp ps : Bool) :
    (s.attached l sp ps).canonical = true ↔ s.canonical = true ∨ Mended s (s.attached l sp ps) := canonical_iff fun h => by
  simp only [State.attached]
  split
  · exact h
  · rw [State.runProg_canonical]
    refine .inl (State.modEng_keeps h fun hg => ?_)
    simp only [Engine.canonical_frame]
    exact List.foldlRecOn (motive := fun g : Engine => g.canonical (.loop l) = true) _ _ hg fun g hg _ _ => Engine.poke_canonical hg _ _

@[simp] theorem State.tickEnd_canonical (s : State) (l : AxisNo) : (s.tickEnd l).canonical = s.canonical := by
  simp [State.tickEnd]

@[simp] theorem State.calSample_canonical (s : State) (l : AxisNo) : (s.calSample l).canonical = s.canonical := by
  simp [State.calSample]

@[simp] theorem State.calEnd_canonical (s : State) (l : AxisNo) :
    (s.calEnd l).canonical = true ↔ s.canonical = true ∨ Mended s (s.calEnd l) := canonical_iff fun h => by
  simp only [State.calEnd]
  (repeat' split) <;> simp [h]

@[simp] theorem execCurrentOffsetCalibration_canonical (l : AxisNo) (now : Ns) {s : State} (h : s.canonical = true) :
    NextCanonical (execCurrentOffsetCalibration l now s) := by
  simp [execCurrentOffsetCalibration, h]

@[simp] theorem State.dueAxis_canonical (s : State) (l : AxisNo) :
    (s.dueAxis l).canonical = true ↔ s.canonical = true ∨ Mended s (s.dueAxis l) := canonical_iff fun h => by
  simp [State.dueAxis, h]

@[simp] theorem State.sumMeans_canonical (s : State) (l : AxisNo) : (s.sumMeans l).canonical = s.canonical := by
  simp [State.sumMeans]

@[simp] theorem State.loops_canonical (s : State) (l : AxisNo) (sp ps : Bool) :
    (s.loops l sp ps).canonical = true ↔ s.canonical = true ∨ Mended s (s.loops l sp ps) := canonical_iff fun h => by
  simp only [State.loops]
  split <;> simp [h]

@[simp] theorem State.sampleRun_canonical (s : State) (l : AxisNo) (pt : Nat) (nom : Ns) (x : SampleIn) :
    (s.sampleRun l pt nom x).canonical = true ↔ s.canonical = true ∨ Mended s (s.sampleRun l pt nom x) := canonical_iff fun h => by
  simp only [State.sampleRun, State.ite_canonical_iff, State.ssiDue_canonical, State.tickEnd_canonical, State.attached_canonical,
    State.sumMeans_canonical, State.modelCheck_canonical, State.loops_canonical, State.linkSample_canonical, State.calSample_canonical,
    State.measure_canonical, State.compareStep_canonical, State.posUpdate_canonical, State.commutate_canonical,
    State.takeResults_canonical, State.feed_canonical, State.schedule_canonical, State.dueAxis_canonical, State.takeNow_canonical, h,
    true_or, ite_self]

@[simp] theorem execCurrentLoopSample_canonical (l : AxisNo) (x : SampleIn) {s : State} (h : s.canonical = true) :
    NextCanonical (execCurrentLoopSample l x s) := by
  unfold execCurrentLoopSample
  split
  · simp [h]
  · split <;> simp [h]

@[simp] theorem State.carrier_canonical (s : State) (l : AxisNo) (t : Ns) (err : Int) :
    (s.carrier l t err).canonical = true ↔ s.canonical = true ∨ Mended s (s.carrier l t err) := canonical_iff fun h => by
  simp [State.carrier, h]

@[simp] theorem State.gatePoint_canonical (s : State) (l : AxisNo) : (s.gatePoint l).canonical = s.canonical := by
  simp only [State.gatePoint]
  split
  · simp
  · split <;> simp
  · rfl

@[simp] theorem State.loadPoint_canonical (s : State) (l : AxisNo) (t : Ns) :
    (s.loadPoint l t).canonical = true ↔ s.canonical = true ∨ Mended s (s.loadPoint l t) := canonical_iff fun h => by
  simp [State.loadPoint, h]

@[simp] theorem State.extreme_canonical (s : State) (l : AxisNo) (peak : Bool) (t : Q) :
    (s.extreme l peak t).canonical = true ↔ s.canonical = true ∨ Mended s (s.extreme l peak t) := canonical_iff fun h => by
  simp [State.extreme, h]

@[simp] theorem execPwmLoadPoint_canonical (l : AxisNo) (peak : Bool) (now : Ns) {s : State} (h : s.canonical = true) :
    NextCanonical (execPwmLoadPoint l peak now s) := by
  simp [execPwmLoadPoint, h]

@[simp] theorem State.writeStops_canonical (s : State) (l : AxisNo) (a b : Int) : (s.writeStops l a b).canonical = s.canonical := by
  simp [State.writeStops]

@[simp] theorem State.gainRef_canonical (s : State) (l : AxisNo) : (s.gainRef l).canonical = s.canonical := by
  simp only [State.gainRef]
  split <;> simp

@[simp] theorem State.setPos_canonical (s : State) (l : AxisNo) (p : Int) : (s.setPos l p).canonical = s.canonical := by
  simp [State.setPos]

@[simp] theorem State.startSearch_canonical (s : State) (l : AxisNo) (n : Fin 3) : (s.startSearch l n).canonical = s.canonical := by
  simp [State.startSearch]

@[simp] theorem State.firstEnable_canonical (s : State) (l : AxisNo) : (s.firstEnable l).canonical = s.canonical := by
  simp only [State.firstEnable]
  (repeat' split) <;> simp

@[simp] theorem State.searchFailed_canonical (s : State) (n : Fin 3) :
    (s.searchFailed n).canonical = true ↔ s.canonical = true ∨ Mended s (s.searchFailed n) := canonical_iff fun h => by
  simp [State.searchFailed, h]

@[simp] theorem State.searchEnd_canonical (s : State) (n : Fin 3) :
    (s.searchEnd n).canonical = true ↔ s.canonical = true ∨ Mended s (s.searchEnd n) := canonical_iff fun h => by
  unfold State.searchEnd
  split <;> simp [h]

@[simp] theorem execCentreSearch_canonical (n : Fin 3) (now : Ns) {s : State} (h : s.canonical = true) :
    NextCanonical (execCentreSearch n now s) := by
  simp [execCentreSearch, h]

@[simp] theorem State.centreLatch_canonical (s : State) (l : AxisNo) (n : Fin 3) :
    (s.centreLatch l n).canonical = true ↔ s.canonical = true ∨ Mended s (s.centreLatch l n) := canonical_iff fun h => by
  simp [State.centreLatch, h]

@[simp] theorem State.searchLatch_canonical (s : State) (l : AxisNo) (n : Fin 3) : (s.searchLatch l n).canonical = s.canonical := by
  simp [State.searchLatch]

@[simp] theorem execReferenceSwitchEdge_canonical (l : AxisNo) (rising : Bool) (now : Ns) {s : State} (h : s.canonical = true) :
    NextCanonical (execReferenceSwitchEdge l rising now s) := by
  simp only [execReferenceSwitchEdge]
  split <;> simp [h]

@[simp] theorem axisBody_canonical {f : Req → AxisNo → State → Ans} {r : Req} (hf : ∀ l (x : CanonicalState), (f r l x.1).st.canonical = true)
    (s : State) : (axisBody f r s).st.canonical = true ↔ s.canonical = true ∨ Mended s (axisBody f r s).st := canonical_iff fun h => by
  unfold axisBody
  split
  · exact hf _ ⟨s, h⟩
  · simp [h]

@[simp] theorem holdBody_canonical {f : Req → AxisNo → State → Ans} {r : Req} (hf : ∀ l (x : CanonicalState), (f r l x.1).st.canonical = true)
    (s : State) : (holdBody f r s).st.canonical = true ↔ s.canonical = true ∨ Mended s (holdBody f r s).st := by
  refine axisBody_canonical (fun l x => ?_) s
  split
  · exact hf l x
  · simp

@[simp] theorem State.startAxis_canonical (s : State) (l : AxisNo) : (s.startAxis l).canonical = s.canonical := by
  simp [State.startAxis]

@[simp] theorem State.enableAxis_canonical (s : State) (l : AxisNo) :
    (s.enableAxis l).canonical = true ↔ s.canonical = true ∨ Mended s (s.enableAxis l) := canonical_iff fun h => by
  unfold State.enableAxis
  extract_lets k was g t u v x y
  have ht : t.canonical = true := by
    simp only [t]
    split <;> simp [h]
  clear_value t
  have hu : u.canonical = true := by
    simp only [u]
    split <;> simp [ht]
  clear_value u
  have hv : v.canonical = true := State.modAx_keeps hu fun ha => Engine.reloaded_canonical ha
  clear_value v
  have hx : x.canonical = true := by
    simp only [x]
    split <;> simp [hv]
  clear_value x
  have hy : y.canonical = true := by simp [y, hx]
  clear_value y
  split <;> simp [hy]

@[simp] theorem bodyAxEnable_canonical (r : Req) (s : State) :
    (bodyAxEnable r s).st.canonical = true ↔ s.canonical = true ∨ Mended s (bodyAxEnable r s).st := canonical_iff fun h => by
  refine (holdBody_canonical (fun l x => ?_) s).2 (.inl h)
  split <;> simp

@[simp] theorem execOpAxEnable_canonical (r : Req) {s : State} (h : s.canonical = true) :
    NextCanonical (execOpAxEnable r s) := by
  simp [execOpAxEnable, h]

@[simp] theorem bodyAxDisable_canonical (r : Req) (s : State) :
    (bodyAxDisable r s).st.canonical = true ↔ s.canonical = true ∨ Mended s (bodyAxDisable r s).st := canonical_iff fun h => by
  simp [bodyAxDisable, h]

@[simp] theorem execOpAxDisable_canonical (r : Req) {s : State} (h : s.canonical = true) :
    NextCanonical (execOpAxDisable r s) := by
  simp [execOpAxDisable, h]

@[simp] theorem bodyAxMove_canonical (r : Req) (s : State) :
    (bodyAxMove r s).st.canonical = true ↔ s.canonical = true ∨ Mended s (bodyAxMove r s).st := canonical_iff fun h => by
  simp [bodyAxMove, h]

@[simp] theorem execOpAxMove_canonical (r : Req) {s : State} (h : s.canonical = true) :
    NextCanonical (execOpAxMove r s) := by
  simp [execOpAxMove, h]

@[simp] theorem bodyAxAbort_canonical (r : Req) (s : State) :
    (bodyAxAbort r s).st.canonical = true ↔ s.canonical = true ∨ Mended s (bodyAxAbort r s).st := canonical_iff fun h => by
  simp [bodyAxAbort, h]

@[simp] theorem execOpAxAbort_canonical (r : Req) {s : State} (h : s.canonical = true) :
    NextCanonical (execOpAxAbort r s) := by
  simp [execOpAxAbort, h]

@[simp] theorem bodyAxRelease_canonical (r : Req) (s : State) :
    (bodyAxRelease r s).st.canonical = true ↔ s.canonical = true ∨ Mended s (bodyAxRelease r s).st := canonical_iff fun h => by
  simp [bodyAxRelease, h]

@[simp] theorem execOpAxRelease_canonical (r : Req) {s : State} (h : s.canonical = true) :
    NextCanonical (execOpAxRelease r s) := by
  simp [execOpAxRelease, h]

@[simp] theorem bodyAxSetpos_canonical (r : Req) (s : State) :
    (bodyAxSetpos r s).st.canonical = true ↔ s.canonical = true ∨ Mended s (bodyAxSetpos r s).st := canonical_iff fun h => by
  refine (holdBody_canonical (fun l x => ?_) s).2 (.inl h)
  split <;> simp

@[simp] theorem execOpAxSetpos_canonical (r : Req) {s : State} (h : s.canonical = true) :
    NextCanonical (execOpAxSetpos r s) := by
  simp [execOpAxSetpos, h]

@[simp] theorem bodyAxArmIndex_canonical (r : Req) (s : State) :
    (bodyAxArmIndex r s).st.canonical = true ↔ s.canonical = true ∨ Mended s (bodyAxArmIndex r s).st := canonical_iff fun h => by
  simp [bodyAxArmIndex, h]

@[simp] theorem bodyAxArmLatch_canonical (r : Req) (s : State) :
    (bodyAxArmLatch r s).st.canonical = true ↔ s.canonical = true ∨ Mended s (bodyAxArmLatch r s).st := canonical_iff fun h => by
  simp [bodyAxArmLatch, h]

@[simp] theorem bodyAxArm_canonical (r : Req) (s : State) :
    (bodyAxArm r s).st.canonical = true ↔ s.canonical = true ∨ Mended s (bodyAxArm r s).st := canonical_iff fun h => by
  simp [bodyAxArm, h]

@[simp] theorem execOpAxArmIndex_canonical (r : Req) {s : State} (h : s.canonical = true) :
    NextCanonical (execOpAxArmIndex r s) := by
  simp [execOpAxArmIndex, h]

@[simp] theorem execOpAxArmLatch_canonical (r : Req) {s : State} (h : s.canonical = true) :
    NextCanonical (execOpAxArmLatch r s) := by
  simp [execOpAxArmLatch, h]

@[simp] theorem bodyAxPreset_canonical (r : Req) (s : State) :
    (bodyAxPreset r s).st.canonical = true ↔ s.canonical = true ∨ Mended s (bodyAxPreset r s).st := canonical_iff fun h => by
  simp [bodyAxPreset, h]

@[simp] theorem execOpAxPreset_canonical (r : Req) {s : State} (h : s.canonical = true) :
    NextCanonical (execOpAxPreset r s) := by
  simp [execOpAxPreset, h]

@[simp] theorem bodyAxAlign_canonical (r : Req) (s : State) :
    (bodyAxAlign r s).st.canonical = true ↔ s.canonical = true ∨ Mended s (bodyAxAlign r s).st := canonical_iff fun h => by
  simp [bodyAxAlign, h]

@[simp] theorem execOpAxAlign_canonical (r : Req) {s : State} (h : s.canonical = true) :
    NextCanonical (execOpAxAlign r s) := by
  simp [execOpAxAlign, h]

@[simp] theorem bodyAxCmpWrite_canonical (r : Req) (s : State) :
    (bodyAxCmpWrite r s).st.canonical = true ↔ s.canonical = true ∨ Mended s (bodyAxCmpWrite r s).st := canonical_iff fun h => by
  simp [bodyAxCmpWrite, h]

@[simp] theorem bodyAxCmpRead_canonical (r : Req) (s : State) :
    (bodyAxCmpRead r s).st.canonical = true ↔ s.canonical = true ∨ Mended s (bodyAxCmpRead r s).st := canonical_iff fun h => by
  simp [bodyAxCmpRead, h]

@[simp] theorem bodyAxCmp_canonical (r : Req) (s : State) :
    (bodyAxCmp r s).st.canonical = true ↔ s.canonical = true ∨ Mended s (bodyAxCmp r s).st := canonical_iff fun h => by
  simp [bodyAxCmp, h]

@[simp] theorem execOpAxCmpWrite_canonical (r : Req) {s : State} (h : s.canonical = true) :
    NextCanonical (execOpAxCmpWrite r s) := by
  simp [execOpAxCmpWrite, h]

@[simp] theorem execOpAxCmpRead_canonical (r : Req) {s : State} (h : s.canonical = true) :
    NextCanonical (execOpAxCmpRead r s) := by
  simp [execOpAxCmpRead, h]

@[simp] theorem bodyAxSetpoint_canonical (r : Req) (s : State) :
    (bodyAxSetpoint r s).st.canonical = true ↔ s.canonical = true ∨ Mended s (bodyAxSetpoint r s).st := canonical_iff fun h => by
  simp [bodyAxSetpoint, h]

@[simp] theorem execOpAxSetpoint_canonical (r : Req) {s : State} (h : s.canonical = true) :
    NextCanonical (execOpAxSetpoint r s) := by
  simp [execOpAxSetpoint, h]

@[simp] theorem bodyAxStatus_canonical (r : Req) (s : State) :
    (bodyAxStatus r s).st.canonical = true ↔ s.canonical = true ∨ Mended s (bodyAxStatus r s).st := canonical_iff fun h => by
  simp [bodyAxStatus, h]

@[simp] theorem execOpAxStatus_canonical (r : Req) {s : State} (h : s.canonical = true) :
    NextCanonical (execOpAxStatus r s) := by
  simp [execOpAxStatus, h]

@[simp] theorem bodySsAxis_canonical (r : Req) (s : State) :
    (bodySsAxis r s).st.canonical = true ↔ s.canonical = true ∨ Mended s (bodySsAxis r s).st := canonical_iff fun h => by
  simp [bodySsAxis, h]

@[simp] theorem execOpSsAxis_canonical (r : Req) {s : State} (h : s.canonical = true) :
    NextCanonical (execOpSsAxis r s) := by
  simp [execOpSsAxis, h]

@[simp] theorem bodyChopfClear_canonical (r : Req) (s : State) : (bodyChopfClear r s).st.canonical = s.canonical := by
  simp [bodyChopfClear]

@[simp] theorem execOpChopfClear_canonical (r : Req) {s : State} (h : s.canonical = true) :
    NextCanonical (execOpChopfClear r s) := by
  simp [execOpChopfClear, h]

@[simp] theorem State.countNv_canonical (s : State) (base : Nat) (r : NvRes) :
    (s.countNv base r).canonical = true ↔ s.canonical = true ∨ Mended s (s.countNv base r) := canonical_iff fun h => by
  unfold State.countNv
  split <;> simp [h]

@[simp] theorem State.modConn_canonical (s : State) (c : Fin 16) (f : Conn → Conn) : (s.modConn c f).canonical = s.canonical := by
  simp [State.modConn]

@[simp] theorem State.nvAccepted_canonical (s : State) (c : Fin 16) :
    (s.nvAccepted c).canonical = true ↔ s.canonical = true ∨ Mended s (s.nvAccepted c) := canonical_iff fun h => by
  simp only [State.nvAccepted]
  split <;> simp [h]

@[simp] theorem State.nvReceive_canonical (s : State) (c : Fin 16) (bs : List Byte) :
    (s.nvReceive c bs).canonical = true ↔ s.canonical = true ∨ Mended s (s.nvReceive c bs) := canonical_iff fun h => by
  simp [State.nvReceive, h]

@[simp] theorem State.nvNetwork_canonical (s : State) (net : Nat) (bs : List Byte) (padded : Bool) :
    (s.nvNetwork net bs padded).canonical = true ↔ s.canonical = true ∨ Mended s (s.nvNetwork net bs padded) := canonical_iff fun h => by
  unfold State.nvNetwork
  split <;> simp [h]

@[simp] theorem State.pubReceive_canonical (s : State) (i : LaneNo) (blk : Fin 3) (bs : List Byte) :
    (s.pubReceive i blk bs).canonical = true ↔ s.canonical = true ∨ Mended s (s.pubReceive i blk bs) := canonical_iff fun h => by
  simp [State.pubReceive, h]

@[simp] theorem State.nvDeadline_canonical (s : State) (c : Fin 16) :
    (s.nvDeadline c).canonical = true ↔ s.canonical = true ∨ Mended s (s.nvDeadline c) := canonical_iff fun h => by
  simp only [State.nvDeadline]
  split <;> simp [h]

@[simp] theorem execNovmiDeadline_canonical (c : Fin 16) (now : Ns) {s : State} (h : s.canonical = true) :
    NextCanonical (execNovmiDeadline c now s) := by
  simp [execNovmiDeadline, h]

@[simp] theorem State.nvCycle_canonical (s : State) :
    s.nvCycle.canonical = true ↔ s.canonical = true ∨ Mended s s.nvCycle := canonical_iff fun h => by
  simp [State.nvCycle, h]

@[simp] theorem State.modSi_canonical (s : State) (n : Fin 6) (f : SiPair → SiPair) : (s.modSi n f).canonical = s.canonical := by
  simp [State.modSi]

@[simp] theorem State.siAct_canonical (s : State) (n : Fin 6) :
    (s.siAct n).canonical = true ↔ s.canonical = true ∨ Mended s (s.siAct n) := canonical_iff fun h => by
  simp [State.siAct, h]

@[simp] theorem State.siJudge_canonical (s : State) (n : Fin 6) :
    (s.siJudge n).canonical = true ↔ s.canonical = true ∨ Mended s (s.siJudge n) := canonical_iff fun h => by
  simp [State.siJudge, h]

@[simp] theorem execSafetyInputChange_canonical (n : Fin 6) (now : Ns) {s : State} (h : s.canonical = true) :
    NextCanonical (execSafetyInputChange n now s) := by
  simp [execSafetyInputChange, h]

@[simp] theorem State.siLatch_canonical (s : State) (n : Fin 6) :
    (s.siLatch n).canonical = true ↔ s.canonical = true ∨ Mended s (s.siLatch n) := canonical_iff fun h => by
  simp [State.siLatch, h]

@[simp] theorem execSiDiscrepancy_canonical (n : Fin 6) (now : Ns) {s : State} (h : s.canonical = true) :
    NextCanonical (execSiDiscrepancy n now s) := by
  simp [execSiDiscrepancy, h]

@[simp] theorem State.siClears_canonical (s : State) (n : Fin 6) :
    (s.siClears n).canonical = true ↔ s.canonical = true ∨ Mended s (s.siClears n) := canonical_iff fun h => by
  simp [State.siClears, h]

@[simp] theorem State.siTick_canonical (s : State) (n : Fin 6) (c1 c2 : Bool) :
    (s.siTick n c1 c2).canonical = true ↔ s.canonical = true ∨ Mended s (s.siTick n c1 c2) := canonical_iff fun h => by
  simp [State.siTick, h]

@[simp] theorem bodySiClear_canonical (r : Req) (s : State) : (bodySiClear r s).st.canonical = s.canonical := by
  simp [bodySiClear]

@[simp] theorem execOpSiClear_canonical (r : Req) {s : State} (h : s.canonical = true) :
    NextCanonical (execOpSiClear r s) := by
  simp [execOpSiClear, h]

@[simp] theorem State.askStop_canonical (s : State) (cause : Nat) : (s.askStop cause).canonical = s.canonical := by
  simp [State.askStop]

@[simp] theorem State.siTake_canonical (s : State) :
    s.siTake.canonical = true ↔ s.canonical = true ∨ Mended s s.siTake := canonical_iff fun h => by
  simp [State.siTake, h]

@[simp] theorem State.siStart_canonical (s : State) :
    s.siStart.canonical = true ↔ s.canonical = true ∨ Mended s s.siStart := canonical_iff fun h => by
  simp [State.siStart, h]

@[simp] theorem State.stopCauses_canonical (s : State) :
    s.stopCauses.canonical = true ↔ s.canonical = true ∨ Mended s s.stopCauses := canonical_iff fun h => by
  simp only [State.stopCauses]
  split
  · simp [h]
  · split <;> simp [h]

@[simp] theorem State.safeStill_canonical (s : State) : s.safeStill.canonical = s.canonical := by
  unfold State.safeStill
  split <;> simp

@[simp] theorem execSafestopStill_canonical (now : Ns) {s : State} (h : s.canonical = true) :
    NextCanonical (execSafestopStill now s) := by
  simp [execSafestopStill, h]

@[simp] theorem State.steerOff_canonical (s : State) :
    s.steerOff.canonical = true ↔ s.canonical = true ∨ Mended s s.steerOff := canonical_iff fun h => by
  simp [State.steerOff, h]

@[simp] theorem State.decelMonitor_canonical (s : State) :
    s.decelMonitor.canonical = true ↔ s.canonical = true ∨ Mended s s.decelMonitor := canonical_iff fun h => by
  simp [State.decelMonitor, h]

@[simp] theorem State.safePhases_canonical (s : State) :
    s.safePhases.canonical = true ↔ s.canonical = true ∨ Mended s s.safePhases := canonical_iff fun h => by
  simp only [State.safePhases]
  split <;> simp [h]

@[simp] theorem State.releaseStop_canonical (s : State) : s.releaseStop.canonical = s.canonical := by
  simp only [State.releaseStop, State.setSt_canonical, State.canonical_frame, State.modBrake_canonical]
  exact s.mapAx_canonical fun a => by split <;> simp

@[simp] theorem bodySsVehicle_canonical (r : Req) (s : State) : (bodySsVehicle r s).st.canonical = s.canonical := by
  simp [bodySsVehicle]

@[simp] theorem execOpSsVehicle_canonical (r : Req) {s : State} (h : s.canonical = true) :
    NextCanonical (execOpSsVehicle r s) := by
  simp [execOpSsVehicle, h]

@[simp] theorem bodySsRelease_canonical (r : Req) (s : State) : (bodySsRelease r s).st.canonical = s.canonical := by
  simp [bodySsRelease]

@[simp] theorem execOpSsRelease_canonical (r : Req) {s : State} (h : s.canonical = true) :
    NextCanonical (execOpSsRelease r s) := by
  simp [execOpSsRelease, h]

@[simp] theorem State.voteOutlier_canonical (s : State) (i : LaneNo) :
    (s.voteOutlier i).canonical = true ↔ s.canonical = true ∨ Mended s (s.voteOutlier i) := canonical_iff fun h => by
  simp [State.voteOutlier, h]

@[simp] theorem execVoteOutlier_canonical (i : LaneNo) (now : Ns) {s : State} (h : s.canonical = true) :
    NextCanonical (execVoteOutlier i now s) := by
  simp [execVoteOutlier, h]

@[simp] theorem State.judgeOutlier_canonical (s : State) (mid : SetPts) (p : LaneNo × SetPts) :
    (s.judgeOutlier mid p).canonical = true ↔ s.canonical = true ∨ Mended s (s.judgeOutlier mid p) := canonical_iff fun h => by
  unfold State.judgeOutlier
  split <;> simp [h]

@[simp] theorem State.heldLimit_canonical (s : State) : s.heldLimit.canonical = s.canonical := by
  simp [State.heldLimit]

@[simp] theorem execVoteHeldLimit_canonical (now : Ns) {s : State} (h : s.canonical = true) :
    NextCanonical (execVoteHeldLimit now s) := by
  simp [execVoteHeldLimit, h]

@[simp] theorem State.noneLimit_canonical (s : State) : s.noneLimit.canonical = s.canonical := by
  simp [State.noneLimit]

@[simp] theorem execVoteNoneLimit_canonical (now : Ns) {s : State} (h : s.canonical = true) :
    NextCanonical (execVoteNoneLimit now s) := by
  simp only [execVoteNoneLimit]
  split <;> simp [h]

@[simp] theorem State.voteEvents_canonical (s : State) (n : Nat) (single : Option LaneNo) :
    (s.voteEvents n single).canonical = true ↔ s.canonical = true ∨ Mended s (s.voteEvents n single) := canonical_iff fun h => by
  simp [State.voteEvents, h]

@[simp] theorem State.castVote_canonical (s : State) :
    s.castVote.canonical = true ↔ s.canonical = true ∨ Mended s s.castVote := canonical_iff fun h => by
  simp [State.castVote, h]

@[simp] theorem State.handLost_canonical (s : State) :
    s.handLost.canonical = true ↔ s.canonical = true ∨ Mended s s.handLost := canonical_iff fun h => by
  simp [State.handLost, h]

@[simp] theorem execHwAngleLost_canonical (now : Ns) {s : State} (h : s.canonical = true) :
    NextCanonical (execHwAngleLost now s) := by
  simp [execHwAngleLost, h]

@[simp] theorem State.handCycle_canonical (s : State) :
    s.handCycle.canonical = true ↔ s.canonical = true ∨ Mended s s.handCycle := canonical_iff fun h => by
  simp [State.handCycle, h]

@[simp] theorem State.articCycle_canonical (s : State) :
    s.articCycle.canonical = true ↔ s.canonical = true ∨ Mended s s.articCycle := canonical_iff fun h => by
  simp [State.articCycle, h]

@[simp] theorem State.axleLost_canonical (s : State) (n : Fin 3) :
    (s.axleLost n).canonical = true ↔ s.canonical = true ∨ Mended s (s.axleLost n) := canonical_iff fun h => by
  simp [State.axleLost, h]

@[simp] theorem State.axleWindings_canonical (s : State) (n : Fin 3) :
    (s.axleWindings n).canonical = true ↔ s.canonical = true ∨ Mended s (s.axleWindings n) := canonical_iff fun h => by
  simp [State.axleWindings, h]

@[simp] theorem State.handWindings_canonical (s : State) :
    s.handWindings.canonical = true ↔ s.canonical = true ∨ Mended s s.handWindings := canonical_iff fun h => by
  simp [State.handWindings, h]

@[simp] theorem State.wheelWindings_canonical (s : State) (w : Fin 8) :
    (s.wheelWindings w).canonical = true ↔ s.canonical = true ∨ Mended s (s.wheelWindings w) := canonical_iff fun h => by
  simp [State.wheelWindings, h]

@[simp] theorem State.motorFlags_canonical (s : State) :
    s.motorFlags.canonical = true ↔ s.canonical = true ∨ Mended s s.motorFlags := canonical_iff fun h => by
  simp [State.motorFlags, h]

@[simp] theorem State.modWind_canonical (s : State) (g : Fin 3) (l : AxisNo) (f : Winding → Winding) : (s.modWind g l f).canonical = s.canonical := by
  simp [State.modWind]

@[simp] theorem State.windingLost_canonical (s : State) (g : Fin 3) (l : AxisNo) :
    (s.windingLost g l).canonical = true ↔ s.canonical = true ∨ Mended s (s.windingLost g l) := canonical_iff fun h => by
  simp [State.windingLost, h]

@[simp] theorem execWindingLost_canonical (g : Fin 3) (l : AxisNo) (now : Ns) {s : State} (h : s.canonical = true) :
    NextCanonical (execWindingLost g l now s) := by
  simp [execWindingLost, h]

@[simp] theorem State.windCycle_canonical (s : State) :
    s.windCycle.canonical = true ↔ s.canonical = true ∨ Mended s s.windCycle := canonical_iff fun h => by
  simp [State.windCycle, h]

@[simp] theorem State.ferrCycle_canonical (s : State) (n : Fin 3) :
    (s.ferrCycle n).canonical = true ↔ s.canonical = true ∨ Mended s (s.ferrCycle n) := canonical_iff fun h => by
  simp [State.ferrCycle, h]

@[simp] theorem State.steerSetPts_canonical (s : State) (gOld : Vector Q 2) : (s.steerSetPts gOld).1.canonical = s.canonical := by
  simp [State.steerSetPts]

@[simp] theorem State.setTarget_canonical (s : State) (l : AxisNo) (t : Int) : (s.setTarget l t).canonical = s.canonical := by
  simp [State.setTarget]

@[simp] theorem State.setValue_canonical (s : State) (l : AxisNo) (x : Q) : (s.setValue l x).canonical = s.canonical := by
  simp [State.setValue]

@[simp] theorem State.searchMove_canonical (s : State) (n : Fin 3) :
    (s.searchMove n).canonical = true ↔ s.canonical = true ∨ Mended s (s.searchMove n) := canonical_iff fun h => by
  unfold State.searchMove
  split <;> simp [h]

@[simp] theorem State.applyAngle_canonical (s : State) (l : AxisNo) (n : Fin 3) : (s.applyAngle l n).canonical = s.canonical := by
  unfold State.applyAngle
  split
  · simp
  · split <;> simp

@[simp] theorem State.applyFeel_canonical (s : State) (l : AxisNo) : (s.applyFeel l).canonical = s.canonical := by
  simp [State.applyFeel]

@[simp] theorem State.applySteer_canonical (s : State) :
    s.applySteer.canonical = true ↔ s.canonical = true ∨ Mended s s.applySteer := canonical_iff fun h => by
  unfold State.applySteer
  refine (forFin_canonical (fun l x => ?_) _).2 (.inl (by simp [h]))
  split
  · simp
  · split <;> simp

@[simp] theorem bodyVfSteer_canonical (r : Req) (s : State) : (bodyVfSteer r s).st.canonical = s.canonical := by
  simp [bodyVfSteer]

@[simp] theorem execOpVfSteer_canonical (r : Req) {s : State} (h : s.canonical = true) :
    NextCanonical (execOpVfSteer r s) := by
  simp [execOpVfSteer, h]

@[simp] theorem State.pedalLost_canonical (s : State) :
    s.pedalLost.canonical = true ↔ s.canonical = true ∨ Mended s s.pedalLost := canonical_iff fun h => by
  simp [State.pedalLost, h]

@[simp] theorem State.pedalCycle_canonical (s : State) :
    s.pedalCycle.canonical = true ↔ s.canonical = true ∨ Mended s s.pedalCycle := canonical_iff fun h => by
  simp [State.pedalCycle, h]

@[simp] theorem State.speedCycle_canonical (s : State) : s.speedCycle.canonical = s.canonical := by
  simp [State.speedCycle]

@[simp] theorem State.forceImplausible_canonical (s : State) (l : AxisNo) :
    (s.forceImplausible l).canonical = true ↔ s.canonical = true ∨ Mended s (s.forceImplausible l) := canonical_iff fun h => by
  unfold State.forceImplausible
  split <;> simp [h]

@[simp] theorem execForceImplausible_canonical (l : AxisNo) (now : Ns) {s : State} (h : s.canonical = true) :
    NextCanonical (execForceImplausible l now s) := by
  simp [execForceImplausible, h]

@[simp] theorem State.forceCycle_canonical (s : State) (l : AxisNo) :
    (s.forceCycle l).canonical = true ↔ s.canonical = true ∨ Mended s (s.forceCycle l) := canonical_iff fun h => by
  simp [State.forceCycle, h]

@[simp] theorem State.demandCycle_canonical (s : State) : s.demandCycle.canonical = s.canonical := by
  simp [State.demandCycle]

@[simp] theorem State.regenUnconfirmed_canonical (s : State) :
    s.regenUnconfirmed.canonical = true ↔ s.canonical = true ∨ Mended s s.regenUnconfirmed := canonical_iff fun h => by
  simp [State.regenUnconfirmed, h]

@[simp] theorem execRegenUnconfirmed_canonical (now : Ns) {s : State} (h : s.canonical = true) :
    NextCanonical (execRegenUnconfirmed now s) := by
  simp [execRegenUnconfirmed, h]

@[simp] theorem State.regenExpiry_canonical (s : State) : s.regenExpiry.canonical = s.canonical := by
  simp [State.regenExpiry]

@[simp] theorem execRegenBlockExpiry_canonical (now : Ns) {s : State} (h : s.canonical = true) :
    NextCanonical (execRegenBlockExpiry now s) := by
  simp [execRegenBlockExpiry, h]

@[simp] theorem State.confirmCycle_canonical (s : State) (fresh : Bool) :
    (s.confirmCycle fresh).canonical = true ↔ s.canonical = true ∨ Mended s (s.confirmCycle fresh) := canonical_iff fun h => by
  simp [State.confirmCycle, h]

@[simp] theorem State.slipCycle_canonical (s : State) (f4 : Vector Q 8) : (s.slipCycle f4).canonical = s.canonical := by
  simp [State.slipCycle]

@[simp] theorem State.deficitCycle_canonical (s : State) (d : Q) :
    (s.deficitCycle d).canonical = true ↔ s.canonical = true ∨ Mended s (s.deficitCycle d) := canonical_iff fun h => by
  simp [State.deficitCycle, h]

@[simp] theorem State.setPark_canonical (s : State) (p : Park) : (s.setPark p).canonical = s.canonical := by
  simp [State.setPark]

@[simp] theorem State.completeAll_canonical (s : State) (os : List AccOp) :
    (s.completeAll os).canonical = true ↔ s.canonical = true ∨ Mended s (s.completeAll os) := canonical_iff fun h => by
  simp [State.completeAll, h]

@[simp] theorem State.parkDone_canonical (s : State) :
    s.parkDone.canonical = true ↔ s.canonical = true ∨ Mended s s.parkDone := canonical_iff fun h => by
  simp [State.parkDone, h]

@[simp] theorem State.parkOff_canonical (s : State) :
    s.parkOff.canonical = true ↔ s.canonical = true ∨ Mended s s.parkOff := canonical_iff fun h => by
  simp [State.parkOff, h]

@[simp] theorem State.parkEnable_canonical (s : State) :
    s.parkEnable.canonical = true ↔ s.canonical = true ∨ Mended s s.parkEnable := canonical_iff fun h => by
  simp [State.parkEnable, h]

@[simp] theorem State.parkHold_canonical (s : State) :
    s.parkHold.canonical = true ↔ s.canonical = true ∨ Mended s s.parkHold := canonical_iff fun h => by
  simp [State.parkHold, h]

@[simp] theorem State.parkToRelease_canonical (s : State) :
    s.parkToRelease.canonical = true ↔ s.canonical = true ∨ Mended s s.parkToRelease := canonical_iff fun h => by
  simp [State.parkToRelease, h]

@[simp] theorem State.parkRelease_canonical (s : State) :
    s.parkRelease.canonical = true ↔ s.canonical = true ∨ Mended s s.parkRelease := canonical_iff fun h => by
  unfold State.parkRelease
  split <;> simp [h]

@[simp] theorem State.parkRequest_canonical (s : State) : s.parkRequest.canonical = s.canonical := by
  simp [State.parkRequest]

@[simp] theorem State.latchTimeout_canonical (s : State) :
    s.latchTimeout.canonical = true ↔ s.canonical = true ∨ Mended s s.latchTimeout := canonical_iff fun h => by
  simp [State.latchTimeout, h]

@[simp] theorem execParkLatchTimeout_canonical (now : Ns) {s : State} (h : s.canonical = true) :
    NextCanonical (execParkLatchTimeout now s) := by
  simp [execParkLatchTimeout, h]

@[simp] theorem State.parkRetry_canonical (s : State) :
    s.parkRetry.canonical = true ↔ s.canonical = true ∨ Mended s s.parkRetry := canonical_iff fun h => by
  simp [State.parkRetry, h]

@[simp] theorem execParkRetry_canonical (now : Ns) {s : State} (h : s.canonical = true) :
    NextCanonical (execParkRetry now s) := by
  simp [execParkRetry, h]

@[simp] theorem State.parkInputs_canonical (s : State) :
    s.parkInputs.canonical = true ↔ s.canonical = true ∨ Mended s s.parkInputs := canonical_iff fun h => by
  simp only [State.parkInputs]
  (repeat' split) <;> simp [h]

@[simp] theorem State.parkStep_canonical (s : State) :
    s.parkStep.canonical = true ↔ s.canonical = true ∨ Mended s s.parkStep := canonical_iff fun h => by
  unfold State.parkStep
  split <;> simp [h]

@[simp] theorem State.parkCycle_canonical (s : State) :
    s.parkCycle.canonical = true ↔ s.canonical = true ∨ Mended s s.parkCycle := canonical_iff fun h => by
  simp [State.parkCycle, h]

@[simp] theorem bodyVfParkRequest_canonical (r : Req) (s : State) : (bodyVfParkRequest r s).st.canonical = s.canonical := by
  simp [bodyVfParkRequest]

@[simp] theorem bodyVfParkRelease_canonical (r : Req) (s : State) :
    (bodyVfParkRelease r s).st.canonical = true ↔ s.canonical = true ∨ Mended s (bodyVfParkRelease r s).st := canonical_iff fun h => by
  simp [bodyVfParkRelease, h]

@[simp] theorem bodyVfPark_canonical (r : Req) (s : State) :
    (bodyVfPark r s).st.canonical = true ↔ s.canonical = true ∨ Mended s (bodyVfPark r s).st := canonical_iff fun h => by
  simp [bodyVfPark, h]

@[simp] theorem execOpVfParkRequest_canonical (r : Req) {s : State} (h : s.canonical = true) :
    NextCanonical (execOpVfParkRequest r s) := by
  simp [execOpVfParkRequest, h]

@[simp] theorem execOpVfParkRelease_canonical (r : Req) {s : State} (h : s.canonical = true) :
    NextCanonical (execOpVfParkRelease r s) := by
  simp [execOpVfParkRelease, h]

@[simp] theorem State.parkAbort_canonical (s : State) :
    s.parkAbort.canonical = true ↔ s.canonical = true ∨ Mended s s.parkAbort := canonical_iff fun h => by
  simp only [State.parkAbort, State.ite_canonical_iff, State.parkOff_canonical, State.modBrake_canonical, State.setPark_canonical, h, true_or, ite_self]

@[simp] theorem State.brakeSetPts_canonical (s : State) (fresh : Bool) (df : List Q) :
    (s.brakeSetPts fresh df).1.canonical = true ↔ s.canonical = true ∨ Mended s (s.brakeSetPts fresh df).1 := canonical_iff fun h => by
  simp [State.brakeSetPts, h]

@[simp] theorem State.defaultCycle_canonical (s : State) :
    s.defaultCycle.canonical = true ↔ s.canonical = true ∨ Mended s s.defaultCycle := canonical_iff fun h => by
  simp [State.defaultCycle, h]

@[simp] theorem State.applyForce_canonical (s : State) (l : AxisNo) (w : Fin 8) : (s.applyForce l w).canonical = s.canonical := by
  simp [State.applyForce]

@[simp] theorem State.applyBrake_canonical (s : State) :
    s.applyBrake.canonical = true ↔ s.canonical = true ∨ Mended s s.applyBrake := canonical_iff fun h => by
  refine (forFin_canonical (fun l x => ?_) s).2 (.inl h)
  split <;> simp

@[simp] theorem State.ledRecord_canonical (s : State) (i : Fin 9) (fric req conf : Q) (n : Nat) :
    (s.ledRecord i fric req conf n).canonical = true ↔ s.canonical = true ∨ Mended s (s.ledRecord i fric req conf n) := canonical_iff fun h => by
  simp [State.ledRecord, h]

@[simp] theorem State.ledgerCycle_canonical (s : State) (req conf : Vector Q 8) :
    (s.ledgerCycle req conf).canonical = true ↔ s.canonical = true ∨ Mended s (s.ledgerCycle req conf) := canonical_iff fun h => by
  simp [State.ledgerCycle, h]

@[simp] theorem State.ledgerWrite_canonical (s : State) : s.ledgerWrite.canonical = s.canonical := by
  simp [State.ledgerWrite]

@[simp] theorem State.ledgerSave_canonical (s : State) : s.ledgerSave.canonical = s.canonical := by
  simp [State.ledgerSave]

@[simp] theorem execLedgerSave_canonical (now : Ns) {s : State} (h : s.canonical = true) :
    NextCanonical (execLedgerSave now s) := by
  simp [execLedgerSave, h]

@[simp] theorem bodyLedgerRead_canonical (r : Req) (s : State) : (bodyLedgerRead r s).st.canonical = s.canonical := by
  simp [bodyLedgerRead]

@[simp] theorem execOpLedgerRead_canonical (r : Req) {s : State} (h : s.canonical = true) :
    NextCanonical (execOpLedgerRead r s) := by
  simp [execOpLedgerRead, h]

@[simp] theorem bodyLedgerClear_canonical (r : Req) (s : State) :
    (bodyLedgerClear r s).st.canonical = true ↔ s.canonical = true ∨ Mended s (bodyLedgerClear r s).st := canonical_iff fun h => by
  simp [bodyLedgerClear, h]

@[simp] theorem execOpLedgerClear_canonical (r : Req) {s : State} (h : s.canonical = true) :
    NextCanonical (execOpLedgerClear r s) := by
  simp [execOpLedgerClear, h]

@[simp] theorem bodyVfBrake_canonical (r : Req) (s : State) : (bodyVfBrake r s).st.canonical = s.canonical := by
  simp [bodyVfBrake]

@[simp] theorem execOpVfBrake_canonical (r : Req) {s : State} (h : s.canonical = true) :
    NextCanonical (execOpVfBrake r s) := by
  simp [execOpVfBrake, h]

@[simp] theorem State.fail_canonical (s : State) (cause : BitVec 4) (group : Byte) :
    (s.fail cause group).canonical = true ↔ s.canonical = true ∨ Mended s (s.fail cause group) := canonical_iff fun h => by
  unfold State.fail
  split
  · simp [h]
  · split
    · exact h
    · have ht : (s.mapAx Axis.cut).canonical = true := by simp [h]
      simp only [State.bump_canonical, State.setSt_canonical]
      exact .inl ht

@[simp] theorem State.compare_canonical (s : State) (c0 c1 : CmpBits) :
    (s.compare c0 c1).canonical = true ↔ s.canonical = true ∨ Mended s (s.compare c0 c1) := canonical_iff fun h => by
  unfold State.compare
  split <;> simp [h]

@[simp] theorem execLockstepMismatch_canonical (c0 c1 : CmpBits) (now : Ns) {s : State} (h : s.canonical = true) :
    NextCanonical (execLockstepMismatch c0 c1 now s) := by
  simp [execLockstepMismatch, h]

@[simp] theorem execFsreq_canonical (reason : Byte) {s : State} (h : s.canonical = true) :
    NextCanonical (execFsreq reason s) := by
  unfold execFsreq
  split <;> simp [h]

@[simp] theorem State.setEx_canonical (s : State) (x : ExSrc) : (s.setEx x).canonical = s.canonical := by
  simp [State.setEx]

@[simp] theorem State.exchange_canonical (s : State) (cls : ExClass) (src : Byte) (width : Nat) (s0 s1 : BitVec 64) :
    (s.exchange cls src width s0 s1).canonical = true ↔ s.canonical = true ∨ Mended s (s.exchange cls src width s0 s1) := canonical_iff fun h => by
  unfold State.exchange
  split
  · simp [h]
  · split <;> simp [h]

@[simp] theorem execExchangeRead_canonical (cls : ExClass) (src : BitVec 8) (width : Fin 65) (s0 s1 : BitVec 64) (now : Ns)
    {s : State} (h : s.canonical = true) :
    NextCanonical (execExchangeRead cls src width s0 s1 now s) := by
  simp only [execExchangeRead]
  split <;> simp [h]

@[simp] theorem State.irqWindow_canonical (s : State) (p0 p1 : Word) :
    (s.irqWindow p0 p1).canonical = true ↔ s.canonical = true ∨ Mended s (s.irqWindow p0 p1) := canonical_iff fun h => by
  simp [State.irqWindow, h]

@[simp] theorem execInterruptWindowEnd_canonical (p0 p1 : Word) (now : Ns) {s : State} (h : s.canonical = true) :
    NextCanonical (execInterruptWindowEnd p0 p1 now s) := by
  simp only [execInterruptWindowEnd]
  split <;> simp [h]

@[simp] theorem State.injectionTest_canonical (s : State) (caught0 caught1 : CmpBits) (ordered stable clean : Bool) :
    (s.injectionTest caught0 caught1 ordered stable clean).canonical = true ↔
      s.canonical = true ∨ Mended s (s.injectionTest caught0 caught1 ordered stable clean) :=
  canonical_iff fun h => by
  unfold State.injectionTest
  split
  · simp [h]
  · split <;> simp [h]

@[simp] theorem execComparatorInjectionTest_canonical (caught0 caught1 : CmpBits) (ordered stable clean : Bool) (now : Ns)
    {s : State} (h : s.canonical = true) :
    NextCanonical (execComparatorInjectionTest caught0 caught1 ordered stable clean now s) := by
  simp [execComparatorInjectionTest, h]

@[simp] theorem State.noteParity_canonical (s : State) (lane : Bool) (axis : Nat) (block : Byte) (word : BitVec 16) :
    (s.noteParity lane axis block word).canonical = true ↔ s.canonical = true ∨ Mended s (s.noteParity lane axis block word) := canonical_iff fun h => by
  simp [State.noteParity, h]

@[simp] theorem State.axisParity_canonical (s : State) (l : AxisNo) (block : Word) (word : BitVec 16) :
    (s.axisParity l block word).canonical = true ↔ s.canonical = true ∨ Mended s (s.axisParity l block word) := canonical_iff fun h => by
  simp [State.axisParity, h]

@[simp] theorem State.parityFault_canonical (s : State) (owner : ParityOwner) (word : BitVec 16) :
    (s.parityFault owner word).canonical = true ↔ s.canonical = true ∨ Mended s (s.parityFault owner word) := canonical_iff fun h => by
  unfold State.parityFault
  split <;> simp [h]

@[simp] theorem execConfigParityFault_canonical (owner : ParityOwner) (word : BitVec 16) (value : Word) (par : BitVec 4) (now : Ns)
    {s : State} (h : s.canonical = true) :
    NextCanonical (execConfigParityFault owner word value par now s) := by
  simp [execConfigParityFault, h]

@[simp] theorem execUnmappedAccess_canonical (_write : Bool) {s : State} (h : s.canonical = true) :
    NextCanonical (execUnmappedAccess _write s) := by
  simp [execUnmappedAccess, h]

@[simp] theorem State.coreFault_canonical (s : State) (core : Fin 2) (cause : CoreFault) :
    (s.coreFault core cause).canonical = true ↔ s.canonical = true ∨ Mended s (s.coreFault core cause) := canonical_iff fun h => by
  simp [State.coreFault, h]

@[simp] theorem State.splitWatchdog_canonical (s : State) (core : Fin 2) :
    (s.splitWatchdog core).canonical = true ↔ s.canonical = true ∨ Mended s (s.splitWatchdog core) := canonical_iff fun h => by
  simp [State.splitWatchdog, h]

@[simp] theorem execSplitWatchdog_canonical (core : Fin 2) (now : Ns) {s : State} (h : s.canonical = true) :
    NextCanonical (execSplitWatchdog core now s) := by
  simp [execSplitWatchdog, h]

@[simp] theorem execSplitCoreFault_canonical (core : Fin 2) (cause : CoreFault) (now : Ns) {s : State} (h : s.canonical = true) :
    NextCanonical (execSplitCoreFault core cause now s) := by
  simp [execSplitCoreFault, h]

@[simp] theorem State.eccCorrected_canonical (s : State) (m : EccMem) (bank : Byte) (addr : Nat) :
    (s.eccCorrected m bank addr).canonical = true ↔ s.canonical = true ∨ Mended s (s.eccCorrected m bank addr) := canonical_iff fun h => by
  simp [State.eccCorrected, h]

@[simp] theorem State.eccAxis_canonical (s : State) (l : AxisNo) (m : MemId) (addr : Nat) :
    (s.eccAxis l m addr).canonical = true ↔ s.canonical = true ∨ Mended s (s.eccAxis l m addr) := canonical_iff fun h => by
  simp [State.eccAxis, h]

@[simp] theorem State.eccFatal_canonical (s : State) (m : EccMem) (bank : Byte) (addr : Nat) :
    (s.eccFatal m bank addr).canonical = true ↔ s.canonical = true ∨ Mended s (s.eccFatal m bank addr) := canonical_iff fun h => by
  unfold State.eccFatal
  split <;> simp [h]

@[simp] theorem State.eccRead_canonical (s : State) (m : EccMem) (bank : Byte) (addr : Nat) (r : EccResult) :
    (s.eccRead m bank addr r).canonical = true ↔ s.canonical = true ∨ Mended s (s.eccRead m bank addr r) := canonical_iff fun h => by
  unfold State.eccRead
  split <;> simp [h]

@[simp] theorem execScrubAccess_canonical (m : EccMem) (bank : Byte) (addr : Nat) (r : EccResult) (now : Ns) {s : State} (h : s.canonical = true) :
    NextCanonical (execScrubAccess m bank addr r now s) := by
  simp [execScrubAccess, h]

@[simp] theorem State.modMir_canonical (s : State) (l : AxisNo) (f : AxMirror → AxMirror) : (s.modMir l f).canonical = s.canonical := by
  simp [State.modMir]

@[simp] theorem State.shadowMode_canonical (s : State) (l : AxisNo) : (s.shadowMode l).canonical = s.canonical := by
  simp [State.shadowMode]

@[simp] theorem State.mirrorProv_canonical (s : State) (l : AxisNo) : (s.mirrorProv l).canonical = s.canonical := by
  unfold State.mirrorProv
  split
  · split <;> simp
  · simp

@[simp] theorem State.mirrorIndex_canonical (s : State) (l : AxisNo) : (s.mirrorIndex l).canonical = s.canonical := by
  simp only [State.mirrorIndex]
  split
  · simp
  · split <;> simp

@[simp] theorem State.mirrorRef_canonical (s : State) (l : AxisNo) : (s.mirrorRef l).canonical = s.canonical := by
  unfold State.mirrorRef
  split <;> simp

@[simp] theorem State.mirrorStop_canonical (s : State) (l : AxisNo) : (s.mirrorStop l).canonical = s.canonical := by
  simp [State.mirrorStop]

@[simp] theorem State.takeAxis_canonical (s : State) (l : AxisNo) (ws : List Word) : (s.takeAxis l ws).canonical = s.canonical := by
  simp [State.takeAxis]

@[simp] theorem State.takeCompare_canonical (s : State) (l : AxisNo) (ws : List Word) :
    (s.takeCompare l ws).canonical = true ↔ s.canonical = true ∨ Mended s (s.takeCompare l ws) := canonical_iff fun h => by
  simp [State.takeCompare, h]

@[simp] theorem State.takeSuper_canonical (s : State) (i : Fin 6) (ws : List Word) : (s.takeSuper i ws).canonical = s.canonical := by
  simp [State.takeSuper]

@[simp] theorem State.applySuper_canonical (s : State) : s.applySuper.canonical = s.canonical := by
  simp [State.applySuper]

@[simp] theorem State.startClaim_canonical (s : State) : s.startClaim.canonical = s.canonical := by
  simp [State.startClaim]

@[simp] theorem State.stopClaim_canonical (s : State) :
    s.stopClaim.canonical = true ↔ s.canonical = true ∨ Mended s s.stopClaim := canonical_iff fun h => by
  simp [State.stopClaim, h]

@[simp] theorem State.failPlanned_canonical (s : State) :
    s.failPlanned.canonical = true ↔ s.canonical = true ∨ Mended s s.failPlanned := canonical_iff fun h => by
  simp [State.failPlanned, h]

@[simp] theorem State.dropMirrors_canonical (s : State) : s.dropMirrors.canonical = s.canonical := by
  simp [State.dropMirrors]

@[simp] theorem State.giveUp_canonical (s : State) :
    s.giveUp.canonical = true ↔ s.canonical = true ∨ Mended s s.giveUp := canonical_iff fun h => by
  simp [State.giveUp, h]

@[simp] theorem State.toStandby_canonical (s : State) : s.toStandby.canonical = s.canonical := by
  simp [State.toStandby]

@[simp] theorem State.noteCastling_canonical (s : State) (cause : BitVec 2) (took : Bool) :
    (s.noteCastling cause took).canonical = true ↔ s.canonical = true ∨ Mended s (s.noteCastling cause took) := canonical_iff fun h => by
  simp [State.noteCastling, h]

@[simp] theorem State.takeCom_canonical (s : State) (l : AxisNo) : (s.takeCom l).canonical = s.canonical := by
  simp only [State.takeCom]
  (repeat' split) <;> simp

@[simp] theorem State.takeCompares_canonical (s : State) (l : AxisNo) :
    (s.takeCompares l).canonical = true ↔ s.canonical = true ∨ Mended s (s.takeCompares l) := canonical_iff fun h => by
  simp [State.takeCompares, h]

@[simp] theorem State.takeOne_canonical (s : State) (l : AxisNo) :
    (s.takeOne l).canonical = true ↔ s.canonical = true ∨ Mended s (s.takeOne l) := canonical_iff fun h => by
  simp [State.takeOne, h]

@[simp] theorem State.castlingClaim_canonical (s : State) :
    s.castlingClaim.canonical = true ↔ s.canonical = true ∨ Mended s s.castlingClaim := canonical_iff fun h => by
  simp [State.castlingClaim, h]

@[simp] theorem State.confirmClaim_canonical (s : State) :
    s.confirmClaim.canonical = true ↔ s.canonical = true ∨ Mended s s.confirmClaim := canonical_iff fun h => by
  simp only [State.confirmClaim]
  split
  · split <;> simp [h]
  · simp [h]

@[simp] theorem execClaimConfirmed_canonical (now : Ns) {s : State} (h : s.canonical = true) :
    NextCanonical (execClaimConfirmed now s) := by
  simp [execClaimConfirmed, h]

@[simp] theorem State.collide_canonical (s : State) :
    s.collide.canonical = true ↔ s.canonical = true ∨ Mended s s.collide := canonical_iff fun h => by
  simp [State.collide, h]

@[simp] theorem State.doubleClaim_canonical (s : State) :
    s.doubleClaim.canonical = true ↔ s.canonical = true ∨ Mended s s.doubleClaim := canonical_iff fun h => by
  simp [State.doubleClaim, h]

@[simp] theorem State.claimEdge_canonical (s : State) :
    s.claimEdge.canonical = true ↔ s.canonical = true ∨ Mended s s.claimEdge := canonical_iff fun h => by
  simp only [State.claimEdge]
  split
  · simp [h]
  · split <;> simp [h]

@[simp] theorem execTwinClaimEdge_canonical (now : Ns) {s : State} (h : s.canonical = true) :
    NextCanonical (execTwinClaimEdge now s) := by
  simp [execTwinClaimEdge, h]

@[simp] theorem State.startCastle_canonical (s : State) (cause : BitVec 2) : (s.startCastle cause).canonical = s.canonical := by
  simp [State.startCastle]

@[simp] theorem State.claimAbsent_canonical (s : State) : s.claimAbsent.canonical = s.canonical := by
  simp only [State.claimAbsent]
  split
  · split
    · simp
    · split <;> simp
  · simp

@[simp] theorem execTwinClaimAbsent_canonical (now : Ns) {s : State} (h : s.canonical = true) :
    NextCanonical (execTwinClaimAbsent now s) := by
  simp [execTwinClaimAbsent, h]

@[simp] theorem State.blackClaim_canonical (s : State) : s.blackClaim.canonical = s.canonical := by
  simp [State.blackClaim]

@[simp] theorem State.claimStep_canonical (s : State) :
    s.claimStep.canonical = true ↔ s.canonical = true ∨ Mended s s.claimStep := canonical_iff fun h => by
  simp [State.claimStep, h]

@[simp] theorem execClaimStart_canonical (now : Ns) {s : State} (h : s.canonical = true) :
    NextCanonical (execClaimStart now s) := by
  simp [execClaimStart, h]

@[simp] theorem execClaimRetry_canonical (now : Ns) {s : State} (h : s.canonical = true) :
    NextCanonical (execClaimRetry now s) := by
  simp only [execClaimRetry]
  split <;> simp [h]

@[simp] theorem execCastlingSettle_canonical (now : Ns) {s : State} (h : s.canonical = true) :
    NextCanonical (execCastlingSettle now s) := by
  simp [execCastlingSettle, h]

@[simp] theorem execBlackClaimTimer_canonical (now : Ns) {s : State} (h : s.canonical = true) :
    NextCanonical (execBlackClaimTimer now s) := by
  simp [execBlackClaimTimer, h]

@[simp] theorem State.castleGate_canonical (s : State) (l : AxisNo) : (s.castleGate l).canonical = s.canonical := by
  simp [State.castleGate]

@[simp] theorem State.castleGates_canonical (s : State) :
    s.castleGates.canonical = true ↔ s.canonical = true ∨ Mended s s.castleGates := canonical_iff fun h => by
  simp [State.castleGates, h]

@[simp] theorem execCastlingGateEnable_canonical (now : Ns) {s : State} (h : s.canonical = true) :
    NextCanonical (execCastlingGateEnable now s) := by
  simp [execCastlingGateEnable, h]

@[simp] theorem State.leavePairing_canonical (s : State) (byTimeout : Bool) : (s.leavePairing byTimeout).canonical = s.canonical := by
  simp [State.leavePairing]

@[simp] theorem execPairingTimeout_canonical (now : Ns) {s : State} (h : s.canonical = true) :
    NextCanonical (execPairingTimeout now s) := by
  simp [execPairingTimeout, h]

@[simp] theorem State.twinBad_canonical (s : State) :
    s.twinBad.canonical = true ↔ s.canonical = true ∨ Mended s s.twinBad := canonical_iff fun h => by
  simp [State.twinBad, h]

@[simp] theorem State.noteFrame_canonical (s : State) (seq : BitVec 16) (yield : Bool) :
    (s.noteFrame seq yield).canonical = true ↔ s.canonical = true ∨ Mended s (s.noteFrame seq yield) := canonical_iff fun h => by
  simp [State.noteFrame, h]

@[simp] theorem State.recvTwin_canonical {act : State → State} (ha : ∀ x : CanonicalState, (act x.1).canonical = true) (s : State) (f : TwinIn)
    (len : Nat) (yield : Bool) : (s.recvTwin f len yield act).canonical = true ↔ s.canonical = true ∨ Mended s (s.recvTwin f len yield act) :=
  canonical_iff fun h => by
    unfold State.recvTwin
    split
    · exact h
    · split
      · simp [h]
      · exact ha ⟨_, by simp [↓State.canonical_frame, h]⟩

@[simp] theorem State.mismatches_canonical (s : State) (w : List Word) :
    (s.mismatches w).canonical = true ↔ s.canonical = true ∨ Mended s (s.mismatches w) := canonical_iff fun h => by
  simp only [State.mismatches, State.modTwin_canonical, State.ite_canonical_iff, State.raise_canonical, h, true_or, ite_self]

@[simp] theorem State.takeStatus_canonical (s : State) (w : List Word) :
    (s.takeStatus w).canonical = true ↔ s.canonical = true ∨ Mended s (s.takeStatus w) := canonical_iff fun h => by
  unfold State.takeStatus
  extract_lets x st late t
  have ht : t.canonical = true := by
    rw [State.modTwin_canonical, State.mismatches_canonical]
    exact .inl h
  clear_value t
  split
  · simp [ht]
  · exact ht

@[simp] theorem State.twinAct_canonical (s : State) (type : Byte) (f : TwinIn) :
    (s.twinAct type f).canonical = true ↔ s.canonical = true ∨ Mended s (s.twinAct type f) := canonical_iff fun h => by
  simp only [State.twinAct]
  (repeat' split) <;> simp [h]

@[simp] theorem execYield_canonical (f : TwinIn) (now : Ns) {s : State} (h : s.canonical = true) :
    NextCanonical (execYield f now s) := by
  simp [execYield, h]

@[simp] theorem execStatus_canonical (f : TwinIn) (now : Ns) {s : State} (h : s.canonical = true) :
    NextCanonical (execStatus f now s) := by
  simp [execStatus, h]

@[simp] theorem execAxis_canonical (f : TwinIn) (now : Ns) {s : State} (h : s.canonical = true) :
    NextCanonical (execAxis f now s) := by
  simp [execAxis, h]

@[simp] theorem execCompare_canonical (f : TwinIn) (now : Ns) {s : State} (h : s.canonical = true) :
    NextCanonical (execCompare f now s) := by
  simp [execCompare, h]

@[simp] theorem execSuper_canonical (f : TwinIn) (now : Ns) {s : State} (h : s.canonical = true) :
    NextCanonical (execSuper f now s) := by
  simp [execSuper, h]

@[simp] theorem State.roleMismatch_canonical (s : State) :
    s.roleMismatch.canonical = true ↔ s.canonical = true ∨ Mended s s.roleMismatch := canonical_iff fun h => by
  simp [State.roleMismatch, h]

@[simp] theorem State.twinReceive_canonical (s : State) (coded : Bool) (bs : List Byte) :
    (s.twinReceive coded bs).canonical = true ↔ s.canonical = true ∨ Mended s (s.twinReceive coded bs) := canonical_iff fun h => by
  unfold State.twinReceive
  split
  · simp [h]
  · split <;> simp [h]

@[simp] theorem execTwinFrameDiscard_canonical (coded : Bool) (bytes : List Byte) (now : Ns) {s : State} (h : s.canonical = true) :
    NextCanonical (execTwinFrameDiscard coded bytes now s) := by
  simp [execTwinFrameDiscard, h]

@[simp] theorem execTwinLinkLost_canonical (now : Ns) {s : State} (h : s.canonical = true) :
    NextCanonical (execTwinLinkLost now s) := by
  simp [execTwinLinkLost, h]

@[simp] theorem State.sendTwin_canonical (s : State) (type sub : BitVec 8) (ws : List Word) : (s.sendTwin type sub ws).canonical = s.canonical := by
  simp [State.sendTwin]

@[simp] theorem State.planStep_canonical (s : State) : s.planStep.canonical = s.canonical := by
  simp [State.planStep]

@[simp] theorem State.sendYield_canonical (s : State) :
    s.sendYield.canonical = true ↔ s.canonical = true ∨ Mended s s.sendYield := canonical_iff fun h => by
  simp [State.sendYield, h]

@[simp] theorem State.sendAxis_canonical (s : State) (l : AxisNo) (w : List Word) : (s.sendAxis l w).canonical = s.canonical := by
  simp [State.sendAxis]

@[simp] theorem State.twinSend_canonical (s : State) :
    s.twinSend.canonical = true ↔ s.canonical = true ∨ Mended s s.twinSend := canonical_iff fun h => by
  simp only [State.twinSend]
  (repeat' split) <;> simp [h]

@[simp] theorem execTwinFrameTransmit_canonical (now : Ns) {s : State} (h : s.canonical = true) :
    NextCanonical (execTwinFrameTransmit now s) := by
  simp [execTwinFrameTransmit, h]

@[simp] theorem State.twinCycle_canonical (s : State) (t : Int) : (s.twinCycle t).canonical = s.canonical := by
  simp [State.twinCycle]

@[simp] theorem State.formGrade_canonical (s : State) :
    s.formGrade.canonical = true ↔ s.canonical = true ∨ Mended s s.formGrade := canonical_iff fun h => by
  simp [State.formGrade, h]

@[simp] theorem bodyTwinStatus_canonical (r : Req) (s : State) : (bodyTwinStatus r s).st.canonical = s.canonical := by
  simp [bodyTwinStatus]

@[simp] theorem execOpTwinStatus_canonical (r : Req) {s : State} (h : s.canonical = true) :
    NextCanonical (execOpTwinStatus r s) := by
  simp [execOpTwinStatus, h]

@[simp] theorem State.planCastle_canonical (s : State) (o : Option AccOp) : (s.planCastle o).canonical = s.canonical := by
  simp [State.planCastle]

@[simp] theorem bodyTwinCastle_canonical (r : Req) (s : State) : (bodyTwinCastle r s).st.canonical = s.canonical := by
  simp [bodyTwinCastle]

@[simp] theorem execOpTwinCastle_canonical (r : Req) {s : State} (h : s.canonical = true) :
    NextCanonical (execOpTwinCastle r s) := by
  simp [execOpTwinCastle, h]

@[simp] theorem State.suCheck_canonical (s : State) :
    s.suCheck.canonical = true ↔ s.canonical = true ∨ Mended s s.suCheck := canonical_iff fun h => by
  simp only [State.suCheck]
  split
  · simp [h]
  · split <;> simp [h]

@[simp] theorem execSuActivationRelease_canonical (a : Fin 40) (now : Ns) {s : State} (h : s.canonical = true) :
    NextCanonical (execSuActivationRelease a now s) := by
  simp only [execSuActivationRelease]
  split
  · simp [h]
  · split
    · split <;> simp [h]
    · simp [h]

@[simp] theorem State.judgeRun_canonical (s : State) (a : ActNo) :
    (s.judgeRun a).canonical = true ↔ s.canonical = true ∨ Mended s (s.judgeRun a) := canonical_iff fun h => by
  simp [State.judgeRun, h]

@[simp] theorem execSuDeadline_canonical (a : Fin 40) (now : Ns) {s : State} (h : s.canonical = true) :
    NextCanonical (execSuDeadline a now s) := by
  simp [execSuDeadline, h]

@[simp] theorem State.resolverRun_canonical (s : State) (l : AxisNo) : (s.resolverRun l).canonical = s.canonical := by
  simp [State.resolverRun]

@[simp] theorem State.deliverAxis_canonical (s : State) (a : ActNo) (l : AxisNo) (stamp : Int) : (s.deliverAxis a l stamp).canonical = s.canonical := by
  simp [State.deliverAxis]

@[simp] theorem State.deliverKernel_canonical (s : State) (a : ActNo) (stamp : Int) : (s.deliverKernel a stamp).canonical = s.canonical := by
  unfold State.deliverKernel
  split
  · simp
  · split <;> simp

@[simp] theorem State.lateServe_canonical (s : State) : s.lateServe.canonical = s.canonical := by
  simp [State.lateServe]

@[simp] theorem State.finishKernel_canonical (s : State) (a : ActNo) :
    (s.finishKernel a).canonical = true ↔ s.canonical = true ∨ Mended s (s.finishKernel a) := canonical_iff fun h => by
  simp [State.finishKernel, h]

@[simp] theorem State.runCycles_canonical (s : State) (a : ActNo) : (s.runCycles a).2.canonical = s.canonical := by
  simp [State.runCycles]

@[simp] theorem execSuKernelHalt_canonical (a : Fin 40) (now : Ns) {s : State} (h : s.canonical = true) :
    NextCanonical (execSuKernelHalt a now s) := by
  simp [execSuKernelHalt, h]

@[simp] theorem State.memPut_canonical (s : State) (m : MemId) (a : Nat) (w : Word) :
    (s.memPut m a w).canonical = true ↔ s.canonical = true ∨ Mended s (s.memPut m a w) := canonical_iff fun h => by
  cases m <;> refine State.modEng_keeps h fun hg => ?_ <;>
    simp only [Engine.canonical, Bool.and_eq_true] at hg ⊢ <;> obtain ⟨⟨⟨hp, ho⟩, hpf⟩, hof⟩ := hg
  case suProg | leProg => exact ⟨⟨⟨Cells.wf_write _ _ _ _ hp, ho⟩, hpf⟩, hof⟩
  case suOper | leOper => exact ⟨⟨⟨hp, Cells.wf_write _ _ _ _ ho⟩, hpf⟩, hof⟩

@[simp] theorem bodySuWrite_canonical (r : Req) (s : State) :
    (bodySuWrite r s).st.canonical = true ↔ s.canonical = true ∨ Mended s (bodySuWrite r s).st := canonical_iff fun h => by
  simp [bodySuWrite, h]

@[simp] theorem execOpSuWrite_canonical (r : Req) {s : State} (h : s.canonical = true) :
    NextCanonical (execOpSuWrite r s) := by
  simp [execOpSuWrite, h]

@[simp] theorem bodySuRead_canonical (r : Req) (s : State) : (bodySuRead r s).st.canonical = s.canonical := by
  simp [bodySuRead]

@[simp] theorem execOpSuRead_canonical (r : Req) {s : State} (h : s.canonical = true) :
    NextCanonical (execOpSuRead r s) := by
  simp [execOpSuRead, h]

@[simp] theorem State.commitRegion_canonical (s : State) (m : MemId) (crc : Word) (r : Req) :
    (s.commitRegion m crc r).canonical = true ↔ s.canonical = true ∨ Mended s (s.commitRegion m crc r) := canonical_iff fun h => by
  unfold State.commitRegion
  simp only [State.logEntry_canonical]
  refine .inl (State.modEng_keeps h fun hg => ?_)
  simp only [Engine.canonical, Bool.and_eq_true] at hg ⊢
  obtain ⟨⟨⟨hp, ho⟩, hpf⟩, hof⟩ := hg
  split
  · exact ⟨⟨⟨hp, ho⟩, hp⟩, hof⟩
  · exact ⟨⟨⟨hp, ho⟩, hpf⟩, ho⟩

@[simp] theorem bodySuCommit_canonical (r : Req) (s : State) :
    (bodySuCommit r s).st.canonical = true ↔ s.canonical = true ∨ Mended s (bodySuCommit r s).st := canonical_iff fun h => by
  simp only [bodySuCommit]
  split <;> simp [h]

@[simp] theorem execOpSuCommit_canonical (r : Req) {s : State} (h : s.canonical = true) :
    NextCanonical (execOpSuCommit r s) := by
  simp [execOpSuCommit, h]

@[simp] theorem bodySuStatus_canonical (r : Req) (s : State) : (bodySuStatus r s).st.canonical = s.canonical := by
  simp [bodySuStatus]

@[simp] theorem execOpSuStatus_canonical (r : Req) {s : State} (h : s.canonical = true) :
    NextCanonical (execOpSuStatus r s) := by
  simp [execOpSuStatus, h]

@[simp] theorem State.schedCheck_canonical (s : State) :
    s.schedCheck.canonical = true ↔ s.canonical = true ∨ Mended s s.schedCheck := canonical_iff fun h => by
  simp [State.schedCheck, h]

@[simp] theorem State.modChan_canonical (s : State) (c : Fin 2) (f : VChan → VChan) : (s.modChan c f).canonical = s.canonical := by
  simp [State.modChan]

@[simp] theorem State.anchor_canonical (s : State) (t : VtbSt) : (s.anchor t).canonical = s.canonical := by
  simp [State.anchor]

@[simp] theorem State.vtbTo_canonical (s : State) (t : VtbSt) :
    (s.vtbTo t).canonical = true ↔ s.canonical = true ∨ Mended s (s.vtbTo t) := canonical_iff fun h => by
  simp [State.vtbTo, h]

@[simp] theorem State.chanDown_canonical (s : State) (c : Fin 2) :
    (s.chanDown c).canonical = true ↔ s.canonical = true ∨ Mended s (s.chanDown c) := canonical_iff fun h => by
  simp [State.chanDown, h]

@[simp] theorem State.chanHeard_canonical (s : State) (c : Fin 2) :
    (s.chanHeard c).canonical = true ↔ s.canonical = true ∨ Mended s (s.chanHeard c) := canonical_iff fun h => by
  simp [State.chanHeard, h]

@[simp] theorem State.guardOff_canonical (s : State) (c : Fin 2) (cause : Nat) :
    (s.guardOff c cause).canonical = true ↔ s.canonical = true ∨ Mended s (s.guardOff c cause) := canonical_iff fun h => by
  simp [State.guardOff, h]

@[simp] theorem State.guardAttempt_canonical (s : State) (c : Fin 2) :
    (s.guardAttempt c).canonical = true ↔ s.canonical = true ∨ Mended s (s.guardAttempt c) := canonical_iff fun h => by
  simp [State.guardAttempt, h]

@[simp] theorem execGuardianAttempt_canonical (ch : Chan) (now : Ns) {s : State} (h : s.canonical = true) :
    NextCanonical (execGuardianAttempt ch now s) := by
  simp [execGuardianAttempt, h]

@[simp] theorem execGuardianScheduleCrc_canonical (ch : Chan) (crc : Word) (now : Ns) {s : State} (h : s.canonical = true) :
    NextCanonical (execGuardianScheduleCrc ch crc now s) := by
  simp [execGuardianScheduleCrc, h]

@[simp] theorem State.chanSilent_canonical (s : State) (c : Fin 2) :
    (s.chanSilent c).canonical = true ↔ s.canonical = true ∨ Mended s (s.chanSilent c) := canonical_iff fun h => by
  simp [State.chanSilent, h]

@[simp] theorem execVtbChannelDown_canonical (ch : Chan) (now : Ns) {s : State} (h : s.canonical = true) :
    NextCanonical (execVtbChannelDown ch now s) := by
  simp [execVtbChannelDown, h]

@[simp] theorem State.syncGone_canonical (s : State) :
    s.syncGone.canonical = true ↔ s.canonical = true ∨ Mended s s.syncGone := canonical_iff fun h => by
  simp [State.syncGone, h]

@[simp] theorem State.exceedOut_canonical (s : State) :
    s.exceedOut.canonical = true ↔ s.canonical = true ∨ Mended s s.exceedOut := canonical_iff fun h => by
  simp [State.exceedOut, h]

@[simp] theorem execVtbSyncLost_canonical (now : Ns) {s : State} (h : s.canonical = true) :
    NextCanonical (execVtbSyncLost now s) := by
  simp [execVtbSyncLost, h]

@[simp] theorem State.coldCollide_canonical (s : State) :
    s.coldCollide.canonical = true ↔ s.canonical = true ∨ Mended s s.coldCollide := canonical_iff fun h => by
  simp [State.coldCollide, h]

@[simp] theorem State.blockData_canonical (s : State) (k : Fin 3) (start : Int) (fits : Nat → Bool) :
    (s.blockData k start fits).2.canonical = s.canonical := by
  simp only [State.blockData]
  split <;> simp

@[simp] theorem State.txData_canonical (s : State) (fits : Nat → Bool) :
    (s.txData fits).2.canonical = true ↔ s.canonical = true ∨ Mended s (s.txData fits).2 := canonical_iff fun h => by
  simp [State.txData, h]

@[simp] theorem State.sendSlot_canonical (s : State) (e : SlotEnt) (echo : Vector (List Bool) 2) :
    (s.sendSlot e echo).canonical = true ↔ s.canonical = true ∨ Mended s (s.sendSlot e echo) := canonical_iff fun h => by
  unfold State.sendSlot
  split
  · simp [h]
  · split <;> simp [h]

@[simp] theorem State.slotTransmit_canonical (s : State) (slot : BitVec 6) (echo : Vector (List Bool) 2) :
    (s.slotTransmit slot echo).canonical = true ↔ s.canonical = true ∨ Mended s (s.slotTransmit slot echo) := canonical_iff fun h => by
  unfold State.slotTransmit
  split <;> simp [h]

@[simp] theorem execVtbSlotTransmit_canonical (slot : BitVec 6) (echo : Vector (List Bool) 2) (now : Ns) {s : State} (h : s.canonical = true) :
    NextCanonical (execVtbSlotTransmit slot echo now s) := by
  simp [execVtbSlotTransmit, h]

@[simp] theorem State.rxQueue_canonical (s : State) (ch : Chan) (x : VtbHdr) (bs : List Byte) (start : Word) :
    (s.rxQueue ch x bs start).canonical = true ↔ s.canonical = true ∨ Mended s (s.rxQueue ch x bs start) := canonical_iff fun h => by
  unfold State.rxQueue
  split <;> simp [h]

@[simp] theorem State.vtbDeliver_canonical (s : State) (ch : Chan) (e : SlotEnt) (x : VtbHdr) (bs : List Byte) (start : Word) :
    (s.vtbDeliver ch e x bs start).canonical = true ↔ s.canonical = true ∨ Mended s (s.vtbDeliver ch e x bs start) :=
  canonical_iff fun h => by
    simp only [State.vtbDeliver]
    split
    · simp [h]
    · split <;> simp [h]

@[simp] theorem State.vtbValid_canonical (s : State) (ch : Chan) (e : SlotEnt) (x : VtbHdr) (dev : Int) (bs : List Byte) :
    (s.vtbValid ch e x dev bs).canonical = true ↔ s.canonical = true ∨ Mended s (s.vtbValid ch e x dev bs) := canonical_iff fun h => by
  simp [State.vtbValid, h]

@[simp] theorem State.vtbGrid_canonical (s : State) (ch : Chan) (f : VtbIn) :
    (s.vtbGrid ch f).canonical = true ↔ s.canonical = true ∨ Mended s (s.vtbGrid ch f) := canonical_iff fun h => by
  simp only [State.vtbGrid]
  split
  · simp [h]
  · split <;> simp [h]

@[simp] theorem State.adopt_canonical (s : State) (x : VtbHdr) (at_ : Ns) (start : Nat) :
    (s.adopt x at_ start).canonical = true ↔ s.canonical = true ∨ Mended s (s.adopt x at_ start) := canonical_iff fun h => by
  simp [State.adopt, h]

@[simp] theorem State.vtbListen_canonical (s : State) (ch : Chan) (f : VtbIn) :
    (s.vtbListen ch f).canonical = true ↔ s.canonical = true ∨ Mended s (s.vtbListen ch f) := canonical_iff fun h => by
  simp only [State.vtbListen]
  (repeat' split) <;> simp [h]

@[simp] theorem execVtbFrameReceived_canonical (ch : Chan) (f : VtbIn) (now : Ns) {s : State} (h : s.canonical = true) :
    NextCanonical (execVtbFrameReceived ch f now s) := by
  simp only [execVtbFrameReceived]
  split
  · simp [h]
  · split <;> simp [h]

@[simp] theorem State.correct_canonical (s : State) : s.correct.canonical = s.canonical := by
  simp [State.correct]

@[simp] theorem State.roundEnd_canonical (s : State) :
    s.roundEnd.canonical = true ↔ s.canonical = true ∨ Mended s s.roundEnd := canonical_iff fun h => by
  simp [State.roundEnd, h]

@[simp] theorem State.vtbStep_canonical (s : State) :
    s.vtbStep.canonical = true ↔ s.canonical = true ∨ Mended s s.vtbStep := canonical_iff fun h => by
  simp only [State.vtbStep]
  split
  · simp [h]
  · split <;> simp [h]

@[simp] theorem State.chanCycle_canonical (s : State) (c : Fin 2) (ticks : Nat) :
    (s.chanCycle c ticks).canonical = true ↔ s.canonical = true ∨ Mended s (s.chanCycle c ticks) := canonical_iff fun h => by
  simp [State.chanCycle, h]

@[simp] theorem State.cycleStart_canonical (s : State) : s.cycleStart.canonical = s.canonical := by
  simp [State.cycleStart]

@[simp] theorem State.vtbTurn_canonical (s : State) (ticks : Vector Nat 2) :
    (s.vtbTurn ticks).canonical = true ↔ s.canonical = true ∨ Mended s (s.vtbTurn ticks) := canonical_iff fun h => by
  simp [State.vtbTurn, h]

@[simp] theorem execVtbCycleStart_canonical (ticks : Vector Nat 2) (now : Ns) {s : State} (h : s.canonical = true) :
    NextCanonical (execVtbCycleStart ticks now s) := by
  simp [execVtbCycleStart, h]

@[simp] theorem State.coldTimeout_canonical (s : State) (echo : Vector (List Bool) 2) :
    (s.coldTimeout echo).canonical = true ↔ s.canonical = true ∨ Mended s (s.coldTimeout echo) := canonical_iff fun h => by
  unfold State.coldTimeout
  split <;> simp [h]

@[simp] theorem execColdstartTimeout_canonical (echo : Vector (List Bool) 2) (now : Ns) {s : State} (h : s.canonical = true) :
    NextCanonical (execColdstartTimeout echo now s) := by
  simp [execColdstartTimeout, h]

@[simp] theorem execVtbBusActivityEnd_canonical (now : Ns) {s : State} (h : s.canonical = true) :
    NextCanonical (execVtbBusActivityEnd now s) := by
  simp only [execVtbBusActivityEnd]
  split <;> simp [h]

@[simp] theorem bodyVtbStatus_canonical (r : Req) (s : State) : (bodyVtbStatus r s).st.canonical = s.canonical := by
  simp [bodyVtbStatus]

@[simp] theorem execOpVtbStatus_canonical (r : Req) {s : State} (h : s.canonical = true) :
    NextCanonical (execOpVtbStatus r s) := by
  simp [execOpVtbStatus, h]

@[simp] theorem State.requestLevel_canonical (s : State) (t : BitVec 2) (op : Option AccOp) : (s.requestLevel t op).canonical = s.canonical := by
  simp [State.requestLevel]

@[simp] theorem State.endLevel_canonical (s : State) (op : Option AccOp) (code : Word) :
    (s.endLevel op code).canonical = true ↔ s.canonical = true ∨ Mended s (s.endLevel op code) := canonical_iff fun h => by
  simp [State.endLevel, h]

@[simp] theorem State.levelDone_canonical (s : State) (c : PlChange) :
    (s.levelDone c).canonical = true ↔ s.canonical = true ∨ Mended s (s.levelDone c) := canonical_iff fun h => by
  simp [State.levelDone, h]

@[simp] theorem State.revertLevel_canonical (s : State) (c : PlChange) : (s.revertLevel c).canonical = s.canonical := by
  simp [State.revertLevel]

@[simp] theorem State.attemptFails_canonical (s : State) (c : PlChange) :
    (s.attemptFails c).canonical = true ↔ s.canonical = true ∨ Mended s (s.attemptFails c) := canonical_iff fun h => by
  simp [State.attemptFails, h]

@[simp] theorem State.levelPoll_canonical (s : State) :
    s.levelPoll.canonical = true ↔ s.canonical = true ∨ Mended s s.levelPoll := canonical_iff fun h => by
  unfold State.levelPoll
  split
  · split <;> simp [h]
  · simp [h]

@[simp] theorem execLevelRaiseNoBudget_canonical (now : Ns) {s : State} (h : s.canonical = true) :
    NextCanonical (execLevelRaiseNoBudget now s) := by
  simp only [execLevelRaiseNoBudget]
  split <;> simp [h]

@[simp] theorem State.voutWindow_canonical (s : State) :
    s.voutWindow.canonical = true ↔ s.canonical = true ∨ Mended s s.voutWindow := canonical_iff fun h => by
  simp [State.voutWindow, h]

@[simp] theorem State.voutPoll_canonical (s : State) :
    s.voutPoll.canonical = true ↔ s.canonical = true ∨ Mended s s.voutPoll := canonical_iff fun h => by
  simp [State.voutPoll, h]

@[simp] theorem State.pgoodWatch_canonical (s : State) :
    s.pgoodWatch.canonical = true ↔ s.canonical = true ∨ Mended s s.pgoodWatch := canonical_iff fun h => by
  unfold State.pgoodWatch
  split <;> simp [h]

@[simp] theorem execVoutFault_canonical (kind : VoutFaultKind) (now : Ns) {s : State} (h : s.canonical = true) :
    NextCanonical (execVoutFault kind now s) := by
  unfold execVoutFault
  split <;> simp [h]

@[simp] theorem State.dividerBack_canonical (s : State) (d : Q) : (s.dividerBack d).canonical = s.canonical := by
  simp [State.dividerBack]

@[simp] theorem State.voutRead_canonical (s : State) (mv : Q) :
    (s.voutRead mv).canonical = true ↔ s.canonical = true ∨ Mended s (s.voutRead mv) := canonical_iff fun h => by
  simp [State.voutRead, h]

@[simp] theorem State.voutMissed_canonical (s : State) :
    s.voutMissed.canonical = true ↔ s.canonical = true ∨ Mended s s.voutMissed := canonical_iff fun h => by
  simp [State.voutMissed, h]

@[simp] theorem State.pmbus_canonical (s : State) (kind : PmbKind) (result : PmbResult) :
    (s.pmbus kind result).canonical = true ↔ s.canonical = true ∨ Mended s (s.pmbus kind result) := canonical_iff fun h => by
  simp only [State.pmbus]
  (repeat' split) <;> simp [h]

@[simp] theorem bodyPwrLevel_canonical (r : Req) (s : State) : (bodyPwrLevel r s).st.canonical = s.canonical := by
  simp [bodyPwrLevel]

@[simp] theorem execOpPwrLevel_canonical (r : Req) {s : State} (h : s.canonical = true) :
    NextCanonical (execOpPwrLevel r s) := by
  simp [execOpPwrLevel, h]

@[simp] theorem execVddioPadReset_canonical (low : Bool) (now : Ns) {s : State} (h : s.canonical = true) :
    NextCanonical (execVddioPadReset low now s) := by
  simp [execVddioPadReset, h]

@[simp] theorem execVddFixDrop_canonical (now : Ns) {s : State} (h : s.canonical = true) :
    NextCanonical (execVddFixDrop now s) := by
  simp [execVddFixDrop, h]

@[simp] theorem State.loadPars_canonical (s : State) :
    s.loadPars.canonical = true ↔ s.canonical = true ∨ Mended s s.loadPars := canonical_iff fun h => by
  unfold State.loadPars
  extract_lets w t u v
  have hu : u.canonical = true := by
    rw [State.canonical_parts] at h ⊢
    obtain ⟨⟨hs, -⟩, hr⟩ := h
    exact ⟨⟨hs, hs⟩, hr⟩
  clear_value u
  have hv : v.canonical = true := by
    simp only [v]
    split <;> simp [hu]
  clear_value v
  split <;> simp [hv]

@[simp] theorem State.rebooted_canonical (s : State) :
    s.rebooted.canonical = true ↔ s.canonical = true ∨ Mended s s.rebooted := canonical_iff fun h => by
  rw [State.canonical_parts] at h ⊢
  obtain ⟨hp, hc, ⟨-, hf⟩, -, hu, ha⟩ := h
  refine ⟨hp, Cells.wf_filter _ _ _ hc, ⟨rfl, hf⟩, rfl, Engine.loaded_canonical hu, fun l => ?_⟩
  have hl : s.rebooted.ax[l] = s.ax[l].rebooted := by simp [State.rebooted]
  rw [hl]
  exact Engine.loaded_canonical (ha l)

@[simp] theorem State.coldBoot_canonical (s : State) (step : Nat) :
    (s.coldBoot step).canonical = true ↔ s.canonical = true ∨ Mended s (s.coldBoot step) := canonical_iff fun h => by
  simp [State.coldBoot, h]

@[simp] theorem State.powerOff_canonical (s : State) :
    s.powerOff.canonical = true ↔ s.canonical = true ∨ Mended s s.powerOff := canonical_iff fun h => by
  simp [State.powerOff, h]

@[simp] theorem State.newStart_canonical (s : State) :
    s.newStart.canonical = true ↔ s.canonical = true ∨ Mended s s.newStart := canonical_iff fun h => by
  have hp := (s.loadPars_canonical).2 (.inl h)
  rw [State.canonical_parts] at h hp
  obtain ⟨hp, -⟩ := hp
  obtain ⟨-, hc, hr, hi, hu, ha⟩ := h
  simp only [State.newStart, State.setSt_canonical]
  rw [State.canonical_parts]
  refine ⟨hp, Cells.wf_filter _ _ _ hc, hr, hi, Engine.loaded_canonical hu, fun l => ?_⟩
  have hl : (s.ax.map Axis.newStart)[l] = s.ax[l].newStart := by simp
  exact hl ▸ Engine.loaded_canonical (ha l)

@[simp] theorem State.firmwareUp_canonical (s : State) :
    s.firmwareUp.canonical = true ↔ s.canonical = true ∨ Mended s s.firmwareUp := canonical_iff fun h => by
  simp only [State.firmwareUp]
  split <;> simp [h]

@[simp] theorem State.noteWake_canonical (s : State) :
    s.noteWake.canonical = true ↔ s.canonical = true ∨ Mended s s.noteWake := canonical_iff fun h => by
  simp [State.noteWake, h]

@[simp] theorem State.controlUp_canonical (s : State) : s.controlUp.canonical = s.canonical := by
  simp [State.controlUp]

@[simp] theorem State.wakeUp_canonical (s : State) :
    s.wakeUp.canonical = true ↔ s.canonical = true ∨ Mended s s.wakeUp := canonical_iff fun h => by
  unfold State.wakeUp
  split
  · simp [h]
  · split <;> simp [h]

@[simp] theorem State.latchWake_canonical (s : State) (w : WakeSrc) :
    (s.latchWake w).canonical = true ↔ s.canonical = true ∨ Mended s (s.latchWake w) := canonical_iff fun h => by
  simp only [State.latchWake]
  split
  · simp [h]
  · split <;> simp [h]

@[simp] theorem execWakeSource_canonical (w : WakeSrc) (now : Ns) {s : State} (h : s.canonical = true) :
    NextCanonical (execWakeSource w now s) := by
  simp [execWakeSource, h]

@[simp] theorem State.timerWake_canonical (s : State) :
    s.timerWake.canonical = true ↔ s.canonical = true ∨ Mended s s.timerWake := canonical_iff fun h => by
  unfold State.timerWake
  split <;> simp [h]

@[simp] theorem execWakeTimer_canonical (now : Ns) {s : State} (h : s.canonical = true) :
    NextCanonical (execWakeTimer now s) := by
  simp [execWakeTimer, h]

@[simp] theorem State.replayWake_canonical (s : State) :
    s.replayWake.canonical = true ↔ s.canonical = true ∨ Mended s s.replayWake := canonical_iff fun h => by
  unfold State.replayWake
  split <;> simp [h]

@[simp] theorem execWakeReplayed_canonical (now : Ns) {s : State} (h : s.canonical = true) :
    NextCanonical (execWakeReplayed now s) := by
  simp [execWakeReplayed, h]

@[simp] theorem State.startEntry_canonical (s : State) (e : Entry) : (s.startEntry e).canonical = s.canonical := by
  simp [State.startEntry]

@[simp] theorem State.admitSleep_canonical (s : State) (kind : SleepKind) (r : Req) : (s.admitSleep kind r).st.canonical = s.canonical := by
  simp [State.admitSleep]

@[simp] theorem bodyPwrSleep_canonical (r : Req) (s : State) : (bodyPwrSleep r s).st.canonical = s.canonical := by
  simp [bodyPwrSleep]

@[simp] theorem execOpPwrSleep_canonical (r : Req) {s : State} (h : s.canonical = true) :
    NextCanonical (execOpPwrSleep r s) := by
  simp [execOpPwrSleep, h]

@[simp] theorem bodyPwrSleepDoze_canonical (r : Req) (s : State) : (bodyPwrSleepDoze r s).st.canonical = s.canonical := by
  simp [bodyPwrSleepDoze]

@[simp] theorem execOpPwrSleepDoze_canonical (r : Req) {s : State} (h : s.canonical = true) :
    NextCanonical (execOpPwrSleepDoze r s) := by
  simp [execOpPwrSleepDoze, h]

@[simp] theorem State.armLatch_canonical (s : State) : s.armLatch.canonical = s.canonical := by
  simp [State.armLatch]

@[simp] theorem State.abandonEntry_canonical (s : State) (e : Entry) (ap : Nat) :
    (s.abandonEntry e ap).canonical = true ↔ s.canonical = true ∨ Mended s (s.abandonEntry e ap) := canonical_iff fun h => by
  simp [State.abandonEntry, h]

@[simp] theorem State.axClockStops_canonical (s : State) (l : AxisNo) : (s.axClockStops l).canonical = s.canonical := by
  simp [State.axClockStops]

@[simp] theorem State.clearCval_canonical (s : State) :
    s.clearCval.canonical = true ↔ s.canonical = true ∨ Mended s s.clearCval := canonical_iff fun h => by
  simp [State.clearCval, h]

@[simp] theorem State.pairClockStops_canonical (s : State) (k : PairNo) :
    (s.pairClockStops k).canonical = true ↔ s.canonical = true ∨ Mended s (s.pairClockStops k) := canonical_iff fun h => by
  simp [State.pairClockStops, h]

@[simp] theorem State.entryE2_canonical (s : State) (e : Entry) :
    (s.entryE2 e).canonical = true ↔ s.canonical = true ∨ Mended s (s.entryE2 e) := canonical_iff fun h => by
  simp [State.entryE2, h]

@[simp] theorem State.entryE5_canonical (s : State) (e : Entry) : (s.entryE5 e).canonical = s.canonical := by
  simp [State.entryE5]

@[simp] theorem State.saveGroups_canonical (s : State) (sleep : Bool) : (s.saveGroups sleep).canonical = s.canonical := by
  simp [State.saveGroups]

@[simp] theorem State.abortPoint_canonical (s : State) (ap : Fin 4) :
    (s.abortPoint ap).canonical = true ↔ s.canonical = true ∨ Mended s (s.abortPoint ap) := canonical_iff fun h => by
  unfold State.abortPoint
  split <;> simp [h]

@[simp] theorem execSleepEntryAbortPoint_canonical (ap : Fin 4) (now : Ns) {s : State} (h : s.canonical = true) :
    NextCanonical (execSleepEntryAbortPoint ap now s) := by
  simp [execSleepEntryAbortPoint, h]

@[simp] theorem execSleepGrantTimeout_canonical (now : Ns) {s : State} (h : s.canonical = true) :
    NextCanonical (execSleepGrantTimeout now s) := by
  simp only [execSleepGrantTimeout]
  split
  · split <;> simp [h]
  · simp [h]

@[simp] theorem State.reinitAxis_canonical (s : State) (l : AxisNo) :
    (s.reinitAxis l).canonical = true ↔ s.canonical = true ∨ Mended s (s.reinitAxis l) := canonical_iff fun h => by
  simp only [State.reinitAxis, State.modBrake_canonical]
  refine State.modAx_keeps h fun ha => ?_
  exact Engine.loaded_canonical ha

@[simp] theorem State.reinit_canonical (s : State) (lost : BitVec 28) :
    (s.reinit lost).canonical = true ↔ s.canonical = true ∨ Mended s (s.reinit lost) := canonical_iff fun h => by
  unfold State.reinit
  extract_lets t u v w
  have ht : t.canonical = true := by
    rw [State.canonical_parts] at h ⊢
    obtain ⟨hp, hc, hr, hi, hu, ha⟩ := h
    exact ⟨hp, hc, hr, Cells.wf_filter _ _ _ hi, hu, ha⟩
  clear_value t
  have hu : u.canonical = true := by
    simp only [u]
    split
    · exact ht
    · simp [ht]
  clear_value u
  have hv : v.canonical = true := by
    simp [v, hu]
  clear_value v
  have hw : w.canonical = true := by
    simp only [w]
    split
    · rw [State.canonical_parts] at hv ⊢
      obtain ⟨hp, hc, hr, hi, he, ha⟩ := hv
      exact ⟨hp, hc, hr, hi, Engine.loaded_canonical he, ha⟩
    · exact hv
  clear_value w
  split <;> simp [hw]

@[simp] theorem State.resumeCheck_canonical (s : State) (lost : BitVec 28) :
    (s.resumeCheck lost).canonical = true ↔ s.canonical = true ∨ Mended s (s.resumeCheck lost) := canonical_iff fun h => by
  unfold State.resumeCheck
  extract_lets t u bad v w
  have hu : u.canonical = true := by
    simp only [u]
    split <;> simp [t, h]
  clear_value u
  split
  · simp [hu]
  · have hv : v.canonical = true := by simpa [v] using hu
    have hw : w.canonical = true := by simp [w, hv]
    simp [hw]

@[simp] theorem execResumeSupplyConfirmed_canonical (sigs : Vector Word 28) (par : BitVec 28) (now : Ns) {s : State} (h : s.canonical = true) :
    NextCanonical (execResumeSupplyConfirmed sigs par now s) := by
  simp only [execResumeSupplyConfirmed]
  split <;> simp [h]

@[simp] theorem State.supplyUp_canonical (s : State) : s.supplyUp.canonical = s.canonical := by
  simp [State.supplyUp]

@[simp] theorem State.pgoodEdge_canonical (s : State) (high : Bool) :
    (s.pgoodEdge high).canonical = true ↔ s.canonical = true ∨ Mended s (s.pgoodEdge high) := canonical_iff fun h => by
  simp [State.pgoodEdge, h]

@[simp] theorem execPgoodWaitTimeout_canonical (now : Ns) {s : State} (h : s.canonical = true) :
    NextCanonical (execPgoodWaitTimeout now s) := by
  simp only [execPgoodWaitTimeout]
  split <;> simp [h]

@[simp] theorem State.resetLow_canonical (s : State) :
    s.resetLow.canonical = true ↔ s.canonical = true ∨ Mended s s.resetLow := canonical_iff fun h => by
  simp only [State.resetLow, State.modLife_canonical, State.powerOff_canonical]
  exact .inl (State.canonical_regs h rfl rfl)

@[simp] theorem State.resetHigh_canonical (s : State) (straps : Straps) :
    (s.resetHigh straps).canonical = true ↔ s.canonical = true ∨ Mended s (s.resetHigh straps) := canonical_iff fun h => by
  simp only [State.resetHigh]
  split
  · rw [State.coldBoot_canonical, State.controlUp_canonical]
    exact .inl (by simp [h])
  · simp [h]

@[simp] theorem execNrst_canonical (released : Bool) (straps : Straps) (now : Ns) {s : State} (h : s.canonical = true) :
    NextCanonical (execNrst released straps now s) := by
  simp only [execNrst]
  split
  · simp [h]
  · split <;> simp [h]

@[simp] theorem execVddAonApplied_canonical (crystal : Bool) (lane : BitVec 2) {s : State} (h : s.canonical = true) :
    NextCanonical (execVddAonApplied crystal lane s) := by
  simp only [execVddAonApplied, nextCanonical_next]
  have hv : ∀ (i : Ident) (a : Aon) (f : Life) (r : Regs), r.bootwin = s.regs.bootwin → r.flash = s.regs.flash →
      State.canonical { s with ident := i, aon := a, life := f, regs := r, cnt := [] } = true := fun i a f r hb hf =>
    State.cnt_canonical _ (fun _ => rfl) (State.canonical_regs h hb hf)
  split
  · rw [State.modAon_canonical, State.powerOff_canonical]
    exact .inl (hv _ _ _ _ rfl rfl)
  · rw [State.coldBoot_canonical, State.controlUp_canonical]
    exact .inl (hv _ _ _ _ rfl rfl)

@[simp] theorem execVddAonLost_canonical  {s : State} (h : s.canonical = true) :
    NextCanonical (execVddAonLost s) := by
  unfold execVddAonLost
  extract_lets t u
  have hu : u.canonical = true := by
    rw [State.canonical_parts] at h ⊢
    obtain ⟨hp, -, hr, hi, hu, ha⟩ := h
    exact ⟨hp, rfl, hr, hi, hu, ha⟩
  clear_value u
  simp [hu]

@[simp] theorem State.runBank_canonical (s : State) (bankB : Bool) (ver : BitVec 16) (older : Bool) :
    (s.runBank bankB ver older).canonical = true ↔ s.canonical = true ∨ Mended s (s.runBank bankB ver older) := canonical_iff fun h => by
  have hr : ∀ (i : Ident) (r : Regs), r.bootwin = s.regs.bootwin → r.flash = s.regs.flash →
      State.canonical { s with ident := i, regs := r } = true := fun i r hb hf => State.canonical_regs h hb hf
  simp only [State.runBank]
  split <;> simp [hr]

@[simp] theorem State.noBank_canonical (s : State) (verA verB : BitVec 16) (headA headB : Bool) : (s.noBank verA verB headA headB).canonical = s.canonical := by
  simp [State.noBank]

@[simp] theorem execFirmwareImageCheck_canonical (verA verB : BitVec 16) (headA headB okA okB : Bool) (now : Ns) {s : State} (h : s.canonical = true) :
    NextCanonical (execFirmwareImageCheck verA verB headA headB okA okB now s) := by
  simp only [execFirmwareImageCheck]
  split <;> simp [h]

@[simp] theorem execConfigurationLoad_canonical (now : Ns) {s : State} (h : s.canonical = true) :
    NextCanonical (execConfigurationLoad now s) := by
  simp only [execConfigurationLoad]
  split <;> simp [h]

@[simp] theorem State.breakClass_canonical (s : State) (c : Fin 4) (first : Bool) :
    (s.breakClass c first).canonical = true ↔ s.canonical = true ∨ Mended s (s.breakClass c first) := canonical_iff fun h => by
  simp [State.breakClass, h]

@[simp] theorem State.breaks_canonical (s : State) (sc : Vector Q 4) :
    (s.breaks sc).canonical = true ↔ s.canonical = true ∨ Mended s (s.breaks sc) := canonical_iff fun h => by
  simp [State.breaks, h]

@[simp] theorem State.restoreGuarantee_canonical (s : State) :
    s.restoreGuarantee.canonical = true ↔ s.canonical = true ∨ Mended s s.restoreGuarantee := canonical_iff fun h => by
  simp [State.restoreGuarantee, h]

@[simp] theorem execGuaranteeRestored_canonical (now : Ns) {s : State} (h : s.canonical = true) :
    NextCanonical (execGuaranteeRestored now s) := by
  simp [execGuaranteeRestored, h]

@[simp] theorem State.driveGrant_canonical (s : State) :
    s.driveGrant.canonical = true ↔ s.canonical = true ∨ Mended s s.driveGrant := canonical_iff fun h => by
  simp [State.driveGrant, h]

@[simp] theorem State.grantRaise_canonical (s : State) : s.grantRaise.canonical = s.canonical := by
  unfold State.grantRaise
  split <;> simp

@[simp] theorem State.powerDomain_canonical (s : State) (d : Fin 7) : (s.powerDomain d).canonical = s.canonical := by
  simp [State.powerDomain]

@[simp] theorem State.grantWake_canonical (s : State) : s.grantWake.canonical = s.canonical := by
  unfold State.grantWake
  split <;> simp

@[simp] theorem State.grantLoad_canonical (s : State) : s.grantLoad.canonical = s.canonical := by
  simp [State.grantLoad]

@[simp] theorem State.grantTest_canonical (s : State) : s.grantTest.canonical = s.canonical := by
  unfold State.grantTest
  split
  · simp
  · split <;> simp

@[simp] theorem State.dieGrant_canonical (s : State) : s.dieGrant.canonical = s.canonical := by
  simp [State.dieGrant]

@[simp] theorem State.arbGrant_canonical (s : State) :
    s.arbGrant.canonical = true ↔ s.canonical = true ∨ Mended s s.arbGrant := canonical_iff fun h => by
  simp [State.arbGrant, h]

@[simp] theorem bodyPwrStatus_canonical (r : Req) (s : State) : (bodyPwrStatus r s).st.canonical = s.canonical := by
  simp [bodyPwrStatus]

@[simp] theorem execOpPwrStatus_canonical (r : Req) {s : State} (h : s.canonical = true) :
    NextCanonical (execOpPwrStatus r s) := by
  simp [execOpPwrStatus, h]

@[simp] theorem State.beginTests_canonical (s : State) (r : Run) :
    (s.beginTests r).canonical = true ↔ s.canonical = true ∨ Mended s (s.beginTests r) := canonical_iff fun h => by
  simp [State.beginTests, h]

@[simp] theorem State.beginShutdown_canonical (s : State) (e : Entry) :
    (s.beginShutdown e).canonical = true ↔ s.canonical = true ∨ Mended s (s.beginShutdown e) := canonical_iff fun h => by
  simp [State.beginShutdown, h]

@[simp] theorem State.domainStart_canonical (s : State) (d : Fin 7) :
    (s.domainStart d).canonical = true ↔ s.canonical = true ∨ Mended s (s.domainStart d) := canonical_iff fun h => by
  simp only [State.domainStart]
  split
  · exact h
  · split
    · exact h
    · split <;> simp [h]

@[simp] theorem execSelftestDomainStart_canonical (d : Fin 7) (now : Ns) {s : State} (h : s.canonical = true) :
    NextCanonical (execSelftestDomainStart d now s) := by
  simp [execSelftestDomainStart, h]

@[simp] theorem State.checkpoint_canonical (s : State) (d : Fin 7) (ok : Bool) : (s.checkpoint d ok).canonical = s.canonical := by
  unfold State.checkpoint
  split <;> simp

@[simp] theorem execSelftestCheckpoint_canonical (d : Fin 7) (ok : Bool) (now : Ns) {s : State} (h : s.canonical = true) :
    NextCanonical (execSelftestCheckpoint d ok now s) := by
  simp [execSelftestCheckpoint, h]

@[simp] theorem State.domainBack_canonical (s : State) (r : Run) (d : Fin 7) (restoreOk : Bool) :
    (s.domainBack r d restoreOk).canonical = true ↔ s.canonical = true ∨ Mended s (s.domainBack r d restoreOk) := canonical_iff fun h => by
  simp [State.domainBack, h]

@[simp] theorem State.domainEnd_canonical (s : State) (d : Fin 7) (marchOk restoreOk : Bool) :
    (s.domainEnd d marchOk restoreOk).canonical = true ↔ s.canonical = true ∨ Mended s (s.domainEnd d marchOk restoreOk) := canonical_iff fun h => by
  unfold State.domainEnd
  split <;> simp [h]

@[simp] theorem State.writeRecord_canonical (s : State) (r : Run) :
    (s.writeRecord r).canonical = true ↔ s.canonical = true ∨ Mended s (s.writeRecord r) := canonical_iff fun h => by
  simp only [State.writeRecord]
  split <;> simp [h]

@[simp] theorem State.afterFull_canonical (s : State) (r : Run) :
    (s.afterFull r).canonical = true ↔ s.canonical = true ∨ Mended s (s.afterFull r) := canonical_iff fun h => by
  simp [State.afterFull, h]

@[simp] theorem State.afterDemand_canonical (s : State) (r : Run) :
    (s.afterDemand r).canonical = true ↔ s.canonical = true ∨ Mended s (s.afterDemand r) := canonical_iff fun h => by
  simp [State.afterDemand, h]

@[simp] theorem State.afterShutdown_canonical (s : State) (r : Run) :
    (s.afterShutdown r).canonical = true ↔ s.canonical = true ∨ Mended s (s.afterShutdown r) := canonical_iff fun h => by
  unfold State.afterShutdown
  split <;> simp [h]

@[simp] theorem State.enterConfigured_canonical (s : State) :
    s.enterConfigured.canonical = true ↔ s.canonical = true ∨ Mended s s.enterConfigured := canonical_iff fun h => by
  simp [State.enterConfigured, h]

@[simp] theorem State.endRun_canonical (s : State) (r : Run) (cold : Bool) :
    (s.endRun r cold).canonical = true ↔ s.canonical = true ∨ Mended s (s.endRun r cold) := canonical_iff fun h => by
  unfold State.endRun
  split
  · simp [h]
  · split <;> simp [h]

@[simp] theorem State.runOver_canonical (s : State) (cold : Bool) :
    (s.runOver cold).canonical = true ↔ s.canonical = true ∨ Mended s (s.runOver cold) := canonical_iff fun h => by
  unfold State.runOver
  split <;> simp [h]

@[simp] theorem State.domainDone_canonical (s : State) (d : Fin 7) (marchOk restoreOk : Bool) :
    (s.domainDone d marchOk restoreOk).canonical = true ↔ s.canonical = true ∨ Mended s (s.domainDone d marchOk restoreOk) := canonical_iff fun h => by
  simp [State.domainDone, h]

@[simp] theorem State.stopDone_canonical (s : State) (cause : StopCause) :
    (s.stopDone cause).canonical = true ↔ s.canonical = true ∨ Mended s (s.stopDone cause) := canonical_iff fun h => by
  simp [State.stopDone, h]

@[simp] theorem bodyPwrShutdown_canonical (r : Req) (s : State) :
    (bodyPwrShutdown r s).st.canonical = true ↔ s.canonical = true ∨ Mended s (bodyPwrShutdown r s).st := canonical_iff fun h => by
  simp [bodyPwrShutdown, h]

@[simp] theorem execOpPwrShutdown_canonical (r : Req) {s : State} (h : s.canonical = true) :
    NextCanonical (execOpPwrShutdown r s) := by
  simp [execOpPwrShutdown, h]

@[simp] theorem bodyStStart_canonical (r : Req) (s : State) :
    (bodyStStart r s).st.canonical = true ↔ s.canonical = true ∨ Mended s (bodyStStart r s).st := canonical_iff fun h => by
  simp [bodyStStart, h]

@[simp] theorem execOpStStart_canonical (r : Req) {s : State} (h : s.canonical = true) :
    NextCanonical (execOpStStart r s) := by
  simp [execOpStStart, h]

@[simp] theorem State.pollTest_canonical (s : State) :
    s.pollTest.canonical = true ↔ s.canonical = true ∨ Mended s s.pollTest := canonical_iff fun h => by
  unfold State.pollTest
  split
  · simp [h]
  · split
    · simp [h]
    · split <;> simp [h]

@[simp] theorem bodyStStatus_canonical (r : Req) (s : State) : (bodyStStatus r s).st.canonical = s.canonical := by
  simp [bodyStStatus]

@[simp] theorem execOpStStatus_canonical (r : Req) {s : State} (h : s.canonical = true) :
    NextCanonical (execOpStStatus r s) := by
  simp [execOpStStatus, h]

@[simp] theorem execArbiterGrant_canonical (now : Ns) {s : State} (h : s.canonical = true) :
    NextCanonical (execArbiterGrant now s) := by
  simp [execArbiterGrant, h]

@[simp] theorem State.quickStart_canonical (s : State) :
    s.quickStart.canonical = true ↔ s.canonical = true ∨ Mended s s.quickStart := canonical_iff fun h => by
  simp only [State.quickStart]
  split <;> simp [h]

@[simp] theorem State.fullStart_canonical (s : State) :
    s.fullStart.canonical = true ↔ s.canonical = true ∨ Mended s s.fullStart := canonical_iff fun h => by
  simp [State.fullStart, h]

@[simp] theorem execVerdictCheck_canonical (now : Ns) {s : State} (h : s.canonical = true) :
    NextCanonical (execVerdictCheck now s) := by
  simp [execVerdictCheck, h]

@[simp] theorem State.releaseIso_canonical (s : State) (d : Fin 7) :
    (s.releaseIso d).canonical = true ↔ s.canonical = true ∨ Mended s (s.releaseIso d) := canonical_iff fun h => by
  simp only [State.releaseIso]
  split
  · simp [h]
  · split <;> simp [h]

@[simp] theorem execIsolationRelease_canonical (d : Fin 7) (now : Ns) {s : State} (h : s.canonical = true) :
    NextCanonical (execIsolationRelease d now s) := by
  simp [execIsolationRelease, h]

@[simp] theorem State.calibrateAll_canonical (s : State) :
    s.calibrateAll.canonical = true ↔ s.canonical = true ∨ Mended s s.calibrateAll := canonical_iff fun h => by
  simp [State.calibrateAll, h]

@[simp] theorem State.checksPass_canonical (s : State) :
    s.checksPass.canonical = true ↔ s.canonical = true ∨ Mended s s.checksPass := canonical_iff fun h => by
  simp [State.checksPass, h]

@[simp] theorem State.startChecks_canonical (s : State) :
    s.startChecks.canonical = true ↔ s.canonical = true ∨ Mended s s.startChecks := canonical_iff fun h => by
  simp only [State.startChecks]
  split <;> simp [h]

@[simp] theorem execStartChecks_canonical (now : Ns) {s : State} (h : s.canonical = true) :
    NextCanonical (execStartChecks now s) := by
  simp [execStartChecks, h]

@[simp] theorem State.driveReady_canonical (s : State) :
    s.driveReady.canonical = true ↔ s.canonical = true ∨ Mended s s.driveReady := canonical_iff fun h => by
  simp [State.driveReady, h]

@[simp] theorem execDriveReady_canonical (now : Ns) {s : State} (h : s.canonical = true) :
    NextCanonical (execDriveReady now s) := by
  simp [execDriveReady, h]

@[simp] theorem State.restart_canonical (s : State) :
    s.restart.canonical = true ↔ s.canonical = true ∨ Mended s s.restart := canonical_iff fun h => by
  simp [State.restart, h]

@[simp] theorem State.setCanQueue_canonical (s : State) (es : List CanEnt) : (s.setCanQueue es).canonical = s.canonical := by
  simp [State.setCanQueue]

@[simp] theorem State.canClean_canonical (s : State) (n : Fin 2) :
    (s.canClean n).canonical = true ↔ s.canonical = true ∨ Mended s (s.canClean n) := canonical_iff fun h => by
  simp [State.canClean, h]

@[simp] theorem State.modCan_canonical (s : State) (n : Fin 2) (f : Can → Can) : (s.modCan n f).canonical = s.canonical := by
  simp [State.modCan]

@[simp] theorem execCanFrameSent_canonical (n : Fin 2) (now : Ns) {s : State} (h : s.canonical = true) :
    NextCanonical (execCanFrameSent n now s) := by
  simp only [execCanFrameSent]
  split <;> simp [h]

@[simp] theorem execCanTxTimeout_canonical (n : Fin 2) (now : Ns) {s : State} (h : s.canonical = true) :
    NextCanonical (execCanTxTimeout n now s) := by
  simp only [execCanTxTimeout]
  split <;> simp [h]

@[simp] theorem execCanBusoff_canonical (n : Fin 2) (now : Ns) {s : State} (h : s.canonical = true) :
    NextCanonical (execCanBusoff n now s) := by
  simp [execCanBusoff, h]

@[simp] theorem execCanRecovered_canonical (n : Fin 2) (now : Ns) {s : State} (h : s.canonical = true) :
    NextCanonical (execCanRecovered n now s) := by
  simp only [execCanRecovered]
  split <;> simp [h]

@[simp] theorem execCanFrameReceived_canonical (n : Fin 2) (f : CanIn) (now : Ns) {s : State} (h : s.canonical = true) :
    NextCanonical (execCanFrameReceived n f now s) := by
  simp only [execCanFrameReceived]
  (repeat' split) <;> simp [h]

@[simp] theorem State.rxDatagram_canonical (s : State) (ip : Word) (port lport : BitVec 16) (data : List Byte) :
    (s.rxDatagram ip port lport data).canonical = true ↔ s.canonical = true ∨ Mended s (s.rxDatagram ip port lport data) := canonical_iff fun h => by
  simp [State.rxDatagram, h]

@[simp] theorem State.ethSend_canonical (s : State) (ip : Word) : (s.ethSend ip).canonical = s.canonical := by
  simp [State.ethSend]

@[simp] theorem execEthDatagramSent_canonical (now : Ns) {s : State} (h : s.canonical = true) :
    NextCanonical (execEthDatagramSent now s) := by
  simp only [execEthDatagramSent]
  split <;> simp [h]

@[simp] theorem State.enqueue_canonical (s : State) (q : Fin 16) (w : Slot) :
    (s.enqueue q w).canonical = true ↔ s.canonical = true ∨ Mended s (s.enqueue q w) := canonical_iff fun h => by
  simp [State.enqueue, h]

@[simp] theorem State.sendCan_canonical (s : State) (n : Fin 2) (addr : Word) (msg : List Byte) :
    (s.sendCan n addr msg).canonical = true ↔ s.canonical = true ∨ Mended s (s.sendCan n addr msg) := canonical_iff fun h => by
  simp [State.sendCan, h]

@[simp] theorem State.sendMsg_canonical (s : State) (cid : Nat) (msg : List Byte) :
    (s.sendMsg cid msg).canonical = true ↔ s.canonical = true ∨ Mended s (s.sendMsg cid msg) := canonical_iff fun h => by
  unfold State.sendMsg
  split <;> simp [h]

@[simp] theorem State.produce_canonical (s : State) (k : Fin 8) (cid : Nat) (pl : List Word) :
    (s.produce k cid pl).canonical = true ↔ s.canonical = true ∨ Mended s (s.produce k cid pl) := canonical_iff fun h => by
  simp [State.produce, h]

@[simp] theorem bodyCanStatus_canonical (r : Req) (s : State) : (bodyCanStatus r s).st.canonical = s.canonical := by
  simp [bodyCanStatus]

@[simp] theorem execOpCanStatus_canonical (r : Req) {s : State} (h : s.canonical = true) :
    NextCanonical (execOpCanStatus r s) := by
  simp [execOpCanStatus, h]

@[simp] theorem bodyEthStatus_canonical (r : Req) (s : State) : (bodyEthStatus r s).st.canonical = s.canonical := by
  simp [bodyEthStatus]

@[simp] theorem execOpEthStatus_canonical (r : Req) {s : State} (h : s.canonical = true) :
    NextCanonical (execOpEthStatus r s) := by
  simp [execOpEthStatus, h]

@[simp] theorem bodyMdioRead_canonical (r : Req) (s : State) : (bodyMdioRead r s).st.canonical = s.canonical := by
  simp [bodyMdioRead]

@[simp] theorem bodyMdioWrite_canonical (r : Req) (s : State) : (bodyMdioWrite r s).st.canonical = s.canonical := by
  simp [bodyMdioWrite]

@[simp] theorem bodyMdio_canonical (r : Req) (s : State) : (bodyMdio r s).st.canonical = s.canonical := by
  simp [bodyMdio]

@[simp] theorem execOpMdioRead_canonical (r : Req) {s : State} (h : s.canonical = true) :
    NextCanonical (execOpMdioRead r s) := by
  simp [execOpMdioRead, h]

@[simp] theorem execOpMdioWrite_canonical (r : Req) {s : State} (h : s.canonical = true) :
    NextCanonical (execOpMdioWrite r s) := by
  simp [execOpMdioWrite, h]

@[simp] theorem bodyNovmiStatus_canonical (r : Req) (s : State) : (bodyNovmiStatus r s).st.canonical = s.canonical := by
  simp [bodyNovmiStatus]

@[simp] theorem execOpNovmiStatus_canonical (r : Req) {s : State} (h : s.canonical = true) :
    NextCanonical (execOpNovmiStatus r s) := by
  simp [execOpNovmiStatus, h]

@[simp] theorem State.aborted_canonical (s : State) (o : AccOp) :
    (s.aborted o).canonical = true ↔ s.canonical = true ∨ Mended s (s.aborted o) := canonical_iff fun h => by
  simp [State.aborted, h]

@[simp] theorem State.abortAlign_canonical (s : State) (o : AccOp) :
    (s.abortAlign o).canonical = true ↔ s.canonical = true ∨ Mended s (s.abortAlign o) := canonical_iff fun h => by
  unfold State.abortAlign
  split <;> simp [h]

@[simp] theorem State.abortLevel_canonical (s : State) (o : AccOp) :
    (s.abortLevel o).canonical = true ↔ s.canonical = true ∨ Mended s (s.abortLevel o) := canonical_iff fun h => by
  unfold State.abortLevel
  split <;> simp [h]

@[simp] theorem State.abortSleep_canonical (s : State) : s.abortSleep.canonical = s.canonical := by
  simp [State.abortSleep]

@[simp] theorem State.abortTest_canonical (s : State) (o : AccOp) :
    (s.abortTest o).canonical = true ↔ s.canonical = true ∨ Mended s (s.abortTest o) := canonical_iff fun h => by
  unfold State.abortTest
  split <;> simp [h]

@[simp] theorem State.abortCastle_canonical (s : State) (o : AccOp) :
    (s.abortCastle o).canonical = true ↔ s.canonical = true ∨ Mended s (s.abortCastle o) := canonical_iff fun h => by
  simp [State.abortCastle, h]

@[simp] theorem State.abortPark_canonical (s : State) (o : AccOp) :
    (s.abortPark o).canonical = true ↔ s.canonical = true ∨ Mended s (s.abortPark o) := canonical_iff fun h => by
  simp [State.abortPark, h]

@[simp] theorem State.abortOp_canonical (s : State) (o : AccOp) :
    (s.abortOp o).canonical = true ↔ s.canonical = true ∨ Mended s (s.abortOp o) := canonical_iff fun h => by
  simp [State.abortOp, h]

@[simp] theorem bodyAbort_canonical (r : Req) (s : State) :
    (bodyAbort r s).st.canonical = true ↔ s.canonical = true ∨ Mended s (bodyAbort r s).st := canonical_iff fun h => by
  unfold bodyAbort
  split <;> simp [h]

@[simp] theorem execOpAbort_canonical (r : Req) {s : State} (h : s.canonical = true) :
    NextCanonical (execOpAbort r s) := by
  simp [execOpAbort, h]

@[simp] theorem bodyPwrSleepAny_canonical (r : Req) (s : State) : (bodyPwrSleepAny r s).st.canonical = s.canonical := by
  simp [bodyPwrSleepAny]

@[simp] theorem State.badCrc_canonical (s : State) (q : BitVec 4) (e : QEntry) :
    (s.badCrc q e).canonical = true ↔ s.canonical = true ∨ Mended s (s.badCrc q e) := canonical_iff fun h => by
  simp [State.badCrc, h]

@[simp] theorem State.leaveIdle_canonical (s : State) : s.leaveIdle.canonical = s.canonical := by
  simp [State.leaveIdle]

@[simp] theorem State.dropFull_canonical (s : State) (q : Fin 16) (e : QEntry) :
    (s.dropFull q e).canonical = true ↔ s.canonical = true ∨ Mended s (s.dropFull q e) := canonical_iff fun h => by
  unfold State.dropFull
  split <;> simp [h]

@[simp] theorem State.testDoor_canonical (s : State) (q : Fin 16) :
    (s.testDoor q).canonical = true ↔ s.canonical = true ∨ Mended s (s.testDoor q) := canonical_iff fun h => by
  simp [State.testDoor, h]

@[simp] theorem State.popDoor_canonical (s : State) (q : Fin 16) (ptr : Nat) : (s.popDoor q ptr).1.canonical = s.canonical := by
  simp [State.popDoor]

@[simp] theorem execTunnelResponseSend_canonical  {s : State} (h : s.canonical = true) :
    NextCanonical (execTunnelResponseSend s) := by
  unfold execTunnelResponseSend
  split <;> simp [h]

@[simp] theorem State.latchTime_canonical (s : State) : s.latchTime.canonical = s.canonical := by
  simp [State.latchTime]

@[simp] theorem State.readReg_canonical (s : State) (a : Nat) : (s.readReg a).1.canonical = s.canonical := by
  simp [State.readReg]

theorem Cells.wf_foldl_write {d : Nat → Word} {c : Cells} (h : Cells.wf d c = true) (is : List Nat) (a : Nat → Nat) (v : Nat → Word) :
    Cells.wf d (is.foldl (fun c i => Cells.write d c (a i) (v i)) c) = true :=
  List.foldlRecOn (motive := fun c : Cells => Cells.wf d c = true) is _ h fun c hc _ _ => Cells.wf_write d c _ _ hc

theorem State.modRegs_keeps {s : State} (h : s.canonical = true) {f : Regs → Regs}
    (hb : Cells.wf zeroD s.regs.bootwin = true → Cells.wf zeroD (f s.regs).bootwin = true)
    (hf : Cells.wf flashD s.regs.flash = true → Cells.wf flashD (f s.regs).flash = true) : (s.modRegs f).canonical = true := by
  rw [State.canonical_parts] at h ⊢
  obtain ⟨hp, hc, ⟨hw, hl⟩, hr⟩ := h
  exact ⟨hp, hc, ⟨hb hw, hf hl⟩, hr⟩

@[simp] theorem State.programPage_canonical (s : State) (page : Nat) :
    (s.programPage page).canonical = true ↔ s.canonical = true ∨ Mended s (s.programPage page) := canonical_iff fun h => by
  unfold State.programPage
  refine State.modRegs_keeps h id fun hf => ?_
  simpa only using Cells.wf_foldl_write hf _ _ _

@[simp] theorem State.bootCommand_canonical (s : State) (key : Byte) (cmd : Nat) (valid : Bool) :
    (s.bootCommand key cmd valid).1.canonical = true ↔ s.canonical = true ∨ Mended s (s.bootCommand key cmd valid).1 := canonical_iff fun h => by
  have he : (s.modRegs fun r => { r with bstate := 5, bootcmd := some .erase, flash := [] }).canonical = true :=
    State.modRegs_keeps h id fun _ => rfl
  unfold State.bootCommand
  extract_lets taken
  split
  · exact h
  · split
    · exact he
    · split
      · split <;> simp [h]
      · split
        · split <;> simp [h]
        · exact h

@[simp] theorem execBootCommandComplete_canonical (now : Ns) {s : State} (h : s.canonical = true) :
    NextCanonical (execBootCommandComplete now s) := by
  simp only [execBootCommandComplete]
  split <;> simp [h]

@[simp] theorem State.writeLanectl_canonical (s : State) (key : Byte) (restart : Bool) :
    (s.writeLanectl key restart).1.canonical = true ↔ s.canonical = true ∨ Mended s (s.writeLanectl key restart).1 := canonical_iff fun h => by
  simp [State.writeLanectl, h]

@[simp] theorem State.clearInt_canonical (s : State) (v : Word) : (s.clearInt v).canonical = s.canonical := by
  simp [State.clearInt]

@[simp] theorem State.clearPar_canonical (s : State) (v : Word) : (s.clearPar v).canonical = s.canonical := by
  simp [State.clearPar]

@[simp] theorem State.writePlain_canonical (s : State) (a : Nat) (v : Word) :
    (s.writePlain a v).1.canonical = true ↔ s.canonical = true ∨ Mended s (s.writePlain a v).1 := canonical_iff fun h => by
  have hb : (s.modRegs fun r => { r with bootwin := Cells.write zeroD r.bootwin (a - 0x304) v }).canonical = true :=
    State.modRegs_keeps h (fun hb => Cells.wf_write _ _ _ _ hb) id
  unfold State.writePlain
  split
  · simp [h]
  · split
    · simp [h]
    · split
      · simp [h]
      · split
        · simp [h]
        · split
          · exact hb
          · split <;> simp [h]

@[simp] theorem State.endFrame_canonical (s : State) (res : Byte) (miso : List Byte) :
    (s.endFrame res miso).canonical = true ↔ s.canonical = true ∨ Mended s (s.endFrame res miso) := canonical_iff fun h => by
  simp [State.endFrame, h]

@[simp] theorem State.readWords_canonical (s : State) (a n : Nat) : (s.readWords a n).1.canonical = s.canonical := by
  induction n generalizing s a with
  | zero => rfl
  | succ n ih => exact (ih _ _).trans (s.readReg_canonical _)

@[simp] theorem State.readFrame_canonical (s : State) (mosi : List Byte) (nw a : Nat) :
    (s.readFrame mosi nw a).canonical = true ↔ s.canonical = true ∨ Mended s (s.readFrame mosi nw a) := canonical_iff fun h => by
  simp [State.readFrame, h]

@[simp] theorem State.oneWord_canonical {f : State → State × Byte} (hf : ∀ x : CanonicalState, (f x.1).1.canonical = true) (s : State) :
    (s.oneWord f).canonical = true ↔ s.canonical = true ∨ Mended s (s.oneWord f) := canonical_iff fun h => by
  unfold State.oneWord
  split
  · exact h
  · have := hf ⟨s, h⟩
    simp [this]

@[simp] theorem execLanectlRestart_canonical (key : Byte) {s : State} (h : s.canonical = true) :
    NextCanonical (execLanectlRestart key s) := by
  simp [execLanectlRestart, h]

@[simp] theorem State.bootWrite_canonical (s : State) (key : Byte) (cmd : Nat) (valid : Bool) :
    (s.bootWrite key cmd valid).1.canonical = true ↔ s.canonical = true ∨ Mended s (s.bootWrite key cmd valid).1 := canonical_iff fun h => by
  unfold State.bootWrite
  split <;> simp [h]

@[simp] theorem execBootctlErase_canonical (key : Byte) {s : State} (h : s.canonical = true) :
    NextCanonical (execBootctlErase key s) := by
  simp [execBootctlErase, h]

@[simp] theorem execBootctlProgram_canonical (key : Byte) {s : State} (h : s.canonical = true) :
    NextCanonical (execBootctlProgram key s) := by
  simp [execBootctlProgram, h]

@[simp] theorem execBootctlCheckBoot_canonical (key : Byte) (valid : Bool) {s : State} (h : s.canonical = true) :
    NextCanonical (execBootctlCheckBoot key valid s) := by
  simp [execBootctlCheckBoot, h]

@[simp] theorem execIntstatClear_canonical (value : Word) {s : State} (h : s.canonical = true) :
    NextCanonical (execIntstatClear value s) := by
  simp [execIntstatClear, h]

@[simp] theorem execParrecClear_canonical (value : Word) {s : State} (h : s.canonical = true) :
    NextCanonical (execParrecClear value s) := by
  simp [execParrecClear, h]

@[simp] theorem execGtimelRead_canonical (now : Ns) {s : State} (h : s.canonical = true) :
    NextCanonical (execGtimelRead now s) := by
  simp only [execGtimelRead, nextCanonical_next]
  refine (State.oneWord_canonical (fun x => ?_) _).2 (.inl (by simp [h]))
  split <;> simp

@[simp] theorem State.takePosts_canonical (s : State) :
    s.takePosts.canonical = true ↔ s.canonical = true ∨ Mended s s.takePosts := canonical_iff fun h => by
  simp only [State.takePosts]
  split <;> split <;> simp [h]

@[simp] theorem State.countTick_canonical (s : State) : s.countTick.canonical = s.canonical := by
  simp [State.countTick]

@[simp] theorem State.siTicks_canonical (s : State) (x : AonIn) :
    (s.siTicks x).canonical = true ↔ s.canonical = true ∨ Mended s (s.siTicks x) := canonical_iff fun h => by
  simp [State.siTicks, h]

@[simp] theorem State.pinTick_canonical (s : State) (x : AonIn) :
    (s.pinTick x).canonical = true ↔ s.canonical = true ∨ Mended s (s.pinTick x) := canonical_iff fun h => by
  simp [State.pinTick, h]

@[simp] theorem State.aonStep_canonical (s : State) (x : AonIn) :
    (s.aonStep x).canonical = true ↔ s.canonical = true ∨ Mended s (s.aonStep x) := canonical_iff fun h => by
  simp [State.aonStep, h]

@[simp] theorem execAonTick_canonical (x : AonIn) (now : Ns) {s : State} (h : s.canonical = true) :
    NextCanonical (execAonTick x now s) := by
  simp [execAonTick, h]

@[simp] theorem State.cycSchedule_canonical (s : State) (work boundary : Ns) :
    (s.cycSchedule work boundary).canonical = true ↔ s.canonical = true ∨ Mended s (s.cycSchedule work boundary) := canonical_iff fun h => by
  simp [State.cycSchedule, h]

@[simp] theorem State.tableEffect_canonical (s : State) (due : List Nat) (xs ys : PSpec) (n l : Nat) (ax : Option AxisNo) :
    (s.tableEffect due xs ys n l ax).canonical = true ↔ s.canonical = true ∨ Mended s (s.tableEffect due xs ys n l ax) := canonical_iff fun h => by
  unfold State.tableEffect
  extract_lets ps
  clear_value ps
  split
  · exact h
  · split
    · simp [h]
    · simp [h]

@[simp] theorem State.shareEffect_canonical (s : State) (due : List Nat) :
    (s.shareEffect due).canonical = true ↔ s.canonical = true ∨ Mended s (s.shareEffect due) := canonical_iff fun h => by
  unfold State.shareEffect
  extract_lets ps
  clear_value ps
  split
  · exact h
  · split <;> simp [h]

@[simp] theorem State.triggerWritten_canonical (s : State) (pid : Nat) : (s.triggerWritten pid).canonical = s.canonical := by
  unfold State.triggerWritten
  split <;> simp

@[simp] theorem State.cycleEffect_canonical (s : State) :
    s.cycleEffect.canonical = true ↔ s.canonical = true ∨ Mended s s.cycleEffect := canonical_iff fun h => by
  unfold State.cycleEffect
  extract_lets due t u v w x y
  have hy : y.canonical = true := by simp [y, x, w, v, u, t, h]
  clear_value y
  refine (foldl_canonical (fun p x => ?_) _ y).2 (.inl hy)
  split <;> simp

@[simp] theorem State.loadCycle_canonical (s : State) : s.loadCycle.canonical = s.canonical := by
  simp [State.loadCycle]

@[simp] theorem State.boundaryEffect_canonical (s : State) :
    s.boundaryEffect.canonical = true ↔ s.canonical = true ∨ Mended s s.boundaryEffect := canonical_iff fun h => by
  simp [State.boundaryEffect, h]

@[simp] theorem State.vssCycle_canonical (s : State) : s.vssCycle.canonical = s.canonical := by
  simp [State.vssCycle]

@[simp] theorem State.inputCycle_canonical (s : State) : s.inputCycle.canonical = s.canonical := by
  simp [State.inputCycle]

@[simp] theorem State.steerInputs_canonical (s : State) :
    s.steerInputs.canonical = true ↔ s.canonical = true ∨ Mended s s.steerInputs := canonical_iff fun h => by
  simp [State.steerInputs, h]

@[simp] theorem State.brakeInputs_canonical (s : State) :
    s.brakeInputs.canonical = true ↔ s.canonical = true ∨ Mended s s.brakeInputs := canonical_iff fun h => by
  simp [State.brakeInputs, h]

@[simp] theorem State.computeCycle_canonical (s : State) (gOld : Vector Q 2) (inv : Bool) :
    (s.computeCycle gOld inv).canonical = true ↔ s.canonical = true ∨ Mended s (s.computeCycle gOld inv) := canonical_iff fun h => by
  simp [State.computeCycle, h]

@[simp] theorem State.produceCycle_canonical (s : State) :
    s.produceCycle.canonical = true ↔ s.canonical = true ∨ Mended s s.produceCycle := canonical_iff fun h => by
  simp only [State.produceCycle]
  split <;> simp [h]

@[simp] theorem State.resetSums_canonical (s : State) : s.resetSums.canonical = s.canonical := by
  simp [State.resetSums]

@[simp] theorem State.functionCycle_canonical (s : State) (cycle : Int) :
    (s.functionCycle cycle).canonical = true ↔ s.canonical = true ∨ Mended s (s.functionCycle cycle) := canonical_iff fun h => by
  simp [State.functionCycle, h]

@[simp] theorem State.splitCycle_canonical (s : State) :
    s.splitCycle.canonical = true ↔ s.canonical = true ∨ Mended s s.splitCycle := canonical_iff fun h => by
  simp [State.splitCycle, h]

@[simp] theorem State.sweepAxis_canonical (s : State) (l : AxisNo) :
    (s.sweepAxis l).canonical = true ↔ s.canonical = true ∨ Mended s (s.sweepAxis l) := canonical_iff fun h => by
  simp [State.sweepAxis, h]

@[simp] theorem State.clearCycle_canonical (s : State) : s.clearCycle.canonical = s.canonical := by
  simp [State.clearCycle]

@[simp] theorem State.enterIdle_canonical (s : State) : s.enterIdle.canonical = s.canonical := by
  simp [State.enterIdle]

@[simp] theorem State.cycleInputs_canonical (s : State) :
    s.cycleInputs.canonical = true ↔ s.canonical = true ∨ Mended s s.cycleInputs := canonical_iff fun h => by
  simp [State.cycleInputs, h]

@[simp] theorem State.startLevel_canonical (s : State) : s.startLevel.canonical = s.canonical := by
  unfold State.startLevel
  split <;> simp

@[simp] theorem execPlChangeStart_canonical (now : Ns) {s : State} (h : s.canonical = true) :
    NextCanonical (execPlChangeStart now s) := by
  simp [execPlChangeStart, h]

@[simp] theorem State.attemptTimeout_canonical (s : State) :
    s.attemptTimeout.canonical = true ↔ s.canonical = true ∨ Mended s s.attemptTimeout := canonical_iff fun h => by
  unfold State.attemptTimeout
  split
  · split <;> simp [h]
  · simp [h]

/-! ## The writes of a parameter (R404, R414) -/

@[simp] theorem State.setStored_canonical (s : State) (pid : Nat) (v : Word) :
    (s.setStored pid v).canonical = true ↔ s.canonical = true ∨ Mended s (s.setStored pid v) := canonical_iff fun h => by
  rw [State.canonical_parts] at h ⊢
  obtain ⟨⟨hs, he⟩, hr⟩ := h
  exact ⟨⟨Cells.wf_write storeD _ pid v hs, he⟩, hr⟩

@[simp] theorem State.applyWrite_canonical (s : State) (src : Source) (tag : BitVec 16) (pid : Nat) (v : Word) :
    (s.applyWrite src tag pid v).canonical = true ↔ s.canonical = true ∨ Mended s (s.applyWrite src tag pid v) := canonical_iff fun h => by
  unfold State.applyWrite
  extract_lets old t u
  have ht : t.canonical = true := by simp [t, h]
  clear_value t
  rw [State.logEntry_canonical]
  left
  simp only [u]
  split
  · split
    · simp [ht]
    · split
      · simp [ht]
      · split <;> simp [ht]
  · exact ht

@[simp] theorem bodyParWrite_canonical (r : Req) (s : State) :
    (bodyParWrite r s).st.canonical = true ↔ s.canonical = true ∨ Mended s (bodyParWrite r s).st := canonical_iff fun h => by
  unfold bodyParWrite
  extract_lets n
  split
  · exact h
  · split
    · exact h
    · simp only []
      split <;> simp [h]

@[simp] theorem State.postWrite_canonical (s : State) (timer : Bool) (v : Word) :
    (s.postWrite timer v).1.canonical = true ↔ s.canonical = true ∨ Mended s (s.postWrite timer v).1 := canonical_iff fun h => by
  unfold State.postWrite
  split
  · exact h
  · simp only []
    split <;> simp [h]

/-! ## Serving a request -/

theorem opsLow_canonical {s : State} (h : s.canonical = true) : ∀ x ∈ opsLow, ∀ r, (x.2 r s).st.canonical = true := by
  simp [opsLow, h]

theorem opsHigh_canonical {s : State} (h : s.canonical = true) : ∀ x ∈ opsHigh, ∀ r, (x.2 r s).st.canonical = true := by
  simp [opsHigh, h]

/-- The body of every opcode keeps the stores canonical. -/
theorem opRow_canonical (opc : BitVec 16) (r : Req) (s : CanonicalState) : ((opRow opc).2 r s.1).st.canonical = true := by
  unfold opRow
  cases hf : (opsLow ++ opsHigh).find? (fun x => x.1.opc == opc) with
  | none => simp
  | some x =>
    obtain hl | hl := List.mem_append.1 (List.mem_of_find?_eq_some hf)
    · exact opsLow_canonical s.2 x hl r
    · exact opsHigh_canonical s.2 x hl r

@[simp] theorem State.serveReq_canonical (s : State) (opc : BitVec 16) (r : Req) :
    (s.serveReq opc r).canonical = true ↔ s.canonical = true ∨ Mended s (s.serveReq opc r) :=
  State.serve_canonical (fun x => opRow_canonical opc r x) s _

@[simp] theorem State.serveSlot_canonical (s : State) (q : Fin 4) (e : QEntry) :
    (s.serveSlot q e).canonical = true ↔ s.canonical = true ∨ Mended s (s.serveSlot q e) := canonical_iff fun h => by
  unfold State.serveSlot
  extract_lets r opc
  split
  · simp [h]
  · split <;> simp [h]

@[simp] theorem State.serveQueue_canonical (s : State) (q : Fin 4) (n : Nat) :
    (s.serveQueue q n).canonical = true ↔ s.canonical = true ∨ Mended s (s.serveQueue q n) := canonical_iff fun h => by
  induction n generalizing s with
  | zero => exact h
  | succ n ih =>
    unfold State.serveQueue
    split
    · exact h
    · exact ih _ (by simp [h])

@[simp] theorem State.serveBoth_canonical (s : State) (n : Nat) :
    (s.serveBoth n).canonical = true ↔ s.canonical = true ∨ Mended s (s.serveBoth n) := canonical_iff fun h => by
  induction n generalizing s with
  | zero => exact h
  | succ n ih => exact ih _ (by simp [h])

@[simp] theorem State.serveCycle_canonical (s : State) : s.serveCycle.canonical = true ↔ s.canonical = true ∨ Mended s s.serveCycle :=
  canonical_iff fun h => by
    simp [State.serveCycle, h]

@[simp] theorem State.arrived_canonical (s : State) (q : Fin 4) (e : QEntry) :
    (s.arrived q e).canonical = true ↔ s.canonical = true ∨ Mended s (s.arrived q e) := canonical_iff fun h => by
  unfold State.arrived
  extract_lets t
  have ht : t.canonical = true := by simp [t, h]
  clear_value t
  split
  · simp [ht]
  · split <;> simp [ht]

@[simp] theorem State.acceptSlot_canonical (s : State) (q : Fin 16) (e : QEntry) :
    (s.accept_ q e).canonical = true ↔ s.canonical = true ∨ Mended s (s.accept_ q e) := canonical_iff fun h => by
  unfold State.accept_
  split
  · simp [h]
  · simp only []
    split <;> simp [h]

@[simp] theorem State.pushDoor_canonical (s : State) (q : Fin 16) (ptr : Nat) :
    (s.pushDoor q ptr).1.canonical = true ↔ s.canonical = true ∨ Mended s (s.pushDoor q ptr).1 := canonical_iff fun h => by
  unfold State.pushDoor
  split <;> simp [h]

@[simp] theorem State.tunnelSlot_canonical (s : State) (src : Source) (w : Slot) :
    (s.tunnelSlot src w).canonical = true ↔ s.canonical = true ∨ Mended s (s.tunnelSlot src w) := canonical_iff fun h => by
  unfold State.tunnelSlot
  extract_lets r
  split
  · simp [h]
  · split <;> simp [h]

@[simp] theorem State.tunnelDatagram_canonical (s : State) (ip : Word) (port : BitVec 16) (data : List Byte) :
    (s.tunnelDatagram ip port data).canonical = true ↔ s.canonical = true ∨ Mended s (s.tunnelDatagram ip port data) :=
  canonical_iff fun h => by
    unfold State.tunnelDatagram
    split <;> simp [h]

@[simp] theorem State.ethReceive_canonical (s : State) (k : EthKind) :
    (s.ethReceive k).canonical = true ↔ s.canonical = true ∨ Mended s (s.ethReceive k) := canonical_iff fun h => by
  unfold State.ethReceive
  extract_lets t
  have ht : t.canonical = true := by simp [t, h]
  clear_value t
  split
  · split
    · exact ht
    · split <;> simp [ht]
  all_goals simp [ht]

@[simp] theorem State.serveHeld_canonical (s : State) : s.serveHeld.canonical = true ↔ s.canonical = true ∨ Mended s s.serveHeld :=
  canonical_iff fun h => by
    unfold State.serveHeld
    split <;> simp [h]

/-! ## Register writes over SPI (R490) -/

@[simp] theorem State.doorbell_canonical (s : State) (q : Fin 16) (ptr : Nat) :
    (s.doorbell q ptr).1.canonical = true ↔ s.canonical = true ∨ Mended s (s.doorbell q ptr).1 := canonical_iff fun h => by
  unfold State.doorbell
  split
  · simp only []
    split <;> simp [h]
  · simp only []
    split <;> simp [h]

@[simp] theorem State.writeReg_canonical (s : State) (a : Nat) (v : Word) :
    (s.writeReg a v).1.canonical = true ↔ s.canonical = true ∨ Mended s (s.writeReg a v).1 := canonical_iff fun h => by
  unfold State.writeReg
  split <;> simp [h]

@[simp] theorem State.writeWords_canonical (s : State) (a : Nat) (ws : List Word) :
    (s.writeWords a ws).1.canonical = true ↔ s.canonical = true ∨ Mended s (s.writeWords a ws).1 := canonical_iff fun h => by
  induction ws generalizing s a with
  | nil => exact h
  | cons v vs ih => exact ih _ _ ((s.writeReg_canonical _ v).2 (.inl h))

@[simp] theorem State.writeFrame_canonical (s : State) (mosi : List Byte) (nw a : Nat) :
    (s.writeFrame mosi nw a).canonical = true ↔ s.canonical = true ∨ Mended s (s.writeFrame mosi nw a) := canonical_iff fun h => by
  unfold State.writeFrame
  extract_lets sum n data out
  split
  · simp [h]
  · split <;> simp [h]

@[simp] theorem State.spiFrame_canonical (s : State) (mosi : List Byte) :
    (s.spiFrame mosi).canonical = true ↔ s.canonical = true ∨ Mended s (s.spiFrame mosi) := canonical_iff fun h => by
  simp [State.spiFrame, h]

/-! ## The vehicle cycle, which serves the queues (R400, R423) -/

@[simp] theorem State.vehicleCycle_canonical (s : State) (cycle : Int) :
    (s.vehicleCycle cycle).canonical = true ↔ s.canonical = true ∨ Mended s (s.vehicleCycle cycle) := canonical_iff fun h => by
  simp [State.vehicleCycle, h]

@[simp] theorem State.runCycle_canonical (s : State) (work boundary : Ns) :
    (s.runCycle work boundary).canonical = true ↔ s.canonical = true ∨ Mended s (s.runCycle work boundary) := canonical_iff fun h => by
  unfold State.runCycle
  split
  · exact h
  · extract_lets u
    have hu : u.canonical = true := by simp [u, h]
    clear_value u
    split <;> simp [hu]

@[simp] theorem State.resumeCycles_canonical (s : State) :
    s.resumeCycles.canonical = true ↔ s.canonical = true ∨ Mended s s.resumeCycles := canonical_iff fun h => by
  unfold State.resumeCycles
  split <;> simp [h]

/-! ## Commands -/

@[simp] theorem execOpParWrite_canonical (r : Req) {s : State} (h : s.canonical = true) : NextCanonical (execOpParWrite r s) := by
  simp [execOpParWrite, h]

@[simp] theorem execAlignHoldEnd_canonical (l : AxisNo) (now : Ns) {s : State} (h : s.canonical = true) :
    NextCanonical (execAlignHoldEnd l now s) := by
  unfold execAlignHoldEnd
  extract_lets u c
  have hu : u.canonical = true := by simp [u, h]
  split
  · split
    · simp [hu]
    · simp [hu]
  · simp [hu]

@[simp] theorem execQueueDoorbellPush_canonical (q : Fin 16) (ptr : BitVec 8) {s : State} (h : s.canonical = true) :
    NextCanonical (execQueueDoorbellPush q ptr s) := by
  simp [execQueueDoorbellPush, h]

@[simp] theorem execQueueDoorbellPop_canonical (q : Fin 16) (ptr : BitVec 8) {s : State} (h : s.canonical = true) :
    NextCanonical (execQueueDoorbellPop q ptr s) := by
  simp [execQueueDoorbellPop, h]

@[simp] theorem execAonPostedWrite_canonical (timer : Bool) (v : Word) {s : State} (h : s.canonical = true) :
    NextCanonical (execAonPostedWrite timer v s) := by
  simp [execAonPostedWrite, h]

@[simp] theorem execRegisterWrite_canonical (mosi : List Byte) {s : State} (h : s.canonical = true) :
    NextCanonical (execRegisterWrite mosi s) := by
  simp [execRegisterWrite, h]

@[simp] theorem execSpiReadFrame_canonical (mosi : List Byte) {s : State} (h : s.canonical = true) :
    NextCanonical (execSpiReadFrame mosi s) := by
  simp [execSpiReadFrame, h]

@[simp] theorem execEthFrameReceived_canonical (f : EthIn) (now : Ns) {s : State} (h : s.canonical = true) :
    NextCanonical (execEthFrameReceived f now s) := by
  simp [execEthFrameReceived, h]

@[simp] theorem execSelftestDomainDone_canonical (d : Fin 7) (marchOk restoreOk : Bool) (now : Ns) {s : State} (h : s.canonical = true) :
    NextCanonical (execSelftestDomainDone d marchOk restoreOk now s) := by
  simp [execSelftestDomainDone, h]

@[simp] theorem execSelftestStop_canonical (cause : StopCause) (now : Ns) {s : State} (h : s.canonical = true) :
    NextCanonical (execSelftestStop cause now s) := by
  simp [execSelftestStop, h]

@[simp] theorem execVehicleCycleStart_canonical (work now : Ns) {s : State} (h : s.canonical = true) :
    NextCanonical (execVehicleCycleStart work now s) := by
  unfold execVehicleCycleStart
  split
  · simp [h]
  · extract_lets u
    have hu : u.canonical = true := by simp [u, h]
    clear_value u
    simp [hu]

@[simp] theorem execPlAttemptTimeout_canonical (now : Ns) {s : State} (h : s.canonical = true) :
    NextCanonical (execPlAttemptTimeout now s) := by
  simp [execPlAttemptTimeout, h]

@[simp] theorem execPmbusTransaction_canonical (kind : PmbKind) (result : PmbResult) (now : Ns) {s : State} (h : s.canonical = true) :
    NextCanonical (execPmbusTransaction kind result now s) := by
  simp only [execPmbusTransaction, nextCanonical_next, State.resumeCycles_canonical]
  left
  split <;> simp [h]

@[simp] theorem execPgoodChange_canonical (high : Bool) (now : Ns) {s : State} (h : s.canonical = true) :
    NextCanonical (execPgoodChange high now s) := by
  simp [execPgoodChange, h]

/-- Every command keeps the stores canonical: by the lemma of its own rule. -/
theorem exec_canonical (i : Instr) {s : State} (h : s.canonical = true) : NextCanonical (exec i s) := by
  cases i <;> simp [exec, h]

/-- Settles O3: a step runs the command at the front of the queue, and every command keeps the stores canonical. -/
theorem stepKeepsStoresCanonical : Obligations.StepKeepsStoresCanonical := by
  intro s t hs ht
  unfold step at ht
  split at ht
  · cases ht
    exact hs
  · next c rest _ => exact exec_canonical c (s := { s with pending := rest }) hs t ht

end Sys2Proof.Machine

namespace Sys2Proof.Machine

theorem vset_vset {α : Type} {n : Nat} (v : Vector α n) (i : Fin n) (x y : α) : vset (vset v i x) i y = vset v i y := by
  unfold vset
  ext j hj
  grind

/-! ## What a change of the lane state leaves -/

@[simp] theorem State.setSt_st_eq (s : State) (x : LaneSt) : (s.setSt x).life.st = x := (s.setSt_eq x).1

@[simp] theorem State.setSt_clk (s : State) (x : LaneSt) : (s.setSt x).clk = s.clk := by
  obtain ⟨-, l, r, h, -⟩ := s.setSt_eq x
  rw [h]

@[simp] theorem State.setSt_mb (s : State) (x : LaneSt) : (s.setSt x).mb = s.mb := by
  obtain ⟨-, l, r, h, -⟩ := s.setSt_eq x
  rw [h]

@[simp] theorem State.setSt_cnt (s : State) (x : LaneSt) : (s.setSt x).cnt = s.cnt := by
  obtain ⟨-, l, r, h, -⟩ := s.setSt_eq x
  rw [h]

@[simp] theorem State.setSt_ident (s : State) (x : LaneSt) : (s.setSt x).ident = s.ident := by
  obtain ⟨-, l, r, h, -⟩ := s.setSt_eq x
  rw [h]

@[simp] theorem State.setSt_aon (s : State) (x : LaneSt) : (s.setSt x).aon = s.aon := by
  obtain ⟨-, l, r, h, -⟩ := s.setSt_eq x
  rw [h]

@[simp] theorem State.setSt_ax (s : State) (x : LaneSt) : (s.setSt x).ax = s.ax := by
  obtain ⟨-, l, r, h, -⟩ := s.setSt_eq x
  rw [h]

@[simp] theorem State.setSt_pair (s : State) (x : LaneSt) : (s.setSt x).pair = s.pair := by
  obtain ⟨-, l, r, h, -⟩ := s.setSt_eq x
  rw [h]

@[simp] theorem State.setSt_ports (s : State) (x : LaneSt) : (s.setSt x).ports = s.ports := by
  obtain ⟨-, l, r, h, -⟩ := s.setSt_eq x
  rw [h]

@[simp] theorem State.setSt_wheels (s : State) (x : LaneSt) : (s.setSt x).wheels = s.wheels := by
  obtain ⟨-, l, r, h, -⟩ := s.setSt_eq x
  rw [h]

@[simp] theorem State.setSt_divs (s : State) (x : LaneSt) : (s.setSt x).divs = s.divs := by
  obtain ⟨-, l, r, h, -⟩ := s.setSt_eq x
  rw [h]

@[simp] theorem State.setSt_su (s : State) (x : LaneSt) : (s.setSt x).su = s.su := by
  obtain ⟨-, l, r, h, -⟩ := s.setSt_eq x
  rw [h]

@[simp] theorem State.setSt_safe (s : State) (x : LaneSt) : (s.setSt x).safe = s.safe := by
  obtain ⟨-, l, r, h, -⟩ := s.setSt_eq x
  rw [h]

@[simp] theorem State.setSt_nov (s : State) (x : LaneSt) : (s.setSt x).nov = s.nov := by
  obtain ⟨-, l, r, h, -⟩ := s.setSt_eq x
  rw [h]

@[simp] theorem State.setSt_twin (s : State) (x : LaneSt) : (s.setSt x).twin = s.twin := by
  obtain ⟨-, l, r, h, -⟩ := s.setSt_eq x
  rw [h]

@[simp] theorem State.setSt_integ (s : State) (x : LaneSt) : (s.setSt x).integ = s.integ := by
  obtain ⟨-, l, r, h, -⟩ := s.setSt_eq x
  rw [h]

@[simp] theorem State.setSt_vote (s : State) (x : LaneSt) : (s.setSt x).vote = s.vote := by
  obtain ⟨-, l, r, h, -⟩ := s.setSt_eq x
  rw [h]

@[simp] theorem State.setSt_steer (s : State) (x : LaneSt) : (s.setSt x).steer = s.steer := by
  obtain ⟨-, l, r, h, -⟩ := s.setSt_eq x
  rw [h]

@[simp] theorem State.setSt_brake (s : State) (x : LaneSt) : (s.setSt x).brake = s.brake := by
  obtain ⟨-, l, r, h, -⟩ := s.setSt_eq x
  rw [h]

@[simp] theorem State.setSt_vtb (s : State) (x : LaneSt) : (s.setSt x).vtb = s.vtb := by
  obtain ⟨-, l, r, h, -⟩ := s.setSt_eq x
  rw [h]

@[simp] theorem State.setSt_can (s : State) (x : LaneSt) : (s.setSt x).can = s.can := by
  obtain ⟨-, l, r, h, -⟩ := s.setSt_eq x
  rw [h]

@[simp] theorem State.setSt_eth (s : State) (x : LaneSt) : (s.setSt x).eth = s.eth := by
  obtain ⟨-, l, r, h, -⟩ := s.setSt_eq x
  rw [h]

@[simp] theorem State.setSt_arb (s : State) (x : LaneSt) : (s.setSt x).arb = s.arb := by
  obtain ⟨-, l, r, h, -⟩ := s.setSt_eq x
  rw [h]

@[simp] theorem State.setSt_tests (s : State) (x : LaneSt) : (s.setSt x).st = s.st := by
  obtain ⟨-, l, r, h, -⟩ := s.setSt_eq x
  rw [h]

@[simp] theorem State.setSt_padReset (s : State) (x : LaneSt) : (s.setSt x).padReset = s.padReset := by
  obtain ⟨-, l, r, h, -⟩ := s.setSt_eq x
  rw [h]

@[simp] theorem State.setSt_free (s : State) (x : LaneSt) : (s.setSt x).free = s.free := by
  obtain ⟨-, l, r, h, -⟩ := s.setSt_eq x
  rw [h]

@[simp] theorem State.setSt_pending (s : State) (x : LaneSt) : (s.setSt x).pending = s.pending := by
  obtain ⟨-, l, r, h, -⟩ := s.setSt_eq x
  rw [h]

/-- Of the lane's record, a change of the lane state leaves all but the state and DRDY. -/
theorem State.setSt_life (s : State) (x : LaneSt) : { (s.setSt x).life with st := s.life.st, drdy := s.life.drdy } = s.life := by
  obtain ⟨-, l, r, h, hl⟩ := s.setSt_eq x
  rw [h]
  exact hl

@[simp] theorem State.mapAx_get (s : State) (f : Axis → Axis) (l : AxisNo) : (s.mapAx f).ax[l] = f s.ax[l] := by
  simp [State.mapAx]

/-! ## What an event leaves -/

/-- What a report leaves alone. -/
theorem State.logOnly.eq {s t : State} (h : s.logOnly t) : t = { s with mb := t.mb, cnt := t.cnt, regs := t.regs, aon := t.aon } := by
  conv_rhs => rw [← show _ = s from h]

theorem State.logOnly.withSu {s t : State} (h : s.logOnly t) (v : Su) : State.logOnly { s with su := v } { t with su := v } := by
  rw [h.eq]
  rfl

/-- Steps that each leave what an event leaves, together leave no less. -/
theorem foldl_logOnly {α : Type} {f : State → α → State} (k : ∀ (s : State) a, s.logOnly (f s a)) (as : List α) (s : State) :
    s.logOnly (as.foldl f s) :=
  List.foldlRecOn (motive := fun t : State => s.logOnly t) as f s.logOnly_refl fun _ h _ _ => State.logOnly_trans h (k _ _)

/-! ## What an event leaves of the always-on domain -/

theorem State.lateOnly.failrec {s t : State} (h : s.lateOnly t) : t.aon.failrec = s.aon.failrec := by
  rw [← show _ = s.aon from h]

/-! ## FAIL (R293) -/

/-- A cut axis: disabled, with low gates and its fault as it was. -/
theorem Axis.cut_off (a : Axis) : a.cut.en = false ∧ a.cut.pwm.gates = false ∧ a.cut.fault = a.fault := ⟨a.cut_en, a.cut_gates, a.cut_fault⟩

/-- A state in which the supervisor runs can fail. -/
theorem State.cyclesRun_st {s : State} (h : s.cyclesRun = true) : s.life.st ≠ .failSilent ∧ s.life.st ≠ .off := by
  unfold State.cyclesRun State.fwOn at h
  constructor <;> intro hs <;> simp [hs] at h

/-- What FAIL leaves. -/
theorem State.fail_eq (s : State) {cause : BitVec 4} {group : Byte} (h : s.life.st ≠ .failSilent) (ho : s.life.st ≠ .off) :
    (s.fail cause group).life.st = .failSilent ∧ (s.fail cause group).twin.claim = false ∧
      (∀ l : AxisNo, (s.fail cause group).ax[l] = s.ax[l].cut) ∧
      (s.fail cause group).aon.failrec = 0x80000000 ||| (cause.setWidth 32 <<< 24) ||| (group.setWidth 32 <<< 16) := by
  unfold State.fail
  rw [if_neg h, if_neg fun hx => ho hx.1]
  simp only []
  refine ⟨?_, ?_, fun l => ?_, ?_⟩
  · rw [State.bump_life, State.setSt_st_eq]
  · rw [State.bump_twin, State.setSt_twin]
  · rw [State.bump_ax, State.setSt_ax]
    exact s.mapAx_get Axis.cut l
  · rw [(State.bump_lateOnly _ _).failrec, State.setSt_aon]

end Sys2Proof.Machine

namespace Sys2Proof.Machine

/-! ## Activations of the signal unit (R193 to R195, R198) -/

theorem State.modAct_eq (s : State) (a : ActNo) (f : Act → Act) :
    s.modAct a f = { s with su := { s.su with acts := vmod s.su.acts a f } } := rfl

/-- A fold that takes the first element, and then keeps what it has or takes the next: it has an element of the list, where there is one. -/
theorem foldl_pick {α : Type} {f : Option α → α → Option α} (h0 : ∀ a, f none a = some a)
    (h1 : ∀ c a, f (some c) a = some a ∨ f (some c) a = some c) (ps : List α) :
    (ps = [] ∧ ps.foldl f none = none) ∨ ∃ a ∈ ps, ps.foldl f none = some a := by
  have hs : ∀ (qs : List α) c, c ∈ ps → (∀ a ∈ qs, a ∈ ps) → ∃ a ∈ ps, qs.foldl f (some c) = some a := fun qs => by
    induction qs with
    | nil => exact fun c hc _ => ⟨c, hc, rfl⟩
    | cons x r ih =>
      intro c hc hq
      rw [List.foldl_cons]
      obtain h | h := h1 c x
      · rw [h]
        exact ih x (hq x (by simp)) fun a ha => hq a (by simp [ha])
      · rw [h]
        exact ih c hc fun a ha => hq a (by simp [ha])
  cases ps with
  | nil => exact .inl ⟨rfl, rfl⟩
  | cons x r =>
    rw [List.foldl_cons, h0]
    exact .inr (hs r x (by simp) fun a ha => by simp [ha])

/-- The activation that comes first waits to run; there is none only where none waits. -/
theorem State.firstPending_cases (s : State) : ((∀ a : ActNo, s.su.acts[a].pend = false ∨ s.su.acts[a].active = true) ∧ s.firstPending = none) ∨
    ∃ a : ActNo, (s.su.acts[a].pend = true ∧ s.su.acts[a].active = false) ∧ s.firstPending = some a := by
  unfold State.firstPending
  obtain ⟨he, h⟩ | ⟨a, ha, h⟩ := foldl_pick
    (f := fun b a => match b with
      | none => some a
      | some c => if keyLt (s.actKey a s.su.acts[a].deadline) (s.actKey c s.su.acts[c].deadline) then some a else b)
    (fun _ => rfl) (fun c a => by simp only []; split <;> simp)
    ((fins 40).filter fun a => s.su.acts[a].pend && !s.su.acts[a].active)
  · refine .inl ⟨fun a => ?_, h⟩
    have := List.filter_eq_nil_iff.1 he a (List.mem_finRange a)
    grind
  · exact .inr ⟨a, by simpa using (List.mem_filter.1 ha).2, h⟩

theorem State.firstPending_some {s : State} {a : ActNo} (h : s.firstPending = some a) :
    s.su.acts[a].pend = true ∧ s.su.acts[a].active = false := by
  obtain ⟨-, hn⟩ | ⟨b, hb, hs⟩ := s.firstPending_cases
  · rw [h] at hn
    cases hn
  · rw [h] at hs
    cases hs
    exact hb

/-- One that waits alone comes first. -/
theorem State.firstPending_alone {s : State} {a : ActNo} (hp : s.su.acts[a].pend = true) (ha : s.su.acts[a].active = false)
    (h : ∀ b : ActNo, b ≠ a → s.su.acts[b].pend = false) : s.firstPending = some a := by
  obtain ⟨hn, -⟩ | ⟨b, ⟨hb, -⟩, hs⟩ := s.firstPending_cases
  · have := hn a
    simp_all
  · by_cases hba : b = a
    · rw [hs, hba]
    · rw [h b hba] at hb
      cases hb

/-- What the choice of the next run leaves alone: all but the signal unit, its results, and every activation that does not wait to run. -/
theorem State.nextRun_eq (s : State) : ∃ v : Su, s.nextRun = { s with su := v } ∧ v.results = s.su.results ∧ v.lateRes = s.su.lateRes ∧
    ∀ b : ActNo, s.su.acts[b].pend = false → v.acts[b] = s.su.acts[b] := by
  have hb : ∀ a, s.firstPending = some a → ∃ v : Su, s.beginRun a = { s with su := v } ∧ v.results = s.su.results ∧ v.lateRes = s.su.lateRes ∧
      ∀ b : ActNo, s.su.acts[b].pend = false → v.acts[b] = s.su.acts[b] := fun a ha =>
    ⟨_, rfl, rfl, rfl, fun b hb => vmod_ne _ _ _ _ fun he => by
      rw [he, (State.firstPending_some ha).1] at hb
      cases hb⟩
  unfold State.nextRun
  split
  · next a c r ha _ =>
    split
    · exact hb a ha
    · exact ⟨_, rfl, rfl, rfl, fun _ _ => rfl⟩
  · exact ⟨_, rfl, rfl, rfl, fun _ _ => rfl⟩
  · next a ha _ => exact hb a ha
  · exact ⟨_, rfl, rfl, rfl, fun _ _ => rfl⟩

/-- A run begins: the activation, the engine with zeroed registers and the entry, and every other part of the state. -/
theorem State.beginRun_eq (s : State) (a : ActNo) : s.beginRun a = { s with su := { s.su with
    eng := { s.su.eng with
      ctx := { act := some a, release := s.su.acts[a].pendAt, pc := BitVec.ofNat 13 (if 32 ≤ a.val then s.pn P.sigUentry 0 (a.val - 32) else 0) }
      running := true
      integ := decide (32 ≤ a.val) }
    acts := vmod s.su.acts a fun x => { x with pend := false, active := true, runDl := x.deadline } } } := rfl

/-! ### The release -/

/-- An activation released at `t` with deadline `d`, at global time `g`. -/
def Act.released (x : Act) (t d : Ns) (g : Int) : Act :=
  { x with pend := true, release := t, deadline := d, pendAt := g, missed := false, judged := false }

/-- A release with no other waiting begins on an idle unit, and over a run of a later deadline that is outside a REPEAT with room to store it. -/
theorem State.dispatch_begins {s : State} {a : ActNo} (hf : s.firstPending = some a)
    (h : (s.running = none ∧ s.su.saved = []) ∨
      ∃ b, s.running = some b ∧ s.su.eng.ctx.rep = none ∧ s.su.saved.length < 8 ∧ s.su.acts[a].deadline < s.su.acts[b].runDl) :
    s.dispatch = State.beginRun { s with su := { s.su with saved := if s.running.isSome then s.su.eng.ctx :: s.su.saved else [] } } a := by
  unfold State.dispatch
  simp only [hf]
  obtain ⟨hr, hs⟩ | ⟨b, hr, hrep, hl, hd⟩ := h
  · have hss : { s with su := { s.su with saved := [] } } = s := by rw [← hs]
    simp only [hr, State.nextRun, hf, hs, Option.isSome_none, Bool.false_eq_true, if_false, hss]
  · have hc : s.su.eng.ctx.act = some b := by
      unfold State.running at hr
      split at hr
      · exact hr
      · cases hr
    simp only [hr, State.runDeadline, hc, hrep, Option.isNone_none, hl, hd, and_self, if_true, Option.isSome_some]
    rfl

/-- Otherwise the release waits for the run. -/
theorem State.dispatch_waits {s : State} {a b : ActNo} (hf : s.firstPending = some a) (hr : s.running = some b)
    (h : s.su.eng.ctx.rep ≠ none ∨ 8 ≤ s.su.saved.length ∨ s.su.acts[b].runDl ≤ s.su.acts[a].deadline) : s.dispatch = s := by
  have hc : s.su.eng.ctx.act = some b := by
    unfold State.running at hr
    split at hr
    · exact hr
    · cases hr
  unfold State.dispatch
  simp only [hf, hr, State.runDeadline, hc]
  rw [if_neg]
  rintro ⟨h1, h2, h3⟩
  rw [Option.isNone_iff_eq_none] at h1
  obtain h | h | h := h
  · exact h h1
  · exact absurd h2 (Nat.not_lt.2 h)
  · exact absurd h3 (Nat.not_lt.2 h)

/-- From `u` to `v` the first release, of `a`, is served: it may have begun, and so may the run of another. -/
def Su.Served (u v : Su) (a : ActNo) : Prop :=
  v.results = u.results ∧ (∀ b : ActNo, u.acts[b].pend = false → v.acts[b] = u.acts[b]) ∧
    ∃ p r q, v.acts[a] = { u.acts[a] with pend := p, active := r, runDl := q }

theorem Su.served_same {u v : Su} {a : ActNo} (hr : v.results = u.results) (ha : v.acts = u.acts) : u.Served v a :=
  ⟨hr, fun b _ => by rw [ha], u.acts[a].pend, u.acts[a].active, u.acts[a].runDl, by rw [ha]⟩

theorem Su.served_begun {u v : Su} {a : ActNo} (hp : u.acts[a].pend = true) (hr : v.results = u.results)
    (ha : v.acts = vmod u.acts a fun x => { x with pend := false, active := true, runDl := x.deadline }) : u.Served v a := by
  refine ⟨hr, fun b hb => ?_, false, true, u.acts[a].deadline, ?_⟩
  · rw [ha, vmod_ne]
    rintro rfl
    rw [hp] at hb
    cases hb
  · rw [ha, vmod_same]

/-- What a dispatch leaves alone. -/
theorem State.dispatch_eq {s : State} {a : ActNo} (hf : s.firstPending = some a) : ∃ v : Su, s.dispatch = { s with su := v } ∧ s.su.Served v a := by
  have hp := (State.firstPending_some hf).1
  have hb : ∃ v : Su, s.beginRun a = { s with su := v } ∧ s.su.Served v a := ⟨_, rfl, Su.served_begun hp rfl rfl⟩
  unfold State.dispatch
  simp only [hf]
  split
  · unfold State.nextRun
    cases hs : s.su.saved with
    | nil => simpa only [hf] using hb
    | cons c r =>
      simp only [hf]
      split
      · exact hb
      · exact ⟨_, rfl, Su.served_same rfl rfl⟩
  · split
    · exact ⟨_, rfl, Su.served_begun hp rfl rfl⟩
    · exact ⟨_, rfl, Su.served_same rfl rfl⟩

/-! ### The deadline -/

theorem State.bump_actKind (s : State) (n : Nat) (a : ActNo) : (s.bump n).actKind a = s.actKind a := by
  rw [(s.bump_logOnly n).eq]
  rfl

/-- A run, or a release that waits to run, unfinished at its deadline that has not been judged. -/
def State.Overdue (s : State) (a : ActNo) : Prop :=
  s.su.acts[a].judged = false ∧ ((s.su.acts[a].active = true ∧ s.su.acts[a].runDl ≤ s.clk.lclk) ∨
    (s.su.acts[a].active = false ∧ s.su.acts[a].pend = true ∧ s.su.acts[a].deadline ≤ s.clk.lclk))

theorem State.judgeRun_of_not {s : State} {a : ActNo} (h : ¬ s.Overdue a) : s.judgeRun a = s := by
  unfold State.judgeRun
  simp only []
  rw [if_neg]
  intro hl
  apply h
  unfold State.Overdue
  simpa [and_comm, and_assoc, and_left_comm] using hl

theorem State.judgeRun_of {s : State} {a : ActNo} (h : s.Overdue a) : s.judgeRun a =
    if s.actKind a = 2 then
      State.raise { s.bump (0xFF00 + 2 * a.val) with su := { s.su with acts := vset s.su.acts a { s.su.acts[a] with judged := true, missed := true } } }
        0xF002 .amber none [BitVec.ofNat 32 a.val]
    else { s.bump (0xFF00 + 2 * a.val) with su := { s.su with acts := vset s.su.acts a { s.su.acts[a] with judged := true } } } := by
  have hb : (s.bump (0xFF00 + 2 * a.val)).modAct a (fun x => { x with judged := true }) =
      { s.bump (0xFF00 + 2 * a.val) with su := { s.su with acts := vset s.su.acts a { s.su.acts[a] with judged := true } } } := by
    rw [State.modAct_eq, State.bump_su]
    rfl
  have hk : ((s.bump (0xFF00 + 2 * a.val)).modAct a fun x => { x with judged := true }).actKind a = s.actKind a := s.bump_actKind _ a
  unfold State.judgeRun
  simp only []
  rw [if_pos, hk]
  · split
    · rw [hb, State.modAct_eq]
      simp only [vmod, vset_same, vset_vset]
    · exact hb
  · unfold State.Overdue at h
    simpa [and_comm, and_assoc, and_left_comm] using h

/-- What a judgement leaves alone: of its activation it may set only the two marks, and MISSED only at or behind the deadline. -/
theorem State.judgeRun_logOnly (s : State) (a : ActNo) : ∃ j m,
    State.logOnly { s with su := { s.su with acts := vset s.su.acts a { s.su.acts[a] with judged := j, missed := m } } } (s.judgeRun a) ∧
      (s.su.acts[a].missed = true → m = true) ∧ (¬ s.Overdue a → m = s.su.acts[a].missed) := by
  by_cases h : s.Overdue a
  · rw [State.judgeRun_of h]
    split
    · exact ⟨true, true, ((s.bump_logOnly _).withSu _).raise _ _ _ _, fun _ => rfl, fun hn => absurd h hn⟩
    · exact ⟨true, s.su.acts[a].missed, (s.bump_logOnly _).withSu _, id, fun _ => rfl⟩
  · rw [State.judgeRun_of_not h]
    refine ⟨s.su.acts[a].judged, s.su.acts[a].missed, ?_, id, fun _ => rfl⟩
    have hv : vset s.su.acts a s.su.acts[a] = s.su.acts := by
      unfold vset
      simp
    exact congrArg (fun v => ({ s with su := { s.su with acts := v } } : State)) hv.symm

/-! ### The end of a run -/

/-- An activation's end of run, of `n` cycles. -/
def Act.ended (x : Act) (n : Nat) : Act := { x.endRun with last := n, longest := max x.longest n }

/-- The end of a run for which no release waits: its activation is free, and the next run begins. -/
theorem State.endKernel_eq (s : State) {a : ActNo} (n : Nat) (hp : s.su.acts[a].pend = false) (hw : s.su.acts[a].wait = none) :
    ∃ v : Su, ((s.modAct a fun x => x.ended n).modSu fun u => { u with eng := u.eng.stop }).nextRun = { s with su := v } ∧
      v.results = s.su.results ∧ v.lateRes = s.su.lateRes ∧ v.acts[a] =
        { s.su.acts[a] with active := false, judged := false, missed := false, last := n, longest := max s.su.acts[a].longest n } := by
  obtain ⟨v, he, hr, hl, ha⟩ := ((s.modAct a fun x => x.ended n).modSu fun u => { u with eng := u.eng.stop }).nextRun_eq
  have hx : ((s.modAct a fun x => x.ended n).modSu fun u => { u with eng := u.eng.stop }).su.acts[a] =
      { s.su.acts[a] with active := false, judged := false, missed := false, last := n, longest := max s.su.acts[a].longest n } := by
    refine (vmod_same _ _ _).trans ?_
    unfold Act.ended Act.endRun
    simp only [hw]
  refine ⟨v, he, hr, hl, ?_⟩
  rw [ha a (by rw [hx]; exact hp), hx]

/-- One delivery taken, or put with those that wait (R195). -/
def Deliv.given (d : Deliv) (late : Bool) (x : Delivery) : Deliv := if late then { d with wait := d.wait ++ [x] } else d.take x

theorem State.deliverTo_eq (s : State) (l : AxisNo) (x : Delivery) :
    s.deliverTo l x = { s with ax := vset s.ax l { s.ax[l] with del := s.ax[l].del.given (s.tooLate l) x } } := rfl

/-- A further delivery to the axis, whose sample has not changed. -/
theorem State.deliverTo_vset (s : State) (n : Nat) (l : AxisNo) {y : Axis} (x : Delivery) (h : y.sch = s.ax[l].sch) :
    State.deliverTo { s with free := n, ax := vset s.ax l y } l x =
      { s with free := n, ax := vset s.ax l { y with del := y.del.given (s.tooLate l) x } } := by
  have ht : State.tooLate { s with free := n, ax := vset s.ax l y } l = s.tooLate l := by
    unfold State.tooLate State.sampleStart
    simp only [vset_same, h]
    rfl
  rw [State.deliverTo_eq, ht]
  simp only [vset_same, vset_vset]

/-- What the results of an axis kernel leave of its deliveries: taken with the stamp of the release, or waiting. -/
def Deliv.GotAxis (d e : Deliv) (late : Bool) (a : ActNo) (stamp : Int) (force : Q) : Prop :=
  (late = false → e.stamp = stamp ∧ (a.val < 16 → e.fresh = true ∧ e.valid = true) ∧
    (16 ≤ a.val → e.fFresh = true ∧ e.fValid = true ∧ e.force = force)) ∧
  (late = true → { e with wait := d.wait } = d ∧ d.wait.length < e.wait.length)

/-- What an axis kernel delivers, and where. -/
theorem State.deliverAxis_eq (s : State) {a : ActNo} (ha : a.val < 24) (l : AxisNo) (stamp : Int) : ∃ n y,
    s.deliverAxis a l stamp = { s with free := n, ax := vset s.ax l y } ∧
      s.ax[l].del.GotAxis y.del (s.tooLate l) a stamp (s.fAct l) := by
  unfold State.deliverAxis
  split
  · next h8 =>
    refine ⟨s.free, _, State.deliverTo_vset s s.free l _ rfl, ?_⟩
    cases s.tooLate l <;> simp [Deliv.GotAxis, Deliv.given, Deliv.take]
    omega
  · split
    · next h8 h16 =>
      have h1 (x : Delivery) : s.tickFree.deliverTo l x =
          { s with free := s.free + 1, ax := vset s.ax l { s.ax[l] with del := s.ax[l].del.given (s.tooLate l) x } } := rfl
      simp only [h1]
      split
      · refine ⟨s.free + 1, _, State.deliverTo_vset s _ l _ rfl, ?_⟩
        cases s.tooLate l <;> simp [Deliv.GotAxis, Deliv.given, Deliv.take]
        omega
      · refine ⟨s.free + 1, _, rfl, ?_⟩
        cases s.tooLate l <;> simp [Deliv.GotAxis, Deliv.given, Deliv.take]
        omega
    · refine ⟨s.free, _, State.deliverTo_eq _ _ _, ?_⟩
      cases s.tooLate l <;> simp [Deliv.GotAxis, Deliv.given, Deliv.take]
      omega

/-- What a vehicle-cycle kernel delivers: its result, or its late result where MISSED stands for a release of the present cycle (R195). -/
theorem State.deliverKernel_cycle (s : State) {a : ActNo} (h : 24 ≤ a.val) (h' : a.val < 32) (stamp : Int) : ∃ v : Su,
    s.deliverKernel a stamp = { s with free := s.free + 1, su := v } ∧ v.acts = s.su.acts ∧
      (s.su.acts[a].missed = false → v.lateRes = s.su.lateRes ∧ ∀ i : Fin 8, i.val ≠ a.val - 24 → v.results[i] = s.su.results[i]) ∧
      (s.su.acts[a].missed = true → s.life.cycStart ≤ s.su.acts[a].release → v.results = s.su.results ∧
        ∀ i : Fin 8, (i.val = a.val - 24 → v.lateRes[i].isSome) ∧ (i.val ≠ a.val - 24 → v.lateRes[i] = s.su.lateRes[i])) := by
  have hne : ∀ i : Fin 8, i.val ≠ a.val - 24 → i ≠ ⟨a.val - 24, by omega⟩ := fun i hi he => hi (congrArg Fin.val he)
  unfold State.deliverKernel
  rw [dif_neg (by omega), dif_pos h']
  refine ⟨_, rfl, ?_, fun hm => ?_, fun hm hc => ?_⟩
  · split <;> rfl
  · simp only [hm, Bool.false_and, Bool.false_eq_true, if_false]
    exact ⟨rfl, fun i hi => vset_ne _ _ _ _ (hne i hi)⟩
  · simp only [hm, hc, decide_true, Bool.and_self, if_true]
    refine ⟨rfl, fun i => ⟨fun hi => ?_, fun hi => vset_ne _ _ _ _ (hne i hi)⟩⟩
    have he : i = ⟨a.val - 24, by omega⟩ := Fin.ext hi
    rw [he]
    exact congrArg Option.isSome (vset_same s.su.lateRes _ _)

/-- The judgement of a run, with the state it leaves written out. -/
theorem State.judgeRun_eq (s : State) (a : ActNo) : ∃ mb cnt regs aon j m,
    s.judgeRun a = { s with mb := mb, cnt := cnt, regs := regs, aon := aon,
                            su := { s.su with acts := vset s.su.acts a { s.su.acts[a] with judged := j, missed := m } } } ∧
      (s.su.acts[a].missed = true → m = true) ∧ (¬ s.Overdue a → m = s.su.acts[a].missed) := by
  obtain ⟨j, m, hl, hm⟩ := s.judgeRun_logOnly a
  exact ⟨_, _, _, _, j, m, hl.eq, hm⟩

/-- Results of a vehicle-cycle kernel that ends: none for an axis, and none but its own. -/
def Su.GotCycle (u v : Su) (a : ActNo) (m : Bool) (current : Prop) : Prop :=
  (m = false → v.lateRes = u.lateRes ∧ ∀ i : Fin 8, i.val ≠ a.val - 24 → v.results[i] = u.results[i]) ∧
  (m = true → current → v.results = u.results ∧
    ∀ i : Fin 8, (i.val = a.val - 24 → v.lateRes[i].isSome) ∧ (i.val ≠ a.val - 24 → v.lateRes[i] = u.lateRes[i]))

/-- What a vendor kernel delivers: to its axis, or to the supervisor. -/
theorem State.deliverKernel_vendor (s : State) {a : ActNo} (h : a.val < 32) (stamp : Int) : ∃ (n : Nat) (ax : Vector Axis 8) (v : Su),
    s.deliverKernel a stamp = { s with free := n, ax := ax, su := v } ∧ v.acts = s.su.acts ∧
      (24 ≤ a.val → ax = s.ax ∧ s.su.GotCycle v a s.su.acts[a].missed (s.life.cycStart ≤ s.su.acts[a].release)) ∧
      (a.val < 24 → v = s.su ∧ ∀ l : AxisNo, l.val = a.val % 8 → ∃ y, ax = vset s.ax l y ∧
        s.ax[l].del.GotAxis y.del (s.tooLate l) a stamp (s.fAct l)) := by
  by_cases h24 : a.val < 24
  · obtain ⟨n, y, he, hy⟩ := s.deliverAxis_eq h24 ⟨a.val % 8, Nat.mod_lt _ (by decide)⟩ stamp
    refine ⟨n, vset s.ax ⟨a.val % 8, Nat.mod_lt _ (by decide)⟩ y, s.su, ?_, rfl, fun h => absurd h24 (by omega), fun _ => ⟨rfl, fun l hl => ?_⟩⟩
    · unfold State.deliverKernel
      rw [dif_pos h24, he]
    · rw [show l = ⟨a.val % 8, Nat.mod_lt _ (by decide)⟩ from Fin.ext hl]
      exact ⟨y, rfl, hy⟩
  · obtain ⟨v, he, hv⟩ := s.deliverKernel_cycle (by omega) h stamp
    exact ⟨_, s.ax, v, he, hv.1, fun _ => ⟨rfl, hv.2⟩, fun hl => absurd hl h24⟩

/-- The halt of the run in progress is not ignored. -/
theorem suKernelHalt_runs {s : State} {a : ActNo} (now : Ns) (hon : s.suOn = true) (hr : s.running = some a) :
    ¬ ((!(s.at now).suOn) = true ∨ (s.at now).running ≠ some a ∧
      (!decide ((s.at now).su.acts[a].active = true ∧ (s.at now).su.eng.ctx.act = some a)) = true) := by
  have h1 : (s.at now).suOn = true := hon
  have h2 : (s.at now).running = some a := hr
  simp [h1, h2]

/-- The halt of a vendor kernel for which no release waits. -/
theorem execSuKernelHalt_vendor {s : State} {a : ActNo} (now : Ns) (hon : s.suOn = true) (hr : s.running = some a)
    (ht : s.su.eng.ctx.trap = none) (hp : s.su.acts[a].pend = false) (hw : s.su.acts[a].wait = none) (h32 : a.val < 32) :
    ∃ (t : State) (n : Nat) (m : Bool), exec (.suKernelHalt a now) s = .next t ∧ n ≤ s.actCycles a ∧
      (s.su.acts[a].missed = true → m = true) ∧ (¬ (s.at now).Overdue a → m = s.su.acts[a].missed) ∧
      t.su.acts[a] = { s.su.acts[a] with active := false, judged := false, missed := false, last := n, longest := max s.su.acts[a].longest n } ∧
      t.life = s.life ∧
      (24 ≤ a.val → t.ax = s.ax ∧ s.su.GotCycle t.su a m (s.life.cycStart ≤ s.su.acts[a].release)) ∧
      (a.val < 24 → t.su.results = s.su.results ∧ ∀ l : AxisNo, l.val = a.val % 8 → ∃ y, t.ax = vset s.ax l y ∧
        s.ax[l].del.GotAxis y.del ((s.at now).tooLate l) a s.su.eng.ctx.release (s.fAct l)) := by
  obtain ⟨mb, cnt, regs, aon, j, m, he, hm1, hm2⟩ := (s.at now).judgeRun_eq a
  obtain ⟨f, ax, v, hd, hva, hv24, hv0⟩ := ((s.at now).judgeRun a).deliverKernel_vendor h32 s.su.eng.ctx.release
  have hx : ((s.at now).judgeRun a).su.acts[a] = { s.su.acts[a] with judged := j, missed := m } := by
    rw [he]
    exact vset_same _ _ _
  have hn : (((s.at now).judgeRun a).deliverKernel a s.su.eng.ctx.release).actCycles a = s.actCycles a := by
    rw [hd, he]
    rfl
  have hle := min_le_right (Config.vendorWork (((s.at now).judgeRun a).deliverKernel a s.su.eng.ctx.release).free) (s.actCycles a)
  have hrun : exec (.suKernelHalt a now) s = .next (((((((s.at now).judgeRun a).deliverKernel a s.su.eng.ctx.release).tickFree).modAct a
      fun x => x.ended (min (Config.vendorWork (((s.at now).judgeRun a).deliverKernel a s.su.eng.ctx.release).free) (s.actCycles a))).modSu
        fun u => { u with eng := u.eng.stop }).nextRun) := by
    have htr : ((s.at now).judgeRun a).su.eng.ctx.trap.isSome = false := by
      rw [he]
      exact congrArg Option.isSome ht
    have h32' : ¬ 32 ≤ a.val := by omega
    simp only [exec, execSuKernelHalt]
    rw [if_neg (suKernelHalt_runs now hon hr)]
    simp only [State.finishKernel, State.runCycles, if_neg h32', htr, Bool.false_eq_true, if_false]
    rw [← hn]
    rfl
  rw [hrun]
  generalize min (Config.vendorWork (((s.at now).judgeRun a).deliverKernel a s.su.eng.ctx.release).free) (s.actCycles a) = n at hle ⊢
  have hres : (((s.at now).judgeRun a).deliverKernel a s.su.eng.ctx.release).tickFree.su = v := by
    rw [hd]
    rfl
  have hacts : (((s.at now).judgeRun a).deliverKernel a s.su.eng.ctx.release).tickFree.su.acts[a] =
      { s.su.acts[a] with judged := j, missed := m } := by
    rw [hres, hva, hx]
  obtain ⟨w, hw1, hw2, hw3, hw4⟩ := State.endKernel_eq (((s.at now).judgeRun a).deliverKernel a s.su.eng.ctx.release).tickFree n
    (a := a) (by rw [hacts]; exact hp) (by rw [hacts]; exact hw)
  rw [hacts] at hw4
  rw [hres] at hw2 hw3
  refine ⟨_, n, m, congrArg Host.Outcome.next hw1, hle, hm1, hm2, hw4, ?_, fun h24 => ?_, fun h24 => ?_⟩
  · rw [hd, he]
    rfl
  · obtain ⟨hax, hc⟩ := hv24 h24
    refine ⟨by rw [hd, hax, he]; rfl, ?_⟩
    rw [hx, he] at hc
    unfold Su.GotCycle at hc ⊢
    simp only [hw2, hw3]
    exact hc
  · obtain ⟨hvs, hax⟩ := hv0 h24
    refine ⟨by rw [show _ = v.results from hw2, hvs, he]; rfl, fun l hl => ?_⟩
    obtain ⟨y, hy1, hy2⟩ := hax l hl
    refine ⟨y, by rw [hd, hy1, he]; rfl, ?_⟩
    rw [he] at hy2
    exact hy2

/-- The halt of an integrator kernel whose program has ended, for which no release waits. -/
theorem execSuKernelHalt_user {s : State} {a : ActNo} (now : Ns) (hon : s.suOn = true) (hr : s.running = some a)
    (hh : s.su.eng.ctx.halted = true) (hp : s.su.acts[a].pend = false) (hw : s.su.acts[a].wait = none)
    (h32 : 32 ≤ a.val) :
    ∃ t : State, exec (.suKernelHalt a now) s = .next t ∧ t.su.acts[a].active = false ∧ t.su.acts[a].last = s.su.eng.ctx.cycles ∧
      t.su.acts[a].longest = max s.su.acts[a].longest s.su.eng.ctx.cycles ∧ t.ax = s.ax ∧ t.su.results = s.su.results ∧ t.life = s.life := by
  obtain ⟨mb, cnt, regs, aon, j, m, he, -, -⟩ := (s.at now).judgeRun_eq a
  have hx : ((s.at now).judgeRun a).su.acts[a] = { s.su.acts[a] with judged := j, missed := m } := by
    rw [he]
    exact vset_same _ _ _
  have heng : ((s.at now).judgeRun a).su.eng = s.su.eng := by
    rw [he]
    rfl
  have hfin : ∀ n, ((s.at now).judgeRun a).runProg .su (n + 1) = (s.at now).judgeRun a := fun n => by
    have : (((s.at now).judgeRun a).eng .su).ctx.halted = true := by
      rw [show ((s.at now).judgeRun a).eng .su = s.su.eng from heng, hh]
    unfold State.runProg
    rw [if_pos this]
  obtain ⟨w, hw1, hw2, -, hw4⟩ := ((s.at now).judgeRun a).endKernel_eq s.su.eng.ctx.cycles (a := a) (by rw [hx]; exact hp) (by rw [hx]; exact hw)
  have hdel : ∀ stamp, ((s.at now).judgeRun a).deliverKernel a stamp = (s.at now).judgeRun a := fun stamp => by
    unfold State.deliverKernel
    rw [dif_neg (by omega), dif_neg (by omega)]
  have hrun : exec (.suKernelHalt a now) s = .next { (s.at now).judgeRun a with su := w } := by
    simp only [exec, execSuKernelHalt]
    rw [if_neg (suKernelHalt_runs now hon hr)]
    simp only [State.finishKernel, State.runCycles, if_pos h32, hfin, hdel, ite_self, heng]
    exact congrArg Host.Outcome.next hw1
  have hlast : w.acts[a] = { s.su.acts[a] with
      active := false, judged := false, missed := false, last := s.su.eng.ctx.cycles, longest := max s.su.acts[a].longest s.su.eng.ctx.cycles } := by
    rw [hw4, hx]
  refine ⟨_, hrun, by rw [hlast], by rw [hlast], by rw [hlast], ?_, hw2.trans ?_, ?_⟩ <;> rw [he] <;> rfl

/-- A release of an activation that may run, with no other waiting. -/
theorem execSuActivationRelease_runs {s : State} {a : ActNo} (now : Ns) (hon : s.suOn = true) (hen : s.su.enabled.getLsbD a.val = true)
    (ho : s.su.acts[a].off = false) (hp : s.su.acts[a].pend = false) (ha : s.su.acts[a].active = false) :
    exec (.suActivationRelease a now) s = .next (((s.at now).modAct a fun x =>
      x.released (s.at now).clk.lclk ((s.at now).clk.lclk + s.actDeadline a) (s.at now).gt).dispatch) := by
  have hgo : ¬ ((!(s.at now).suOn) = true ∨ (!(s.at now).su.enabled.getLsbD a.val) = true ∨ (s.at now).su.acts[a].off = true) := by
    simp only [show (s.at now).suOn = true from hon, State.at_su, hen, ho, Bool.not_true, Bool.false_eq_true, or_self, not_false_eq_true]
  have hgo' : ¬ ((s.at now).su.acts[a].pend = true ∨ (s.at now).su.acts[a].active = true) := by
    simp only [State.at_su, hp, ha, Bool.false_eq_true, or_self, not_false_eq_true]
  simp only [exec, execSuActivationRelease]
  rw [if_neg hgo, if_neg hgo']
  rfl

/-- A release while the run before is unfinished waits, in the place of one that waits, which counts (R195). -/
theorem execSuActivationRelease_waits {s : State} {a : ActNo} (now : Ns) (hon : s.suOn = true) (hen : s.su.enabled.getLsbD a.val = true)
    (ho : s.su.acts[a].off = false) (hpa : s.su.acts[a].pend = true ∨ s.su.acts[a].active = true) :
    exec (.suActivationRelease a now) s = .next
      ((if s.su.acts[a].wait.isSome then (s.at now).bump (0xFF01 + 2 * a.val) else s.at now).modAct a fun x =>
        { x with wait := some ((s.at now).clk.lclk, (s.at now).clk.lclk + s.actDeadline a, (s.at now).gt) }) := by
  have hgo : ¬ ((!(s.at now).suOn) = true ∨ (!(s.at now).su.enabled.getLsbD a.val) = true ∨ (s.at now).su.acts[a].off = true) := by
    simp only [show (s.at now).suOn = true from hon, State.at_su, hen, ho, Bool.not_true, Bool.false_eq_true, or_self, not_false_eq_true]
  simp only [exec, execSuActivationRelease]
  rw [if_neg hgo]
  exact if_pos hpa

/-- What a release that may run leaves: it is released, all else of the other activations and of the state stays, and it begins or waits. -/
theorem State.released_dispatch {s : State} {a : ActNo} (t d : Ns) (g : Int) (ha : s.su.acts[a].active = false)
    (hb : ∀ b : ActNo, s.su.acts[b].pend = false) : ∃ u : State, (s.modAct a fun x => x.released t d g).dispatch = u ∧
      u.su.acts[a].release = t ∧ u.su.acts[a].deadline = d ∧ u.su.acts[a].pendAt = g ∧ u.su.acts[a].missed = false ∧
      u.su.acts[a].judged = false ∧ (∀ b : ActNo, b ≠ a → u.su.acts[b] = s.su.acts[b]) ∧ u.su.results = s.su.results ∧
      { u with su := s.su } = s ∧
      ((s.running = none ∧ s.su.saved = []) ∨
          (∃ b, s.running = some b ∧ s.su.eng.ctx.rep = none ∧ s.su.saved.length < 8 ∧ d < s.su.acts[b].runDl) →
        u.running = some a ∧ u.su.acts[a].active = true ∧ u.su.acts[a].pend = false ∧ u.su.acts[a].runDl = d ∧
        u.su.eng.integ = decide (32 ≤ a.val) ∧ u.su.eng.ctx =
          { act := some a, release := g, pc := BitVec.ofNat 13 (if 32 ≤ a.val then s.pn P.sigUentry 0 (a.val - 32) else 0) } ∧
        u.su.saved = if s.running.isSome then s.su.eng.ctx :: s.su.saved else []) ∧
      (∀ b, s.running = some b → (s.su.eng.ctx.rep ≠ none ∨ 8 ≤ s.su.saved.length ∨ s.su.acts[b].runDl ≤ d) →
        u.su.acts[a].pend = true ∧ u.su.acts[a].active = false ∧ u.su.eng = s.su.eng ∧ u.su.saved = s.su.saved) := by
  have hra : (s.modAct a fun x => x.released t d g).su.acts[a] = s.su.acts[a].released t d g := vmod_same _ _ _
  have hrb : ∀ b : ActNo, b ≠ a → (s.modAct a fun x => x.released t d g).su.acts[b] = s.su.acts[b] := fun b h => vmod_ne _ _ _ _ h
  have hdl : ∀ b : ActNo, (s.modAct a fun x => x.released t d g).su.acts[b].runDl = s.su.acts[b].runDl := fun b => by
    by_cases h : b = a
    · rw [h, hra]
      rfl
    · rw [hrb b h]
  have hf : (s.modAct a fun x => x.released t d g).firstPending = some a :=
    State.firstPending_alone (by rw [hra]; rfl) (by rw [hra]; exact ha) fun b h => by rw [hrb b h, hb]
  have hrun : (s.modAct a fun x => x.released t d g).running = s.running := rfl
  obtain ⟨v, he, hres, hoth, p, r, q, hv⟩ := State.dispatch_eq hf
  rw [hra] at hv
  refine ⟨_, he, by rw [hv]; rfl, by rw [hv]; rfl, by rw [hv]; rfl, by rw [hv]; rfl, by rw [hv]; rfl,
    fun b h => (hoth b ?_).trans (hrb b h), hres, rfl, fun h => ?_, fun b h1 h2 => ?_⟩
  · rw [hrb b h, hb]
  · have hbeg := State.dispatch_begins hf (by
      obtain ⟨h1, h2⟩ | ⟨b, h1, h2, h3, h4⟩ := h
      · exact .inl ⟨h1, h2⟩
      · refine .inr ⟨b, h1, h2, h3, ?_⟩
        rw [hdl, hra]
        exact h4)
    rw [he, State.beginRun_eq] at hbeg
    have hw := congrArg State.su hbeg
    replace hw : v = _ := hw
    have hact : v.acts[a] = { s.su.acts[a].released t d g with pend := false, active := true, runDl := d } := by
      rw [hw]
      refine (vmod_same _ _ _).trans ?_
      rw [hra]
      rfl
    refine ⟨?_, by rw [hact], by rw [hact], by rw [hact], ?_, ?_, ?_⟩
    · rw [hw]
      rfl
    · rw [hw]
    · rw [hw]
      simp only [hra]
      rfl
    · rw [hw]
      rfl
  · have hw := State.dispatch_waits hf h1 (by
      rw [hdl, hra]
      exact h2)
    rw [he] at hw
    replace hw : v = (s.modAct a fun x => x.released t d g).su := congrArg State.su hw
    rw [hw]
    exact ⟨by rw [hra]; rfl, by rw [hra]; exact ha, rfl, rfl⟩

/-- Settles O53: the release goes through the dispatch, the halt through the judgement, the delivery and the choice of the next run, and the
deadline through the judgement alone. -/
theorem activationsRun : Obligations.ActivationsRun := by
  rintro s _ a now _ _ _ rfl rfl rfl rfl
  refine ⟨fun h => ?_, fun hon hen ho hpa => ⟨fun hw => ?_, fun hw => ?_⟩, fun hon hen ho hp ha hb => ?_, fun h => ?_,
    fun hon hr ht hp hw h32 => ?_, fun hon hr _ hh hp hw h32 => execSuKernelHalt_user now hon hr hh hp hw h32, fun hj hd => ?_, fun h => ?_⟩
  · simp only [exec, execSuActivationRelease]
    rw [if_pos]
    have h1 : (s.at now).suOn = s.suOn := rfl
    simpa [h1] using h
  · rw [execSuActivationRelease_waits now hon hen ho hpa, hw]
    rfl
  · obtain ⟨y, hy⟩ := Option.ne_none_iff_exists'.1 hw
    rw [execSuActivationRelease_waits now hon hen ho hpa, hy, State.modAct_eq]
    simp only [Option.isSome_some, if_true, State.bump_su, State.at_su, vmod]
  · obtain ⟨t, ht, h⟩ := State.released_dispatch (s := s.at now) (s.at now).clk.lclk ((s.at now).clk.lclk + s.actDeadline a) (s.at now).gt ha hb
    rw [execSuActivationRelease_runs now hon hen ho hp ha, ht]
    exact ⟨t, rfl, h⟩
  · simp only [exec, execSuKernelHalt]
    rw [if_pos]
    have h1 : (s.at now).suOn = s.suOn := rfl
    obtain h | ⟨hr, hx⟩ := h
    · exact .inl (by simp [h1, h])
    · exact .inr ⟨hr, by rw [Bool.not_eq_true', decide_eq_false_iff_not]; exact hx⟩
  · obtain ⟨t, n, m, he, hn, hm1, hm2, ha, hl, h24, h0⟩ := execSuKernelHalt_vendor now hon hr ht hp hw h32
    refine ⟨t, he, by rw [ha], by rw [ha], by rw [ha], by rw [ha]; exact hn, by rw [ha], hl, fun h => ?_, fun h => ?_⟩
    · obtain ⟨hax, hc1, hc2⟩ := h24 h
      refine ⟨hax, fun hd hm => hc1 ?_, fun hm hc => hc2 (hm1 hm) hc⟩
      rw [hm2, hm]
      rintro ⟨-, ⟨-, hd'⟩ | ⟨-, hp', -⟩⟩
      · exact absurd hd' (Nat.not_le.2 hd)
      · rw [show (s.at now).su.acts[a].pend = _ from hp] at hp'
        cases hp'
    · obtain ⟨hres, hax⟩ := h0 h
      refine ⟨hres, fun l hl => ?_⟩
      obtain ⟨y, hy, hg1, hg2⟩ := hax l hl
      rw [hy]
      refine ⟨fun m hm => vset_ne _ _ _ _ hm, fun ht => ?_, fun ht => ?_⟩
      · rw [vset_same]
        exact hg1 ht
      · rw [vset_same]
        exact hg2 ht
  · have ho : (s.at now).Overdue a := ⟨hj, hd⟩
    simp only [exec, execSuDeadline, State.judgeRun_of ho]
    exact ⟨fun hk => by rw [if_neg (show ¬ (s.at now).actKind a = 2 from hk)]; rfl,
      fun hk => by rw [if_pos (show (s.at now).actKind a = 2 from hk)]; rfl⟩
  · have ho : ¬ (s.at now).Overdue a := by
      unfold State.Overdue
      simp only [State.at_su]
      grind
    simp only [exec, execSuDeadline, State.judgeRun_of_not ho]

end Sys2Proof.Machine

namespace Sys2Proof.Machine

/-! ## The vehicle cycle (R65, R423) -/

/-- The start of the cycle of a boundary: the boundary itself for the first, else no earlier than the end of the work and of a level change, and
750 µs from the start before. -/
def State.cycleBegin (s : State) (boundary : Ns) : Ns :=
  if s.life.cycles = 0 then boundary else max (max boundary s.life.plEnd) (max s.life.cycEnd (s.life.cycStart + 750000))

/-- The measured dt of a cycle that starts at `a`. -/
def State.cycleDt (s : State) (a : Ns) : Q := if s.life.cycles ≠ 0 ∧ s.life.cycStart < a then secs a s.life.cycStart else 1 / 1000

/-- The schedule of a cycle, but for what its event touches. -/
theorem State.cycSchedule_logOnly (s : State) (work boundary : Ns) : ∃ rep,
    State.logOnly
      { s with
        clk := { s.clk with lclk := max s.clk.lclk (s.cycleBegin boundary) }
        life := { s.life with
          cycStart := s.cycleBegin boundary, cycEnd := s.cycleBegin boundary + work, cycles := s.life.cycles + 1
          cycDt := s.cycleDt (s.cycleBegin boundary), cycLag := s.cycleBegin boundary - boundary, lagRep := rep } }
      (s.cycSchedule work boundary) := by
  have ha : (if decide (s.life.cycles ≠ 0) then max (max boundary s.life.plEnd) (max s.life.cycEnd (s.life.cycStart + us 750)) else boundary) =
      s.cycleBegin boundary := by
    unfold State.cycleBegin
    by_cases h : s.life.cycles = 0 <;> simp [h, us]
  have hd : (if (decide (s.life.cycles ≠ 0) && decide (s.life.cycStart < s.cycleBegin boundary)) = true then
      secs (s.cycleBegin boundary) s.life.cycStart else 1 / 1000) = s.cycleDt (s.cycleBegin boundary) := by
    unfold State.cycleDt
    simp only [Bool.and_eq_true, decide_eq_true_eq]
  unfold State.cycSchedule
  simp only [ha, hd]
  split
  · exact ⟨_, State.raise_logOnly _ _ _ _ _⟩
  · exact ⟨_, rfl⟩

/-- No change runs at a waiting vehicle cycle. -/
theorem State.resumeCycles_none {s : State} (hc : s.changing = false) (hw : s.life.cycWait = []) : s.resumeCycles = s := by
  unfold State.resumeCycles
  simp only [hc, hw, Bool.false_eq_true, if_false, List.foldl_nil, State.modLife]
  rw [← hw]

/-- A change in progress keeps the cycles waiting. -/
theorem State.resumeCycles_changing {s : State} (hc : s.changing = true) : s.resumeCycles = s := by
  unfold State.resumeCycles
  rw [if_pos hc]

/-- A change that PGOOD does not confirm goes on. -/
theorem State.levelPoll_none {s : State} {c : PlChange} (hc : s.life.plc = some c)
    (h : c.ack = none ∨ s.pn P.pmbConf ≠ 1 ∨ s.life.pgood = false) : s.levelPoll = s := by
  unfold State.levelPoll
  simp only [hc]
  cases ha : c.ack with
  | none => rfl
  | some t =>
    rw [ha] at h
    simp only []
    rw [if_neg]
    rintro ⟨-, h1, h2, -⟩
    obtain h | h | h := h
    · cases h
    · exact h h1
    · rw [h] at h2
      cases h2

/-- A boundary outside a level change runs its cycle. -/
theorem execVehicleCycleStart_runs {s : State} (work now : Ns) (hr : s.cyclesRun = true) (hc : s.changing = false) (hw : s.life.cycWait = []) :
    exec (.vehicleCycleStart work now) s = .next (if ms 4 < (s.cycSchedule work now).life.cycLag then (s.cycSchedule work now).fail 8 1
      else (s.cycSchedule work now).vehicleCycle (((s.cycSchedule work now).gtAt now + 500000) / 1000000)) := by
  simp only [exec, execVehicleCycleStart, hr, hc, Bool.not_true, Bool.false_eq_true, if_false, s.resumeCycles_none hc hw, State.runCycle]

/-- A boundary in a level change waits. -/
theorem execVehicleCycleStart_waits {s : State} (work now : Ns) {c : PlChange} (hr : s.cyclesRun = true) (hc : s.life.plc = some c)
    (hs : c.started = true) (h : c.ack = none ∨ s.pn P.pmbConf ≠ 1 ∨ s.life.pgood = false) :
    exec (.vehicleCycleStart work now) s =
      .next { s.at now with life := { s.life with cycWait := s.life.cycWait ++ [(work, now)] } } := by
  have hch : s.changing = true := by
    unfold State.changing
    simp only [hc, hs]
  have hcu : (s.at now).changing = true := hch
  have hp : (s.at now).levelPoll = s.at now := State.levelPoll_none hc h
  simp only [exec, execVehicleCycleStart, hr, hch, Bool.not_true, Bool.false_eq_true, if_false, if_true, hp, State.resumeCycles_changing hcu, hcu]
  rfl

/-! ## The vote (R31 to R34, R277) -/

/-- The result of the vote on one set-point: its value, and whether it is held (R32). -/
def State.voteRes (s : State) (i : Nat) : Q × Bool :=
  if s.spOn i then voteValue (s.vote.voted.getD i 0) (s.vote.own.getD i 0) (s.voteTol i) (s.validPubs.map fun p => p.2.getD i 0) else (0, false)

/-- From `s` to `t` the vote has reported, and counted the outliers of lanes. -/
def State.outliersOnly (s t : State) : Prop := ∃ o p, State.logOnly { s with vote := { s.vote with out := o, outSp := p } } t

theorem State.logOnly.outliersOnly {s t : State} (h : s.logOnly t) : s.outliersOnly t := ⟨s.vote.out, s.vote.outSp, h⟩

theorem State.outliersOnly_trans {s t u : State} (h : s.outliersOnly t) (k : t.outliersOnly u) : s.outliersOnly u := by
  obtain ⟨o, p, h⟩ := h
  obtain ⟨o', p', k⟩ := k
  refine ⟨o', p', State.logOnly_trans ?_ k⟩
  rw [h.eq]
  rfl

theorem State.voteOutlier_outliersOnly (s : State) (i : LaneNo) : s.outliersOnly (s.voteOutlier i) := by
  unfold State.voteOutlier
  split
  · exact ⟨_, s.vote.outSp, State.raise_logOnly _ _ _ _ _⟩
  · exact (State.logOnly_refl s).outliersOnly

theorem State.judgeOutlier_outliersOnly (s : State) (mid : SetPts) (p : LaneNo × SetPts) : s.outliersOnly (s.judgeOutlier mid p) := by
  unfold State.judgeOutlier
  simp only []
  split
  · next n _ =>
    have hb := (s.bump_logOnly (0x0F20 + p.1.val)).outliersOnly
    exact State.outliersOnly_trans (State.outliersOnly_trans hb ⟨_, _, State.logOnly_refl _⟩) (State.voteOutlier_outliersOnly _ _)
  · exact ⟨_, _, State.logOnly_refl _⟩

theorem foldl_outliersOnly {α : Type} {f : State → α → State} (k : ∀ (s : State) a, s.outliersOnly (f s a)) (as : List α) (s : State) :
    s.outliersOnly (as.foldl f s) :=
  List.foldlRecOn (motive := fun t : State => s.outliersOnly t) as f s.logOnly_refl.outliersOnly fun _ h _ _ => State.outliersOnly_trans h (k _ _)

theorem State.voteEvents_logOnly (s : State) (n : Nat) (single : Option LaneNo) : s.logOnly (s.voteEvents n single) := by
  unfold State.voteEvents
  simp only []
  split
  · exact s.raise_logOnly _ _ _ _
  · split
    · exact s.raise_logOnly _ _ _ _
    · split
      · exact s.raise_logOnly _ _ _ _
      · rfl

/-- The limit of the held cycles changes what it asks for, and nothing else. -/
theorem State.heldLimit_eq (s : State) : ∃ f, s.heldLimit = { s with safe := f } := by
  unfold State.heldLimit
  split
  · split
    · exact ⟨s.safe, rfl⟩
    · exact ⟨_, rfl⟩
  · exact ⟨_, rfl⟩

/-- The limit of the cycles without a publication brings in the safe defaults, and asks for the stop. -/
theorem State.noneLimit_eq (s : State) : ∃ f, s.noneLimit =
    if s.vote.count = 0 ∧ 3 ≤ s.vote.none_ ∧ s.vote.safe = false then
      { s with vote := { s.vote with safe := true, applied := s.safeDefaults }, safe := f } else s := by
  unfold State.noneLimit
  refine ⟨{ s.safe with causes := s.safe.causes ++ [2] }, ?_⟩
  simp only [Bool.not_eq_true']
  rfl

/-- What the vote reads of a state: a report and a count of outliers leave it. -/
theorem State.outliersOnly.votes {s t : State} (h : s.outliersOnly t) :
    t.validPubs = s.validPubs ∧ t.spOn = s.spOn ∧ t.voteRes = s.voteRes ∧ t.safeDefaults = s.safeDefaults ∧
      t.vote.none_ = s.vote.none_ ∧ t.vote.voted = s.vote.voted ∧ t.vote.safe = s.vote.safe ∧ t.vote.own = s.vote.own ∧
      t.ax = s.ax ∧ t.life = s.life := by
  obtain ⟨o, p, h⟩ := h
  rw [h.eq]
  exact ⟨rfl, rfl, rfl, rfl, rfl, rfl, rfl, rfl, rfl, rfl⟩

/-- The limits of a vote: what the vote has formed stays, and at the limit of the cycles with none the safe defaults stand. -/
theorem State.voteLimits_eq (s : State) {late : Bool}
    (h : late = true → s.vote.count = 0 ∧ 3 ≤ s.vote.none_ ∧ s.vote.applied = s.safeDefaults) :
    { (if late then s.noneLimit else s).heldLimit.vote with safe := s.vote.safe } = s.vote ∧
      (late = true → (if late then s.noneLimit else s).heldLimit.vote.safe = true) ∧
      (if late then s.noneLimit else s).heldLimit.ax = s.ax ∧ (if late then s.noneLimit else s).heldLimit.life = s.life := by
  obtain ⟨f, hf⟩ := (if late = true then s.noneLimit else s).heldLimit_eq
  rw [hf]
  cases late with
  | false => exact ⟨rfl, fun h => (by cases h), rfl, rfl⟩
  | true =>
    obtain ⟨hc, hn, ha⟩ := h rfl
    obtain ⟨g, hg⟩ := s.noneLimit_eq
    simp only [if_true, hg]
    split
    · exact ⟨by rw [← ha], fun _ => rfl, rfl, rfl⟩
    · next hs =>
      refine ⟨rfl, fun _ => ?_, rfl, rfl⟩
      by_contra hx
      exact hs ⟨hc, hn, by simpa using hx⟩

/-- The vote of a cycle with a set-point enabled. -/
theorem State.castVote_eq {s : State} (h : (List.range 16).any s.spOn = true) :
    s.castVote.vote.single = (if s.validPubs.length = 1 then s.validPubs.head?.map Prod.fst else none) ∧
    s.castVote.vote.none_ = (if s.validPubs.length = 0 then s.vote.none_ + 1 else 0) ∧
    s.castVote.vote.voted = (if s.validPubs.length = 0 then s.vote.voted else (List.range 16).map fun i => (s.voteRes i).1) ∧
    s.castVote.vote.applied = (if s.validPubs.length = 0 ∧ 3 ≤ s.vote.none_ then s.safeDefaults
      else (List.range 16).map fun i => (s.voteRes i).1) ∧
    (s.validPubs.length = 0 ∧ 3 ≤ s.vote.none_ → s.castVote.vote.safe = true) ∧ s.castVote.ax = s.ax ∧ s.castVote.life = s.life := by
  unfold State.castVote
  extract_lets t0 vp n single t1 res voted t2 any t3 late t4
  have h0 : s.logOnly t0 := forFin_keeps (p := fun t : State => s.logOnly t) s.logOnly_refl fun g x hx => by
    split
    · exact hx.raise _ _ _ _
    · exact hx
  have h1 : s.outliersOnly t1 := (State.logOnly_trans h0 (t0.voteEvents_logOnly n single)).outliersOnly
  have h2 : s.outliersOnly t2 := State.outliersOnly_trans h1 (foldl_logOnly (fun x ⟨r, i⟩ => by
    simp only []
    split
    · exact x.raise_logOnly _ _ _ _
    · exact x.logOnly_refl) _ t1).outliersOnly
  have h3 : s.outliersOnly t3 := by
    simp only [t3]
    split
    · exact State.outliersOnly_trans h2 (foldl_outliersOnly (fun x p => x.judgeOutlier_outliersOnly _ p) _ t2)
    · exact h2
  obtain ⟨hp, hs, -⟩ := h0.outliersOnly.votes
  obtain ⟨hp1, hs1, hr1, -⟩ := h1.votes
  obtain ⟨-, -, -, hd, hn, hv, -, ho, hax, hlife⟩ := h3.votes
  have hvoted : voted = (List.range 16).map fun i => (s.voteRes i).1 := by
    have : res = (List.range 16).map t1.voteRes := by
      simp only [res, vp, hp, ← hp1]
      rfl
    rw [hr1] at this
    simp only [voted, this, List.map_map]
    rfl
  have hvp : n = s.validPubs.length := by
    simp only [n, vp, hp]
  rw [if_neg (by rw [hs, h]; simp)]
  have hlate : late = decide (s.validPubs.length = 0 ∧ 3 ≤ s.vote.none_) := by
    simp only [late, hvp, hn]
  have ht4 : t4.vote = { t3.vote with
      count := s.validPubs.length
      single := if s.validPubs.length = 1 then s.validPubs.head?.map Prod.fst else none
      held := if any then t3.vote.held + 1 else 0
      none_ := if s.validPubs.length = 0 then s.vote.none_ + 1 else 0
      safe := t3.vote.safe && late
      voted := if s.validPubs.length = 0 then s.vote.voted else (List.range 16).map fun i => (s.voteRes i).1
      applied := if s.validPubs.length = 0 ∧ 3 ≤ s.vote.none_ then s.safeDefaults else (List.range 16).map fun i => (s.voteRes i).1 } := by
    simp only [t4, State.modVote_vote, hvp, single, vp, hp, hn, hv, hd, hvoted, hlate, decide_eq_true_eq]
  have hax4 : t4.ax = s.ax := (State.modVote_ax t3 _).trans hax
  have hlife4 : t4.life = s.life := (State.modVote_life t3 _).trans hlife
  have h4 : late = true → t4.vote.count = 0 ∧ 3 ≤ t4.vote.none_ ∧ t4.vote.applied = t4.safeDefaults := fun hl => by
    obtain ⟨hl0, hl3⟩ : s.validPubs.length = 0 ∧ 3 ≤ s.vote.none_ := by simpa [hlate] using hl
    have hsd : t4.safeDefaults = s.safeDefaults := by
      unfold State.safeDefaults
      simp only [ht4, hl0, if_true, ho]
    rw [hsd]
    simp only [ht4, hl0, hl3, and_self, if_true, true_and]
    exact ⟨Nat.le_succ_of_le hl3, trivial⟩
  clear_value t4 late
  obtain ⟨hv5, hs5, ha5, hl5⟩ := t4.voteLimits_eq h4
  rw [ha5, hl5]
  rw [ht4] at hv5
  refine ⟨congrArg Vote.single hv5, congrArg Vote.none_ hv5, congrArg Vote.voted hv5, congrArg Vote.applied hv5, fun h => hs5 ?_, hax4, hlife4⟩
  rw [hlate]
  simpa using h

/-- The voted value of a set-point. -/
theorem getD_voteRes (s : State) {i : Nat} (hi : i < 16) : ((List.range 16).map fun i => (s.voteRes i).1).getD i 0 = (s.voteRes i).1 := by
  simp [List.getD_eq_getElem?_getD, hi]

/-- The safe default of a set-point (R277). -/
theorem State.safeDefaults_getD (s : State) {i : Nat} (hi : i < 16) : s.safeDefaults.getD i 0 =
    if i < 3 then s.vote.voted.getD i 0 else if i < 8 then 0 else s.vote.own.getD i 0 := by
  simp [State.safeDefaults, List.getD_eq_getElem?_getD, hi]

/-- The middle of three values lies between the two others. -/
theorem mid3_cases (a b c : Q) :
    (mid3 a b c = a ∧ (b ≤ a ∧ a ≤ c ∨ c ≤ a ∧ a ≤ b)) ∨ (mid3 a b c = b ∧ (a ≤ b ∧ b ≤ c ∨ c ≤ b ∧ b ≤ a)) ∨
    (mid3 a b c = c ∧ (a ≤ c ∧ c ≤ b ∨ b ≤ c ∧ c ≤ a)) := by
  unfold mid3
  grind

/-- Of three values two are no higher than the middle one, and two no lower. -/
theorem mid3_middle (a b c : Q) : mid3 a b c ∈ [a, b, c] ∧ 2 ≤ ([a, b, c].filter fun y => decide (y ≤ mid3 a b c)).length ∧
    2 ≤ ([a, b, c].filter fun y => decide (mid3 a b c ≤ y)).length := by
  obtain ⟨h, hx⟩ | ⟨h, hx⟩ | ⟨h, hx⟩ := mid3_cases a b c
  all_goals
    rw [h]
    refine ⟨by simp, ?_, ?_⟩ <;> simp only [List.filter_cons, List.filter_nil, decide_eq_true_eq] <;> grind

/-- The deadline of a connection (R276). -/
theorem State.nvDeadline_eq (s : State) (c : Fin 16) (x : Conn) (g : Conn → State) (hx : x = s.nov.rx[c])
    (hg : g = fun y => { s with nov := { s.nov with rx := vset s.nov.rx c y } }) :
    (x.st = .valid → x.at_ + 1000 * s.pn P.nvDl 0 c.val ≤ s.clk.lclk → s.nvNsub c ≠ 0 →
      s.nvDeadline c = (g { x with st := .subst, subN := 0, run := 0 }).raise 0xA010 .amber none [BitVec.ofNat 32 c.val]) ∧
    (((x.st = .valid ∧ x.at_ + 1000 * s.pn P.nvDl 0 c.val ≤ s.clk.lclk ∧ s.nvNsub c = 0) ∨ (x.st = .subst ∧ s.nvNsub c ≤ x.subN)) →
      s.nvDeadline c = (g { x with st := .default, run := 0 }).raise 0xA011 .crimson none [BitVec.ofNat 32 c.val]) ∧
    ((x.st = .init ∨ x.st = .default ∨ (x.st = .valid ∧ s.clk.lclk < x.at_ + 1000 * s.pn P.nvDl 0 c.val) ∨
        (x.st = .subst ∧ x.subN < s.nvNsub c)) → s.nvDeadline c = s) := by
  subst hx hg
  have hs : s.since s.nov.rx[c].at_ (us (s.pn P.nvDl 0 c)) = decide (s.nov.rx[c].at_ + 1000 * s.pn P.nvDl 0 c.val ≤ s.clk.lclk) := by
    unfold State.since us
    rw [Nat.mul_comm]
  unfold State.nvDeadline
  simp only [hs, decide_eq_true_eq]
  cases hst : s.nov.rx[c].st with
  | valid =>
    refine ⟨fun _ h1 h2 => ?_, fun h => ?_, fun h => ?_⟩
    · simp only [h1, h2, if_true, if_false]
      rfl
    · obtain ⟨-, h1, h2⟩ | ⟨h, -⟩ := h
      · simp only [h1, h2, if_true]
        rfl
      · cases h
    · obtain h | h | ⟨-, h⟩ | ⟨h, -⟩ := h
      · cases h
      · cases h
      · simp only [Nat.not_le.2 h, if_false]
      · cases h
  | subst =>
    refine ⟨fun h => (by cases h), fun h => ?_, fun h => ?_⟩
    · obtain ⟨h, -⟩ | ⟨-, h⟩ := h
      · cases h
      · simp only [h, if_true]
        rfl
    · obtain h | h | ⟨h, -⟩ | ⟨-, h⟩ := h
      · cases h
      · cases h
      · cases h
      · simp only [Nat.not_le.2 h, if_false]
  | init => simp
  | default => simp

/-- A cycle that starts no more than 4 ms late does its work, and one that starts later fails the lane (R65). -/
theorem execVehicleCycleStart_lag {s : State} (work now : Ns) (hr : s.cyclesRun = true) (hc : s.changing = false) (hw : s.life.cycWait = []) :
    (s.cycleBegin now ≤ now + 4000000 →
      ∃ q : State, exec (.vehicleCycleStart work now) s = .next (q.vehicleCycle ((s.gtAt now + 500000) / 1000000)) ∧
        q.life.cycStart = s.cycleBegin now ∧ q.life.cycEnd = s.cycleBegin now + work ∧ q.life.cycles = s.life.cycles + 1 ∧
        q.life.cycLag = s.cycleBegin now - now ∧
        (s.life.cycles ≠ 0 → s.life.cycStart < s.cycleBegin now → q.life.cycDt = secs (s.cycleBegin now) s.life.cycStart) ∧
        q.life.st = s.life.st ∧ q.ax = s.ax ∧ q.par = s.par ∧ q.twin = s.twin ∧ q.vote = s.vote) ∧
    (now + 4000000 < s.cycleBegin now →
      ∃ t : State, exec (.vehicleCycleStart work now) s = .next t ∧ t.life.st = .failSilent ∧ t.twin.claim = false ∧
        (∀ l : AxisNo, t.ax[l].en = false ∧ t.ax[l].pwm.gates = false ∧ t.ax[l].fault = s.ax[l].fault) ∧
        t.aon.failrec = 0x88010000) := by
  obtain ⟨rep, hl⟩ := s.cycSchedule_logOnly work now
  have hlag : (s.cycSchedule work now).life.cycLag = s.cycleBegin now - now := by rw [hl.life]
  have hst : (s.cycSchedule work now).life.st = s.life.st := by rw [hl.life]
  rw [execVehicleCycleStart_runs work now hr hc hw, hlag]
  refine ⟨fun ha => ?_, fun ha => ?_⟩
  · have hg : (s.cycSchedule work now).gtAt now = s.gtAt now := by
      rw [hl.eq]
      rfl
    rw [if_neg (show ¬ ms 4 < s.cycleBegin now - now from Nat.not_lt.2 (Nat.sub_le_iff_le_add'.2 ha)), hg]
    refine ⟨_, rfl, ?_, ?_, ?_, hlag, fun h0 hlt => ?_, hst, hl.ax, hl.par, hl.twin, hl.vote⟩
    · rw [hl.life]
    · rw [hl.life]
    · rw [hl.life]
    · rw [hl.life]
      exact if_pos ⟨h0, hlt⟩
  · obtain ⟨hf, ho⟩ := State.cyclesRun_st hr
    rw [if_pos (show ms 4 < s.cycleBegin now - now from Nat.lt_sub_iff_add_lt'.2 ha)]
    obtain ⟨h1, h2, h3, h4⟩ := (s.cycSchedule work now).fail_eq (cause := 8) (group := 1) (by rwa [hst]) (by rwa [hst])
    refine ⟨_, rfl, h1, h2, fun l => ?_, by rw [h4]; rfl⟩
    rw [h3, hl.ax]
    exact s.ax[l].cut_off

/-- The results of a vote on an enabled set-point (R32, R277). -/
theorem State.castVote_setPoint {s : State} {i : Nat} (hi : i < 16) (hon : s.spOn i = true) :
    (∀ p q r, s.validPubs = [p, q, r] →
      ∃ v, s.castVote.vote.voted.getD i 0 = v ∧ s.castVote.vote.applied.getD i 0 = v ∧
        v ∈ [p.2.getD i 0, q.2.getD i 0, r.2.getD i 0] ∧
        2 ≤ ([p.2.getD i 0, q.2.getD i 0, r.2.getD i 0].filter fun y => decide (y ≤ v)).length ∧
        2 ≤ ([p.2.getD i 0, q.2.getD i 0, r.2.getD i 0].filter fun y => decide (v ≤ y)).length) ∧
    (∀ p q, s.validPubs = [p, q] →
      s.castVote.vote.voted.getD i 0 = (if |p.2.getD i 0 - q.2.getD i 0| ≤ s.voteTol i then (p.2.getD i 0 + q.2.getD i 0) / 2
        else s.vote.voted.getD i 0)) ∧
    (∀ p, s.validPubs = [p] → s.castVote.vote.voted.getD i 0 = p.2.getD i 0 ∧ s.castVote.vote.single = some p.1) ∧
    (s.validPubs = [] → s.vote.none_ < 3 → s.castVote.vote.voted = s.vote.voted ∧
      s.castVote.vote.applied.getD i 0 = s.vote.own.getD i 0 ∧ s.castVote.vote.none_ = s.vote.none_ + 1) ∧
    (s.validPubs = [] → 3 ≤ s.vote.none_ → s.castVote.vote.safe = true ∧ s.castVote.vote.applied.getD i 0 =
      (if i < 3 then s.vote.voted.getD i 0 else if i < 8 then 0 else s.vote.own.getD i 0)) ∧
    s.castVote.ax = s.ax ∧ s.castVote.life = s.life := by
  have hany : (List.range 16).any s.spOn = true := List.any_eq_true.2 ⟨i, List.mem_range.2 hi, hon⟩
  obtain ⟨hsingle, hnone, hvoted, happlied, hsafe, hax, hlife⟩ := State.castVote_eq hany
  rw [hsingle, hnone, hvoted, happlied]
  refine ⟨fun p q r hp => ?_, fun p q hp => ?_, fun p hp => ?_, fun hp hn => ?_, fun hp hn => ?_, hax, hlife⟩
  · have hres : (s.voteRes i).1 = mid3 (p.2.getD i 0) (q.2.getD i 0) (r.2.getD i 0) := by
      simp [State.voteRes, hon, hp, voteValue]
    have hlen : ¬ (s.validPubs.length = 0) := by simp [hp]
    refine ⟨_, ?_, ?_, mid3_middle _ _ _⟩
    · rw [if_neg hlen, getD_voteRes s hi, hres]
    · rw [if_neg fun h => hlen h.1, getD_voteRes s hi, hres]
  · rw [if_neg (by simp [hp]), getD_voteRes s hi]
    simp only [State.voteRes, hon, hp, voteValue, if_true, List.map_cons, List.map_nil]
    split <;> rfl
  · refine ⟨?_, by simp [hp]⟩
    rw [if_neg (by simp [hp]), getD_voteRes s hi]
    simp [State.voteRes, hon, hp, voteValue]
  · refine ⟨by simp [hp], ?_, by simp [hp]⟩
    rw [if_neg (by omega), getD_voteRes s hi]
    simp [State.voteRes, hon, hp, voteValue]
  · have h0 : s.validPubs.length = 0 ∧ 3 ≤ s.vote.none_ := ⟨by simp [hp], hn⟩
    exact ⟨hsafe h0, by rw [if_pos h0, s.safeDefaults_getD hi]⟩

/-- Settles O48: the start goes by the schedule of a cycle, the vote by its results and limits, and the deadline by the state of its connection. -/
theorem vehicleCycleAndVote : Obligations.VehicleCycleAndVote := by
  rintro s _ now work rfl
  refine ⟨fun h => ?_, fun c hr hc hs h => execVehicleCycleStart_waits work now hr hc hs h, fun a hr hc hw ha => ?_, fun i hi hon => ?_,
    fun h1 h2 => ?_, fun h1 h2 => ?_, fun h => ?_, fun hc hn hs ht => ?_, fun h => ?_, fun i h => ?_, fun i h => ?_, fun c x g hx hg => ?_⟩
  · simp only [exec, execVehicleCycleStart, h, Bool.not_false, if_true]
  · subst ha
    exact execVehicleCycleStart_lag work now hr hc hw
  · exact State.castVote_setPoint hi hon
  · simp only [exec, execVoteHeldLimit, State.heldLimit]
    rw [if_pos (show 10 ≤ (s.at now).vote.held from h1)]
    simp only [State.at_safe, h2]
    rfl
  · simp only [exec, execVoteHeldLimit, State.heldLimit]
    rw [if_pos (show 10 ≤ (s.at now).vote.held from h1)]
    simp only [State.at_safe, h2, if_true]
  · simp only [exec, execVoteHeldLimit, State.heldLimit]
    rw [if_neg (show ¬ 10 ≤ (s.at now).vote.held from Nat.not_le.2 h)]
    rfl
  · have hl : (s.at now).since (s.at now).life.cycStart (ms 1) = true := decide_eq_true ht
    simp only [exec, execVoteNoneLimit, hl, if_true, State.noneLimit]
    rw [if_pos (show (s.at now).vote.count = 0 ∧ 3 ≤ (s.at now).vote.none_ ∧ (!(s.at now).vote.safe) = true from ⟨hc, hn, by simp [hs]⟩)]
    exact ⟨_, rfl, rfl, rfl, fun i hi => (s.at now).safeDefaults_getD hi, rfl, rfl⟩
  · have hn : (if (s.at now).since (s.at now).life.cycStart (ms 1) = true then (s.at now).noneLimit else s.at now) = s.at now := by
      split
      · next ht =>
        unfold State.noneLimit
        rw [if_neg]
        rintro ⟨h1, h2, h3⟩
        obtain h | h | h | h := h
        · exact h h1
        · exact absurd h2 (Nat.not_le.2 h)
        · simp [h] at h3
        · exact absurd (of_decide_eq_true ht) (Nat.not_le.2 h)
      · rfl
    exact congrArg Host.Outcome.next hn
  · simp only [exec, execVoteOutlier, State.voteOutlier]
    rw [if_pos (show (s.at now).vote.out[i] = 5 from h)]
    rfl
  · simp only [exec, execVoteOutlier, State.voteOutlier]
    rw [if_neg (show ¬ (s.at now).vote.out[i] = 5 from h)]
  · obtain ⟨h1, h2, h3⟩ := (s.at now).nvDeadline_eq c x g hx hg
    exact ⟨fun k1 k2 k3 => congrArg Host.Outcome.next (h1 k1 k2 k3), fun k => congrArg Host.Outcome.next (h2 k),
      fun k => congrArg Host.Outcome.next (h3 k)⟩

end Sys2Proof.Machine

namespace Sys2Proof.Machine

/-! ## Counted checks (R58, R143 to R145) -/

/-- A counted check: it acts once, from its count on. -/
theorem countedCheck {o : State → Out} {u t : State} {c : Bool} {n k : Nat} (h : o u = .next (if c = true ∨ n < k then u else t)) :
    (c = false → k ≤ n → o u = .next t) ∧ ((c = true ∨ n < k) → o u = .next u) := by
  refine ⟨fun hc hk => ?_, fun hx => ?_⟩
  · rw [h, if_neg]
    rintro (hc' | hn)
    · rw [hc] at hc'
      cases hc'
    · exact absurd hn (Nat.not_lt.2 hk)
  · rw [h, if_pos hx]

/-! ## Losses of an axis (R27, R59, R97) -/

/-- A loss that is not one of the commutation source is recorded, and does nothing else. -/
theorem State.noteLoss_other (s : State) (l : AxisNo) (cause : BitVec 4) : s.noteLoss l cause false =
    { s with ax := vset s.ax l { s.ax[l] with fb := { s.ax[l].fb with loss := if s.ax[l].fb.loss = 0 then cause else s.ax[l].fb.loss } } } := rfl

/-- The axis at a loss of its commutation source. -/
def Axis.sensorLost (a : Axis) (cause : BitVec 4) : Axis :=
  let c := match a.fb.idxSave with
    | some (n, r, _, θ, ok) => { a.com with count := n, ref := r, prov := θ, provOk := ok }
    | none => a.com
  { a with fb := { a.fb with loss := if a.fb.loss = 0 then cause else a.fb.loss, lost := true, lossAct := a.fb.lossAct || !a.fb.lost, punc := true,
                             idxSave := none }
           com := { c with cval := false } }

/-- A loss of the commutation source: the axis, the contact reference of an encoder, and the event where it is new. -/
theorem State.noteLoss_source (s : State) (l : AxisNo) (cause : BitVec 4) : ∃ b : Brake,
    (s.pn P.fbSrc l ≠ 1 → b = s.brake) ∧ s.noteLoss l cause true =
      (if s.ax[l].fb.lost then { s with brake := b, ax := vset s.ax l (s.ax[l].sensorLost cause) }
        else State.raise { s with brake := b, ax := vset s.ax l (s.ax[l].sensorLost cause) } 0x5004 .crimson (some l) [cause.setWidth 32]) := by
  have hf : ∀ f, (s.modAx l f).pn P.fbSrc l = s.pn P.fbSrc l := fun _ => rfl
  unfold State.noteLoss
  simp only [Bool.not_true, Bool.false_eq_true, if_false, hf]
  by_cases hb : s.pn P.fbSrc l = 1
  · refine ⟨{ s.brake with cref := vset s.brake.cref l false }, fun h => absurd hb h, ?_⟩
    simp only [hb, if_true, State.modAx, State.modBrake, vmod, vset_same, vset_vset]
    rfl
  · refine ⟨s.brake, fun _ => rfl, ?_⟩
    simp only [hb, if_false, State.modAx, vmod, vset_same, vset_vset]
    rfl

theorem Axis.cut_modelf (a : Axis) : a.cut.cur.modelf = a.cur.modelf := by
  unfold Axis.cut Axis.stopLoops Axis.setMode
  split <;> rfl

/-- The axis whose model has failed. -/
def Axis.modelFailed (a : Axis) : Axis := { a with cur := { a.cur with modelf := true, failRep := true } }

/-- A failure of the model: its flags and event, and a loss of the sensor or an axis fault by the mode of commutation (R58, R59). -/
theorem State.modelFailed_acts {s : State} {l : AxisNo} (hr : s.ax[l].cur.failRep = false) (hn : s.pn P.supN2 l ≤ s.ax[l].cur.fail) :
    ∃ t : State, s.modelFailed l = t ∧ t.ax[l].cur.modelf = true ∧
      (s.ax[l].com.mode = .sensored → s.ax[l].fb.loss = 0 → t.ax[l].fb.loss = 7 ∧ t.ax[l].fb.lost = true ∧
        t.ax[l].cur.failRep = true ∧ t.ax[l].en = s.ax[l].en ∧ t.ax[l].fault = s.ax[l].fault) ∧
      (s.ax[l].com.mode ≠ .sensored → s.ax[l].com.mode ≠ .off → t.ax[l].en = false ∧
        t.ax[l].fault = (if s.ax[l].fault = 0 then 2 else s.ax[l].fault)) ∧
      (s.ax[l].com.mode = .off → t.ax[l] = s.ax[l].modelFailed) ∧
      (∀ m : AxisNo, m ≠ l → t.ax[m] = s.ax[m]) ∧ t.pair = s.pair := by
  have hgo : ¬ (s.ax[l].cur.failRep = true ∨ s.ax[l].cur.fail < s.pn P.supN2 l) := by
    rintro (h | h)
    · rw [hr] at h
      cases h
    · exact absurd h (Nat.not_lt.2 hn)
  refine ⟨_, if_neg hgo, ?_⟩
  generalize ht : (s.modCur l fun c => { c with modelf := true, failRep := true }).raise 0x7002 .crimson (some l) [toFix 16 s.ax[l].cur.resid] = t
  have hax : t.ax = vset s.ax l s.ax[l].modelFailed := by
    rw [← ht, State.raise_ax]
    rfl
  have hp : t.pair = s.pair := by
    rw [← ht, State.raise_pair]
    rfl
  have htl : t.ax[l] = s.ax[l].modelFailed := by rw [hax, vset_same]
  have hto : ∀ (y : Axis) (m : AxisNo), m ≠ l → (vset t.ax l y)[m] = s.ax[m] := fun y m hm => by
    rw [vset_ne _ _ _ _ hm, hax, vset_ne _ _ _ _ hm]
  by_cases hs : s.ax[l].com.mode = .sensored
  · obtain ⟨b, -, hb⟩ := t.noteLoss_source l 7
    have hax' : (t.noteLoss l 7 true).ax = vset t.ax l (t.ax[l].sensorLost 7) := by
      rw [hb]
      split
      · rfl
      · rw [State.raise_ax]
    have hp' : (t.noteLoss l 7 true).pair = t.pair := by
      rw [hb]
      split
      · rfl
      · rw [State.raise_pair]
    rw [if_pos hs]
    have hl' : (t.noteLoss l 7 true).ax[l] = s.ax[l].modelFailed.sensorLost 7 := by rw [hax', vset_same, htl]
    refine ⟨by rw [hl']; rfl, fun _ h0 => ?_, fun h => absurd hs h, fun h => absurd (hs.symm.trans h) (by decide), fun m hm => ?_, hp'.trans hp⟩
    · rw [hl']
      exact ⟨if_pos h0, rfl, rfl, rfl, rfl⟩
    · rw [hax']
      exact hto _ m hm
  · rw [if_neg hs]
    by_cases ho : s.ax[l].com.mode = .off
    · rw [if_pos ho]
      refine ⟨by rw [htl]; rfl, fun h => absurd h hs, fun _ h => absurd ho h, fun _ => htl, fun m hm => ?_, hp⟩
      rw [hax, vset_ne _ _ _ _ hm]
    · rw [if_neg ho]
      obtain ⟨f, r, hf, -⟩ := t.axisFault_eq l 2
      rw [hf]
      have hl' : (vmod t.ax l fun x => { x.cut with fault := if x.fault = 0 then 2 else x.fault, perm := x.perm })[l] =
          { s.ax[l].modelFailed.cut with fault := if s.ax[l].fault = 0 then 2 else s.ax[l].fault, perm := s.ax[l].perm } := by
        rw [vmod_same, htl]
        rfl
      refine ⟨?_, fun h => absurd h hs, fun _ _ => ?_, fun h => absurd h ho, fun m hm => hto _ m hm, hp⟩
      · exact (congrArg (fun a => a.cur.modelf) hl').trans (Axis.cut_modelf _)
      · exact ⟨congrArg Axis.en hl', congrArg Axis.fault hl'⟩

/-! ## Stale results (R27) -/

/-- The third and the fifth stale sample of either result, one after the other. -/
theorem State.staleReact_eq (s : State) (l : AxisNo) : s.staleReact l =
    (let t := if (3 ≤ s.ax[l].del.stale ∧ s.ax[l].del.staleRep < 3) ∨ (3 ≤ s.ax[l].del.fStale ∧ s.ax[l].del.fStaleRep < 3) then
        State.raise { s with ax := vset s.ax l { s.ax[l] with del := { s.ax[l].del with
          staleRep := if 3 ≤ s.ax[l].del.stale then max 3 s.ax[l].del.staleRep else s.ax[l].del.staleRep
          fStaleRep := if 3 ≤ s.ax[l].del.fStale then max 3 s.ax[l].del.fStaleRep else s.ax[l].del.fStaleRep } } } 0x5001 .amber (some l) []
      else s
    let u := if 5 ≤ s.ax[l].del.stale ∧ s.ax[l].del.staleRep < 5 then
        (t.modDel l fun d => { d with staleRep := 5 }).noteLoss l 8 (t.src l = 2 || (t.src l = 1 && t.pn P.fbSpd l = 1))
      else t
    if 5 ≤ s.ax[l].del.fStale ∧ s.ax[l].del.fStaleRep < 5 then (u.modDel l fun d => { d with fStaleRep := 5 }).noteLoss l 8 false else u) := rfl

theorem State.staleReact_clauses (s : State) (l : AxisNo) (a : Axis) (ha : a = s.ax[l]) :
    (a.del.stale < 3 → a.del.fStale < 3 → s.staleReact l = s) ∧
    (3 ≤ a.del.stale → a.del.stale < 5 → a.del.staleRep < 3 → a.del.fStale < 3 →
      s.staleReact l = State.raise { s with ax := vset s.ax l { a with del := { a.del with staleRep := 3 } } } 0x5001 .amber (some l) []) ∧
    (3 ≤ a.del.fStale → a.del.fStale < 5 → a.del.fStaleRep < 3 → a.del.stale < 3 →
      s.staleReact l = State.raise { s with ax := vset s.ax l { a with del := { a.del with fStaleRep := 3 } } } 0x5001 .amber (some l) []) ∧
    (5 ≤ a.del.stale → a.del.staleRep = 3 → a.del.fStale < 3 → a.fb.loss = 0 → a.fb.lost = false → s.pn P.fbSrc l = 2 →
      ∃ v : State, s.staleReact l = v.raise 0x5004 .crimson (some l) [8] ∧
        v.ax[l].fb.loss = 8 ∧ v.ax[l].fb.lost = true ∧ v.ax[l].com.cval = false ∧ v.ax[l].del.staleRep = 5 ∧
        (∀ m : AxisNo, m ≠ l → v.ax[m] = s.ax[m]) ∧ { v with ax := s.ax } = s) ∧
    (5 ≤ a.del.fStale → a.del.fStaleRep = 3 → a.del.stale < 3 → a.fb.loss = 0 →
      s.staleReact l = { s with ax := vset s.ax l { a with del := { a.del with fStaleRep := 5 }, fb := { a.fb with loss := 8 } } }) := by
  subst ha
  rw [State.staleReact_eq]
  refine ⟨fun h1 h2 => ?_, fun h1 h2 h3 h4 => ?_, fun h1 h2 h3 h4 => ?_, fun h1 h2 h3 h4 h5 h6 => ?_, fun h1 h2 h3 h4 => ?_⟩
  · have c1 : ¬ ((3 ≤ s.ax[l].del.stale ∧ s.ax[l].del.staleRep < 3) ∨ (3 ≤ s.ax[l].del.fStale ∧ s.ax[l].del.fStaleRep < 3)) := by omega
    have c2 : ¬ (5 ≤ s.ax[l].del.stale ∧ s.ax[l].del.staleRep < 5) := by omega
    have c3 : ¬ (5 ≤ s.ax[l].del.fStale ∧ s.ax[l].del.fStaleRep < 5) := by omega
    simp only [if_neg c1, if_neg c2, if_neg c3]
  · have c2 : ¬ (5 ≤ s.ax[l].del.stale ∧ s.ax[l].del.staleRep < 5) := by omega
    have c3 : ¬ (5 ≤ s.ax[l].del.fStale ∧ s.ax[l].del.fStaleRep < 5) := by omega
    have c4 : ¬ 3 ≤ s.ax[l].del.fStale := by omega
    simp only [h1, h3, and_self, true_or, if_true, if_neg c2, if_neg c3, if_neg c4, max_eq_left (Nat.le_of_lt h3)]
  · have c2 : ¬ (5 ≤ s.ax[l].del.stale ∧ s.ax[l].del.staleRep < 5) := by omega
    have c3 : ¬ (5 ≤ s.ax[l].del.fStale ∧ s.ax[l].del.fStaleRep < 5) := by omega
    have c4 : ¬ 3 ≤ s.ax[l].del.stale := by omega
    simp only [h1, h3, and_self, or_true, if_true, if_neg c2, if_neg c3, if_neg c4, max_eq_left (Nat.le_of_lt h3)]
  · have c1 : ¬ ((3 ≤ s.ax[l].del.stale ∧ s.ax[l].del.staleRep < 3) ∨ (3 ≤ s.ax[l].del.fStale ∧ s.ax[l].del.fStaleRep < 3)) := by omega
    have c2 : 5 ≤ s.ax[l].del.stale ∧ s.ax[l].del.staleRep < 5 := by omega
    have c3 : ¬ (5 ≤ s.ax[l].del.fStale ∧ s.ax[l].del.fStaleRep < 5) := by omega
    have hsrc : (decide (s.src l = 2) || (decide (s.src l = 1) && decide (s.pn P.fbSpd l = 1))) = true := by
      simp [State.src, h6]
    obtain ⟨b, hb, he⟩ := (s.modDel l fun d => { d with staleRep := 5 }).noteLoss_source l 8
    have hbr : b = s.brake := hb (show s.pn P.fbSrc l ≠ 1 by omega)
    have hax : (s.modDel l fun d => { d with staleRep := 5 }).ax[l] = { s.ax[l] with del := { s.ax[l].del with staleRep := 5 } } := vmod_same _ _ _
    simp only [if_neg c1, if_pos c2, if_neg c3, hsrc, he, hax, h5, Bool.false_eq_true, if_false, hbr]
    refine ⟨_, rfl, ?_, ?_, ?_, ?_, fun m hm => ?_, rfl⟩
    · exact (congrArg (fun a : Axis => a.fb.loss) (vset_same _ _ _)).trans (if_pos h4)
    · exact congrArg (fun a : Axis => a.fb.lost) (vset_same _ _ _)
    · exact congrArg (fun a : Axis => a.com.cval) (vset_same _ _ _)
    · exact congrArg (fun a : Axis => a.del.staleRep) (vset_same _ _ _)
    · exact (vset_ne _ _ _ _ hm).trans (vmod_ne _ _ _ _ hm)
  · have c1 : ¬ ((3 ≤ s.ax[l].del.stale ∧ s.ax[l].del.staleRep < 3) ∨ (3 ≤ s.ax[l].del.fStale ∧ s.ax[l].del.fStaleRep < 3)) := by omega
    have c2 : ¬ (5 ≤ s.ax[l].del.stale ∧ s.ax[l].del.staleRep < 5) := by omega
    have c3 : 5 ≤ s.ax[l].del.fStale ∧ s.ax[l].del.fStaleRep < 5 := by omega
    have hax : (s.modDel l fun d => { d with fStaleRep := 5 }).ax[l] = { s.ax[l] with del := { s.ax[l].del with fStaleRep := 5 } } := vmod_same _ _ _
    simp only [if_neg c1, if_neg c2, if_pos c3, State.noteLoss_other, hax, h4, if_true]
    exact congrArg (fun v => ({ s with ax := v } : State)) (vset_vset _ _ _ _)

/-! ## The removal of torque (R262, R266) -/

theorem pairOf_axis (l : AxisNo) : l = loAx (pairOf l) ∨ l = hiAx (pairOf l) := by
  revert l
  decide

/-- The other axis of a pair. -/
theorem other_axis {l m : AxisNo} (hm : m ≠ l) (hp : pairOf m = pairOf l) :
    (l = loAx (pairOf l) ∧ m = hiAx (pairOf l)) ∨ (l = hiAx (pairOf l) ∧ m = loAx (pairOf l)) := by
  revert l m
  decide

/-- What holds of both axes of a pair. -/
theorem pair_and (p : AxisNo → Bool) {l m : AxisNo} (hm : m ≠ l) (hp : pairOf m = pairOf l) :
    (p (loAx (pairOf l)) && p (hiAx (pairOf l))) = (p l && p m) := by
  obtain ⟨h1, h2⟩ | ⟨h1, h2⟩ := other_axis hm hp
  · rw [← h1, ← h2]
  · rw [← h1, ← h2, Bool.and_comm]

theorem pairOf_ne {l m : AxisNo} (h : pairOf m ≠ pairOf l) : m ≠ loAx (pairOf l) ∧ m ≠ hiAx (pairOf l) ∧ m ≠ l := by
  revert l m
  decide

theorem loAx_ne_hiAx (k : PairNo) : loAx k ≠ hiAx k := by
  revert k
  decide

theorem vmod_pair_same {α : Type} (v : Vector α 8) (f : α → α) {m : AxisNo} {k : PairNo} (h : pairOf m = k) :
    (vmod (vmod v (loAx k) f) (hiAx k) f)[m] = f v[m] := by
  obtain hm | hm := pairOf_axis m <;> rw [h] at hm <;> rw [hm]
  · rw [vmod_ne _ _ _ _ (loAx_ne_hiAx k), vmod_same]
  · rw [vmod_same, vmod_ne _ _ _ _ (loAx_ne_hiAx k).symm]

theorem vmod_pair_other {α : Type} (v : Vector α 8) (f : α → α) {m l : AxisNo} (h : pairOf m ≠ pairOf l) :
    (vmod (vmod v (loAx (pairOf l)) f) (hiAx (pairOf l)) f)[m] = v[m] := by
  obtain ⟨h1, h2, -⟩ := pairOf_ne h
  rw [vmod_ne _ _ _ _ h2, vmod_ne _ _ _ _ h1]

/-- An axis without a mode. -/
theorem Axis.setMode_off (a : Axis) : (a.setMode .off).com.mode = .off ∧ (a.setMode .off).fault = a.fault ∧ (a.setMode .off).ss = a.ss := by
  unfold Axis.setMode
  split
  · next h => exact ⟨h, rfl, rfl⟩
  · exact ⟨rfl, rfl, rfl⟩

/-- A disabled axis: no mode, and its fault and safe stop as they were. -/
theorem Axis.disable_eq (a : Axis) : a.disable.en = false ∧ a.disable.com.mode = .off ∧ a.disable.fault = a.fault ∧ a.disable.ss = a.ss := by
  obtain ⟨hm, hf, hs⟩ := a.setMode_off
  unfold Axis.disable Axis.stopLoops
  simp only []
  split <;> exact ⟨rfl, hm, hf, hs⟩

/-- A cut axis: no mode, and its safe stop as it was. -/
theorem Axis.cut_mode (a : Axis) : a.cut.com.mode = .off ∧ a.cut.ss = a.ss := by
  obtain ⟨hm, -, hs⟩ := a.setMode_off
  exact ⟨hm, hs⟩

/-- The axis once its safe stop has removed its torque. -/
def Axis.ssOff (a : Axis) : Axis := Axis.disable { a with ss := { a.ss with ssoff := true, due := false } }

/-- The removal of torque in a lane with authority: the axis is disabled, and with it the pair where both of its axes stand off. -/
theorem State.ssRemove_eq {s : State} {l : AxisNo} (hd : s.ax[l].ss.due = true) (hs : s.standby = false) :
    s.ssRemove l = if (s.modAx l Axis.ssOff).syncDrive.ax[loAx (pairOf l)].ss.ssoff && (s.modAx l Axis.ssOff).syncDrive.ax[hiAx (pairOf l)].ss.ssoff then
        ((s.modAx l Axis.ssOff).syncDrive.modPair (pairOf l) fun p => { p with toDemand := true }).torqueOff (pairOf l)
      else (s.modAx l Axis.ssOff).syncDrive := by
  unfold State.ssRemove
  rw [hd]
  simp only [Bool.not_true, Bool.false_eq_true, if_false, hs]
  rfl

/-- What the removal of torque leaves. -/
theorem State.ssRemove_acts {s : State} {l : AxisNo} (hd : s.ax[l].ss.due = true) (hs : s.standby = false) :
    ∃ t : State, s.ssRemove l = t ∧ t.ax[l].ss.ssoff = true ∧ t.ax[l].ss.due = false ∧
      t.ax[l].en = false ∧ t.ax[l].com.mode = .off ∧ t.ax[l].fault = s.ax[l].fault ∧
      (∀ m : AxisNo, m ≠ l → pairOf m = pairOf l → s.ax[m].ss.ssoff = true →
        t.pair[pairOf l].toDemand = true ∧ t.ax[m].en = false ∧ t.ax[m].pwm.gates = false ∧ t.ax[l].pwm.gates = false) ∧
      (∀ m : AxisNo, m ≠ l → pairOf m = pairOf l → s.ax[m].ss.ssoff = false → t.pair = s.pair ∧ t.ax[m] = s.ax[m]) ∧
      (∀ m : AxisNo, pairOf m ≠ pairOf l → t.ax[m] = s.ax[m]) := by
  rw [State.ssRemove_eq hd hs]
  generalize hx : (s.modAx l Axis.ssOff).syncDrive = x
  obtain ⟨hax, hpair⟩ : x.ax = vmod s.ax l Axis.ssOff ∧ x.pair = s.pair := by
    obtain ⟨f, r, h, -⟩ := (s.modAx l Axis.ssOff).syncDrive_eq
    rw [← hx, h]
    exact ⟨rfl, rfl⟩
  have hl : x.ax[l] = s.ax[l].ssOff := by rw [hax, vmod_same]
  have hm : ∀ m : AxisNo, m ≠ l → x.ax[m] = s.ax[m] := fun m hm => by rw [hax, vmod_ne _ _ _ _ hm]
  obtain ⟨hen, hmode, hfault, hss⟩ := Axis.disable_eq { s.ax[l] with ss := { s.ax[l].ss with ssoff := true, due := false } }
  rw [show Axis.disable _ = s.ax[l].ssOff from rfl, ← hl] at hen hmode hfault hss
  by_cases hboth : x.ax[loAx (pairOf l)].ss.ssoff && x.ax[hiAx (pairOf l)].ss.ssoff
  · rw [if_pos hboth]
    obtain ⟨f, r, hto, -⟩ := (x.modPair (pairOf l) fun p => { p with toDemand := true }).torqueOff_eq (pairOf l)
    rw [hto]
    have hcut : ∀ m : AxisNo, pairOf m = pairOf l →
        (vmod (vmod x.ax (loAx (pairOf l)) Axis.cut) (hiAx (pairOf l)) Axis.cut)[m] = x.ax[m].cut := fun m hp => vmod_pair_same x.ax Axis.cut hp
    have hcl := hcut l rfl
    obtain ⟨hcm, hcs⟩ := x.ax[l].cut_mode
    refine ⟨_, rfl, ?_, ?_, ?_, ?_, ?_, fun m hml hp _ => ⟨?_, ?_, ?_, ?_⟩, fun m hml hp ho => absurd hboth ?_, fun m hp => ?_⟩
    · exact (congrArg (fun a : Axis => a.ss.ssoff) hcl).trans (by rw [hcs, hss])
    · exact (congrArg (fun a : Axis => a.ss.due) hcl).trans (by rw [hcs, hss])
    · exact congrArg Axis.en hcl
    · exact (congrArg (fun a : Axis => a.com.mode) hcl).trans hcm
    · exact ((congrArg Axis.fault hcl).trans (Axis.cut_fault _)).trans hfault
    · exact congrArg Pair.toDemand (vmod_same _ _ _)
    · exact congrArg Axis.en (hcut m hp)
    · exact congrArg (fun a : Axis => a.pwm.gates) (hcut m hp)
    · exact congrArg (fun a : Axis => a.pwm.gates) hcl
    · have ho' : x.ax[m].ss.ssoff = false := by rw [hm m hml, ho]
      refine fun hb => Bool.false_ne_true ?_
      rw [← hb, pair_and (fun i : AxisNo => x.ax[i].ss.ssoff) hml hp, ho', Bool.and_false]
    · exact (vmod_pair_other x.ax Axis.cut hp).trans (hm m (pairOf_ne hp).2.2)
  · rw [if_neg hboth]
    refine ⟨x, rfl, by rw [hss], by rw [hss], hen, hmode, hfault, fun m hml hp ho => absurd ?_ hboth, fun m hml _ _ => ⟨hpair, hm m hml⟩,
      fun m hp => hm m (pairOf_ne hp).2.2⟩
    have hl' : x.ax[l].ss.ssoff = true := by rw [hss]
    have ho' : x.ax[m].ss.ssoff = true := by rw [hm m hml, ho]
    exact (pair_and (fun i : AxisNo => x.ax[i].ss.ssoff) hml hp).trans (by rw [hl', ho', Bool.and_self])

/-! ## Windows of the speed measurement (R85, R143) -/

/-- The speed check that has failed sets SPDF, and nothing else of its axis. -/
theorem State.speedFailed_logOnly (s : State) (l : AxisNo) : ∃ b,
    State.logOnly { s with ax := vset s.ax l { s.ax[l] with cas := { s.ax[l].cas with spdf := b } } } (s.speedFailed l) := by
  unfold State.speedFailed
  simp only []
  split
  · refine ⟨s.ax[l].cas.spdf, ?_⟩
    have hv : vset s.ax l s.ax[l] = s.ax := by
      unfold vset
      simp
    exact congrArg (fun v => ({ s with ax := v } : State)) hv.symm
  · exact ⟨true, State.raise_logOnly _ _ _ _ _⟩

/-- The speed check of a window looks at the speed ticks of an axis that has a measured speed beside them. -/
def State.checksSpeed (s : State) (l : AxisNo) : Prop := (s.src l = 1 ∧ s.pn P.fbSpd l = 1) ∨ s.src l = 2

/-- What the check of a window may change of its axis: the sums of the window, and the count of the check. -/
theorem State.windowCheck_eq (s : State) (l : AxisNo) : ∃ y : Axis, s.windowCheck l = { s with ax := vset s.ax l y } ∧
    y.com = s.ax[l].com ∧ (∃ e x n, y.fb = { s.ax[l].fb with winEnd := e, winSum := x, winN := n }) ∧
    (∀ e w, s.ax[l].fb.winEnd = some (e, some w) → s.ax[l].fb.winN ≠ 0 → s.checksSpeed l → s.ax[l].com.est = false →
      y.cas.spdN = if s.pq P.casPvtol l + twoPi / (s.cm l * s.winLen l) < |w - s.ax[l].fb.winSum / s.ax[l].fb.winN| then
        s.ax[l].cas.spdN + 1 else 0) ∧
    (s.ax[l].fb.winEnd ≠ none → y.fb.winSum = 0 ∧ y.fb.winN = 0) ∧ (s.ax[l].fb.winEnd = none → y = s.ax[l]) := by
  have hv : vset s.ax l s.ax[l] = s.ax := by
    unfold vset
    simp
  unfold State.windowCheck
  simp only []
  split
  · next h =>
    exact ⟨s.ax[l], by rw [hv], rfl, ⟨_, _, _, rfl⟩, fun _ _ he => absurd (h.symm.trans he) (by simp), fun hn => absurd h hn, fun _ => rfl⟩
  · next e w h =>
    split
    · next w =>
      split
      · refine ⟨{ s.ax[l] with
            fb := { s.ax[l].fb with winEnd := none, winSum := 0, winN := 0 }
            cas := { s.ax[l].cas with
              spdN := if decide (s.pq P.casPvtol l + twoPi / (s.cm l * s.winLen l) < |w - s.ax[l].fb.winSum / s.ax[l].fb.winN|) then
                s.ax[l].cas.spdN + 1 else 0
              spdDiff := if decide (s.pq P.casPvtol l + twoPi / (s.cm l * s.winLen l) < |w - s.ax[l].fb.winSum / s.ax[l].fb.winN|) then
                w - s.ax[l].fb.winSum / s.ax[l].fb.winN else s.ax[l].cas.spdDiff } },
          ?_, rfl, ⟨_, _, _, rfl⟩, fun e' w' he _ _ _ => ?_, fun _ => ⟨rfl, rfl⟩, fun hn => ?_⟩
        · simp only [State.modCas, State.modAx, vmod, vset_same, vset_vset]
        · rw [h] at he
          cases he
          simp only [decide_eq_true_eq]
        · rw [h] at hn
          cases hn
      · next hr =>
        refine ⟨_, rfl, rfl, ⟨_, _, _, rfl⟩, fun _ _ _ hn hc he => absurd ⟨⟨hc, by rw [he]; rfl⟩, hn⟩ hr, fun _ => ⟨rfl, rfl⟩, fun hn => ?_⟩
        rw [h] at hn
        cases hn
    · refine ⟨_, rfl, rfl, ⟨_, _, _, rfl⟩, fun e' w' he => ?_, fun _ => ⟨rfl, rfl⟩, fun hn => ?_⟩
      · rw [h] at he
        cases he
      · rw [h] at hn
        cases hn

/-- The checks before a window begins, of its axis `y` and of all else. -/
theorem State.windowChecks_logOnly (s : State) (l : AxisNo) : ∃ y : Axis,
    State.logOnly { s with ax := vset s.ax l y } ((s.speedFailed l).windowCheck l) ∧
      y.com = s.ax[l].com ∧ (∃ e x n, y.fb = { s.ax[l].fb with winEnd := e, winSum := x, winN := n }) ∧
      (∀ e w, s.ax[l].fb.winEnd = some (e, some w) → s.ax[l].fb.winN ≠ 0 → s.checksSpeed l → s.ax[l].com.est = false →
        y.cas.spdN = if s.pq P.casPvtol l + twoPi / (s.cm l * s.winLen l) < |w - s.ax[l].fb.winSum / s.ax[l].fb.winN| then
          s.ax[l].cas.spdN + 1 else 0) ∧
      (s.ax[l].fb.winEnd ≠ none → y.fb.winSum = 0 ∧ y.fb.winN = 0) ∧
      (s.ax[l].fb.winEnd = none → y.cas.spdN = s.ax[l].cas.spdN ∧ y.fb = s.ax[l].fb) := by
  obtain ⟨b, hb⟩ := s.speedFailed_logOnly l
  have hl : (s.speedFailed l).ax[l] = { s.ax[l] with cas := { s.ax[l].cas with spdf := b } } := by
    rw [hb.ax]
    exact vset_same _ _ _
  obtain ⟨y, hy, hcom, hfb, hn, hz, hk⟩ := (s.speedFailed l).windowCheck_eq l
  rw [hl] at hcom hfb hn hz hk
  refine ⟨y, ?_, hcom, hfb, fun e w he hN hc hest => ?_, hz, fun h => ?_⟩
  · rw [hy, hb.eq]
    exact congrArg (fun v => ({ s with ax := v } : State)) (vset_vset _ _ _ _)
  · have hp : (s.speedFailed l).checksSpeed l = s.checksSpeed l ∧ (s.speedFailed l).pq P.casPvtol l = s.pq P.casPvtol l ∧
        (s.speedFailed l).cm l = s.cm l ∧ (s.speedFailed l).winLen l = s.winLen l := by
      rw [hb.eq]
      exact ⟨rfl, rfl, rfl, rfl⟩
    obtain ⟨hp1, hp2, hp3, hp4⟩ := hp
    have := hn e w he hN (hp1 ▸ hc) hest
    rwa [hp2, hp3, hp4] at this
  · rw [hk h]
    exact ⟨rfl, rfl⟩

/-- A window that has begun anew at `te`, with the speeds of the window before where it was whole. -/
def Axis.windowed (y : Axis) (k : Int) (te : Ns) (mov : Word) (pos : Int) (v ws : Option Q) : Axis :=
  { y with fb := { y.fb with winK := some k, winMov := some mov, winPos := some pos, winEnd := some (te, ws), winSpeed := v.getD y.fb.winSpeed,
                             winv := y.fb.winv || v.isSome } }

/-- A value formed from the end of the window before, where that window was whole. -/
def wholeWindow {α : Type} (f : Fb) (k : Int) (x : Option α) (g : α → Q) : Option Q :=
  match f.winK == some (k - 1), x with
  | true, some p => some (g p)
  | _, _ => none

theorem wholeWindow_some {α : Type} {f : Fb} {k : Int} {x : Option α} {p : α} (hk : f.winK = some (k - 1)) (hx : x = some p) (g : α → Q) :
    wholeWindow f k x g = some (g p) := by
  simp [wholeWindow, hk, hx]

theorem wholeWindow_none {α : Type} {f : Fb} {k : Int} {x : Option α} (h : f.winK ≠ some (k - 1) ∨ x = none) (g : α → Q) :
    wholeWindow f k x g = none := by
  unfold wholeWindow
  split
  · next hk =>
    obtain h | h := h
    · exact absurd (by simpa using hk) h
    · cases h
  · rfl

/-- The end of a window. -/
theorem execSpeedWindowEnd_logOnly {s : State} {l : AxisNo} (now : Ns) {k : Int} (hk : k = (s.at now).gt / (s.at now).winNs l)
    (hon : s.axOn l = true) (hw : s.ax[l].fb.winK ≠ some k) {te : Ns} (hte : te = (s.at now).localOf (k * (s.at now).winNs l)) {mov : Word}
    (hmov : mov = (s.ax[l].fb.countsAt (te + 4)).2) {pos : Int}
    (hpos : pos = if s.pn P.fbSrc l = 2 ∨ s.ax[l].com.est = true then s.ax[l].fb.pos64 else s.ax[l].fb.pos64 + diff32 mov s.ax[l].fb.movPrev) :
    ∃ (t : State) (y : Axis), exec (.speedWindowEnd l now) s = .next t ∧
      State.logOnly { s.at now with ax := vset s.ax l (y.windowed k te mov pos
        (wholeWindow s.ax[l].fb k s.ax[l].fb.winMov fun m => twoPi * (diff32 mov m : Q) / (s.countsPerRev l * s.winLen l))
        (wholeWindow s.ax[l].fb k s.ax[l].fb.winPos fun p => ((pos - p : Int) : Q) / s.perRad l / s.winLen l)) } t ∧
      (∃ e x n, y.fb = { s.ax[l].fb with winEnd := e, winSum := x, winN := n }) ∧
      (∀ e w, s.ax[l].fb.winEnd = some (e, some w) → s.ax[l].fb.winN ≠ 0 → s.checksSpeed l → s.ax[l].com.est = false →
        y.cas.spdN = if s.pq P.casPvtol l + twoPi / (s.cm l * s.winLen l) < |w - s.ax[l].fb.winSum / s.ax[l].fb.winN| then
          s.ax[l].cas.spdN + 1 else 0) ∧
      (s.ax[l].fb.winEnd ≠ none → y.fb.winSum = 0 ∧ y.fb.winN = 0) ∧
      (s.ax[l].fb.winEnd = none → y.cas.spdN = s.ax[l].cas.spdN ∧ y.fb = s.ax[l].fb) := by
  obtain ⟨y, hy, hcom, ⟨e, x, n, hfb⟩, hrest⟩ := (s.at now).windowChecks_logOnly l
  obtain ⟨mb, cnt, regs, aon, hq⟩ : ∃ mb cnt regs aon, ((s.at now).speedFailed l).windowCheck l =
      { s.at now with ax := vset s.ax l y, mb := mb, cnt := cnt, regs := regs, aon := aon } := ⟨_, _, _, _, hy.eq⟩
  have hgo : ¬ ((!(s.at now).axOn l || (s.at now).ax[l].fb.winK == some ((s.at now).gt / (s.at now).winNs l)) = true) := by
    rw [← hk, show (s.at now).axOn l = true from hon]
    simpa using hw
  have hyl : (vset s.ax l y)[l] = y := vset_same _ _ _
  refine ⟨{ s.at now with mb := mb, cnt := cnt, regs := regs, aon := aon, ax := vset s.ax l (y.windowed k te mov pos
      (wholeWindow s.ax[l].fb k s.ax[l].fb.winMov fun m => twoPi * (diff32 mov m : Q) / (s.countsPerRev l * s.winLen l))
      (wholeWindow s.ax[l].fb k s.ax[l].fb.winPos fun p => ((pos - p : Int) : Q) / s.perRad l / s.winLen l)) }, y, ?_, rfl, ⟨e, x, n, hfb⟩, hrest⟩
  simp only [exec, execSpeedWindowEnd]
  rw [if_neg hgo, hq, ← hk]
  obtain ⟨hcounts, hk', hm', hp', h64, hprev⟩ : y.fb.countsAt = s.ax[l].fb.countsAt ∧ y.fb.winK = s.ax[l].fb.winK ∧
      y.fb.winMov = s.ax[l].fb.winMov ∧ y.fb.winPos = s.ax[l].fb.winPos ∧ y.fb.pos64 = s.ax[l].fb.pos64 ∧ y.fb.movPrev = s.ax[l].fb.movPrev := by
    rw [hfb]
    exact ⟨rfl, rfl, rfl, rfl, rfl, rfl⟩
  simp only [Axis.windowed, State.modAx, vmod, hyl, hcom, State.at_ax, hcounts, hk', hm', hp', h64, hprev, vset_vset]
  rw [hpos, hmov, hte]
  unfold wholeWindow
  cases s.ax[l].fb.winK == some (k - 1) <;> cases s.ax[l].fb.winMov <;> cases s.ax[l].fb.winPos <;> rfl

/-- The end of a window, as the statement says it. -/
theorem execSpeedWindowEnd_acts {s : State} {l : AxisNo} (now : Ns) {k : Int} (hk : k = (s.at now).gt / (s.at now).winNs l)
    (hon : s.axOn l = true) (hw : s.ax[l].fb.winK ≠ some k) {te : Ns} (hte : te = (s.at now).localOf (k * (s.at now).winNs l)) {mov : Word}
    (hmov : mov = (s.ax[l].fb.countsAt (te + 4)).2) {pos : Int}
    (hpos : pos = if s.pn P.fbSrc l = 2 ∨ s.ax[l].com.est = true then s.ax[l].fb.pos64 else s.ax[l].fb.pos64 + diff32 mov s.ax[l].fb.movPrev)
    {tw : Q} (htw : tw = s.winLen l) :
    ∃ (t : State) (ws : Option Q), exec (.speedWindowEnd l now) s = .next t ∧
      t.ax[l].fb.winK = some k ∧ t.ax[l].fb.winMov = some mov ∧ t.ax[l].fb.winPos = some pos ∧ t.ax[l].fb.winEnd = some (te, ws) ∧
      (∀ m p, s.ax[l].fb.winK = some (k - 1) → s.ax[l].fb.winMov = some m → s.ax[l].fb.winPos = some p →
        t.ax[l].fb.winv = true ∧ t.ax[l].fb.winSpeed = twoPi * (diff32 mov m : Q) / (s.countsPerRev l * tw) ∧
        ws = some (((pos - p : Int) : Q) / s.perRad l / tw)) ∧
      ((s.ax[l].fb.winK ≠ some (k - 1) ∨ (s.ax[l].fb.winMov = none ∧ s.ax[l].fb.winPos = none)) →
        t.ax[l].fb.winSpeed = s.ax[l].fb.winSpeed ∧ t.ax[l].fb.winv = s.ax[l].fb.winv ∧ ws = none) ∧
      (∀ e w, s.ax[l].fb.winEnd = some (e, some w) → s.ax[l].fb.winN ≠ 0 → s.checksSpeed l → s.ax[l].com.est = false →
        t.ax[l].cas.spdN = if s.pq P.casPvtol l + twoPi / (s.cm l * tw) < |w - s.ax[l].fb.winSum / s.ax[l].fb.winN| then
          s.ax[l].cas.spdN + 1 else 0) ∧
      (s.ax[l].fb.winEnd ≠ none → t.ax[l].fb.winSum = 0 ∧ t.ax[l].fb.winN = 0) ∧
      (s.ax[l].fb.winEnd = none → t.ax[l].cas.spdN = s.ax[l].cas.spdN ∧ t.ax[l].fb.winSum = s.ax[l].fb.winSum ∧
        t.ax[l].fb.winN = s.ax[l].fb.winN) ∧
      (∀ m : AxisNo, m ≠ l → t.ax[m] = s.ax[m]) ∧ t.pair = s.pair ∧ t.life = s.life := by
  subst htw
  obtain ⟨t, y, he, hl, ⟨e, x, n, hfb⟩, hn, hz, hk0⟩ := execSpeedWindowEnd_logOnly now hk hon hw hte hmov hpos
  have hax : t.ax = vset s.ax l _ := hl.ax
  have hy : t.ax[l] = _ := (congrArg (fun v => v[l]) hax).trans (vset_same _ _ _)
  have hv : y.fb.winSpeed = s.ax[l].fb.winSpeed ∧ y.fb.winv = s.ax[l].fb.winv := by
    rw [hfb]
    exact ⟨rfl, rfl⟩
  refine ⟨t, wholeWindow s.ax[l].fb k s.ax[l].fb.winPos fun p => ((pos - p : Int) : Q) / s.perRad l / s.winLen l, he, ?_⟩
  rw [hy]
  refine ⟨rfl, rfl, rfl, rfl, fun m p h hm hp => ?_, fun h => ?_, hn, hz, fun h => ?_, fun m hm => ?_, hl.pair, hl.life⟩
  · simp only [Axis.windowed, wholeWindow_some h hm, wholeWindow_some h hp, Option.isSome_some, Bool.or_true, Option.getD_some, and_self]
  · have hm := h.imp_right And.left
    have hp := h.imp_right And.right
    simp only [Axis.windowed, wholeWindow_none hm, wholeWindow_none hp, Option.isSome_none, Bool.or_false, Option.getD_none, hv, and_self]
  · obtain ⟨h1, h2⟩ := hk0 h
    have hsum : y.fb.winSum = s.ax[l].fb.winSum ∧ y.fb.winN = s.ax[l].fb.winN := by
      rw [h2]
      exact ⟨rfl, rfl⟩
    exact ⟨h1, hsum⟩
  · rw [hax, vset_ne _ _ _ _ hm]

/-- Settles O43: each check goes by its count, and the end of a window by the ends and the speed ticks of the window before. -/
theorem countedChecksActOnce : Obligations.CountedChecksActOnce := by
  rintro s _ l now _ rfl rfl
  obtain ⟨hs1, hs2, hs3, hs4, hs5⟩ := (s.at now).staleReact_clauses l s.ax[l] rfl
  refine ⟨fun x hx => ?_, fun h => ?_, fun h1 h2 => ?_, fun h1 h2 => congrArg Host.Outcome.next (hs1 h1 h2),
    fun h1 h2 h3 h4 => congrArg Host.Outcome.next (hs2 h1 h2 h3 h4), fun h1 h2 h3 h4 => congrArg Host.Outcome.next (hs3 h1 h2 h3 h4),
    fun h1 h2 h3 h4 h5 h6 => ?_, fun h1 h2 h3 h4 => congrArg Host.Outcome.next (hs5 h1 h2 h3 h4), fun h => ?_, fun h1 h2 => ?_,
    fun k te mov pos tw hk hte hmov hpos htw => ⟨fun h => ?_, fun hon hw => ?_⟩⟩
  · simp only [List.mem_cons, List.not_mem_nil, or_false] at hx
    obtain rfl | rfl | rfl | rfl := hx
    · exact countedCheck (o := fun _ => exec (.modelResidual l now) s) rfl
    · exact countedCheck (o := fun _ => exec (.speedImplausible l now) s) rfl
    · exact countedCheck (o := fun _ => exec (.rackImplausible l now) s) rfl
    · exact countedCheck (o := fun _ => exec (.followingError l now) s) rfl
  · exact congrArg Host.Outcome.next (if_pos h)
  · obtain ⟨t, ht, h⟩ := State.modelFailed_acts (s := s.at now) h1 h2
    exact ⟨t, congrArg Host.Outcome.next ht, h⟩
  · obtain ⟨v, hv, h⟩ := hs4 h1 h2 h3 h4 h5 h6
    exact ⟨v, congrArg Host.Outcome.next hv, h⟩
  · refine congrArg Host.Outcome.next (if_pos ?_)
    rw [show (s.at now).ax[l].ss.due = false from h]
    rfl
  · obtain ⟨t, ht, h⟩ := State.ssRemove_acts (s := s.at now) h1 h2
    exact ⟨t, congrArg Host.Outcome.next ht, h⟩
  · simp only [exec, execSpeedWindowEnd]
    rw [if_pos]
    rw [← hk]
    obtain h | h := h
    · rw [show (s.at now).axOn l = false from h]
      rfl
    · rw [show (s.at now).ax[l].fb.winK = some k from h]
      simp
  · exact execSpeedWindowEnd_acts now hk hon hw hte hmov hpos htw

end Sys2Proof.Machine

namespace Sys2Proof.Machine

/-! ## What a current-loop sample keeps

All but a few of the parts of a sample leave the schedule, the modulator filters, the offsets and the currents of the axes of its pair, the axes of
the other pairs, the clock, and the claim of the twin as they are. -/

/-- A schedule without its tick instants. -/
def Sched.bare (p : Sched) : Sched := { p with lastS := none, lastP := none }

theorem Sched.bare_iff {p q : Sched} : p.bare = q.bare ↔ p.index = q.index ∧ p.due = q.due ∧ p.point = q.point ∧ p.written = q.written ∧
    p.started = q.started ∧ p.start = q.start ∧ p.halt = q.halt ∧ p.inst = q.inst ∧ p.dt = q.dt ∧ p.lagNs = q.lagNs ∧ p.late = q.late ∧
    p.lag = q.lag := by
  simp only [Sched.bare, Sched.mk.injEq, and_true]

/-- Of an axis: its schedule without its tick instants, its filters, its offsets and currents, and whether its calibration is due. -/
def Axis.kept (a : Axis) : Sched × Dsm × Vector Q 3 × Q × Q × Q × Bool :=
  (a.sch.bare, a.dsm, a.cur.off, a.cur.iu, a.cur.iv, a.cur.iw, a.cur.calDue)

theorem Axis.kept_iff {a b : Axis} : a.kept = b.kept ↔ ({ a.sch with lastS := none, lastP := none } : Sched) = { b.sch with lastS := none, lastP := none } ∧
    a.dsm = b.dsm ∧ a.cur.off = b.cur.off ∧ a.cur.iu = b.cur.iu ∧ a.cur.iv = b.cur.iv ∧ a.cur.iw = b.cur.iw ∧ a.cur.calDue = b.cur.calDue := by
  simp only [Axis.kept, Sched.bare, Prod.mk.injEq]

/-- The identity of the lane, the claim of the twin, the clock, the time of the ring, what is kept of the axes of a pair, and the axes of the other pairs. -/
def State.sampleKept (s : State) (k : PairNo) : Ident × Bool × Clk × Vtb × (AxisNo → Sum (Sched × Dsm × Vector Q 3 × Q × Q × Q × Bool) Axis) :=
  (s.ident, s.twin.claim, s.clk, s.vtb, fun m => if pairOf m = k then .inl s.ax[m].kept else .inr s.ax[m])

theorem State.sampleKept_congr {s t : State} (hi : t.ident = s.ident) (hc : t.twin.claim = s.twin.claim) (hk : t.clk = s.clk) (hv : t.vtb = s.vtb)
    (ha : t.ax = s.ax) (k : PairNo) :
    t.sampleKept k = s.sampleKept k := by
  unfold State.sampleKept
  rw [hi, hc, hk, hv, ha]

@[simp] theorem pairOf_loAx (k : PairNo) : pairOf (loAx k) = k := by
  revert k
  decide

@[simp] theorem pairOf_hiAx (k : PairNo) : pairOf (hiAx k) = k := by
  revert k
  decide

@[simp] theorem Axis.setMode_kept (a : Axis) (m : CMode) : (a.setMode m).kept = a.kept := by
  unfold Axis.setMode
  split <;> rfl

@[simp] theorem Axis.stopLoops_kept (a : Axis) : a.stopLoops.kept = a.kept :=
  a.setMode_kept .off

@[simp] theorem Axis.cut_kept (a : Axis) : a.cut.kept = a.kept := a.stopLoops_kept

@[simp] theorem Axis.disable_kept (a : Axis) : a.disable.kept = a.kept := by
  unfold Axis.disable
  simp only []
  split <;> exact a.stopLoops_kept

@[simp] theorem Axis.ite_kept (c : Prop) [Decidable c] (a b : Axis) : (if c then a else b).kept = if c then a.kept else b.kept :=
  apply_ite Axis.kept c a b

@[simp] theorem State.ite_sampleKept (c : Prop) [Decidable c] (a b : State) (k : PairNo) :
    (if c then a else b).sampleKept k = if c then a.sampleKept k else b.sampleKept k :=
  apply_ite (State.sampleKept · k) c a b

@[simp] theorem forFin_sampleKept {n : Nat} {f : Fin n → State → State} {k : PairNo} (h : ∀ i x, (f i x).sampleKept k = x.sampleKept k) (s : State) :
    (forFin n f s).sampleKept k = s.sampleKept k :=
  forFin_keeps (p := fun x => x.sampleKept k = s.sampleKept k) rfl fun i x hx => (h i x).trans hx

@[simp] theorem foldl_sampleKept {α : Type} {f : State → α → State} {k : PairNo} (h : ∀ x i, (f x i).sampleKept k = x.sampleKept k) (is : List α)
    (s : State) : (is.foldl f s).sampleKept k = s.sampleKept k :=
  List.foldlRecOn (motive := fun x : State => x.sampleKept k = s.sampleKept k) is f rfl fun x hx i _ => (h x i).trans hx

/-- A change of an axis of the pair that keeps what is kept. -/
@[simp] theorem State.modAx_sampleKept (s : State) {m : AxisNo} {f : Axis → Axis} {k : PairNo} (hm : pairOf m = k) (hf : ∀ a, (f a).kept = a.kept) :
    (s.modAx m f).sampleKept k = s.sampleKept k := by
  unfold State.sampleKept
  refine Prod.ext rfl (Prod.ext rfl (Prod.ext rfl (Prod.ext rfl (funext fun j => ?_))))
  by_cases hj : j = m
  · subst hj
    simp only [if_pos hm, State.modAx_ax, vmod_same, hf]
  · simp only [State.modAx_ax, vmod_ne _ _ _ _ hj]

@[simp] theorem State.modSu_sampleKept (s : State) (f : Su → Su) (k : PairNo) : (s.modSu f).sampleKept k = s.sampleKept k := rfl

@[simp] theorem State.modBrake_sampleKept (s : State) (f : Brake → Brake) (k : PairNo) : (s.modBrake f).sampleKept k = s.sampleKept k := rfl

@[simp] theorem State.modArb_sampleKept (s : State) (f : Arb → Arb) (k : PairNo) : (s.modArb f).sampleKept k = s.sampleKept k := rfl

@[simp] theorem State.modPair_sampleKept (s : State) (j : PairNo) (f : Pair → Pair) (k : PairNo) :
    (s.modPair j f).sampleKept k = s.sampleKept k := rfl

@[simp] theorem State.tickFree_sampleKept (s : State) (k : PairNo) : s.tickFree.sampleKept k = s.sampleKept k := rfl

@[simp] theorem State.raise_sampleKept (s : State) (code : Nat) (sev : Sev) (l : Option AxisNo) (args : List Word) (k : PairNo) :
    (s.raise code sev l args).sampleKept k = s.sampleKept k :=
  State.sampleKept_congr (by rw [State.raise_ident]) (by rw [State.raise_twin]) (by rw [State.raise_clk]) (by rw [State.raise_vtb]) (by rw [State.raise_ax]) k

@[simp] theorem State.bump_sampleKept (s : State) (i : Nat) (k : PairNo) : (s.bump i).sampleKept k = s.sampleKept k :=
  State.sampleKept_congr (by rw [State.bump_ident]) (by rw [State.bump_twin]) (by rw [State.bump_clk]) (by rw [State.bump_vtb]) (by rw [State.bump_ax]) k

@[simp] theorem State.push_sampleKept (s : State) (q : Fin 16) (e : QEntry) (k : PairNo) : (s.push q e).sampleKept k = s.sampleKept k :=
  State.sampleKept_congr (by rw [State.push_ident]) (by rw [State.push_twin]) (by rw [State.push_clk]) (by rw [State.push_vtb]) (by rw [State.push_ax]) k

@[simp] theorem State.deliver_sampleKept (s : State) (src : Source) (cls : BitVec 4) (slot : Slot) (k : PairNo) :
    (s.deliver src cls slot).sampleKept k = s.sampleKept k :=
  State.sampleKept_congr (by rw [State.deliver_ident]) (by rw [State.deliver_twin]) (by rw [State.deliver_clk])
    (by rw [State.deliver_vtb]) (by rw [State.deliver_ax]) k

@[simp] theorem State.setSt_sampleKept (s : State) (x : LaneSt) (k : PairNo) : (s.setSt x).sampleKept k = s.sampleKept k :=
  State.sampleKept_congr (by rw [State.setSt_ident]) (by rw [State.setSt_twin]) (by rw [State.setSt_clk]) (by rw [State.setSt_vtb]) (by rw [State.setSt_ax]) k

@[simp] theorem State.modCas_sampleKept (s : State) {l : AxisNo} {f : Cas → Cas} {k : PairNo} (hl : pairOf l = k) :
    (s.modCas l f).sampleKept k = s.sampleKept k :=
  s.modAx_sampleKept hl fun _ => rfl

@[simp] theorem State.modDel_sampleKept (s : State) {l : AxisNo} {f : Deliv → Deliv} {k : PairNo} (hl : pairOf l = k) :
    (s.modDel l f).sampleKept k = s.sampleKept k :=
  s.modAx_sampleKept hl fun _ => rfl

@[simp] theorem State.modCmp_sampleKept (s : State) {l : AxisNo} {n : Fin 4} {f : Cmp → Cmp} {k : PairNo} (hl : pairOf l = k) :
    (s.modCmp l n f).sampleKept k = s.sampleKept k :=
  s.modAx_sampleKept hl fun _ => rfl

@[simp] theorem State.modCur_sampleKept (s : State) {l : AxisNo} {f : Cur → Cur} {k : PairNo} (hl : pairOf l = k)
    (hf : ∀ c, (f c).off = c.off ∧ (f c).iu = c.iu ∧ (f c).iv = c.iv ∧ (f c).iw = c.iw ∧ (f c).calDue = c.calDue) :
    (s.modCur l f).sampleKept k = s.sampleKept k :=
  s.modAx_sampleKept hl fun a => by
    obtain ⟨h1, h2, h3, h4, h5⟩ := hf a.cur
    simp [Axis.kept, h1, h2, h3, h4, h5]

@[simp] theorem State.syncDrive_sampleKept (s : State) (k : PairNo) : s.syncDrive.sampleKept k = s.sampleKept k := by
  unfold State.syncDrive
  split <;> simp

@[simp] theorem State.axisFault_sampleKept (s : State) {l : AxisNo} (cause : BitVec 4) {k : PairNo} (hl : pairOf l = k) :
    (s.axisFault l cause).sampleKept k = s.sampleKept k := by
  unfold State.axisFault
  rw [State.syncDrive_sampleKept]
  exact s.modAx_sampleKept hl Axis.cut_kept

@[simp] theorem State.torqueOff_sampleKept (s : State) (k : PairNo) : (s.torqueOff k).sampleKept k = s.sampleKept k := by
  simp [State.torqueOff]

@[simp] theorem State.setSeq_sampleKept (s : State) (src : Source) (c : Fin 4) (q : SeqState) (k : PairNo) :
    (s.setSeq src c q).sampleKept k = s.sampleKept k := rfl

@[simp] theorem State.modOp_sampleKept (s : State) (o : AccOp) (f : AccOp → AccOp) (k : PairNo) : (s.modOp o f).sampleKept k = s.sampleKept k := rfl


@[simp] theorem State.noteLoss_sampleKept (s : State) (l : AxisNo) (cause : BitVec 4) (source : Bool) :
    (s.noteLoss l cause source).sampleKept (pairOf l) = s.sampleKept (pairOf l) := by
  simp [State.noteLoss, Axis.kept_iff]

@[simp] theorem State.encoderLoss_sampleKept (s : State) (l : AxisNo) (cause : BitVec 4) :
    (s.encoderLoss l cause).sampleKept (pairOf l) = s.sampleKept (pairOf l) := by
  simp [State.encoderLoss]

@[simp] theorem State.encoderFailed_sampleKept (s : State) (l : AxisNo) : (s.encoderFailed l).sampleKept (pairOf l) = s.sampleKept (pairOf l) := by
  simp [State.encoderFailed, Axis.kept_iff]

@[simp] theorem State.ssiTrigger_sampleKept (s : State) (p : Fin 3) (t : Ns) (k : PairNo) : (s.ssiTrigger p t).sampleKept k = s.sampleKept k := by
  simp only [State.ssiTrigger]
  split
  · exact State.bump_sampleKept _ _ _
  · rfl

@[simp] theorem State.ssiDue_sampleKept (s : State) (trig : Nat) (t : Ns) (k : PairNo) : (s.ssiDue trig t).sampleKept k = s.sampleKept k := by
  refine forFin_sampleKept (fun p x => ?_) s
  split
  · refine (State.sampleKept_congr rfl rfl rfl rfl rfl k).trans (?_ : State.sampleKept _ k = _)
    split
    · exact x.ssiTrigger_sampleKept p _ k
    · rfl
  · rfl

@[simp] theorem State.complete_sampleKept (s : State) (o : AccOp) (code : Nat) (words : List Word) (k : PairNo) :
    (s.complete o code words).sampleKept k = s.sampleKept k := by
  simp [State.complete]

@[simp] theorem State.completeIf_sampleKept (s : State) (o : Option AccOp) (code : Nat) (words : List Word) (k : PairNo) :
    (s.completeIf o code words).sampleKept k = s.sampleKept k := by
  unfold State.completeIf
  split <;> simp

@[simp] theorem State.profDone_sampleKept (s : State) (l : AxisNo) : (s.profDone l).sampleKept (pairOf l) = s.sampleKept (pairOf l) := by
  simp only [State.profDone]
  split <;> simp [Axis.kept_iff]

@[simp] theorem State.stopAxis_sampleKept (s : State) (l : AxisNo) (t : Ns) (d : Q) (code : BitVec 4) :
    (s.stopAxis l t d code).1.sampleKept (pairOf l) = s.sampleKept (pairOf l) := by
  simp [State.stopAxis, Axis.kept_iff]

@[simp] theorem State.adoptPlan_sampleKept (s : State) (l : AxisNo) (t : Ns) (target : Int) :
    (s.adoptPlan l t target).sampleKept (pairOf l) = s.sampleKept (pairOf l) := by
  simp only [State.adoptPlan]
  split
  · simp [Axis.kept_iff]
  · split <;> simp [Axis.kept_iff]

@[simp] theorem State.answerLate_sampleKept (s : State) (r : Req) (opc : BitVec 16) (code : Nat) (k : PairNo) :
    (s.answerLate r opc code).sampleKept k = s.sampleKept k := by
  unfold State.answerLate
  split
  · split <;> simp
  · simp

@[simp] theorem State.judgeClamp_sampleKept (s : State) (l : AxisNo) (side : Option Bool) :
    (s.judgeClamp l side).sampleKept (pairOf l) = s.sampleKept (pairOf l) := by
  unfold State.judgeClamp
  split <;> simp [Axis.kept_iff]

@[simp] theorem State.takeTag_sampleKept (s : State) (l : AxisNo) (replan : Bool) :
    (s.takeTag l replan).sampleKept (pairOf l) = s.sampleKept (pairOf l) := by
  unfold State.takeTag
  split <;> simp [Axis.kept_iff]

@[simp] theorem State.profEval_sampleKept (s : State) (l : AxisNo) (t : Ns) (wAct : Q) :
    (s.profEval l t wAct).sampleKept (pairOf l) = s.sampleKept (pairOf l) := by
  simp only [State.profEval]
  split <;> simp [Axis.kept_iff]

@[simp] theorem State.profAbort_sampleKept (s : State) (l : AxisNo) (t : Ns) (reqs : List Req) :
    (s.profAbort l t reqs).sampleKept (pairOf l) = s.sampleKept (pairOf l) := by
  simp [State.profAbort]

@[simp] theorem State.profStep_sampleKept (s : State) (l : AxisNo) (t : Ns) (wAct : Q) :
    (s.profStep l t wAct).sampleKept (pairOf l) = s.sampleKept (pairOf l) := by
  simp [State.profStep, Axis.kept_iff]

@[simp] theorem State.missedCheck_sampleKept (s : State) (l : AxisNo) (n : Fin 4) (dir p : Int) :
    (s.missedCheck l n dir p).sampleKept (pairOf l) = s.sampleKept (pairOf l) := by
  simp [State.missedCheck]

@[simp] theorem State.endFlag_sampleKept (s : State) (l : AxisNo) (up : Bool) : (s.endFlag l up).sampleKept (pairOf l) = s.sampleKept (pairOf l) := by
  simp [State.endFlag, Axis.kept_iff]

@[simp] theorem State.endStop_sampleKept (s : State) (l : AxisNo) (up : Bool) : (s.endStop l up).sampleKept (pairOf l) = s.sampleKept (pairOf l) := by
  simp [State.endStop, Axis.kept_iff]

@[simp] theorem State.fireCmp_sampleKept (s : State) (l : AxisNo) (n : Fin 4) (p0 p1 : Int) (t0 t1 : Ns) :
    (s.fireCmp l n p0 p1 t0 t1).sampleKept (pairOf l) = s.sampleKept (pairOf l) := by
  simp [State.fireCmp]

@[simp] theorem State.compareSample_sampleKept (s : State) (l : AxisNo) (p0 p1 : Int) (t0 t1 : Ns) (dir : Int) (set : Bool) :
    (s.compareSample l p0 p1 t0 t1 dir set).sampleKept (pairOf l) = s.sampleKept (pairOf l) := by
  unfold State.compareSample
  refine (State.modAx_sampleKept _ rfl ?_).trans (forFin_sampleKept (fun n x => ?_) s)
  · exact fun _ => rfl
  · simp only []
    split <;> simp

@[simp] theorem State.faultWith_sampleKept (s : State) (l : AxisNo) (cause : BitVec 4) (code : Nat) (args : List Word) :
    (s.faultWith l cause code args).sampleKept (pairOf l) = s.sampleKept (pairOf l) := by
  simp [State.faultWith]

@[simp] theorem State.chopCount_sampleKept (s : State) (k : PairNo) : (s.chopCount k).sampleKept k = s.sampleKept k := by
  simp [State.chopCount]

@[simp] theorem State.chopFault_sampleKept (s : State) (k : PairNo) : (s.chopFault k).sampleKept k = s.sampleKept k := by
  simp [State.chopFault]

@[simp] theorem State.linkSample_sampleKept (s : State) (k : PairNo) (v : Q) : (s.linkSample k v).sampleKept k = s.sampleKept k := by
  simp [State.linkSample]

@[simp] theorem State.stageStep_sampleKept (s : State) (k : PairNo) (i : Fin 3) : (s.stageStep k i).sampleKept k = s.sampleKept k := by
  simp [State.stageStep]

@[simp] theorem State.stages_sampleKept (s : State) (k : PairNo) : (s.stages k).sampleKept k = s.sampleKept k := by
  simp [State.stages]

@[simp] theorem State.stuckInput_sampleKept (s : State) (l : AxisNo) (i : Fin 6) :
    (s.stuckInput l i).sampleKept (pairOf l) = s.sampleKept (pairOf l) := by
  simp [State.stuckInput]

@[simp] theorem State.pulseCurrent_sampleKept (s : State) (l : AxisNo) (t : Ns) :
    (s.pulseCurrent l t).sampleKept (pairOf l) = s.sampleKept (pairOf l) := by
  unfold State.pulseCurrent
  split <;> simp [Axis.kept_iff]

@[simp] theorem State.sumFault_sampleKept (s : State) (l : AxisNo) : (s.sumFault l).sampleKept (pairOf l) = s.sampleKept (pairOf l) := by
  simp [State.sumFault, Axis.kept_iff]

@[simp] theorem State.setMode_sampleKept (s : State) (l : AxisNo) (m : CMode) : (s.setMode l m).sampleKept (pairOf l) = s.sampleKept (pairOf l) := by
  unfold State.setMode
  split
  · rfl
  · exact s.modAx_sampleKept rfl fun a => a.setMode_kept m

@[simp] theorem State.enterLoops_sampleKept (s : State) (l : AxisNo) : (s.enterLoops l).sampleKept (pairOf l) = s.sampleKept (pairOf l) := by
  simp [State.enterLoops, Axis.kept_iff]

@[simp] theorem State.enterStepped_sampleKept (s : State) (l : AxisNo) (theta speed i : Q) :
    (s.enterStepped l theta speed i).sampleKept (pairOf l) = s.sampleKept (pairOf l) := by
  simp [State.enterStepped, Axis.kept_iff]

@[simp] theorem State.loseSensor_sampleKept (s : State) (l : AxisNo) (dt : Q) :
    (s.loseSensor l dt).sampleKept (pairOf l) = s.sampleKept (pairOf l) := by
  simp [State.loseSensor]

@[simp] theorem State.startRest_sampleKept (s : State) (l : AxisNo) : (s.startRest l).sampleKept (pairOf l) = s.sampleKept (pairOf l) := by
  simp [State.startRest, Axis.kept_iff]

@[simp] theorem State.startProbe_sampleKept (s : State) (l : AxisNo) : (s.startProbe l).sampleKept (pairOf l) = s.sampleKept (pairOf l) := by
  simp [State.startProbe, Axis.kept_iff]

@[simp] theorem State.startCommutation_sampleKept (s : State) (l : AxisNo) :
    (s.startCommutation l).sampleKept (pairOf l) = s.sampleKept (pairOf l) := by
  simp [State.startCommutation]

@[simp] theorem State.wantMode_sampleKept (s : State) (l : AxisNo) (m : ModeReq) :
    (s.wantMode l m).sampleKept (pairOf l) = s.sampleKept (pairOf l) := by
  simp [State.wantMode, Axis.kept_iff]

@[simp] theorem State.startFailed_sampleKept (s : State) (l : AxisNo) (cmode : Word) :
    (s.startFailed l cmode).sampleKept (pairOf l) = s.sampleKept (pairOf l) := by
  simp [State.startFailed]

@[simp] theorem State.setProv_sampleKept (s : State) (l : AxisNo) (theta : Q) :
    (s.setProv l theta).sampleKept (pairOf l) = s.sampleKept (pairOf l) := by
  simp [State.setProv, Axis.kept_iff]

@[simp] theorem State.startDone_sampleKept (s : State) (l : AxisNo) (theta olTheta speed : Q) :
    (s.startDone l theta olTheta speed).sampleKept (pairOf l) = s.sampleKept (pairOf l) := by
  simp [State.startDone]

@[simp] theorem State.satDone_sampleKept (s : State) (l : AxisNo) : (s.satDone l).sampleKept (pairOf l) = s.sampleKept (pairOf l) := by
  simp [State.satDone, Axis.kept_iff]

@[simp] theorem State.probeDone_sampleKept (s : State) (l : AxisNo) : (s.probeDone l).sampleKept (pairOf l) = s.sampleKept (pairOf l) := by
  simp only [State.probeDone]
  split <;> simp

@[simp] theorem State.alignFailed_sampleKept (s : State) (l : AxisNo) : (s.alignFailed l).sampleKept (pairOf l) = s.sampleKept (pairOf l) := by
  simp [State.alignFailed, Axis.kept_iff]

@[simp] theorem State.applyMode_sampleKept (s : State) (l : AxisNo) (inst : Ns) (dt : Q) :
    (s.applyMode l inst dt).sampleKept (pairOf l) = s.sampleKept (pairOf l) := by
  simp only [State.applyMode]
  split <;> simp [Axis.kept_iff]

@[simp] theorem State.catchBraking_sampleKept (s : State) (l : AxisNo) : (s.catchBraking l).sampleKept (pairOf l) = s.sampleKept (pairOf l) := by
  simp [State.catchBraking, Axis.kept_iff]

@[simp] theorem State.modeChanges_sampleKept (s : State) (l : AxisNo) (inst : Ns) (dt : Q) :
    (s.modeChanges l inst dt).sampleKept (pairOf l) = s.sampleKept (pairOf l) := by
  simp [State.modeChanges, Axis.kept_iff]

@[simp] theorem State.advanceMode_sampleKept (s : State) (l : AxisNo) (dt : Q) :
    (s.advanceMode l dt).sampleKept (pairOf l) = s.sampleKept (pairOf l) := by
  simp only [State.advanceMode]
  split <;> simp [Axis.kept_iff]

@[simp] theorem State.commutate_sampleKept (s : State) (l : AxisNo) (mov : Word) (inst : Ns) (dt : Q) :
    (s.commutate l mov inst dt).sampleKept (pairOf l) = s.sampleKept (pairOf l) := by
  simp only [State.commutate]
  split <;> simp [Axis.kept_iff]

@[simp] theorem State.swapWin_sampleKept (s : State) (l : AxisNo) : (s.swapWin l).sampleKept (pairOf l) = s.sampleKept (pairOf l) := by
  simp [State.swapWin, Axis.kept_iff]

@[simp] theorem State.changeLoop_sampleKept (s : State) (l : AxisNo) (n : Nat) :
    (s.changeLoop l n).sampleKept (pairOf l) = s.sampleKept (pairOf l) := by
  simp [State.changeLoop, Axis.kept_iff]

@[simp] theorem State.posLoop_sampleKept (s : State) (l : AxisNo) (inst : Ns) :
    (s.posLoop l inst).sampleKept (pairOf l) = s.sampleKept (pairOf l) := by
  simp [State.posLoop]

@[simp] theorem State.forceLoop_sampleKept (s : State) (l : AxisNo) (inst : Ns) :
    (s.forceLoop l inst).sampleKept (pairOf l) = s.sampleKept (pairOf l) := by
  simp [State.forceLoop]

@[simp] theorem State.posChecks_sampleKept (s : State) (l : AxisNo) : (s.posChecks l).sampleKept (pairOf l) = s.sampleKept (pairOf l) := by
  simp [State.posChecks, Axis.kept_iff]

@[simp] theorem State.followError_sampleKept (s : State) (l : AxisNo) : (s.followError l).sampleKept (pairOf l) = s.sampleKept (pairOf l) := by
  simp [State.followError]

@[simp] theorem State.posTick_sampleKept (s : State) (l : AxisNo) (inst : Ns) :
    (s.posTick l inst).sampleKept (pairOf l) = s.sampleKept (pairOf l) := by
  simp [State.posTick, Axis.kept_iff]

@[simp] theorem State.ssTick_sampleKept (s : State) (l : AxisNo) : (s.ssTick l).sampleKept (pairOf l) = s.sampleKept (pairOf l) := by
  simp [State.ssTick, Axis.kept_iff]

@[simp] theorem State.ssRemove_sampleKept (s : State) (l : AxisNo) : (s.ssRemove l).sampleKept (pairOf l) = s.sampleKept (pairOf l) := by
  simp [State.ssRemove, Axis.kept_iff]

@[simp] theorem State.windowCheck_sampleKept (s : State) (l : AxisNo) : (s.windowCheck l).sampleKept (pairOf l) = s.sampleKept (pairOf l) := by
  simp only [State.windowCheck]
  split
  · simp
  · split <;> simp [Axis.kept_iff]

@[simp] theorem State.windowTick_sampleKept (s : State) (l : AxisNo) (inst : Ns) (w : Q) :
    (s.windowTick l inst w).sampleKept (pairOf l) = s.sampleKept (pairOf l) := by
  unfold State.windowTick
  split <;> simp [Axis.kept_iff]

@[simp] theorem State.speedLoop_sampleKept (s : State) (l : AxisNo) (dt : Q) :
    (s.speedLoop l dt).sampleKept (pairOf l) = s.sampleKept (pairOf l) := by
  simp [State.speedLoop, Axis.kept_iff]

@[simp] theorem State.loopZero_sampleKept (s : State) (l : AxisNo) : (s.loopZero l).sampleKept (pairOf l) = s.sampleKept (pairOf l) := by
  simp [State.loopZero, Axis.kept_iff]

@[simp] theorem State.learnContact_sampleKept (s : State) (l : AxisNo) : (s.learnContact l).sampleKept (pairOf l) = s.sampleKept (pairOf l) := by
  unfold State.learnContact
  split <;> simp

@[simp] theorem State.cycleSums_sampleKept (s : State) (l : AxisNo) : (s.cycleSums l).sampleKept (pairOf l) = s.sampleKept (pairOf l) := by
  simp [State.cycleSums]

@[simp] theorem State.profMirror_sampleKept (s : State) (l : AxisNo) : (s.profMirror l).sampleKept (pairOf l) = s.sampleKept (pairOf l) := by
  have h : ∀ x : State, x.sampleKept (pairOf l) = s.sampleKept (pairOf l) → State.sampleKept { s with ax := x.ax } (pairOf l) = s.sampleKept (pairOf l) :=
    fun x hx => Prod.ext rfl (Prod.ext rfl (Prod.ext rfl (Prod.ext rfl (congrArg (fun v => v.2.2.2.2) hx))))
  have h' : ∀ x : State, x.sampleKept (pairOf l) = s.sampleKept (pairOf l) →
      State.sampleKept { s.modAx l (fun a => { a with
        mir := { a.mir with loadG := false }
        prof := { a.prof with p := int64 (s.mirWord l 16) (s.mirWord l 17) + ofFixU 32 (s.mirWord l 18), v := ofFixS 16 (s.mirWord l 19),
                              a := ofFixS 8 (s.mirWord l 20), enter := false, done := (s.mirWord l 2).getLsbD 14,
                              abort := (s.mirWord l 2).getLsbD 6 } }) with ax := x.ax } (pairOf l) = s.sampleKept (pairOf l) := h
  unfold State.profMirror
  refine h' _ ?_
  simp [Axis.kept_iff]

@[simp] theorem State.speedMeasure_sampleKept (s : State) (l : AxisNo) (inst : Ns) :
    (s.speedMeasure l inst).sampleKept (pairOf l) = s.sampleKept (pairOf l) := by
  simp [State.speedMeasure, Axis.kept_iff]

@[simp] theorem State.speedTick_sampleKept (s : State) (l : AxisNo) (inst : Ns) :
    (s.speedTick l inst).sampleKept (pairOf l) = s.sampleKept (pairOf l) := by
  simp [State.speedTick, Axis.kept_iff]

@[simp] theorem State.modEng_sampleKept (s : State) (l : AxisNo) (f : Engine → Engine) :
    (s.modEng (.loop l) f).sampleKept (pairOf l) = s.sampleKept (pairOf l) :=
  s.modAx_sampleKept rfl fun _ => rfl

@[simp] theorem State.trapped_sampleKept (s : State) (l : AxisNo) (pc : BitVec 13) (cause : Nat) :
    (s.trapped (.loop l) pc cause).sampleKept (pairOf l) = s.sampleKept (pairOf l) := by
  simp [State.trapped]

@[simp] theorem State.issue_sampleKept (s : State) (l : AxisNo) (m : Micro) :
    (s.issue (.loop l) m).sampleKept (pairOf l) = s.sampleKept (pairOf l) := by
  simp only [State.issue]
  split <;> simp

/-- Only the signal unit delivers (R181). -/
theorem decodeWord_loop (l : AxisNo) (w : Word) (j : AxisNo) (p : BitVec 3) (k : BitVec 4) : decodeWord (.loop l) w ≠ some (.deliver j p k) := by
  unfold decodeWord decodeControl decodeMul decodeAc decodeMove
  intro h
  simp only [] at h
  repeat' split at h
  all_goals simp_all

@[simp] theorem State.runProg_sampleKept (s : State) (l : AxisNo) (n : Nat) :
    (s.runProg (.loop l) n).sampleKept (pairOf l) = s.sampleKept (pairOf l) := by
  induction n generalizing s with
  | zero => rfl
  | succ n ih =>
    unfold State.runProg
    split
    · rfl
    · split
      · simp [ih]
      · next h => exact absurd h (decodeWord_loop _ _ _ _ _)
      · simp

@[simp] theorem State.staleReact_sampleKept (s : State) (l : AxisNo) : (s.staleReact l).sampleKept (pairOf l) = s.sampleKept (pairOf l) := by
  simp [State.staleReact]

@[simp] theorem State.takeResults_sampleKept (s : State) (l : AxisNo) (tick : Bool) :
    (s.takeResults l tick).sampleKept (pairOf l) = s.sampleKept (pairOf l) := by
  simp [State.takeResults]

@[simp] theorem State.posUpdate_sampleKept (s : State) (l : AxisNo) (mov : Word) (dRev : Q) :
    (s.posUpdate l mov dRev).1.sampleKept (pairOf l) = s.sampleKept (pairOf l) := by
  simp [State.posUpdate, Axis.kept_iff]

@[simp] theorem State.noteCmp_sampleKept (s : State) (l : AxisNo) (was : List (Int × Word)) :
    (s.noteCmp l was).sampleKept (pairOf l) = s.sampleKept (pairOf l) := by
  simp [State.noteCmp, Axis.kept_iff]

@[simp] theorem State.compareStep_sampleKept (s : State) (l : AxisNo) (t0 t1 : Ns) (dir : Int) (set : Bool) :
    (s.compareStep l t0 t1 dir set).sampleKept (pairOf l) = s.sampleKept (pairOf l) := by
  simp [State.compareStep]

@[simp] theorem State.takeover_sampleKept (s : State) (l : AxisNo) (sp : Bool) :
    (s.takeover l sp).sampleKept (pairOf l) = s.sampleKept (pairOf l) := by
  simp only [State.takeover]
  split
  · simp [Axis.kept_iff]
  · split <;> simp [Axis.kept_iff]

@[simp] theorem State.enterCurrent_sampleKept (s : State) (l : AxisNo) : (s.enterCurrent l).sampleKept (pairOf l) = s.sampleKept (pairOf l) := by
  simp [State.enterCurrent, Axis.kept_iff]

@[simp] theorem State.currentLoop_sampleKept (s : State) (l : AxisNo) (r : Refs) :
    (s.currentLoop l r).sampleKept (pairOf l) = s.sampleKept (pairOf l) := by
  simp [State.currentLoop, Axis.kept_iff]

@[simp] theorem State.modelCheck_sampleKept (s : State) (l : AxisNo) : (s.modelCheck l).sampleKept (pairOf l) = s.sampleKept (pairOf l) := by
  simp [State.modelCheck]

@[simp] theorem State.modelResid_sampleKept (s : State) (l : AxisNo) : (s.modelResid l).sampleKept (pairOf l) = s.sampleKept (pairOf l) := by
  simp [State.modelResid]

@[simp] theorem State.modelFailed_sampleKept (s : State) (l : AxisNo) : (s.modelFailed l).sampleKept (pairOf l) = s.sampleKept (pairOf l) := by
  simp [State.modelFailed]

@[simp] theorem State.attached_sampleKept (s : State) (l : AxisNo) (sp ps : Bool) :
    (s.attached l sp ps).sampleKept (pairOf l) = s.sampleKept (pairOf l) := by
  simp [State.attached]

@[simp] theorem State.tickEnd_sampleKept (s : State) (l : AxisNo) : (s.tickEnd l).sampleKept (pairOf l) = s.sampleKept (pairOf l) := by
  simp [State.tickEnd, Axis.kept_iff]

@[simp] theorem State.calSample_sampleKept (s : State) (l : AxisNo) : (s.calSample l).sampleKept (pairOf l) = s.sampleKept (pairOf l) := by
  simp [State.calSample]

@[simp] theorem State.sumMeans_sampleKept (s : State) (l : AxisNo) : (s.sumMeans l).sampleKept (pairOf l) = s.sampleKept (pairOf l) := by
  unfold State.sumMeans
  refine s.modCur_sampleKept rfl fun c => ?_
  split <;> exact ⟨rfl, rfl, rfl, rfl, rfl⟩

@[simp] theorem State.loops_sampleKept (s : State) (l : AxisNo) (sp ps : Bool) :
    (s.loops l sp ps).sampleKept (pairOf l) = s.sampleKept (pairOf l) := by
  simp only [State.loops]
  split <;> simp

end Sys2Proof.Machine

namespace Sys2Proof.Machine

/-! ## The NOW-class values of an axis (R66, R414) -/

/-- Cells copied from another store: the listed ones read as there, the others as before. -/
theorem read_foldl_copy (d g : Nat → Word) (ps : List Nat) (c : Cells) (hc : Cells.wf d c = true) (a : Nat) :
    Cells.read d (ps.foldl (fun c p => Cells.write d c p (g p)) c) a = if a ∈ ps then g a else Cells.read d c a := by
  induction ps generalizing c with
  | nil => simp
  | cons p ps ih =>
    rw [List.foldl_cons, ih _ (Cells.wf_write _ _ _ _ hc), Cells.read_write _ _ _ _ _ hc]
    by_cases h : a = p
    · subst h
      simp
    · simp [h]

/-- The effective value of each parameter once the values that wait for an axis have taken effect. -/
theorem State.takeNow_read (s : State) (l : AxisNo) (h : Cells.wf storeD s.par.eff = true) (pid : Nat) :
    Cells.read storeD (s.takeNow l).par.eff pid =
      if pid ∈ s.par.posted ∧ pid / 256 % 16 = l.val then Cells.read storeD s.par.stored pid else Cells.read storeD s.par.eff pid := by
  unfold State.takeNow
  simp only []
  split
  · next hm =>
    rw [if_neg]
    rintro ⟨hp, hl⟩
    simp only [List.isEmpty_iff, List.filter_eq_nil_iff, beq_iff_eq] at hm
    exact hm _ hp hl
  · refine (read_foldl_copy storeD (Cells.read storeD s.par.stored) _ _ h pid).trans ?_
    simp only [List.mem_filter, beq_iff_eq]

theorem State.takeNow_eff {s : State} {l : AxisNo} (hc : s.canonical = true) {pid : Nat} :
    (pid / 256 % 16 = l.val → pid ∈ s.par.posted → (s.takeNow l).eff pid = (s.takeNow l).stored pid) ∧
    ((pid / 256 % 16 ≠ l.val ∨ pid ∉ s.par.posted) → (s.takeNow l).eff pid = s.eff pid) := by
  rw [State.canonical_parts] at hc
  obtain ⟨⟨-, he⟩, -⟩ := hc
  have h := s.takeNow_read l he pid
  obtain ⟨c, ps, hq⟩ := s.takeNow_eq l
  have hv : ∀ w, (s.takeNow l).parVal w pid = s.parVal w pid := fun w => by
    rw [hq]
    rfl
  have hs : (s.takeNow l).par.stored = s.par.stored := by rw [hq]
  refine ⟨fun hl hp => ?_, fun hn => ?_⟩
  · unfold State.eff State.stored
    rw [h, if_pos ⟨hp, hl⟩, hs]
  · unfold State.eff
    rw [h, if_neg fun hx => hn.elim (fun hl => hl hx.2) fun hp => hp hx.1, hv]

/-! ## What the parts of a sample that measure keep -/

/-- What every part of a sample but its schedule keeps: the claim, the clock, the axes of the other pairs, and the schedules of the pair's. -/
def State.sampleFrame (k : PairNo) (s t : State) : Prop :=
  t.ident = s.ident ∧ t.twin.claim = s.twin.claim ∧ t.clk = s.clk ∧ t.vtb = s.vtb ∧ (∀ m : AxisNo, pairOf m ≠ k → t.ax[m] = s.ax[m]) ∧
    ∀ m : AxisNo, pairOf m = k → t.ax[m].sch.bare = s.ax[m].sch.bare

theorem State.sampleFrame_trans {k : PairNo} {s t u : State} (h : State.sampleFrame k s t) (h' : State.sampleFrame k t u) : State.sampleFrame k s u := by
  obtain ⟨h0, h1, h2, h3, h4, h5⟩ := h
  obtain ⟨g0, g1, g2, g3, g4, g5⟩ := h'
  exact ⟨g0.trans h0, g1.trans h1, g2.trans h2, g3.trans h3, fun m hm => (g4 m hm).trans (h4 m hm), fun m hm => (g5 m hm).trans (h5 m hm)⟩

theorem State.sampleFrame_refl (k : PairNo) (s : State) : State.sampleFrame k s s := ⟨rfl, rfl, rfl, rfl, fun _ _ => rfl, fun _ _ => rfl⟩

/-- What `sampleKept` says of an axis of the pair. -/
theorem State.sampleKept_kept {k : PairNo} {s t : State} (h : t.sampleKept k = s.sampleKept k) {m : AxisNo} (hm : pairOf m = k) :
    t.ax[m].kept = s.ax[m].kept := by
  have := congrFun (congrArg (fun v => v.2.2.2.2) h) m
  simpa [State.sampleKept, hm] using this

theorem State.sampleKept_frame {k : PairNo} {s t : State} (h : t.sampleKept k = s.sampleKept k) : State.sampleFrame k s t := by
  refine ⟨congrArg (fun v => v.1) h, congrArg (fun v => v.2.1) h, congrArg (fun v => v.2.2.1) h, congrArg (fun v => v.2.2.2.1) h,
    fun m hm => ?_, fun m hm => ?_⟩
  · have := congrFun (congrArg (fun v => v.2.2.2.2) h) m
    simpa [State.sampleKept, hm] using this
  · exact congrArg (fun v => v.1) (State.sampleKept_kept h hm)

/-- A change of an axis that keeps its schedule. -/
theorem State.modAx_sampleFrame (s : State) {l : AxisNo} {f : Axis → Axis} (hf : ∀ a, (f a).sch = a.sch) :
    State.sampleFrame (pairOf l) s (s.modAx l f) := by
  refine ⟨rfl, rfl, rfl, rfl, fun m hm => vmod_ne _ _ _ _ fun h => hm (congrArg pairOf h), fun m _ => ?_⟩
  by_cases h : m = l
  · subst h
    rw [State.modAx_ax, vmod_same, hf]
  · rw [State.modAx_ax, vmod_ne _ _ _ _ h]

theorem State.modCur_sampleFrame (s : State) (l : AxisNo) (f : Cur → Cur) : State.sampleFrame (pairOf l) s (s.modCur l f) :=
  s.modAx_sampleFrame fun _ => rfl

/-- The end of a calibration. -/
theorem State.calEnd_sampleFrame (s : State) (l : AxisNo) : State.sampleFrame (pairOf l) s (s.calEnd l) := by
  have ready : ∀ t : State, State.sampleFrame (pairOf l) t
      (t.modAx l fun a => if a.en then { a with pwm := { a.pwm with gateReq := some true } } else a) := fun t =>
    t.modAx_sampleFrame fun a => by split <;> rfl
  unfold State.calEnd
  simp only []
  split
  · exact State.sampleFrame_refl _ _
  · split
    · exact State.sampleFrame_trans (State.sampleFrame_trans (s.modCur_sampleFrame l _) (ready _))
        (State.sampleKept_frame (State.raise_sampleKept _ _ _ _ _ _))
    · split
      · exact State.sampleFrame_refl _ _
      · split
        · exact State.sampleFrame_trans (s.modCur_sampleFrame l _) (State.sampleKept_frame (State.faultWith_sampleKept _ _ _ _ _))
        · exact State.sampleFrame_trans (s.modCur_sampleFrame l _) (ready _)

theorem State.calEnd_idle {s : State} {l : AxisNo} (h : s.ax[l].cur.calDue = false) : s.calEnd l = s := by
  refine if_pos ?_
  rw [h]
  rfl

/-- The reactions due at the start of a sample, before the end of a calibration. -/
theorem State.dueAxis_eq (s : State) (l : AxisNo) : ∃ t : State, s.dueAxis l = ((t.calEnd l).satDone l).probeDone l ∧
    t.sampleKept (pairOf l) = s.sampleKept (pairOf l) :=
  ⟨(((((((s.staleReact l).sumFault l).modelResid l).modelFailed l).encoderFailed l).ssRemove l).stages (pairOf l)), rfl, by simp⟩

theorem State.dueAxis_sampleFrame (s : State) (l : AxisNo) : State.sampleFrame (pairOf l) s (s.dueAxis l) := by
  obtain ⟨t, he, hk⟩ := s.dueAxis_eq l
  rw [he]
  exact State.sampleFrame_trans (State.sampleKept_frame hk) (State.sampleFrame_trans (t.calEnd_sampleFrame l)
    (State.sampleKept_frame (by simp)))

/-- Without a calibration the offsets stay. -/
theorem State.dueAxis_off {s : State} {l : AxisNo} (h : s.ax[l].cur.calDue = false) : (s.dueAxis l).ax[l].cur.off = s.ax[l].cur.off := by
  obtain ⟨t, he, hk⟩ := s.dueAxis_eq l
  have hc : t.ax[l].cur.calDue = false := (congrArg (fun v => v.2.2.2.2.2.2) (State.sampleKept_kept hk rfl)).trans h
  rw [he, State.calEnd_idle hc]
  refine congrArg (fun v => v.2.2.1) (State.sampleKept_kept (k := pairOf l) (s := s) ?_ rfl)
  simp [hk]

/-- A modulator clock changes of what is kept the filters of its axis only. -/
theorem State.dsmClock_sampleKept (s : State) (l : AxisNo) (t : Ns) (x : DsBits) :
    (s.dsmClock l t x).sampleKept (pairOf l) = (s.modAx l fun a => { a with dsm := a.dsm.step (s.pq P.curIoc l) x }).sampleKept (pairOf l) := by
  simp [State.dsmClock]

/-- What the filters of a sample keep: its frame, and the offsets and the sums of the currents. -/
theorem State.feed_sampleFrame (s : State) (l : AxisNo) (bits : List DsBits) (now : Ns) :
    State.sampleFrame (pairOf l) s (s.feed l bits now) ∧ (s.feed l bits now).ax[l].cur.off = s.ax[l].cur.off := by
  have one : ∀ (u : State) (f : Dsm → Dsm), State.sampleFrame (pairOf l) u (u.modAx l fun a => { a with dsm := f a.dsm }) ∧
      (u.modAx l fun a => { a with dsm := f a.dsm }).ax[l].cur.off = u.ax[l].cur.off := fun u f =>
    ⟨u.modAx_sampleFrame fun _ => rfl, by rw [State.modAx_ax, vmod_same]⟩
  have step : ∀ (u : State) (t : Ns) (x : DsBits), State.sampleFrame (pairOf l) u (u.dsmClock l t x) ∧
      (u.dsmClock l t x).ax[l].cur.off = u.ax[l].cur.off := fun u t x => by
    have hk := u.dsmClock_sampleKept l t x
    obtain ⟨hf, ho⟩ := one u fun d => d.step (u.pq P.curIoc l) x
    exact ⟨State.sampleFrame_trans hf (State.sampleKept_frame hk), (congrArg (fun v => v.2.2.1) (State.sampleKept_kept hk rfl)).trans ho⟩
  have all : ∀ (xs : List (DsBits × Nat)) (g : Nat → Ns), State.sampleFrame (pairOf l) s (xs.foldl (fun s x => s.dsmClock l (g x.2) x.1) s) ∧
      (xs.foldl (fun s x => s.dsmClock l (g x.2) x.1) s).ax[l].cur.off = s.ax[l].cur.off := fun xs g =>
    List.foldlRecOn (motive := fun t : State => State.sampleFrame (pairOf l) s t ∧ t.ax[l].cur.off = s.ax[l].cur.off) xs _
      ⟨State.sampleFrame_refl _ _, rfl⟩ fun t h x _ =>
        ⟨State.sampleFrame_trans h.1 (step t _ _).1, (step t _ _).2.trans h.2⟩
  obtain ⟨hf, ho⟩ := all bits.zipIdx fun i => now - 50 * (bits.length - 1 - i)
  obtain ⟨hf', ho'⟩ := one _ fun d => { d with ch := d.ch.map fun f => { f with hist := f.hist.take 769 } }
  exact ⟨State.sampleFrame_trans hf hf', ho'.trans ho⟩

/-! ## The schedule and the currents of a sample -/

/-- A number in effect, by the parameters and the identity of the lane. -/
theorem State.pn_congr {s t : State} (hp : t.par = s.par) (hi : t.ident = s.ident) (p : PSpec) (l i : Nat) : t.pn p l i = s.pn p l i := by
  unfold State.pn State.pw State.eff State.parVal
  rw [hp, hi]

theorem State.pq_congr {s t : State} (hp : t.par = s.par) (hi : t.ident = s.ident) (p : PSpec) (l i : Nat) : t.pq p l i = s.pq p l i := by
  unfold State.pq State.pw State.eff State.parVal
  rw [hp, hi]

theorem State.gtAt_congr {s t : State} (hp : t.par = s.par) (hi : t.ident = s.ident) (hc : t.clk = s.clk) (hv : t.vtb = s.vtb) (x : Ns) :
    t.gtAt x = s.gtAt x := by
  unfold State.gtAt State.nitOffset State.nitNs State.vtbCycleNs
  rw [hc, hv, State.pn_congr hp hi]

theorem State.tc_congr {s t : State} (hp : t.par = s.par) (hi : t.ident = s.ident) (l : AxisNo) : t.tc l = s.tc l := by
  simp only [State.tc, State.pn_congr hp hi]

theorem State.groupDelay_congr {s t : State} (hp : t.par = s.par) (hi : t.ident = s.ident) (l : AxisNo) : t.groupDelay l = s.groupDelay l := by
  simp only [State.groupDelay, State.pn_congr hp hi]

theorem State.indexAt_congr {s t : State} (hp : t.par = s.par) (hi : t.ident = s.ident) (hc : t.clk = s.clk) (hv : t.vtb = s.vtb) (l : AxisNo)
    (x : Ns) : t.indexAt l x = s.indexAt l x := by
  simp only [State.indexAt, State.tc_congr hp hi, State.pn_congr hp hi, State.gtAt_congr hp hi hc hv]

theorem State.phaseRaw_congr {s t : State} (hp : t.par = s.par) (hi : t.ident = s.ident) {l : AxisNo} (hd : t.ax[l].dsm = s.ax[l].dsm) (i : Fin 3) :
    t.phaseRaw l i = s.phaseRaw l i := by
  simp only [State.phaseRaw, State.filterOut, State.decOf, State.pn_congr hp hi, State.pq_congr hp hi, hd]

/-- The schedule of the axis `l` once the sample of a load point has its place. -/
def State.scheduled (s : State) (l : AxisNo) (pt : Nat) (nom : Ns) (x : SampleIn) : Sched :=
  { s.ax[l].sch with
    index := s.indexAt l nom, point := pt, due := s.ax[l].sch.due.tail, started := true, start := s.sampleStart l nom
    written := s.sampleStart l nom + x.duty, halt := s.sampleStart l nom + max x.duty x.work, inst := s.sampleStart l nom - s.groupDelay l
    dt := if s.ax[l].sch.started && decide (s.ax[l].sch.inst < s.sampleStart l nom - s.groupDelay l) then
        secs (s.sampleStart l nom - s.groupDelay l) s.ax[l].sch.inst else s.tcQ l
    lagNs := s.sampleStart l nom - (nom + s.groupDelay l), late := decide (0 < s.sampleStart l nom - (nom + s.groupDelay l))
    lag := decide (0 < s.sampleStart l nom - (nom + s.groupDelay l)) &&
      (s.ax[l].sch.lag || decide (2 * s.tc l < s.sampleStart l nom - (nom + s.groupDelay l))) }

/-- The place of a sample: of what is kept it changes the time and the schedule of its axis. -/
theorem State.schedule_sampleKept (s : State) (l : AxisNo) (pt : Nat) (nom : Ns) (x : SampleIn) :
    (s.schedule l pt nom x).sampleKept (pairOf l) =
      ((s.at (s.sampleStart l nom)).modAx l fun a => { a with sch := s.scheduled l pt nom x }).sampleKept (pairOf l) := by
  have h : ∀ u : State, u.ident = s.ident → u.twin = s.twin → u.clk = (s.at (s.sampleStart l nom)).clk →
      u.vtb = s.vtb → u.ax = s.ax → ∀ f : Axis → Axis,
      f s.ax[l] = { s.ax[l] with sch := s.scheduled l pt nom x } → (u.modAx l f).sampleKept (pairOf l) =
        ((s.at (s.sampleStart l nom)).modAx l fun a => { a with sch := s.scheduled l pt nom x }).sampleKept (pairOf l) :=
    fun u h1 h2 h3 h4 h5 f hf => by
      refine State.sampleKept_congr (t := u.modAx l f) (s := (s.at (s.sampleStart l nom)).modAx l _) h1 (congrArg Twin.claim h2) h3 h4 ?_ _
      rw [State.modAx_ax, State.modAx_ax, h5]
      exact congrArg (vset s.ax l) hf
  unfold State.schedule
  simp only [State.ite_sampleKept, State.faultWith_sampleKept, State.raise_sampleKept, ite_self]
  split
  · refine h _ ?_ ?_ ?_ ?_ ?_ _ ?_
    · rw [State.bump_ident]
      rfl
    · rw [State.bump_twin]
      rfl
    · rw [State.bump_clk]
    · rw [State.bump_vtb]
      rfl
    · rw [State.bump_ax]
      rfl
    · rfl
  · refine h _ ?_ ?_ ?_ ?_ ?_ _ ?_ <;> rfl

/-- A sample from its filters to its measurement; `t0` is the sampling instant of the one before. -/
def State.toMeasure (s : State) (l : AxisNo) (t0 : Ns) : State :=
  let inst := s.ax[l].sch.inst
  let dir := sgnI ((s.ax[l].cas.posLast - s.ax[l].cas.posLast2 : Int) : Q)
  let mov := (s.ax[l].fb.countsAt inst).2
  let t := s.takeResults l (decide (s.ax[l].sch.index % s.pn P.casN1 l = 0))
  let t := t.commutate l mov inst t.ax[l].sch.dt
  let u := t.posUpdate l mov (toRev (t.ax[l].com.olSpeed * t.ax[l].sch.dt))
  u.1.compareStep l t0 inst dir u.2

theorem State.toMeasure_sampleKept (s : State) (l : AxisNo) (t0 : Ns) : (s.toMeasure l t0).sampleKept (pairOf l) = s.sampleKept (pairOf l) := by
  simp [State.toMeasure]

theorem State.toMeasure_par (s : State) (l : AxisNo) (t0 : Ns) : (s.toMeasure l t0).par = s.par := by
  simp [State.toMeasure]

/-- A sample: its place, its filters, its measurement; the rest keeps what is kept. -/
theorem State.sampleRun_sampleKept (s : State) (l : AxisNo) (pt : Nat) (nom : Ns) (x : SampleIn) (c : State)
    (hc : ((s.takeNow l).dueAxis l).schedule l pt nom x = c) (f : State) (hf : c.feed l x.bits c.ax[l].sch.start = f) :
    (s.sampleRun l pt nom x).sampleKept (pairOf l) = ((f.toMeasure l s.ax[l].sch.inst).measure l).sampleKept (pairOf l) := by
  simp only [State.sampleRun, State.toMeasure, hc, hf, State.ite_sampleKept, State.ssiDue_sampleKept, State.tickEnd_sampleKept, State.attached_sampleKept,
    State.sumMeans_sampleKept, State.modelCheck_sampleKept, State.loops_sampleKept, State.linkSample_sampleKept, State.calSample_sampleKept, ite_self]

theorem State.sampleRun_par (s : State) (l : AxisNo) (pt : Nat) (nom : Ns) (x : SampleIn) : (s.sampleRun l pt nom x).par = (s.takeNow l).par := by
  simp only [State.sampleRun, State.ite_par, State.ssiDue_par, State.tickEnd_par, State.attached_par, State.sumMeans_par,
    State.modelCheck_par, State.loops_par, State.linkSample_par, State.calSample_par, State.measure_par, State.compareStep_par,
    State.posUpdate_par, State.commutate_par, State.takeResults_par, State.feed_par, State.schedule_par, State.dueAxis_par, ite_self]

/-- A measurement takes the currents from the filters, less the offsets. -/
theorem State.measure_currents (s : State) (l : AxisNo) : (s.measure l).ax[l].dsm = s.ax[l].dsm ∧ (s.measure l).ax[l].cur.off = s.ax[l].cur.off ∧
    (s.measure l).ax[l].cur.iu = s.phaseRaw l 0 - s.ax[l].cur.off[(0 : Fin 3)] ∧
    (s.measure l).ax[l].cur.iv = s.phaseRaw l 1 - s.ax[l].cur.off[(1 : Fin 3)] ∧
    (s.measure l).ax[l].cur.iw = if s.pn P.dsmIch l = 3 then s.phaseRaw l 2 - s.ax[l].cur.off[(2 : Fin 3)]
      else -(s.measure l).ax[l].cur.iu - (s.measure l).ax[l].cur.iv := by
  unfold State.measure State.modCur
  simp only [State.modAx_ax, vmod_same, and_self]

theorem State.measure_sampleFrame (s : State) (l : AxisNo) : State.sampleFrame (pairOf l) s (s.measure l) := s.modCur_sampleFrame l _

/-- The start of a sample, where another state has the same parameters, and an axis with the same schedule. -/
theorem State.sampleStart_congr {s t : State} (hp : t.par = s.par) (hi : t.ident = s.ident) {l : AxisNo}
    (h : t.ax[l].sch.bare = s.ax[l].sch.bare) (nom : Ns) :
    t.sampleStart l nom = s.sampleStart l nom := by
  obtain ⟨-, -, -, -, h1, h3, h2, -⟩ := Sched.bare_iff.1 h
  simp only [State.sampleStart, h1, h2, h3, State.groupDelay_congr hp hi, State.tc_congr hp hi]

/-- The place of a sample changes the time, and the schedule of its axis. -/
theorem State.schedule_acts (s : State) (l : AxisNo) (pt : Nat) (nom : Ns) (x : SampleIn) : ∃ c : State, s.schedule l pt nom x = c ∧
    c.par = s.par ∧ c.ident = s.ident ∧ c.twin.claim = s.twin.claim ∧ (∀ m : AxisNo, pairOf m ≠ pairOf l → c.ax[m] = s.ax[m]) ∧
      c.ax[l].sch.bare = (s.scheduled l pt nom x).bare ∧ c.ax[l].cur.off = s.ax[l].cur.off := by
  obtain ⟨c, hc⟩ : ∃ c, s.schedule l pt nom x = c := ⟨_, rfl⟩
  have hk := s.schedule_sampleKept l pt nom x
  have hp := s.schedule_par l pt nom x
  rw [hc] at hk hp
  obtain ⟨hi, hcl, -, -, ho, -⟩ := State.sampleKept_frame hk
  have hl := State.sampleKept_kept hk rfl
  rw [State.modAx_ax, vmod_same] at hl
  obtain ⟨-, -, hoff, -⟩ := Axis.kept_iff.1 hl
  refine ⟨c, hc, hp, hi, hcl, fun m hm => ?_, congrArg (fun v => v.1) hl, hoff⟩
  rw [ho m hm, State.modAx_ax, vmod_ne _ _ _ _ fun he => hm (congrArg pairOf he)]
  rfl

/-- A sample from its filters on: what it keeps, and the currents it leaves. -/
theorem State.measured {f t : State} {l : AxisNo} (t0 : Ns) (hk : t.sampleKept (pairOf l) = ((f.toMeasure l t0).measure l).sampleKept (pairOf l))
    (hp : t.par = f.par) : State.sampleFrame (pairOf l) f t ∧ t.ax[l].cur.off = f.ax[l].cur.off ∧
      t.ax[l].cur.iu = t.phaseRaw l 0 - t.ax[l].cur.off[(0 : Fin 3)] ∧ t.ax[l].cur.iv = t.phaseRaw l 1 - t.ax[l].cur.off[(1 : Fin 3)] ∧
      t.ax[l].cur.iw = if f.pn P.dsmIch l = 3 then t.phaseRaw l 2 - t.ax[l].cur.off[(2 : Fin 3)] else -t.ax[l].cur.iu - t.ax[l].cur.iv := by
  obtain ⟨p, he⟩ : ∃ p, f.toMeasure l t0 = p := ⟨_, rfl⟩
  have hpk : p.sampleKept (pairOf l) = f.sampleKept (pairOf l) := he ▸ f.toMeasure_sampleKept l t0
  have hpp : p.par = f.par := he ▸ f.toMeasure_par l t0
  rw [he] at hk
  have hf : State.sampleFrame (pairOf l) f t := State.sampleFrame_trans (State.sampleKept_frame hpk)
    (State.sampleFrame_trans (p.measure_sampleFrame l) (State.sampleKept_frame hk))
  obtain ⟨-, hdsm, hoff, hiu, hiv, hiw, -⟩ := Axis.kept_iff.1 (State.sampleKept_kept hk rfl)
  obtain ⟨-, -, hpo, -⟩ := Axis.kept_iff.1 (State.sampleKept_kept hpk rfl)
  obtain ⟨hmd, hmo, hmu, hmv, hmw⟩ := p.measure_currents l
  have hfi : p.ident = f.ident := congrArg (fun v => v.1) hpk
  have hraw : ∀ i, t.phaseRaw l i = p.phaseRaw l i :=
    State.phaseRaw_congr (hp.trans hpp.symm) (congrArg (fun v => v.1) hk) (hdsm.trans hmd)
  have hto : t.ax[l].cur.off = p.ax[l].cur.off := hoff.trans hmo
  refine ⟨hf, hto.trans hpo, ?_, ?_, ?_⟩
  · rw [hiu, hmu, hraw, hto]
  · rw [hiv, hmv, hraw, hto]
  · rw [hiw, hmw, hraw, hto, hiu, hiv, State.pn_congr hpp hfi]

/-- A sample, by the state `d` in which it takes its place. -/
theorem State.sampleRun_acts (s : State) (l : AxisNo) (pt : Nat) (nom : Ns) (x : SampleIn) : ∃ d t : State, s.sampleRun l pt nom x = t ∧
    d.par = (s.takeNow l).par ∧ State.sampleFrame (pairOf l) s d ∧ (s.ax[l].cur.calDue = false → d.ax[l].cur.off = s.ax[l].cur.off) ∧
      t.par = (s.takeNow l).par ∧ t.ident = s.ident ∧ t.twin.claim = s.twin.claim ∧ (∀ m : AxisNo, pairOf m ≠ pairOf l → t.ax[m] = s.ax[m]) ∧
      t.ax[l].sch.bare = (d.scheduled l pt nom x).bare ∧ t.ax[l].cur.off = d.ax[l].cur.off ∧
      t.ax[l].cur.iu = t.phaseRaw l 0 - t.ax[l].cur.off[(0 : Fin 3)] ∧ t.ax[l].cur.iv = t.phaseRaw l 1 - t.ax[l].cur.off[(1 : Fin 3)] ∧
      t.ax[l].cur.iw = if t.pn P.dsmIch l = 3 then t.phaseRaw l 2 - t.ax[l].cur.off[(2 : Fin 3)] else -t.ax[l].cur.iu - t.ax[l].cur.iv := by
  have hq : State.sampleFrame (pairOf l) s (s.takeNow l) ∧ (s.takeNow l).ax = s.ax := by
    obtain ⟨e, ps, h⟩ := s.takeNow_eq l
    rw [h]
    exact ⟨State.sampleFrame_refl _ s, rfl⟩
  obtain ⟨hqf, hqa⟩ := hq
  obtain ⟨d, hd⟩ : ∃ d, (s.takeNow l).dueAxis l = d := ⟨_, rfl⟩
  have hdf : State.sampleFrame (pairOf l) s d := State.sampleFrame_trans hqf (hd ▸ (s.takeNow l).dueAxis_sampleFrame l)
  obtain ⟨c, hc, hcp, hci, hcc, hco, hcs, hcoff⟩ := d.schedule_acts l pt nom x
  obtain ⟨f, hf⟩ : ∃ f, c.feed l x.bits c.ax[l].sch.start = f := ⟨_, rfl⟩
  obtain ⟨hff, hfo⟩ : State.sampleFrame (pairOf l) c f ∧ f.ax[l].cur.off = c.ax[l].cur.off := hf ▸ c.feed_sampleFrame l _ _
  have hdp : d.par = (s.takeNow l).par := by rw [← hd, State.dueAxis_par]
  have hfp : f.par = (s.takeNow l).par := by rw [← hf, State.feed_par, hcp, hdp]
  obtain ⟨t, ht⟩ : ∃ t, s.sampleRun l pt nom x = t := ⟨_, rfl⟩
  have htp : t.par = (s.takeNow l).par := by rw [← ht, State.sampleRun_par]
  obtain ⟨htf, hto, hiu, hiv, hiw⟩ := State.measured s.ax[l].sch.inst
    (ht ▸ s.sampleRun_sampleKept l pt nom x c (by rw [hd, hc]) f hf) (htp.trans hfp.symm)
  obtain ⟨hi, hcl, -, -, ho, hsch⟩ := State.sampleFrame_trans hff htf
  have ⟨hdi, hdc, _, _, hdo, _⟩ := hdf
  obtain ⟨htfi, -⟩ := htf
  refine ⟨d, t, ht, hdp, hdf, fun h => ?_, htp, hi.trans (hci.trans hdi), hcl.trans (hcc.trans hdc), fun m hm => ?_, (hsch l rfl).trans hcs,
    hto.trans (hfo.trans hcoff), hiu, hiv, ?_⟩
  · rw [← hd, ← hqa]
    exact State.dueAxis_off (by rw [hqa, h])
  · rw [ho m hm, hco m hm, hdo m hm]
  · rw [hiw, State.pn_congr (htp.trans hfp.symm) htfi]

/-- The index of a sample, as the statement writes it. -/
theorem State.indexAt_eq (s : State) (l : AxisNo) (nom : Ns) : s.indexAt l nom =
    ((2 * (s.gtAt nom - 5 * s.pn P.pwmPhase l) + s.tc l) / (2 * s.tc l) + (5 * s.pn P.pwmPhase l / s.tc l : Nat)).toNat := by
  unfold State.indexAt
  push_cast
  rfl

/-- Settles O41: of the parts of a sample only its place, its filters and its measurement change what the statement speaks of. -/
theorem currentLoopSampleRuns : Obligations.CurrentLoopSampleRuns := by
  rintro s _ l x rfl
  obtain ⟨e, ps, hq⟩ := s.takeNow_eq l
  refine ⟨fun h => ?_, fun pid hl hp hc => (State.takeNow_eff hc).1 hl hp, fun pid hn hc => (State.takeNow_eff hc).2 hn, ?_, ?_,
    fun pt nom r hon hal hdue => ?_⟩
  · simp only [exec, execCurrentLoopSample]
    obtain h | h | h := h
    · rw [h]
      rfl
    · rw [h, Bool.not_false, Bool.or_true]
      rfl
    · rw [h]
      split <;> rfl
  · rw [hq]
  · rw [hq]
  · obtain ⟨d, t, ht, hdp, hdf, hdo, htp, hti, hcl, ho, hsch, hoff, hiu, hiv, hiw⟩ := s.sampleRun_acts l pt nom x
    obtain ⟨hdi, -, hdc, hdv, -, hds⟩ := hdf
    have hqi : (s.takeNow l).ident = s.ident ∧ (s.takeNow l).clk = s.clk ∧ (s.takeNow l).vtb = s.vtb ∧ (s.takeNow l).ax = s.ax := by
      rw [hq]
      exact ⟨rfl, rfl, rfl, rfl⟩
    obtain ⟨hqi, hqc, hqv, hqa⟩ := hqi
    have hi : d.ident = (s.takeNow l).ident := hdi.trans hqi.symm
    have hgd := State.groupDelay_congr hdp hi l
    have hix := State.indexAt_congr hdp hi (hdc.trans hqc.symm) (hdv.trans hqv.symm) l nom
    have hst : d.sampleStart l nom = (s.takeNow l).sampleStart l nom := State.sampleStart_congr hdp hi (by rw [hds l rfl, hqa]) nom
    obtain ⟨h1, h2, h3, h4, h5, h6, h7, h8, -, -, h11, -⟩ := Sched.bare_iff.1 hsch
    obtain ⟨-, hdue', -⟩ := Sched.bare_iff.1 (hds l rfl)
    refine ⟨t, ?_, htp, ?_, h3, h5, ?_, ?_, ?_, ?_, ?_, ?_, fun h => hoff.trans (hdo h), hiu, hiv, ?_, ho, hcl⟩
    · simp only [exec, execCurrentLoopSample]
      rw [hon, hal, hdue]
      exact congrArg Host.Outcome.next ht
    · exact h2.trans (congrArg List.tail (hdue'.trans hdue))
    · rw [h1]
      exact hix.trans ((s.takeNow l).indexAt_eq l nom)
    · refine h6.trans (hst.trans ?_)
      unfold State.sampleStart
      rw [hqa]
    · rw [h8, h6]
      exact congrArg (d.sampleStart l nom - ·) hgd
    · rw [h4, h6]
      rfl
    · rw [h7, h6]
      rfl
    · rw [h11, h6, ← hgd]
      exact decide_eq_decide.2 Nat.sub_pos_iff_lt
    · rw [hiw, State.pn_congr htp (hti.trans hqi.symm)]

end Sys2Proof.Machine

namespace Sys2Proof.Machine

/-! ## The end of a claim (R309) -/

/-- ACTIVE and DRIVE follow the enables: of the lane's record nothing else changes than the state and DRDY. -/
theorem State.syncDrive_life (s : State) : { s.syncDrive.life with st := s.life.st, drdy := s.life.drdy } = s.life := by
  unfold State.syncDrive
  split
  · split
    · exact s.setSt_life .drive
    · rfl
  · split
    · rfl
    · exact s.setSt_life .active
  · rfl

/-- What the torque-off of pairs leaves: all but the axes, the lane state with DRDY, and INTSTAT. -/
def State.torqueFrame (s t : State) : Prop :=
  (∃ a l r, t = { s with ax := a, life := l, regs := r }) ∧ { t.life with st := s.life.st, drdy := s.life.drdy } = s.life ∧
    (s.life.st ≠ .active → s.life.st ≠ .drive → t.life = s.life ∧ t.regs = s.regs)

theorem State.torqueFrame_refl (s : State) : s.torqueFrame s := ⟨⟨s.ax, s.life, s.regs, rfl⟩, rfl, fun _ _ => ⟨rfl, rfl⟩⟩

theorem State.torqueFrame_trans {s t u : State} (h : s.torqueFrame t) (h' : t.torqueFrame u) : s.torqueFrame u := by
  obtain ⟨⟨a, l, r, rfl⟩, hl, hs⟩ := h
  obtain ⟨⟨a', l', r', rfl⟩, hl', hs'⟩ := h'
  refine ⟨⟨a', l', r', rfl⟩, ?_, fun h1 h2 => ?_⟩
  · rw [← hl]
    exact congrArg (fun x : Life => { x with st := s.life.st, drdy := s.life.drdy }) hl'
  · obtain ⟨hl1, hr1⟩ := hs h1 h2
    have hl1' : l = s.life := hl1
    subst hl1'
    obtain ⟨h3, h4⟩ := hs' h1 h2
    exact ⟨h3, h4.trans hr1⟩

theorem State.torqueOff_frame (s : State) (k : PairNo) : s.torqueFrame (s.torqueOff k) := by
  obtain ⟨l, r, h, hs⟩ := s.torqueOff_eq k
  refine ⟨⟨_, l, r, h⟩, ((s.modAx (loAx k) Axis.cut).modAx (hiAx k) Axis.cut).syncDrive_life, fun h1 h2 => ?_⟩
  rw [h]
  exact hs h1 h2

/-- A torque-off cuts the axes of its pair. -/
theorem State.torqueOff_get (s : State) (k : PairNo) (m : AxisNo) : (s.torqueOff k).ax[m] = if pairOf m = k then s.ax[m].cut else s.ax[m] := by
  obtain ⟨l, r, h, -⟩ := s.torqueOff_eq k
  rw [h]
  split
  · next hm => exact vmod_pair_same _ _ hm
  · next hm =>
    obtain ⟨j, rfl⟩ : ∃ j, pairOf j = k := ⟨loAx k, pairOf_loAx k⟩
    exact vmod_pair_other _ _ hm

/-- Torque-off on all pairs. -/
def State.torqueAll (s : State) : State := forFin 4 (fun k s => s.torqueOff k) s

theorem State.torqueAll_frame (s : State) : s.torqueFrame s.torqueAll :=
  forFin_keeps (p := fun t : State => s.torqueFrame t) s.torqueFrame_refl fun k t h => State.torqueFrame_trans h (t.torqueOff_frame k)

theorem State.torqueAll_get (s : State) (m : AxisNo) : s.torqueAll.ax[m] = s.ax[m].cut := by
  show ((((s.torqueOff 0).torqueOff 1).torqueOff 2).torqueOff 3).ax[m] = _
  simp only [State.torqueOff_get]
  generalize pairOf m = k
  match k with
  | 0 | 1 | 2 | 3 => simp

/-- The end of a claim: of the twin unit its flags, the ports, and torque-off on all pairs. -/
theorem State.stopClaim_eq (s : State) : ∃ (n : Twin) (a : Vector Axis 8) (p : Vector Port 3) (l : Life) (r : Regs),
    s.stopClaim = { s with twin := n, ax := a, ports := p, life := l, regs := r } ∧
      n = { s.twin with claim := false, confirmed := false, gateWait := false, dueYield := false, planned := none, forTest := false } ∧
      (∀ m : AxisNo, a[m] = s.ax[m].cut) ∧ { l with st := s.life.st, drdy := s.life.drdy } = s.life ∧
      (s.life.st ≠ .active → s.life.st ≠ .drive → l = s.life ∧ r = s.regs) := by
  obtain ⟨u, hu⟩ : ∃ u : State, u = { s with
      twin := { s.twin with claim := false, confirmed := false, gateWait := false, dueYield := false, planned := none, forTest := false }
      ports := s.ports.map fun (p : Port) => { p with driven := false, busy := false, trigDue := none } } := ⟨_, rfl⟩
  have hs : s.stopClaim = u.torqueAll := hu ▸ rfl
  obtain ⟨⟨a, l, r, h⟩, hl, hr⟩ := u.torqueAll_frame
  refine ⟨u.twin, a, u.ports, l, r, ?_, ?_, fun m => ?_, ?_, fun h1 h2 => ?_⟩
  · rw [hs, h, hu]
  · rw [hu]
  · have := u.torqueAll_get m
    rw [h] at this
    rw [hu] at this
    exact this
  · rw [h, hu] at hl
    exact hl
  · rw [h, hu] at hr
    exact hr h1 h2

/-! ## Events, and the end of an accepted operation -/

/-- What events and responses leave: all but the mailbox, the counters, INTSTAT, and the events that wait in the always-on domain. -/
def State.eventOnly (s t : State) : Prop := ∃ m c i late,
  t = { s with mb := m, cnt := c, regs := { s.regs with intstat := i }, aon := { s.aon with late := late } }

theorem State.eventOnly_refl (s : State) : s.eventOnly s := ⟨s.mb, s.cnt, s.regs.intstat, s.aon.late, rfl⟩

theorem State.eventOnly_trans {s t u : State} (h : s.eventOnly t) (h' : t.eventOnly u) : s.eventOnly u := by
  obtain ⟨m, c, i, e, rfl⟩ := h
  obtain ⟨m', c', i', e', rfl⟩ := h'
  exact ⟨m', c', i', e', rfl⟩

theorem State.pushEvent_eventOnly (s : State) (slot : Slot) : s.eventOnly (s.pushEvent slot) := by
  unfold State.pushEvent
  simp only []
  split
  · exact ⟨_, s.cnt, s.regs.intstat, s.aon.late, rfl⟩
  · cases (Counters.bump s.cnt (qCnt 8)).2
    · exact ⟨_, _, s.regs.intstat, s.aon.late, rfl⟩
    · exact ⟨_, _, s.regs.intstat ||| 0x00020000, s.aon.late, rfl⟩

theorem State.raise_eventOnly (s : State) (code : Nat) (sev : Sev) (ax : Option AxisNo) (args : List Word) :
    s.eventOnly (s.raise code sev ax args) := by
  unfold State.raise
  simp only []
  split
  · exact s.pushEvent_eventOnly _
  · exact ⟨s.mb, s.cnt, s.regs.intstat, _, rfl⟩

theorem State.bump_eventOnly (s : State) (i : Nat) : s.eventOnly (s.bump i) := by
  unfold State.bump
  simp only []
  split
  · exact State.eventOnly_trans ⟨s.mb, _, s.regs.intstat ||| 0x00020000, s.aon.late, rfl⟩ (State.raise_eventOnly _ _ _ _ _)
  · exact ⟨s.mb, _, s.regs.intstat, s.aon.late, rfl⟩

theorem State.push_eventOnly (s : State) (q : Fin 16) (e : QEntry) : s.eventOnly (s.push q e) := by
  unfold State.push
  simp only []
  split
  · exact ⟨_, s.cnt, s.regs.intstat, s.aon.late, rfl⟩
  · split
    · exact s.bump_eventOnly _
    · obtain ⟨m, c, i, late, h⟩ := s.bump_eventOnly (qCnt q)
      refine State.eventOnly_trans ?_ (State.raise_eventOnly _ _ _ _ _)
      rw [h]
      exact ⟨_, c, i, late, rfl⟩

theorem State.deliver_eventOnly (s : State) (src : Source) (cls : BitVec 4) (w : Slot) : s.eventOnly (s.deliver src cls w) := by
  unfold State.deliver
  split
  · exact s.push_eventOnly _ _
  · split
    · exact ⟨_, s.cnt, s.regs.intstat, s.aon.late, rfl⟩
    · exact s.bump_eventOnly _

theorem State.complete_eventOnly (s : State) (o : AccOp) (code : Nat) (words : List Word) : s.eventOnly (s.complete o code words) :=
  State.eventOnly_trans ⟨_, s.cnt, s.regs.intstat, s.aon.late, rfl⟩ (State.deliver_eventOnly _ _ _ _)

theorem State.completeIf_eventOnly (s : State) (o : Option AccOp) (code : Nat) (words : List Word) : s.eventOnly (s.completeIf o code words) := by
  cases o with
  | none => exact s.eventOnly_refl
  | some o => exact s.complete_eventOnly o code words

/-- The lane gives up authority: its claim ends with torque-off on all pairs. -/
theorem State.giveUp_eq (s : State) : ∃ (m : Mailbox) (c : Cells) (r : Regs) (late : List LateEv) (n : Twin) (a : Vector Axis 8)
    (p : Vector Port 3) (l : Life),
    s.giveUp = { s with mb := m, cnt := c, regs := r, aon := { s.aon with late := late }, twin := n, ax := a, ports := p, life := l } ∧
      n.claim = false ∧ n.sent = s.twin.sent ∧ (∀ m : AxisNo, a[m].en = false ∧ a[m].pwm.gates = false) ∧
      { l with st := s.life.st, drdy := s.life.drdy } = s.life ∧ (s.life.st ≠ .active → s.life.st ≠ .drive → l = s.life) := by
  obtain ⟨m, c, i, late, hf⟩ := s.completeIf_eventOnly s.twin.planned 0x30 []
  obtain ⟨n, a, p, l, r', hs, hn, ha, hl, hst⟩ := s.failPlanned.stopClaim_eq
  have he : s.failPlanned = { s with mb := m, cnt := c, regs := { s.regs with intstat := i }, aon := { s.aon with late := late } } := hf
  refine ⟨m, c, r', late, { n with dueSuper := [], supAt := none },
    a.map fun a => { a with mir := { a.mir with words := none, due := none, cmpDue := none, take := false } }, p, l, ?_, ?_, ?_, fun j => ?_, ?_, ?_⟩
  · unfold State.giveUp
    rw [hs, he]
    rfl
  · rw [hn]
  · rw [hn, he]
  · have hj := ha j
    simp only [Fin.getElem_fin, Vector.getElem_map] at hj ⊢
    rw [hj]
    exact ⟨rfl, rfl⟩
  · rw [he] at hl
    exact hl
  · rw [he] at hst
    exact fun h1 h2 => (hst h1 h2).1

end Sys2Proof.Machine

namespace Sys2Proof.Machine

/-! ## Level changes (R423) -/

/-- A level is asked for: of the lane's record the change only. -/
theorem State.requestLevel_eq (s : State) (v : BitVec 2) (op : Option AccOp) : ∃ c,
    s.requestLevel v op = { s with life := { s.life with plc := c } } ∧
      (s.life.pl ≠ v → s.life.voutLinear = true →
        c = some { target := v, old := s.life.pl, op := op, waiting := decide (s.life.pl.toNat < v.toNat), since := s.clk.lclk }) := by
  unfold State.requestLevel
  split
  · next h =>
    refine ⟨s.life.plc, rfl, fun h1 h2 => ?_⟩
    rw [h2] at h
    exact absurd h (by simpa using h1)
  · exact ⟨_, rfl, fun _ _ => rfl⟩

theorem bodyPwrLevel_eq {s : State} {r : Req} {v : BitVec 2} (hv : v = Config.levelOf r.arg0 r.payload) (hc : s.life.plc = none) (he : s.life.entry = none)
    (hd : s.life.shutdown = none) (hl : s.life.voutLinear = true) (hp : s.life.pollBad = false) (hm : s.pn P.pwrPlmin ≤ v.toNat) :
    bodyPwrLevel r s = if v = s.life.pl then Ans.ok s else Ans.accepted (s.requestLevel v (some { opc := 0x0401, req := r })) := by
  subst hv
  unfold bodyPwrLevel
  simp only [hc, he, hd, hl, hp, Option.isSome_none, Bool.false_eq_true, or_self, if_false, Bool.not_true, Nat.not_lt.2 hm, decide_false, Bool.and_false]

/-! ## Sleep entry and shut-down (R427, R429, R430, R471) -/

theorem State.admitSleep_acts {s : State} (h : s.sleepAnswer = 1) (kind : SleepKind) (r : Req) : ∃ t : State,
    s.admitSleep kind r = Ans.accepted t ∧ t.life.entry = some (s.newEntry kind { opc := 0x0402, req := r }) ∧ t.aon.timer = some 0 ∧
      t.brake.ledSaved = s.brake.led ∧ t.life.st = s.life.st ∧ t.ax = s.ax ∧
      (s.life.pl ≠ 1 → s.life.voutLinear = true → ∃ c, t.life.plc = some c ∧ c.target = 1 ∧ c.old = s.life.pl) := by
  obtain ⟨c, hc, hp⟩ := (((s.modAon fun a => { a with timer := some 0 }).ledgerWrite).modLife fun f =>
    { f with entry := some (s.newEntry kind { opc := 0x0402, req := r }) }).requestLevel_eq 1 none
  have hn : ¬ s.sleepAnswer ≠ 1 := fun hn => hn h
  refine ⟨_, (if_neg hn).trans (congrArg Ans.accepted hc), rfl, rfl, rfl, rfl, rfl, fun h1 h2 => ⟨_, hp h1 h2, rfl, rfl⟩⟩

/-- A run begins. -/
theorem State.beginTests_acts (s : State) (x : Run) : ∃ t : State, s.beginTests x = t ∧ t.life.st = .selftest ∧ t.twin.claim = false ∧
    t.aon = s.aon ∧ t.st = { s.st with run := some x, waiting := none, latched := false } ∧
    { t.life with st := s.life.st, drdy := s.life.drdy } = s.life := by
  refine ⟨_, rfl, ?_⟩
  obtain ⟨hst, l, r, he, hl⟩ := s.setSt_eq .selftest
  unfold State.beginTests
  rw [he] at hst ⊢
  simp only []
  split
  · obtain ⟨n, a, p, l', r', hs, hn, -, -, hk⟩ := ({ s with life := l, regs := r } : State).stopClaim_eq
    have hst' : l.st = .selftest := hst
    obtain ⟨hl', -⟩ := hk (fun h => absurd (hst'.symm.trans h) (by decide)) fun h => absurd (hst'.symm.trans h) (by decide)
    subst hl'
    rw [hs]
    exact ⟨hst, congrArg Twin.claim hn, rfl, rfl, hl⟩
  · next h => exact ⟨hst, by simpa using h, rfl, rfl, hl⟩

theorem State.beginShutdown_acts (s : State) (e : Entry) : ∃ t : State, s.beginShutdown e = t ∧ t.life.st = .selftest ∧ t.twin.claim = false ∧
    t.aon.timer = some 0 ∧ (∃ x, t.life.shutdown = some x ∧ x.kind = e.kind) ∧
    ∃ u, t.st.run = some u ∧ u.origin = .shutdown ∧ u.doms = s.life.domains ∧ u.mem = false ∧ u.npat = s.npatUnits := by
  refine ⟨_, rfl, ?_⟩
  obtain ⟨v, hv⟩ : ∃ v : State, (if s.auth then (s.sendTwin 1 0xFF []).giveUp else s) = v := ⟨_, rfl⟩
  obtain ⟨x, hx, hk⟩ : ∃ x : Entry, (if s.auth ∧ e.from_ ≠ .safeStop then { e with from_ := .standby } else e) = x ∧ x.kind = e.kind := by
    refine ⟨_, rfl, ?_⟩
    split <;> rfl
  have hdom : v.life.domains = s.life.domains ∧ v.npatUnits = s.npatUnits := by
    rw [← hv]
    split
    · obtain ⟨m, c, r, late, n, a, p, l, hg, -, -, -, hl, -⟩ := (s.sendTwin 1 0xFF []).giveUp_eq
      rw [hg]
      exact ⟨(congrArg Life.domains hl :), rfl⟩
    · exact ⟨rfl, rfl⟩
  obtain ⟨hd, hn⟩ := hdom
  obtain ⟨w, hw, hwd, hwa, hws, hwn⟩ : ∃ w : State,
      ((v.modAon fun a => { a with timer := some 0 }).modLife fun f => { f with shutdown := some x }).requestLevel 1 none = w ∧
        w.life.domains = v.life.domains ∧ w.aon.timer = some 0 ∧ w.life.shutdown = some x ∧ w.npatUnits = v.npatUnits := by
    obtain ⟨c, hc, -⟩ := ((v.modAon fun a => { a with timer := some 0 }).modLife fun f => { f with shutdown := some x }).requestLevel_eq 1 none
    exact ⟨_, hc, rfl, rfl, rfl, rfl⟩
  have hb : s.beginShutdown e =
      w.beginTests { origin := .shutdown, doms := w.life.domains, npat := w.npatUnits, mem := false, from_ := x.from_ } := by
    unfold State.beginShutdown
    simp only [hv, hx, hw]
  obtain ⟨t, ht, hst, hcl, ha, hs, hl⟩ := w.beginTests_acts
    { origin := .shutdown, doms := w.life.domains, npat := w.npatUnits, mem := false, from_ := x.from_ }
  rw [hb, ht]
  refine ⟨hst, hcl, ?_, ⟨x, ?_, hk⟩, ⟨_, congrArg SelfTest.run hs, rfl, hwd.trans hd, rfl, hwn.trans hn⟩⟩
  · rw [ha, hwa]
  · exact (congrArg Life.shutdown hl :).trans hws

/-! ## Self-test on demand (R36, R473) -/

theorem State.planStep_eq (s : State) : ∃ y, s.planStep = { s with twin := { s.twin with dueYield := y } } := by
  unfold State.planStep
  split
  · exact ⟨true, rfl⟩
  · exact ⟨s.twin.dueYield, rfl⟩

/-- A planned castling ahead of a self-test. -/
theorem State.planCastle_acts (s : State) (o : Option AccOp) : ∃ t : State, s.planCastle o = t ∧ t.life = s.life ∧ t.st = s.st ∧
    t.twin.forTest = o.isNone := by
  obtain ⟨y, hy⟩ := State.planStep_eq ((s.mapAx fun a => { a with mir := { a.mir with sentNew := false } }).modTwin fun n =>
    { n with planned := o, forTest := o.isNone, plannedAt := s.gt })
  exact ⟨_, hy, rfl, rfl, rfl⟩

/-- A test on request runs at once, or waits for its castling. -/
theorem bodyStStart_eq {s : State} {r : Req} (h : s.testAnswer = 1 ∨ s.testAnswer = 2) (hr : (r.arg0.toNat / 256) % 128 ≤ 64) :
    bodyStStart r s = if s.testAnswer = 1 then Ans.accepted (s.beginTests (s.demandRun { opc := 0x0501, req := r }))
      else Ans.accepted ((s.planCastle none).modSt fun t => { t with waiting := some { opc := 0x0501, req := r } }) := by
  have h1 : ¬ (s.testAnswer ≠ 1 ∧ s.testAnswer ≠ 2) := by omega
  unfold bodyStStart
  simp only [if_neg h1, if_neg (Nat.not_lt.2 hr)]

/-- Settles O19: each request runs its body on the state in which its source has been heard. -/
theorem powerOpcodes : Obligations.PowerOpcodes := by
  intro s r
  obtain ⟨m, hh, -⟩ := s.heard_eq r
  obtain ⟨hlife, hpn, hsleep, htest⟩ : (s.heard r).life = s.life ∧ (s.heard r).pn P.pwrPlmin = s.pn P.pwrPlmin ∧
      (s.heard r).sleepAnswer = s.sleepAnswer ∧ (s.heard r).testAnswer = s.testAnswer := by
    rw [hh]
    exact ⟨rfl, rfl, rfl, rfl⟩
  refine ⟨fun ha v hv hc he hd hl hp hm => ⟨fun hq => ?_, fun hq => ?_⟩, fun hs => ⟨fun ha => ?_, fun ha => ?_, fun ha => ?_⟩, fun ha => ?_,
    fun ha hr => ⟨fun hs => ?_, fun hs => ?_⟩, fun ha => ?_⟩
  · refine congrArg Host.Outcome.next ((s.serve_admits specPwrLevel bodyPwrLevel r ha).trans ?_)
    rw [bodyPwrLevel_eq hv (hlife ▸ hc) (hlife ▸ he) (hlife ▸ hd) (hlife ▸ hl) (hlife ▸ hp) (hpn ▸ hm), hlife, if_pos hq]
  · obtain ⟨c, hr, hx⟩ := (s.heard r).requestLevel_eq v (some { opc := 0x0401, req := r })
    refine congrArg Host.Outcome.next ((s.serve_admits specPwrLevel bodyPwrLevel r ha).trans ?_)
    rw [bodyPwrLevel_eq hv (hlife ▸ hc) (hlife ▸ he) (hlife ▸ hd) (hlife ▸ hl) (hlife ▸ hp) (hpn ▸ hm), hlife, if_neg hq, hr,
      hx (hlife ▸ fun h => hq h.symm) (hlife ▸ hl), hh]
    rfl
  · obtain ⟨t, ht, h⟩ := (s.heard r).admitSleep_acts (hsleep.trans hs) .sleep r
    refine ⟨t, ?_, ?_⟩
    · refine congrArg Host.Outcome.next ((s.serve_admits specPwrSleep bodyPwrSleep r ha).trans ?_)
      rw [← ht]
      rfl
    · rw [hh] at h ⊢
      exact h
  · obtain ⟨t, ht, h1, h2, h3, h4, h5, -⟩ := (s.heard r).admitSleep_acts (hsleep.trans hs) .doze r
    refine ⟨t, ?_, ?_⟩
    · refine congrArg Host.Outcome.next ((s.serve_admits specPwrSleep bodyPwrSleepDoze r ha).trans ?_)
      rw [← ht]
      rfl
    · rw [hh] at h1 h3 h4 h5 ⊢
      exact ⟨h1, h2, h3, h4, h5⟩
  · obtain ⟨t, ht, h1, h2, h3, ⟨e, he, hk⟩, h4⟩ := (s.heard r).beginShutdown_acts
      ((s.heard r).newEntry (if r.arg0.getLsbD 0 then .sleep else .shutdown) { opc := 0x0403, req := r })
    have hn : ¬ (s.heard r).sleepAnswer ≠ 1 := fun hn => hn (hsleep.trans hs)
    refine ⟨t, ?_, h1, h2, h3, ⟨e, he, hk⟩, ?_⟩
    · refine congrArg Host.Outcome.next ((s.serve_admits specPwrShutdown bodyPwrShutdown r ha).trans ?_)
      rw [← ht]
      exact congrArg (Ans.close · specPwrShutdown r) (if_neg hn)
    · rw [hh] at h4
      exact h4
  · refine congrArg Host.Outcome.next ((s.serve_admits specPwrStatus bodyPwrStatus r ha).trans ?_)
    rw [hh]
    rfl
  · obtain ⟨t, ht, h1, h2, -, h3, -⟩ := (s.heard r).beginTests_acts ((s.heard r).demandRun { opc := 0x0501, req := r })
    refine ⟨t, ?_, h1, h2, congrArg SelfTest.run h3⟩
    refine congrArg Host.Outcome.next ((s.serve_admits specStStart bodyStStart r ha).trans ?_)
    rw [bodyStStart_eq (.inl (htest.trans hs)) hr, if_pos (htest.trans hs), ht]
  · obtain ⟨t, ht, h1, h2, h3⟩ := (s.heard r).planCastle_acts none
    have hn : ¬ (s.heard r).testAnswer = 1 := by omega
    refine ⟨t.modSt fun x => { x with waiting := some { opc := 0x0501, req := r } }, ?_, ?_, ?_, rfl, h3⟩
    · refine congrArg Host.Outcome.next ((s.serve_admits specStStart bodyStStart r ha).trans ?_)
      rw [bodyStStart_eq (.inr (htest.trans hs)) hr, if_neg hn, ht]
    · exact h1.trans hlife
    · exact (congrArg SelfTest.run h2).trans (by rw [hh])
  · exact congrArg Host.Outcome.next ((s.serve_admits specStStatus bodyStStatus r ha).trans (by rw [hh]; rfl))

end Sys2Proof.Machine

namespace Sys2Proof.Machine

/-! ## Starts (R435, R440, R506) -/

theorem foldl_eventOnly {α : Type} {f : State → α → State} (k : ∀ (s : State) a, s.eventOnly (f s a)) (as : List α) (s : State) :
    s.eventOnly (as.foldl f s) :=
  List.foldlRecOn (motive := fun t : State => s.eventOnly t) as f s.eventOnly_refl fun _ h _ _ => State.eventOnly_trans h (k _ _)

/-- Firmware runs: beside events, the request that ended in sleep and the fail-silent entry are done with. -/
theorem State.firmwareUp_eq (s : State) : ∃ m c i late k fp, s.firmwareUp =
    { s with mb := m, cnt := c, regs := { s.regs with intstat := i }, aon := { s.aon with late := late, keptOp := k }
             life := { s.life with failPend := fp } } := by
  obtain ⟨m, c, i, late, h⟩ := foldl_eventOnly (f := fun s e => s.queueEvent e) (fun s _ => s.pushEvent_eventOnly _) s.aon.late
    (s.modAon fun a => { a with late := [] })
  obtain ⟨v, hv, m', c', i', late', fp, he⟩ : ∃ v : State,
      (let t := s.aon.late.foldl (fun s e => s.queueEvent e) (s.modAon fun a => { a with late := [] })
        if t.life.failPend then
          (t.modLife fun f => { f with failPend := false }).raise 0x0010 .crimson none [t.failrecWord, loW t.aon.failtime, hiW t.aon.failtime]
        else t) = v ∧
      ∃ m c i late fp, v = { s with mb := m, cnt := c, regs := { s.regs with intstat := i }, aon := { s.aon with late := late }
                                    life := { s.life with failPend := fp } } := by
    refine ⟨_, rfl, ?_⟩
    simp only []
    split
    · obtain ⟨m', c', i', late', h'⟩ := State.raise_eventOnly ((s.aon.late.foldl (fun s e => s.queueEvent e)
        (s.modAon fun a => { a with late := [] })).modLife fun f => { f with failPend := false }) 0x0010 .crimson none
        [(s.aon.late.foldl (fun s e => s.queueEvent e) (s.modAon fun a => { a with late := [] })).failrecWord,
          loW (s.aon.late.foldl (fun s e => s.queueEvent e) (s.modAon fun a => { a with late := [] })).aon.failtime,
          hiW (s.aon.late.foldl (fun s e => s.queueEvent e) (s.modAon fun a => { a with late := [] })).aon.failtime]
      rw [h', h]
      exact ⟨m', c', i', late', false, rfl⟩
    · rw [h]
      exact ⟨m, c, i, late, s.life.failPend, rfl⟩
  have hs : s.firmwareUp = match v.aon.keptOp with
      | some o => (v.modAon fun a => { a with keptOp := none }).complete o 0 [0]
      | none => v := by
    rw [← hv]
    rfl
  rw [hs]
  split
  · obtain ⟨m'', c'', i'', late'', h''⟩ := State.complete_eventOnly (v.modAon fun a => { a with keptOp := none }) ‹_› 0 [0]
    rw [h'', he]
    exact ⟨m'', c'', i'', late'', none, fp, rfl⟩
  · rw [he]
    exact ⟨m', c', i', late', s.aon.keptOp, fp, rfl⟩

/-- The stored values take effect. -/
theorem State.loadPars_eq (s : State) : ∃ e, s.loadPars = { s with par := { s.par with eff := e, written := [], posted := [] } } ∧
    (s.aon.postWake = none → s.aon.postTimer = none → e = s.par.stored) := by
  have one : ∀ (t : State) (b : Bool) (pid : Nat) (v : Word), ∃ e, (if b = true then t.setEff pid v else t) = { t with par := { t.par with eff := e } } ∧
      (b = false → e = t.par.eff) := fun t b pid v => by
    cases b
    · exact ⟨t.par.eff, rfl, fun _ => rfl⟩
    · exact ⟨_, rfl, fun h => by cases h⟩
  obtain ⟨e, he, hn⟩ := one (s.modPar fun p => { p with eff := p.stored, written := [], posted := [] })
    (s.modPar fun p => { p with eff := p.stored, written := [], posted := [] }).aon.postWake.isSome P.pwrWake.base (s.eff P.pwrWake.base)
  obtain ⟨e', he', hn'⟩ := one { s with par := { s.par with eff := e, written := [], posted := [] } } s.aon.postTimer.isSome P.pwrWtimer.base
    (s.eff P.pwrWtimer.base)
  refine ⟨e', ?_, fun hw ht => ?_⟩
  · unfold State.loadPars
    simp only []
    rw [he]
    exact he'
  · rw [hn' (by rw [ht]; rfl), hn (by rw [State.modPar_aon, hw]; rfl)]
    rfl

/-- What a start anew leaves of a retained state, and what it begins anew. -/
theorem State.newStart_acts (s : State) : ∃ t : State, s.newStart = t ∧ t.life.st = .boot ∧ t.life.ps = .run ∧
    t.life.step = (if s.split then 5 else 4) ∧ t.life.wakeAt = s.life.wakeAt ∧ t.life.reason = 0 ∧ t.aon = s.aon ∧ t.ident = s.ident ∧
      t.twin.claim = false ∧ t.par.stored = s.par.stored ∧ ∀ l : AxisNo, t.ax[l] = s.ax[l].newStart := by
  obtain ⟨e, hp, -⟩ := s.loadPars_eq
  obtain ⟨w, hw, hps, hstep, hwake, hr, ha, hi, hc, hpar, hax⟩ : ∃ w : State, s.newStart = w.setSt .boot ∧ w.life.ps = .run ∧
      w.life.step = (if s.split then 5 else 4) ∧ w.life.wakeAt = s.life.wakeAt ∧ w.life.reason = 0 ∧ w.aon = s.aon ∧ w.ident = s.ident ∧
        w.twin.claim = false ∧ w.par.stored = s.par.stored ∧ w.ax = s.ax.map Axis.newStart := by
    unfold State.newStart
    rw [hp]
    exact ⟨_, rfl, rfl, rfl, rfl, rfl, rfl, rfl, rfl, rfl, rfl⟩
  obtain ⟨hst, l, r, he, hl⟩ := w.setSt_eq .boot
  rw [hw]
  rw [he] at hst ⊢
  refine ⟨_, rfl, hst, ?_, ?_, ?_, ?_, ha, hi, hc, hpar, fun m => ?_⟩
  · exact (congrArg Life.ps hl :).trans hps
  · exact (congrArg Life.step hl :).trans hstep
  · exact (congrArg Life.wakeAt hl :).trans hwake
  · exact (congrArg Life.reason hl :).trans hr
  · show w.ax[m] = _
    rw [hax]
    simp only [Fin.getElem_fin, Vector.getElem_map]

theorem Axis.newStart_off (a : Axis) : a.newStart.en = false ∧ a.newStart.pwm.gates = false ∧ a.newStart.com.cval = false := ⟨rfl, rfl, rfl⟩

theorem Axis.rebooted_off (a : Axis) : a.rebooted.en = false ∧ a.rebooted.pwm.gates = false := ⟨rfl, rfl⟩

theorem State.rebooted_get (s : State) (l : AxisNo) : s.rebooted.ax[l] = s.ax[l].rebooted := by
  simp [State.rebooted]

/-! ## Wake (R427, R428, R431) -/

/-- What the report of a wake leaves. -/
theorem State.noteWake_eq (s : State) : ∃ m c i late, s.noteWake =
    { s with mb := m, cnt := c, regs := { s.regs with intstat := i }, aon := { s.aon with late := late, armed := false, timer := none }
             life := { s.life with wakeAt := s.clk.lclk } } := by
  obtain ⟨m, c, i, late, h⟩ := s.raise_eventOnly 0xD004 .grey none [s.aon.wakesrc]
  unfold State.noteWake
  rw [h]
  exact ⟨m, c, _, late, rfl⟩

/-- The wake from DOZE. -/
theorem State.wakeUp_doze {s : State} (hps : s.life.ps = .doze) (hst : s.life.st ≠ .failSilent) : ∃ t : State, s.wakeUp = t ∧
    t.life.st = .boot ∧ t.life.ps = .run ∧ t.life.step = (if s.split then 5 else 4) ∧ t.life.wakeAt = s.clk.lclk ∧ t.aon.armed = false ∧
      t.aon.wakesrc = s.aon.wakesrc ∧ t.twin.claim = false ∧
      (∀ l : AxisNo, t.ax[l].en = false ∧ t.ax[l].pwm.gates = false ∧ t.ax[l].com.cval = false) ∧ t.par.stored = s.par.stored := by
  obtain ⟨m, c, i, late, hn⟩ := s.noteWake_eq
  obtain ⟨v, hv, h1, h2, h3, h4, -, h5, -, h6, h7, h8⟩ := s.noteWake.newStart_acts
  obtain ⟨m', c', i', late', k, fp, hf⟩ := v.firmwareUp_eq
  have hw : s.wakeUp = s.noteWake.newStart.firmwareUp := by
    unfold State.wakeUp
    rw [if_neg hst, hps]
  rw [hw, hv, hf]
  rw [hn] at h3 h4 h5 h7 h8
  refine ⟨_, rfl, h1, h2, h3, h4, ?_, ?_, h6, fun l => ?_, h7⟩
  · rw [h5]
  · rw [h5]
  · show v.ax[l].en = false ∧ v.ax[l].pwm.gates = false ∧ v.ax[l].com.cval = false
    rw [h8 l]
    exact Axis.newStart_off _

/-- The wake from SLEEP raises CONTROL. -/
theorem State.wakeUp_sleep {s : State} (hps : s.life.ps = .sleep) (hst : s.life.st ≠ .failSilent) (hc : s.aon.control = false) :
    s.wakeUp = s.noteWake.controlUp := by
  unfold State.wakeUp
  rw [if_neg hst, hps]
  simp [hc]

/-- No wake where the lane runs, or stands in FAIL_SILENT. -/
theorem State.wakeUp_none {s : State} (h : s.life.ps = .run ∨ s.life.st = .failSilent) : s.wakeUp = s := by
  unfold State.wakeUp
  split
  · rfl
  · next hn =>
    rw [h.resolve_right hn]

end Sys2Proof.Machine

namespace Sys2Proof.Machine

/-! ## Sources, the timer and the replay (R427, R428, R431) -/

/-- The lane sleeps with its regulator off for less than 500 µs. -/
theorem State.tooSoon_sleep {s : State} (hps : s.life.ps = .sleep) (hc : s.aon.control = false) :
    s.tooSoon = decide (s.clk.lclk < s.aon.controlAt + 500000) := by
  unfold State.tooSoon State.since
  rw [hps, hc]
  by_cases h : s.clk.lclk < s.aon.controlAt + 500000
  · simp [h]
  · simp [h, Nat.not_lt.1 h]

theorem State.tooSoon_awake {s : State} (h1 : s.life.ps ≠ .sleep) (h2 : s.life.ps ≠ .shutdown) : s.tooSoon = false := by
  unfold State.tooSoon
  simp [h1, h2]

/-- A source that is latched, with its bit and the time of its capture. -/
def State.latched (s : State) (w : WakeSrc) : State :=
  { s with aon := { s.aon with wakesrc := s.aon.wakesrc ||| ((1 : Word) <<< wakeBit w), capture := s.gt.toNat } }

/-- Outside a run of tests a latched source wakes the lane, or waits for its replay. -/
theorem State.latchWake_eq {s : State} {w : WakeSrc} (ha : s.aon.armed = true) (he : s.wakeEnabled w = true) (hr : s.st.run = none) :
    s.latchWake w = if (s.latched w).tooSoon = true then
        { s.latched w with aon := { (s.latched w).aon with replay := some (s.aon.replay.getD (wakeBit w, s.gt.toNat)) } }
      else (s.latched w).wakeUp := by
  have hg : ¬ ((!s.aon.armed) = true ∨ (!s.wakeEnabled w) = true) := by simp [ha, he]
  unfold State.latchWake
  rw [if_neg hg]
  have hr' : (s.modAon fun a => { a with wakesrc := a.wakesrc ||| ((1 : Word) <<< wakeBit w), capture := s.gt.toNat }).st.run = none := hr
  simp only [hr']
  rfl

theorem State.latchWake_none {s : State} {w : WakeSrc} (h : s.aon.armed = false ∨ s.wakeEnabled w = false) : s.latchWake w = s := by
  refine if_pos ?_
  obtain h | h := h <;> simp [h]

/-- The wake of a source by the power state. -/
theorem State.latchWake_acts {s : State} {w : WakeSrc} (ha : s.aon.armed = true) (he : s.wakeEnabled w = true) (hr : s.st.run = none) {a : Aon}
    (haon : a = { s.aon with wakesrc := s.aon.wakesrc ||| ((1 : Word) <<< wakeBit w), capture := s.gt.toNat }) :
    ((s.life.ps = .run ∨ s.life.ps = .doze ∧ s.life.st = .failSilent) → s.latchWake w = { s with aon := a }) ∧
    (s.life.ps = .doze → s.life.st ≠ .failSilent → ∃ t : State, s.latchWake w = t ∧ t.life.st = .boot ∧ t.life.ps = .run ∧
      t.life.step = (if s.split then 5 else 4) ∧ t.life.wakeAt = s.clk.lclk ∧ t.aon.armed = false ∧ t.aon.wakesrc = a.wakesrc ∧ t.auth = false ∧
      (∀ l : AxisNo, t.ax[l].en = false ∧ t.ax[l].pwm.gates = false ∧ t.ax[l].com.cval = false) ∧ t.par.stored = s.par.stored) ∧
    (s.life.ps = .sleep → s.aon.control = false →
      (s.clk.lclk < s.aon.controlAt + 500000 →
        s.latchWake w = { s with aon := { a with replay := some (s.aon.replay.getD (wakeBit w, s.gt.toNat)) } }) ∧
      (s.aon.controlAt + 500000 ≤ s.clk.lclk → s.life.st ≠ .failSilent → ∃ t : State, s.latchWake w = t ∧ t.aon.control = true ∧
        t.aon.controlAt = s.clk.lclk ∧ t.aon.armed = false ∧ t.aon.wakesrc = a.wakesrc ∧ t.life = { s.life with wakeAt := s.clk.lclk } ∧
        t.ax = s.ax)) := by
  subst haon
  rw [State.latchWake_eq ha he hr]
  refine ⟨fun h => ?_, fun hps hst => ?_, fun hps hc => ?_⟩
  · have hs : (s.latched w).tooSoon = false := by
      obtain h | ⟨h, -⟩ := h <;> exact State.tooSoon_awake (fun hx => absurd (h.symm.trans hx) (by decide)) fun hx => absurd (h.symm.trans hx) (by decide)
    rw [hs, State.wakeUp_none (s := s.latched w) (h.imp_right And.right)]
    rfl
  · have hs : (s.latched w).tooSoon = false :=
      State.tooSoon_awake (fun hx => absurd (hps.symm.trans hx) (by decide)) fun hx => absurd (hps.symm.trans hx) (by decide)
    rw [hs]
    exact State.wakeUp_doze (s := s.latched w) hps hst
  · have hs : (s.latched w).tooSoon = decide (s.clk.lclk < s.aon.controlAt + 500000) := State.tooSoon_sleep hps hc
    refine ⟨fun hlt => ?_, fun hge hst => ?_⟩
    · rw [hs, if_pos (decide_eq_true hlt)]
      rfl
    · obtain ⟨m, c, i, late, hn⟩ := (s.latched w).noteWake_eq
      rw [hs, if_neg (by simpa using hge), State.wakeUp_sleep (s := s.latched w) hps hst hc, hn]
      exact ⟨_, rfl, rfl, rfl, rfl, rfl, rfl, rfl⟩

/-- The wake of a replayed source. -/
theorem State.replayWake_acts {s : State} {b c : Nat} (hr : s.aon.replay = some (b, c)) (hps : s.life.ps = .sleep) (hc : s.aon.control = false) :
    (s.clk.lclk < s.aon.controlAt + 500000 → s.replayWake = s) ∧
    (s.aon.controlAt + 500000 ≤ s.clk.lclk → s.life.st ≠ .failSilent → ∃ t : State, s.replayWake = t ∧ t.aon.replay = none ∧
      t.aon.control = true ∧ t.aon.controlAt = s.clk.lclk ∧ t.life.st = s.life.st ∧ t.ax = s.ax) := by
  have hs := State.tooSoon_sleep hps hc
  have he : s.replayWake = if s.tooSoon = true then s else
      ((s.modAon fun a => { a with replay := none }).raise 0xD005 .grey none [(1 : Word) <<< b, loW c, hiW c]).wakeUp := by
    unfold State.replayWake
    rw [hr]
  rw [he]
  refine ⟨fun hlt => ?_, fun hge hst => ?_⟩
  · rw [hs, if_pos (decide_eq_true hlt)]
  · obtain ⟨m, q, i, late, h⟩ := (s.modAon fun a => { a with replay := none }).raise_eventOnly 0xD005 .grey none [(1 : Word) <<< b, loW c, hiW c]
    rw [hs, if_neg (by simpa using hge), h]
    refine ⟨_, rfl, ?_⟩
    rw [State.wakeUp_sleep]
    · obtain ⟨m', q', i', late', h'⟩ := State.noteWake_eq { s.modAon fun a => { a with replay := none } with
        mb := m, cnt := q, regs := { (s.modAon fun a => { a with replay := none }).regs with intstat := i }
        aon := { (s.modAon fun a => { a with replay := none }).aon with late := late } }
      rw [h']
      exact ⟨rfl, rfl, rfl, rfl, rfl⟩
    · exact hps
    · exact hst
    · exact hc

/-! ## The steps of a sleep entry (R430 to R433) -/

theorem State.abortPoint_none {s : State} (ap : Fin 4) (h : s.life.entry = none) : s.abortPoint ap = s := by
  unfold State.abortPoint
  rw [h]

theorem State.abortPoint_idle {s : State} {ap : Fin 4} {e : Entry} (he : s.life.entry = some e) (h : e.passed ≠ ap.val ∨ e.arming = true) :
    s.abortPoint ap = s := by
  unfold State.abortPoint
  rw [he]
  exact if_pos (h.imp_right .inl)

/-- A point that is due: the entry is abandoned, or its next step runs. -/
theorem State.abortPoint_eq {s : State} {ap : Fin 4} {e : Entry} (he : s.life.entry = some e) (hp : e.passed = ap.val) (ha : e.arming = false)
    (hc : s.life.plc = none) (hst : s.life.st ≠ .selftest) : s.abortPoint ap =
      if s.aon.wakesrc ≠ 0 ∨ e.abort = true then s.abandonEntry e (ap.val + 1)
      else if ap = 0 then s.entryE2 e
      else if ap = 1 then (s.modLife fun f => { f with entry := some { e with passed := 2 } }).saveGroups (decide (e.kind = .sleep))
      else if ap = 2 then s.modLife fun f => { f with entry := some { e with passed := 3 }, domains := f.domains &&& 1, isolated := 0 }
      else s.entryE5 e := by
  have hg : ¬ (e.passed ≠ ap.val ∨ e.arming = true ∨ (ap = 0 ∧ s.life.plc.isSome = true) ∨ s.life.st = .selftest ∧ s.st.run.isSome = true) := by
    simp [hp, ha, hc, hst]
  unfold State.abortPoint
  rw [he]
  exact if_neg hg

end Sys2Proof.Machine

namespace Sys2Proof.Machine

/-- What one step of a fold over indices establishes, and every step keeps, holds after the fold. -/
theorem forFin_hits {σ : Type} {n : Nat} {f : Fin n → σ → σ} {p : σ → Prop} (i : Fin n) (h : ∀ x, p (f i x)) (k : ∀ j x, p x → p (f j x))
    (s : σ) :
    p (forFin n f s) := by
  obtain ⟨as, bs, hl⟩ := List.append_of_mem (List.mem_finRange i)
  unfold forFin fins
  rw [hl, List.foldl_append, List.foldl_cons]
  exact List.foldlRecOn (motive := p) bs _ (h _) fun x hx j _ => k j x hx

/-! ## The VTB and the axis clocks (R103, R371) -/

/-- The VTB enters a state. -/
theorem State.vtbTo_eq (s : State) (x : VtbSt) : ∃ m c i late q v, s.vtbTo x =
    { s with mb := m, cnt := c, regs := { s.regs with intstat := i }, aon := { s.aon with late := late }, clk := q, vtb := v } ∧
      v.st = x ∧ q.lclk = s.clk.lclk := by
  obtain ⟨q, hq, hl⟩ : ∃ q, s.anchor x = { s with clk := q } ∧ q.lclk = s.clk.lclk := by
    unfold State.anchor
    split
    · exact ⟨_, rfl, rfl⟩
    · exact ⟨s.clk, rfl, rfl⟩
  obtain ⟨w, hw, v, hv, hst⟩ : ∃ w : State,
      (let t := (s.anchor x).modVtb fun v => { v with st := x, okRun := 0, syncLost := 0, passRun := 0, exceedRuns := 0,
                                                      csatt := if x = .sync then 0 else v.csatt,
                                                      listenAt := if x = .listen then (s.anchor x).clk.lclk else v.listenAt }
        if x = .off then t.modVtb fun v => { v with chan := v.chan.map fun (c : VChan) => { c with up := false, silent := 0 } } else t) = w ∧
      ∃ v, w = { s with clk := q, vtb := v } ∧ v.st = x := by
    refine ⟨_, rfl, ?_⟩
    rw [hq]
    simp only []
    split
    · exact ⟨_, rfl, rfl⟩
    · exact ⟨_, rfl, rfl⟩
  have ht : s.vtbTo x = if x = .sync ∧ s.vtb.st ≠ .sync then w.raise 0xB005 .grey none []
      else if s.vtb.st = .sync ∧ x ≠ .sync then w.raise 0xB006 .amber none [x.code] else w := by
    rw [← hw]
    rfl
  have he : w.eventOnly (s.vtbTo x) := by
    rw [ht]
    split
    · exact w.raise_eventOnly _ _ _ _
    · split
      · exact w.raise_eventOnly _ _ _ _
      · exact w.eventOnly_refl
  obtain ⟨m, c, i, late, he⟩ := he
  rw [he, hv]
  exact ⟨m, c, i, late, q, v, rfl, hst, hl⟩

theorem State.axClockStops_eq (s : State) (l : AxisNo) : ∃ b, s.axClockStops l =
    { s with ax := vmod s.ax l (fun a => { a with com := { a.com with cval := false }, pwm := { a.pwm with run := false } }), brake := b } := by
  unfold State.axClockStops
  simp only []
  split
  · exact ⟨_, rfl⟩
  · exact ⟨s.brake, rfl⟩

/-- Of an axis whose clock stops: it is neither enabled nor disabled, and a clear CVAL stays clear. -/
theorem State.axClockStops_get (s : State) (l m : AxisNo) : (s.axClockStops l).ax[m].en = s.ax[m].en ∧
    (s.axClockStops l).ax[m].pwm.gates = s.ax[m].pwm.gates ∧ (m = l → (s.axClockStops l).ax[m].com.cval = false) ∧
    (s.ax[m].com.cval = false → (s.axClockStops l).ax[m].com.cval = false) := by
  obtain ⟨b, h⟩ := s.axClockStops_eq l
  rw [h]
  by_cases hm : m = l
  · subst hm
    rw [vmod_same]
    exact ⟨rfl, rfl, fun _ => rfl, fun _ => rfl⟩
  · rw [vmod_ne _ _ _ _ hm]
    exact ⟨rfl, rfl, fun h => absurd h hm, id⟩

theorem State.clearCval_get (s : State) (m : AxisNo) : s.clearCval.ax[m].com.cval = false ∧ s.clearCval.ax[m].en = s.ax[m].en ∧
    s.clearCval.ax[m].pwm.gates = s.ax[m].pwm.gates := by
  obtain ⟨f, hf⟩ : ∃ f : AxisNo → State → State, f = fun l s => s.axClockStops l := ⟨_, rfl⟩
  have hs : s.clearCval = forFin 8 f s := hf ▸ rfl
  have hg : ∀ (l : AxisNo) (t : State), f l t = t.axClockStops l := fun l t => hf ▸ rfl
  rw [hs]
  refine ⟨forFin_hits (p := fun t : State => t.ax[m].com.cval = false) m (fun t => ?_) (fun l t ht => ?_) s,
    forFin_keeps (p := fun t : State => t.ax[m].en = s.ax[m].en ∧ t.ax[m].pwm.gates = s.ax[m].pwm.gates) ⟨rfl, rfl⟩ fun l t ht => ?_⟩
  · rw [hg]
    exact (t.axClockStops_get m m).2.2.1 rfl
  · rw [hg]
    exact (t.axClockStops_get l m).2.2.2 ht
  · rw [hg]
    obtain ⟨h1, h2, -⟩ := t.axClockStops_get l m
    exact ⟨h1.trans ht.1, h2.trans ht.2⟩

/-- The axis clocks stop: CVAL clears on every axis; no axis is enabled or disabled by it. -/
theorem State.clearCval_eq (s : State) : ∃ (a : Vector Axis 8) (b : Brake), s.clearCval = { s with ax := a, brake := b } ∧
    ∀ m : AxisNo, a[m].com.cval = false ∧ a[m].en = s.ax[m].en ∧ a[m].pwm.gates = s.ax[m].pwm.gates := by
  obtain ⟨a, b, h⟩ : ∃ (a : Vector Axis 8) (b : Brake), s.clearCval = { s with ax := a, brake := b } := by
    refine forFin_keeps (p := fun t : State => ∃ (a : Vector Axis 8) (b : Brake), t = { s with ax := a, brake := b }) ⟨s.ax, s.brake, rfl⟩ ?_
    rintro l t ⟨a, b, rfl⟩
    obtain ⟨b', h⟩ := State.axClockStops_eq { s with ax := a, brake := b } l
    exact ⟨_, b', h⟩
  refine ⟨a, b, h, fun m => ?_⟩
  have := s.clearCval_get m
  rwa [h] at this

/-! ## The steps of a sleep entry (R430 to R433) -/

theorem State.abandonEntry_acts {s : State} (e : Entry) (ap : Nat) (hst : s.life.st ≠ .selftest) : ∃ t : State, s.abandonEntry e ap = t ∧
    t.life.entry = none ∧ t.life.domains = e.doms ∧ t.life.isolated = 0 ∧ t.life.st = s.life.st ∧ t.aon.armed = false ∧ t.aon.timer = none ∧
      t.ax = s.ax ∧ t.auth = s.auth := by
  obtain ⟨w, hw, m, c, i, late, q, v, he⟩ : ∃ w : State,
      (let t := (s.modLife fun f => { f with entry := none, shutdown := none, plc := none, domains := e.doms, isolated := 0 }).modAon fun a =>
          { a with armed := false, timer := none, sigValid := false }
        if 1 ≤ e.passed ∧ e.doms.getLsbD 6 = true then t.vtbTo .listen else t) = w ∧
      ∃ m c i late q v, w =
        { s with mb := m, cnt := c, regs := { s.regs with intstat := i }, clk := q, vtb := v
                 aon := { s.aon with armed := false, timer := none, sigValid := false, late := late }
                 life := { s.life with entry := none, shutdown := none, plc := none, domains := e.doms, isolated := 0 } } := by
    refine ⟨_, rfl, ?_⟩
    simp only []
    split
    · obtain ⟨m, c, i, late, q, v, h, -⟩ := State.vtbTo_eq ((s.modLife fun f =>
          { f with entry := none, shutdown := none, plc := none, domains := e.doms, isolated := 0 }).modAon fun a =>
          { a with armed := false, timer := none, sigValid := false }) .listen
      exact ⟨m, c, i, late, q, v, h⟩
    · exact ⟨s.mb, s.cnt, s.regs.intstat, s.aon.late, s.clk, s.vtb, rfl⟩
  have hs : w.life.st ≠ .selftest := by
    rw [he]
    exact hst
  obtain ⟨p, hp, -⟩ := w.requestLevel_eq e.pl none
  obtain ⟨m', c', i', late', hc⟩ := ({ w with life := { w.life with plc := p } } : State).complete_eventOnly e.op 0
    (if e.abort = true then [0xFFFFFFFF] else [2, BitVec.ofNat 32 ap ||| (s.aon.wakesrc <<< 16)])
  have ht : s.abandonEntry e ap = (w.requestLevel e.pl none).complete e.op 0
      (if e.abort = true then [0xFFFFFFFF] else [2, BitVec.ofNat 32 ap ||| (s.aon.wakesrc <<< 16)]) := by
    unfold State.abandonEntry
    simp only [hw, if_neg hs]
  rw [ht, hp, hc, he]
  exact ⟨_, rfl, rfl, rfl, rfl, rfl, rfl, rfl, rfl, rfl⟩

/-- The lane gives its authority to STANDBY. -/
theorem State.yield_acts (s : State) : ∃ v : State, (s.sendTwin 1 0xFF []).giveUp.toStandby = v ∧ v.auth = false ∧
    v.twin.sent = some (1, ⟨s.twin.txSeq, 0xFF, []⟩) ∧ (∀ l : AxisNo, v.ax[l].en = false ∧ v.ax[l].pwm.gates = false) ∧ v.life.ps = s.life.ps := by
  obtain ⟨m, c, r, late, n, a, p, l, hg, hn, hsent, ha, hl, -⟩ := (s.sendTwin 1 0xFF []).giveUp_eq
  have hps : l.ps = s.life.ps := (congrArg Life.ps hl :)
  rw [hg]
  unfold State.toStandby
  simp only []
  split
  · exact ⟨_, rfl, hn, hsent, ha, hps⟩
  · refine ⟨_, rfl, ?_⟩
    obtain ⟨-, l', r', hs, hl'⟩ := State.setSt_eq { s.sendTwin 1 0xFF [] with
      mb := m, cnt := c, regs := r, aon := { (s.sendTwin 1 0xFF []).aon with late := late }, twin := n, ax := a, ports := p, life := l } .standby
    rw [hs]
    exact ⟨hn, hsent, ha, (congrArg Life.ps hl' :).trans hps⟩

/-- E2 up to the axis clocks and the VTB. -/
theorem State.entryE2_clocks (s : State) : ∃ w : State, (if s.auth = true then (s.sendTwin 1 0xFF []).giveUp.toStandby else s).clearCval.vtbTo .off = w ∧
    w.auth = false ∧ w.vtb.st = .off ∧ (∀ l : AxisNo, w.ax[l].com.cval = false) ∧
    (s.auth = true → w.twin.sent = some (1, ⟨s.twin.txSeq, 0xFF, []⟩) ∧ ∀ l : AxisNo, w.ax[l].en = false ∧ w.ax[l].pwm.gates = false) ∧
    w.life.ps = s.life.ps := by
  obtain ⟨v, hv, hn, hsent, hps⟩ : ∃ v : State, (if s.auth = true then (s.sendTwin 1 0xFF []).giveUp.toStandby else s) = v ∧ v.auth = false ∧
      (s.auth = true → v.twin.sent = some (1, ⟨s.twin.txSeq, 0xFF, []⟩) ∧ ∀ l : AxisNo, v.ax[l].en = false ∧ v.ax[l].pwm.gates = false) ∧
      v.life.ps = s.life.ps := by
    split
    · obtain ⟨v, hv, hn, hsent, hax, hps⟩ := s.yield_acts
      exact ⟨v, hv, hn, fun _ => ⟨hsent, hax⟩, hps⟩
    · next h => exact ⟨s, rfl, by simpa using h, fun hx => absurd hx h, rfl⟩
  obtain ⟨a, b, hc, ha⟩ := v.clearCval_eq
  obtain ⟨m, c, i, late, q, x, hx, hst, -⟩ := v.clearCval.vtbTo_eq .off
  rw [hv, hx, hc]
  refine ⟨_, rfl, hn, hst, fun l => (ha l).1, fun h => ⟨(hsent h).1, fun l => ?_⟩, hps⟩
  obtain ⟨-, h1, h2⟩ := ha l
  obtain ⟨h3, h4⟩ := (hsent h).2 l
  exact ⟨h1.trans h3, h2.trans h4⟩

theorem State.entryE2_acts (s : State) (e : Entry) : ∃ t : State, s.entryE2 e = t ∧ t.auth = false ∧ t.vtb.st = .off ∧
    (∀ l : AxisNo, t.ax[l].com.cval = false) ∧
    (s.auth = true → t.twin.sent = some (1, ⟨s.twin.txSeq, 0xFF, []⟩) ∧ ∀ l : AxisNo, t.ax[l].en = false ∧ t.ax[l].pwm.gates = false) ∧
    (e.kind = .doze → t.life.st = .sleep ∧ t.life.ps = .doze ∧ t.life.entry = none ∧ t.aon.keptOp = some e.op) ∧
    (e.kind ≠ .doze → t.life.entry = some { e with passed := 1 } ∧ t.life.ps = s.life.ps) := by
  obtain ⟨w, hw, h1, h2, h3, h4, h5⟩ := s.entryE2_clocks
  by_cases hk : e.kind = .doze
  · obtain ⟨hst, l, r, hs, hl⟩ := ((w.modLife fun f => { f with entry := some { e with passed := 1 } }).commitOp e.op).setSt_eq .sleep
    have ht : s.entryE2 e = ((((w.modLife fun f => { f with entry := some { e with passed := 1 } }).commitOp e.op).setSt .sleep).modLife fun f =>
        { f with ps := .doze, entry := none, drdy := false }).modAon fun a => { a with keptOp := some e.op } := by
      unfold State.entryE2
      simp only [hw, if_pos hk]
    rw [hs] at hst ht
    exact ⟨_, ht, h1, h2, h3, h4, fun _ => ⟨hst, rfl, rfl, rfl⟩, fun hn => absurd hk hn⟩
  · have ht : s.entryE2 e = w.modLife fun f => { f with entry := some { e with passed := 1 } } := by
      unfold State.entryE2
      simp only [hw, if_neg hk]
    exact ⟨_, ht, h1, h2, h3, h4, fun hd => absurd hd hk, fun _ => ⟨rfl, h5⟩⟩

theorem State.entryE5_acts (s : State) (e : Entry) : ∃ t : State, s.entryE5 e = t ∧ t.aon.control = false ∧ t.aon.controlAt = s.clk.lclk ∧
    t.aon.keptOp = some e.op ∧ t.life.domains = 0 ∧ t.life.entry = none ∧ t.life.drdy = false ∧
    t.life.st = (if e.kind = .shutdown then .off else .sleep) ∧ t.life.ps = (if e.kind = .shutdown then .shutdown else .sleep) := by
  obtain ⟨v, hv⟩ : ∃ v, (s.commitOp e.op).setSt (if decide (e.kind = .shutdown) = true then .off else .sleep) = v := ⟨_, rfl⟩
  obtain ⟨hst, l, r, hs, -⟩ := (s.commitOp e.op).setSt_eq (if decide (e.kind = .shutdown) = true then .off else .sleep)
  have ht : s.entryE5 e = (v.modLife fun f =>
        { f with ps := if decide (e.kind = .shutdown) = true then .shutdown else .sleep, entry := none, drdy := false, domains := 0,
                 isolated := 0 }).modAon fun a =>
        { a with keptOp := some e.op, control := false, controlAt := v.clk.lclk, sigValid := a.sigValid && !decide (e.kind = .shutdown),
                 replay := none } := by
    rw [← hv]
    rfl
  rw [hv] at hs hst
  rw [hs] at hst ht
  refine ⟨_, ht, rfl, rfl, rfl, rfl, rfl, rfl, ?_, ?_⟩
  · show l.st = _
    simpa only [decide_eq_true_eq] using hst
  · simp only [State.modLife, State.modAon, decide_eq_true_eq]

end Sys2Proof.Machine

namespace Sys2Proof.Machine

/-- A point that is due, by its number (R430, R431). -/
theorem State.abortPoint_acts {s : State} {ap : Fin 4} {e : Entry} (he : s.life.entry = some e) (hp : e.passed = ap.val) (ha : e.arming = false)
    (hc : s.life.plc = none) (hst : s.life.st ≠ .selftest) :
    ((s.aon.wakesrc ≠ 0 ∨ e.abort = true) →
      ∃ t : State, s.abortPoint ap = t ∧ t.life.entry = none ∧ t.life.domains = e.doms ∧ t.life.isolated = 0 ∧ t.life.st = s.life.st ∧
        t.aon.armed = false ∧ t.aon.timer = none ∧ t.ax = s.ax ∧ t.auth = s.auth) ∧
    (s.aon.wakesrc = 0 → e.abort = false →
      (ap = 0 → s.abortPoint ap = s.entryE2 e) ∧
      (ap = 1 → s.abortPoint ap = (s.modLife fun f => { f with entry := some { e with passed := 2 } }).saveGroups (decide (e.kind = .sleep))) ∧
      (ap = 2 → s.abortPoint ap =
        s.modLife fun f => { f with entry := some { e with passed := 3 }, domains := f.domains &&& 1, isolated := 0 }) ∧
      (ap = 3 → s.abortPoint ap = s.entryE5 e)) := by
  rw [State.abortPoint_eq he hp ha hc hst]
  refine ⟨fun h => ?_, fun hw hb => ?_⟩
  · rw [if_pos h]
    exact s.abandonEntry_acts e _ hst
  · rw [if_neg (by simp [hw, hb])]
    refine ⟨?_, ?_, ?_, ?_⟩ <;> rintro rfl <;> rfl

/-- The signatures of a sleep. -/
theorem State.saveGroups_sleep (s : State) : ∃ t : State, s.saveGroups true = t ∧ t.life = s.life ∧ t.aon.sigValid = true ∧
    t.aon.sigerr = false ∧ (∀ i : Fin 28, t.aon.sigs[i] = Config.freeWord (s.free + i.val)) ∧ { t with aon := s.aon, free := s.free } = s := by
  refine ⟨_, rfl, rfl, rfl, rfl, fun i => ?_, rfl⟩
  show (Vector.ofFn fun i : Fin 28 => Config.freeWord (s.free + i.val))[i] = _
  simp

/-- The always-on timer has its time, or has it not. -/
theorem State.timerWake_none {s : State} (h : s.aon.timer = none ∨ s.pn P.pwrWtimer = 0) : s.timerWake = s := by
  unfold State.timerWake
  split
  · next n hn =>
    exact if_neg fun hx => hx.1 (h.resolve_left (by rw [hn]; exact Option.some_ne_none n))
  · rfl

theorem State.timerWake_some {s : State} {n : Nat} (ht : s.aon.timer = some n) (hp : s.pn P.pwrWtimer ≠ 0) :
    s.timerWake = if 32768 * s.pn P.pwrWtimer ≤ n then s.latchWake .timer else s := by
  unfold State.timerWake
  rw [ht]
  simp only [hp, ne_eq, not_false_eq_true, true_and]

/-- The grant of E1 or of a shut-down test has not come. -/
theorem grantTimeout_next (s : State) (now : Ns) (c : PlChange) (h : s.life.plc = some c) : execSleepGrantTimeout now s =
    .next (if (s.life.entry.isSome ∨ s.life.shutdown.isSome) ∧ c.waiting = true ∧ c.since + 10000000 ≤ (s.at now).clk.lclk then
      { s.at now with life := { s.life with plc := none } } else s.at now) := by
  unfold execSleepGrantTimeout
  simp only [State.at_life, h]
  exact congrArg _ (if_congr (by simp [State.since, ms]) rfl rfl)

/-! ## The retention check (R433 to R435) -/
theorem foldl_setBits_getLsbD {n : Nat} (p : Fin n → Prop) [DecidablePred p] (j : Fin n) (is : List (Fin n)) (m : BitVec n) :
    (is.foldl (fun (m : BitVec n) (i : Fin n) => if p i then m ||| ((1 : BitVec n) <<< i.val) else m) m).getLsbD j.val =
      (m.getLsbD j.val || (decide (j ∈ is) && decide (p j))) := by
  induction is generalizing m with
  | nil => simp
  | cons i is ih =>
    rw [List.foldl_cons, ih]
    have hb : ((1 : BitVec n) <<< i.val).getLsbD j.val = decide (j = i) := by
      simp only [BitVec.getLsbD_shiftLeft, j.isLt, Fin.ext_iff]
      by_cases h : j.val = i.val
      · have := j.isLt
        simp [h]
        omega
      · simp [h]
        omega
    by_cases hj : j = i
    · subst hj
      by_cases hp : p j
      · rw [if_pos hp, BitVec.getLsbD_or, hb]
        simp [hp]
      · simp [hp]
    · by_cases hp : p i
      · rw [if_pos hp, BitVec.getLsbD_or, hb]
        simp [hj]
      · simp [hp, hj]

/-- The lost mask, bit by bit. -/
theorem State.lostMask_eq {s : State} {sigs : Vector Word 28} {par lost : BitVec 28}
    (h : ∀ i : Fin 28, lost.getLsbD i.val = (decide (sigs[i] ≠ s.aon.sigs[i]) || par.getLsbD i.val)) : s.lostMask sigs par = lost := by
  refine BitVec.eq_of_getLsbD_eq fun i hi => ?_
  have hf := foldl_setBits_getLsbD (fun i : Fin 28 => sigs[i] ≠ s.aon.sigs[i] ∨ par.getLsbD i.val = true) ⟨i, hi⟩ (fins 28) 0
  refine hf.trans ?_
  rw [h ⟨i, hi⟩]
  simp [fins, List.mem_finRange]

/-- What the re-initialisation of lost parts leaves, and that it leaves every axis off. -/
theorem State.reinit_acts {s : State} (lost : BitVec 28) (h : ∀ l : AxisNo, s.ax[l].en = false ∧ s.ax[l].pwm.gates = false) :
    ∃ t : State, s.reinit lost = t ∧ t.life = s.life ∧ t.aon = s.aon ∧ t.par = s.par ∧
      ∀ l : AxisNo, t.ax[l].en = false ∧ t.ax[l].pwm.gates = false := by
  obtain ⟨v, hv, h1, h2, h3, h4⟩ : ∃ v : State,
      (let t := s.modInteg fun g => { g with sram := sramKept lost g.sram }
        if lost &&& lostSafety = 0 then t
        else { t with vote := {}, nov := {}, safe := {}, brake := { led := t.brake.ledSaved, ledSaved := t.brake.ledSaved } }) = v ∧
      v.life = s.life ∧ v.aon = s.aon ∧ v.par = s.par ∧ v.ax = s.ax := by
    refine ⟨_, rfl, ?_⟩
    simp only []
    split <;> exact ⟨rfl, rfl, rfl, rfl⟩
  have hf : ∀ f : AxisNo → State → State, (∀ l t, f l t = if lost.getLsbD (16 + l.val) = true then t.reinitAxis l else t) →
      (forFin 8 f v).life = s.life ∧ (forFin 8 f v).aon = s.aon ∧ (forFin 8 f v).par = s.par ∧
        ∀ l : AxisNo, (forFin 8 f v).ax[l].en = false ∧ (forFin 8 f v).ax[l].pwm.gates = false := fun f hf => by
    refine forFin_keeps (p := fun t : State => t.life = s.life ∧ t.aon = s.aon ∧ t.par = s.par ∧
      ∀ l : AxisNo, t.ax[l].en = false ∧ t.ax[l].pwm.gates = false) ⟨h1, h2, h3, h4 ▸ h⟩ ?_
    rintro l t ⟨i1, i2, i3, i4⟩
    rw [hf]
    split
    · refine ⟨i1, i2, i3, fun m => ?_⟩
      unfold State.reinitAxis
      by_cases hm : m = l
      · subst hm
        simp [State.modAx, State.modBrake, Axis.rebooted]
      · simp only [State.modAx, State.modBrake, vmod_ne _ _ _ _ hm]
        exact i4 m
    · exact ⟨i1, i2, i3, i4⟩
  have hs : s.reinit lost = (let t := forFin 8 (fun l t => if lost.getLsbD (16 + l.val) = true then t.reinitAxis l else t) v
      let t := if lost.getLsbD 24 = true then { t with su := { eng := t.su.eng.loaded } } else t
      if lost.getLsbD 25 = true then { t with can := Vector.replicate 2 {}, eth := {}, vtb := {}, ports := Vector.replicate 3 {} } else t) := by
    rw [← hv]
    rfl
  obtain ⟨w, hw⟩ : ∃ w, forFin 8 (fun l t => if lost.getLsbD (16 + l.val) = true then t.reinitAxis l else t) v = w := ⟨_, rfl⟩
  have hk := hf _ fun _ _ => rfl
  rw [hw] at hk hs
  refine ⟨_, hs, ?_⟩
  simp only []
  split <;> split <;> exact hk

/-- The retention check (R433, R434). -/
theorem State.resumeCheck_acts (s : State) (lost : BitVec 28) : ∃ t : State, s.resumeCheck lost = t ∧ t.life.st = .boot ∧ t.life.ps = .run ∧
    t.aon.lost = lost ∧ t.life.step = (if lost &&& lostCold ≠ 0 then 1 else if s.split then 5 else 4) ∧
    t.life.reason = (if lost &&& (lostCold ||| lostSafety) ≠ 0 then 2 else 0) ∧ t.par.stored = s.par.stored ∧
    ∀ l : AxisNo, t.ax[l].en = false ∧ t.ax[l].pwm.gates = false := by
  obtain ⟨v, hv, m, c, i, late, hev⟩ : ∃ v : State,
      (let t := s.modAon fun a => { a with lost := lost, sigValid := false }
        if lost = 0 then t else t.raise 0xD006 .amber none [lost.setWidth 32]) = v ∧
      (s.modAon fun a => { a with lost := lost, sigValid := false }).eventOnly v := by
    refine ⟨_, rfl, ?_⟩
    simp only []
    split
    · exact State.eventOnly_refl _
    · exact State.raise_eventOnly _ _ _ _ _
  have hs : s.resumeCheck lost = if lost &&& lostCold ≠ 0 then (v.coldBoot 1).modLife fun f => { f with reason := 2 }
      else (((({ v with can := Vector.replicate 2 {}, eth := {} } : State).modLife fun f => { f with domains := 1, isolated := 0 }).newStart.reinit
        lost).modLife fun f => { f with reason := if (lost &&& lostSafety != 0) = true then 2 else 0 }).firmwareUp := by
    rw [← hv]
    rfl
  have hbits : lost &&& (lostCold ||| lostSafety) = (lost &&& lostCold) ||| (lost &&& lostSafety) := BitVec.and_or_distrib_left
  rw [hbits]
  by_cases hcold : lost &&& lostCold = 0
  · obtain ⟨w, hw, h1, h2, h3, -, -, h4, -, -, h5, h6⟩ :=
      (({ v with can := Vector.replicate 2 {}, eth := {} } : State).modLife fun f => { f with domains := 1, isolated := 0 }).newStart_acts
    obtain ⟨x, hx, i1, i2, i3, i4⟩ := w.reinit_acts lost fun l => by
      rw [h6 l]
      exact ⟨rfl, rfl⟩
    obtain ⟨m', c', i', late', k, fp, hf⟩ :=
      (x.modLife fun f => { f with reason := if (lost &&& lostSafety != 0) = true then 2 else 0 }).firmwareUp_eq
    have ht : s.resumeCheck lost = (x.modLife fun f => { f with reason := if (lost &&& lostSafety != 0) = true then 2 else 0 }).firmwareUp := by
      rw [hs, if_neg (not_not.2 hcold), hw, hx]
    rw [hf] at ht
    refine ⟨_, ht, ?_, ?_, ?_, ?_, ?_, ?_, i4⟩
    · exact (congrArg Life.st i1 :).trans h1
    · exact (congrArg Life.ps i1 :).trans h2
    · show x.aon.lost = lost
      rw [i2, h4, hev]
      rfl
    · rw [if_neg (not_not.2 hcold)]
      refine ((congrArg Life.step i1 :).trans h3).trans ?_
      rw [hev]
      rfl
    · show (if (lost &&& lostSafety != 0) = true then (2 : BitVec 7) else 0) = _
      rw [hcold]
      by_cases hb : lost &&& lostSafety = 0 <;> simp [hb]
    · show x.par.stored = _
      rw [i3, h5, hev]
      rfl
  · have ht : s.resumeCheck lost = (v.coldBoot 1).modLife fun f => { f with reason := 2 } := by
      rw [hs, if_pos hcold]
    have hne : (lost &&& lostCold) ||| (lost &&& lostSafety) ≠ 0 := fun h => hcold (BitVec.or_eq_zero_iff.1 h).1
    refine ⟨_, ht, rfl, rfl, ?_, ?_, ?_, ?_, fun l => ?_⟩
    · show v.aon.lost = lost
      rw [hev]
      rfl
    · rw [if_pos hcold]
      rfl
    · rw [if_pos hne]
      rfl
    · show v.par.stored = _
      rw [hev]
      rfl
    · show v.rebooted.ax[l].en = false ∧ v.rebooted.ax[l].pwm.gates = false
      rw [v.rebooted_get]
      exact Axis.rebooted_off _

end Sys2Proof.Machine

namespace Sys2Proof.Machine

/-! ## Resets (R440, R514 to R516) -/

/-- A lane that is off drives no axis. -/
theorem State.powerOff_off (s : State) (l : AxisNo) : s.powerOff.ax[l].en = false ∧ s.powerOff.ax[l].pwm.gates = false := by
  have h : s.powerOff.ax[l] = s.ax[l].rebooted := s.rebooted_get l
  rw [h]
  exact Axis.rebooted_off _

theorem State.resetLow_acts (s : State) : ∃ t : State, s.resetLow = t ∧ t.life.st = .off ∧ t.life.nrstLow = true ∧ t.aon.control = false ∧
    t.life.domains = 0 ∧ t.regs.scratch = 0 ∧ t.regs.inten = 0 ∧ t.par.stored = s.par.stored ∧ t.aon.failrec = s.aon.failrec ∧
    ∀ l : AxisNo, t.ax[l].en = false ∧ t.ax[l].pwm.gates = false :=
  ⟨_, rfl, rfl, rfl, rfl, rfl, rfl, rfl, rfl, rfl, fun l => State.powerOff_off _ l⟩

theorem State.resetHigh_acts {s : State} (st : Straps) (hp : s.aon.powered = true) : ∃ t : State, s.resetHigh st = t ∧ t.life.st = .boot ∧
    t.life.step = 0 ∧ t.life.nrstLow = false ∧ t.ident.straps = st ∧ t.aon.control = true ∧ t.aon.controlAt = s.clk.lclk := by
  have ht : s.resetHigh st = ({ (s.modLife fun f => { f with nrstLow := false }) with
      ident := { s.ident with straps := st } } : State).controlUp.coldBoot 0 := if_pos hp
  exact ⟨_, ht, rfl, rfl, rfl, rfl, rfl, rfl⟩

theorem vddAonLost_acts (s : State) : ∃ t : State, execVddAonLost s = .next t ∧ t.life.st = .off ∧ t.aon.powered = false ∧ t.life.domains = 0 ∧
    t.par.stored = s.par.stored ∧ ∀ l : AxisNo, t.ax[l].en = false ∧ t.ax[l].pwm.gates = false :=
  ⟨_, rfl, rfl, rfl, rfl, rfl, fun l => State.powerOff_off _ l⟩

theorem vddAonApplied_acts {s : State} (crystal : Bool) (lane : BitVec 2) (h : s.life.nrstLow = false) :
    ∃ t : State, execVddAonApplied crystal lane s = .next t ∧ t.life.st = .boot ∧ t.life.step = 0 ∧ t.ident.lane = lane ∧
      t.ident.crystal = crystal ∧ t.aon.failrec = 0 ∧ t.aon.testrec = 0 ∧ t.aon.control = true ∧ t.cnt = [] ∧
      t.par.stored = s.par.stored := by
  have ht : execVddAonApplied crystal lane s = .next ((({ s with
      aon := {}, cnt := [], ident := { s.ident with crystal := crystal, lane := lane }
      life := { s.life with failPend := false, mustFull := false }
      regs := { s.regs with intstat := 0, scratch := 0, inten := 0 } } : State).controlUp).coldBoot 0) :=
    congrArg Host.Outcome.next (if_neg (by simp [State.modLife, h]))
  exact ⟨_, ht, rfl, rfl, rfl, rfl, rfl, rfl, rfl, rfl, rfl⟩

/-! ## The steps of a start (R435 to R437, R440) -/

/-- A bank that runs. -/
theorem State.runBank_acts (s : State) (b : Bool) (ver : BitVec 16) (older : Bool) : ∃ t : State, s.runBank b ver older = t ∧
    t.life.st = s.life.st ∧ t.life.step = 3 ∧ t.regs.bstate = 2 ∧ t.ident = { s.ident with fallback := older, bank := b, version := ver } ∧
    t.life.reason = (if older = true then s.life.reason ||| 4 else s.life.reason) := by
  obtain ⟨v, hv⟩ : ∃ v : State, v = ({ s with ident := { s.ident with fallback := older, bank := b, version := ver }
                                              regs := { s.regs with bstate := 2 } } : State).modLife fun f =>
      { f with step := 3, reason := if older = true then f.reason ||| 4 else f.reason } := ⟨_, rfl⟩
  obtain ⟨m, c, i, late, k, fp, hf⟩ := v.firmwareUp_eq
  have hs : s.runBank b ver older = if older = true then v.firmwareUp.raise 0xD007 .amber none [bitAt b 0] else v.firmwareUp := by
    rw [hv]
    rfl
  have he : v.firmwareUp.eventOnly (s.runBank b ver older) := by
    rw [hs]
    split
    · exact State.raise_eventOnly _ _ _ _ _
    · exact State.eventOnly_refl _
  obtain ⟨m', c', i', late', he⟩ := he
  rw [hf, hv] at he
  exact ⟨_, he, rfl, rfl, rfl, rfl, rfl⟩

/-- The check of the banks, by their images (R436). -/
theorem firmwareImageCheck_due {s : State} (vA vB : BitVec 16) (hA hB okA okB : Bool) (now : Ns) (hst : s.life.st = .boot)
    (hstep : s.life.step = 1 ∨ s.life.step = 2) (hb : s.regs.bstate.toNat < 3) :
    execFirmwareImageCheck vA vB hA hB okA okB now s = .next (if higherB vA vB hA hB = true then
        (if okB = true then (s.at now).runBank true vB false else if okA = true then (s.at now).runBank false vA true
          else (s.at now).noBank vA vB hA hB)
      else
        (if okA = true then (s.at now).runBank false vA false else if okB = true then (s.at now).runBank true vB true
          else (s.at now).noBank vA vB hA hB)) := by
  have hg : ¬ ((s.at now).life.st ≠ .boot ∨ ((s.at now).life.step ≠ 1 ∧ (s.at now).life.step ≠ 2) ∨ 3 ≤ (s.at now).regs.bstate.toNat) := by
    rintro (h | ⟨h1, h2⟩ | h)
    · exact h hst
    · exact hstep.elim h1 h2
    · exact absurd hb (Nat.not_lt.2 h)
  exact if_neg hg

/-- The outcome of the check of the banks. -/
theorem firmwareImageCheck_acts {s : State} (vA vB : BitVec 16) (hA hB okA okB : Bool) (now : Ns) (hst : s.life.st = .boot)
    (hstep : s.life.step = 1 ∨ s.life.step = 2) (hb : s.regs.bstate.toNat < 3) {first : Bool}
    (hf : first = (hB && (!hA || decide (vA.toNat < vB.toNat)))) :
    ∃ t : State, execFirmwareImageCheck vA vB hA hB okA okB now s = .next t ∧ t.life.st = .boot ∧
      ((okA || okB) = true → t.life.step = 3 ∧ t.regs.bstate = 2 ∧
        t.ident.bank = (if (if first then okB else okA) then first else !first) ∧
        t.ident.version = (if t.ident.bank then vB else vA) ∧ t.ident.fallback = !(if first then okB else okA) ∧
        t.life.reason = (if (if first then okB else okA) then s.life.reason else s.life.reason ||| 4)) ∧
      ((okA || okB) = false → t.life.step = 2 ∧ t.regs.bstate = (if s.ident.straps.bootsrc then 4 else 3) ∧ t.ident = s.ident) := by
  have run : ∀ b older ver, (okA || okB) = true → b = (if (if first then okB else okA) then first else !first) →
      ver = (if b then vB else vA) → older = !(if first then okB else okA) →
      execFirmwareImageCheck vA vB hA hB okA okB now s = .next ((s.at now).runBank b ver older) →
      ∃ t : State, execFirmwareImageCheck vA vB hA hB okA okB now s = .next t ∧ t.life.st = .boot ∧
      ((okA || okB) = true → t.life.step = 3 ∧ t.regs.bstate = 2 ∧
        t.ident.bank = (if (if first then okB else okA) then first else !first) ∧
        t.ident.version = (if t.ident.bank then vB else vA) ∧ t.ident.fallback = !(if first then okB else okA) ∧
        t.life.reason = (if (if first then okB else okA) then s.life.reason else s.life.reason ||| 4)) ∧
      ((okA || okB) = false → t.life.step = 2 ∧ t.regs.bstate = (if s.ident.straps.bootsrc then 4 else 3) ∧ t.ident = s.ident) := by
    rintro b older ver hok hbank hver hold he
    obtain ⟨t, ht, h1, h2, h3, h4, h5⟩ := (s.at now).runBank_acts b ver older
    refine ⟨t, he.trans (congrArg _ ht), h1.trans hst, fun _ => ⟨h2, h3, ?_, ?_, ?_, ?_⟩, fun h => absurd (h.symm.trans hok) (by decide)⟩
    · rw [h4, ← hbank]
    · rw [h4]
      exact hver
    · rw [h4, ← hold]
    · rw [h5, hold]
      cases (if first then okB else okA) <;> rfl
  have hd := firmwareImageCheck_due vA vB hA hB okA okB now hst hstep hb
  have hh : higherB vA vB hA hB = first := hf.symm
  rw [hh] at hd
  cases okA with
  | true =>
    cases first with
    | true => cases okB with
      | true => exact run true false vB rfl rfl rfl rfl hd
      | false => exact run false true vA rfl rfl rfl rfl hd
    | false => exact run false false vA rfl rfl rfl rfl hd
  | false =>
    cases okB with
    | true => cases first with
      | true => exact run true false vB rfl rfl rfl rfl hd
      | false => exact run true true vB rfl rfl rfl rfl hd
    | false =>
      have ht : execFirmwareImageCheck vA vB hA hB false false now s = .next ((s.at now).noBank vA vB hA hB) := by
        rw [hd]
        cases first <;> rfl
      exact ⟨_, ht, hst, fun h => absurd h (by decide), fun _ => ⟨rfl, rfl, rfl⟩⟩

end Sys2Proof.Machine

namespace Sys2Proof.Machine

/-- The lane enters CONFIGURED. -/
theorem State.enterConfigured_acts (s : State) : ∃ t : State, s.enterConfigured = t ∧ t.life.st = .configured ∧ t.life.step = 7 ∧
    t.life.isolated = s.life.isolated ∧ t.ax = s.ax ∧ t.arb = s.arb := by
  obtain ⟨hst, l, r, he, hl⟩ := s.setSt_eq .configured
  obtain ⟨v, hv⟩ : ∃ v, (s.setSt .configured).modLife (fun f => { f with step := 7 }) = v := ⟨_, rfl⟩
  have ht : s.enterConfigured = if v.linkOn = true then v.vtbTo .listen else v := by
    rw [← hv]
    rfl
  have hi : l.isolated = s.life.isolated := (congrArg Life.isolated hl :)
  rw [he] at hst hv
  obtain ⟨m, c, i, late, q, x, hx, -⟩ := v.vtbTo_eq .listen
  rw [hx, ← hv] at ht
  refine ⟨_, ht, ?_⟩
  split <;> exact ⟨hst, rfl, hi, rfl, rfl⟩

theorem State.quickStart_acts (s : State) (hst : s.life.st = .boot) : ∃ t : State, s.quickStart = t ∧
    t.arb.wait = s.startDomains &&& ~~~s.life.domains ∧ t.ax = s.ax ∧
    (if t.arb.wait = 0 ∧ s.life.isolated = 0 then t.life.st = .configured ∧ t.life.step = 7 else t.life.st = .boot ∧ t.life.step = 6) := by
  obtain ⟨t, ht, h1, h2, -, h4, h5⟩ := ((s.modLife fun f => { f with step := 6 }).modArb fun b =>
    { b with wait := s.startDomains &&& ~~~s.life.domains }).enterConfigured_acts
  have hw : t.arb.wait = s.startDomains &&& ~~~s.life.domains := congrArg Arb.wait h5
  by_cases h : s.startDomains &&& ~~~s.life.domains = 0 ∧ s.life.isolated = 0
  · have he : s.quickStart = t := ht ▸ if_pos h
    refine ⟨t, he, hw, h4, ?_⟩
    rw [hw, if_pos h]
    exact ⟨h1, h2⟩
  · have he : s.quickStart = (s.modLife fun f => { f with step := 6 }).modArb fun b => { b with wait := s.startDomains &&& ~~~s.life.domains } :=
      if_neg h
    refine ⟨_, he, rfl, rfl, ?_⟩
    exact (if_neg h).symm ▸ ⟨hst, rfl⟩

theorem State.beginTests_eq {s : State} (x : Run) (h : s.twin.claim = false) : s.beginTests x =
    (s.setSt .selftest).modSt fun t => { t with run := some x, waiting := none, latched := false } := by
  unfold State.beginTests
  simp only []
  rw [if_neg]
  rw [State.setSt_twin, h]
  exact Bool.false_ne_true

theorem State.fullStart_acts {s : State} (h : s.twin.claim = false) : ∃ t : State, s.fullStart = t ∧ t.life.st = .selftest ∧ t.life.step = 6 ∧
    t.life.full = true ∧ t.life.mustFull = false ∧ t.life.reason = s.life.reason ||| 1 ∧ t.ax = s.ax ∧
    t.st.run = some { origin := .fullStart, doms := s.allDomains, npat := s.npatUnits, mem := true, from_ := .configured } := by
  have he : s.fullStart = ((s.modLife fun f => { f with step := 6, full := true, mustFull := false, reason := f.reason ||| 1 }).setSt
      .selftest).modSt fun t => { t with
        run := some { origin := .fullStart, doms := s.allDomains, npat := s.npatUnits, mem := true, from_ := .configured }
        waiting := none, latched := false } := State.beginTests_eq _ h
  obtain ⟨hst, l, r, hs, hl⟩ :=
    (s.modLife fun f => { f with step := 6, full := true, mustFull := false, reason := f.reason ||| 1 }).setSt_eq .selftest
  rw [hs] at hst he
  exact ⟨_, he, hst, (congrArg Life.step hl :), (congrArg Life.full hl :), (congrArg Life.mustFull hl :), (congrArg Life.reason hl :), rfl, rfl⟩

/-- The verdict check of a start that claims nothing (R437). -/
theorem verdictCheck_due {s : State} (now : Ns) (hst : s.life.st = .boot) (hstep : s.life.step = 5) : execVerdictCheck now s =
    .next (if s.recordPass = true ∧ s.life.mustFull = false then (s.at now).quickStart else (s.at now).fullStart) := by
  have hg : ¬ ((s.at now).life.st ≠ .boot ∨ (s.at now).life.step ≠ 5) := fun h => h.elim (· hst) (· hstep)
  refine congrArg Host.Outcome.next ((if_neg hg).trans (if_congr ?_ rfl rfl))
  simp only [State.at_life, Bool.not_eq_true']
  rfl

/-- The isolation of a domain is released (R418, R440). -/
theorem State.releaseIso_acts {s : State} {d : Fin 7} (hf : s.fwOn = true) (hi : s.life.isolated.getLsbD d.val = true)
    (hu : s.underTest.getLsbD d.val = false) : ∃ t : State, s.releaseIso d = t ∧ t.life.isolated.getLsbD d.val = false ∧
      (∀ b : Fin 7, b ≠ d → t.life.isolated.getLsbD b.val = s.life.isolated.getLsbD b.val) ∧ t.ax = s.ax ∧
      t.life.st = (if s.life.st = .boot ∧ s.life.step = 6 ∧ t.life.isolated = 0 ∧ s.arb.wait = 0 then .configured else s.life.st) := by
  obtain ⟨w, hw⟩ : ∃ w, s.life.isolated &&& ~~~((1 : BitVec 7) <<< d.val) = w := ⟨_, rfl⟩
  have hbit : ∀ b : Fin 7, w.getLsbD b.val = (s.life.isolated.getLsbD b.val && decide (b ≠ d)) := fun b => by
    rw [← hw]
    simp only [BitVec.getLsbD_and, BitVec.getLsbD_not, b.isLt, BitVec.getLsbD_shiftLeft, ne_eq, Fin.ext_iff]
    by_cases h : b.val = d.val
    · simp [h]
    · simp [h]
      omega
  have hd : w.getLsbD d.val = false := by
    rw [hbit]
    simp
  have ho : ∀ b : Fin 7, b ≠ d → w.getLsbD b.val = s.life.isolated.getLsbD b.val := fun b hb => by
    rw [hbit]
    simp [hb]
  have hs : s.releaseIso d = if s.life.st = .boot ∧ s.life.step = 6 ∧ w = 0 ∧ s.arb.wait = 0 then
      (s.modLife fun f => { f with isolated := w }).enterConfigured else s.modLife fun f => { f with isolated := w } := by
    rw [← hw]
    exact if_neg (by rw [hf, hi, hu]; decide)
  split at hs
  · next h =>
    obtain ⟨t, ht, h1, -, h3, h4, -⟩ := (s.modLife fun f => { f with isolated := w }).enterConfigured_acts
    have h3' : t.life.isolated = w := h3
    refine ⟨t, hs.trans ht, ?_⟩
    rw [h3', if_pos h]
    exact ⟨hd, ho, h4, h1⟩
  · next h => exact ⟨_, hs, hd, ho, rfl, (if_neg h).symm⟩

theorem State.releaseIso_none {s : State} {d : Fin 7}
    (h : s.fwOn = false ∨ s.life.isolated.getLsbD d.val = false ∨ s.underTest.getLsbD d.val = true) : s.releaseIso d = s := by
  refine if_pos ?_
  obtain h | h | h := h
  · exact .inl (by rw [h]; rfl)
  · exact .inr (.inl (by rw [h]; rfl))
  · exact .inr (.inr h)

/-! ## The start checks and DRIVE_READY (R38, R259, R438) -/

/-- What the demands of the safety inputs leave while the lane is neither ACTIVE nor in DRIVE. -/
def State.siKept (s t : State) : Prop := ∃ a si x, t = { s with ax := a, aon := { s.aon with si := si }, st := x }

theorem State.siKept_refl (s : State) : s.siKept s := ⟨s.ax, s.aon.si, s.st, rfl⟩

theorem State.siKept_trans {s t u : State} (h : s.siKept t) (h' : t.siKept u) : s.siKept u := by
  obtain ⟨a, si, x, rfl⟩ := h
  obtain ⟨a', si', x', rfl⟩ := h'
  exact ⟨a', si', x', rfl⟩

theorem State.torqueOff_siKept {s : State} (k : PairNo) (h1 : s.life.st ≠ .active) (h2 : s.life.st ≠ .drive) : s.siKept (s.torqueOff k) := by
  obtain ⟨⟨a, l, r, h⟩, -, hk⟩ := s.torqueOff_frame k
  obtain ⟨hl, hr⟩ := hk h1 h2
  rw [h] at hl hr ⊢
  have hl' : l = s.life := hl
  have hr' : r = s.regs := hr
  rw [hl', hr']
  exact ⟨a, s.aon.si, s.st, rfl⟩

theorem State.siAct_siKept {s : State} (n : Fin 6) (h1 : s.life.st ≠ .active) (h2 : s.life.st ≠ .drive) : s.siKept (s.siAct n) := by
  unfold State.siAct
  simp only []
  split
  · refine forFin_keeps (p := s.siKept) s.siKept_refl fun k t ht => ?_
    split
    · refine State.siKept_trans ht ?_
      obtain ⟨a, si, x, rfl⟩ := ht
      exact State.torqueOff_siKept k h1 h2
    · exact ht
  · split
    · split
      · exact ⟨s.ax, _, _, rfl⟩
      · exact ⟨s.ax, _, s.st, rfl⟩
    · exact s.siKept_refl

theorem State.siStart_siKept {s : State} (h1 : s.life.st ≠ .active) (h2 : s.life.st ≠ .drive) : s.siKept s.siStart := by
  unfold State.siStart
  refine forFin_keeps (p := s.siKept) s.siKept_refl fun n t ht => ?_
  split
  · refine State.siKept_trans ht ?_
    obtain ⟨a, si, x, rfl⟩ := ht
    exact State.siAct_siKept n h1 h2
  · exact ht

theorem State.schedCheck_eventOnly (s : State) : s.eventOnly s.schedCheck :=
  foldl_eventOnly (fun s _ => s.raise_eventOnly _ _ _ _) _ _

/-- The checks speak of the parameters and the identity alone. -/
theorem State.startBad_congr {s t : State} (hp : t.par = s.par) (hi : t.ident = s.ident) : t.startBad = s.startBad := by
  obtain ⟨⟩ := s
  obtain ⟨⟩ := t
  cases hp
  cases hi
  rfl

/-- What the start checks leave before their verdict. -/
theorem State.startChecks_head {s : State} (hst : s.life.st = .configured) : ∃ v : State,
    (s.modLife fun f => { f with step := 8 }).siStart.schedCheck = v ∧ v.life = { s.life with step := 8 } ∧ v.par = s.par ∧
      v.ident = s.ident ∧ v.clk = s.clk := by
  obtain ⟨a, si, x, h⟩ := State.siStart_siKept (s := s.modLife fun f => { f with step := 8 })
    (fun h => absurd (hst.symm.trans h) (by decide)) fun h => absurd (hst.symm.trans h) (by decide)
  obtain ⟨m, c, i, late, h'⟩ := (s.modLife fun f => { f with step := 8 }).siStart.schedCheck_eventOnly
  rw [h']
  rw [h]
  exact ⟨_, rfl, rfl, rfl, rfl, rfl⟩

/-- The calibration that becomes due leaves the rest as it is. -/
theorem State.calibrateAll_eq (s : State) : ∃ a : Vector Axis 8, s.calibrateAll = { s with ax := a } ∧
    ∀ l : AxisNo, s.pairOn (pairOf l) = true → a[l].cur.calDue = true := by
  obtain ⟨f, hf⟩ : ∃ f : Axis → Axis, f = fun a =>
      { a with cur := { a.cur with calDue := true, calN := 0, calSum := Vector.replicate 3 0, calMag := Vector.replicate 3 0 } } := ⟨_, rfl⟩
  have hs : s.calibrateAll = forFin 8 (fun l t => if t.pairOn (pairOf l) = true then t.modAx l f else t) s := hf ▸ rfl
  have hd : ∀ a, (f a).cur.calDue = true := fun a => hf ▸ rfl
  have hk : ∃ a : Vector Axis 8, s.calibrateAll = { s with ax := a } := by
    rw [hs]
    refine forFin_keeps (p := fun t : State => ∃ a : Vector Axis 8, t = { s with ax := a }) ⟨s.ax, rfl⟩ ?_
    rintro l t ⟨a, rfl⟩
    split
    · exact ⟨_, rfl⟩
    · exact ⟨a, rfl⟩
  obtain ⟨a, ha⟩ := hk
  refine ⟨a, ha, fun l hl => ?_⟩
  have := forFin_hits (f := fun l (t : State) => if t.pairOn (pairOf l) = true then t.modAx l f else t)
    (p := fun t : State => t.pairOn (pairOf l) = s.pairOn (pairOf l) → t.ax[l].cur.calDue = true) l
    (fun t ht => ?_) (fun j t ih => ?_) s
  · rw [← hs, ha] at this
    exact this rfl
  · split at ht
    · next h =>
      rw [if_pos h]
      simp [State.modAx, hd]
    · next h => exact absurd (ht.trans hl) h
  · split
    · intro ht
      by_cases hj : l = j
      · subst hj
        simp [State.modAx, hd]
      · simp only [State.modAx, vmod_ne _ _ _ _ hj]
        exact ih ht
    · exact ih

end Sys2Proof.Machine

namespace Sys2Proof.Machine

/-- The checks have passed. -/
theorem State.checksPass_acts (s : State) : ∃ t : State, s.checksPass = t ∧ t.life.st = (if s.split then .active else .pairing) ∧
    t.life.checksOk = true ∧ t.life.pairAt = s.clk.lclk ∧ ∀ l : AxisNo, s.pairOn (pairOf l) = true → t.ax[l].cur.calDue = true := by
  obtain ⟨hst, l, r, he, hl⟩ := (s.modLife fun f => { f with checksOk := true, pairAt := s.clk.lclk }).setSt_eq
    (if s.split then .active else .pairing)
  obtain ⟨v, hv⟩ : ∃ v, (s.modLife fun f => { f with checksOk := true, pairAt := s.clk.lclk }).setSt (if s.split then .active else .pairing) = v :=
    ⟨_, rfl⟩
  obtain ⟨a, hc, ha⟩ := v.calibrateAll_eq
  obtain ⟨p, hp, -⟩ := v.calibrateAll.requestLevel_eq ((v.calibrateAll.pw P.pwrPl).setWidth 2) none
  have ht : s.checksPass = v.calibrateAll.requestLevel ((v.calibrateAll.pw P.pwrPl).setWidth 2) none := by
    rw [← hv]
    rfl
  rw [hv] at he hst
  have hdom : l.domains = s.life.domains := (congrArg Life.domains hl :)
  have hiso : l.isolated = s.life.isolated := (congrArg Life.isolated hl :)
  have hon : ∀ k, v.pairOn k = s.pairOn k := fun k => by
    rw [he]
    unfold State.pairOn
    rw [← hdom, ← hiso]
  rw [hp, hc] at ht
  refine ⟨_, ht, hst, ?_, ?_, fun m hm => ha m ((hon _).trans hm)⟩
  · show v.life.checksOk = true
    rw [he]
    exact (congrArg Life.checksOk hl :)
  · show v.life.pairAt = _
    rw [he]
    exact (congrArg Life.pairAt hl :)

/-- The start checks of a lane that is due for them. -/
theorem State.startChecks_acts {s : State} (hst : s.life.st = .configured) :
    (∀ c x, s.startBad = some (c, x) →
      ∃ v : State, s.startChecks = v.raise 0x0001 .crimson none [BitVec.ofNat 32 c, BitVec.ofNat 32 x] ∧
        v.life.st = .configured ∧ v.life.checksOk = s.life.checksOk ∧ v.life.step = 8) ∧
    (s.startBad = none →
      ∃ t : State, s.startChecks = t ∧ t.life.st = (if s.split then .active else .pairing) ∧ t.life.checksOk = true ∧
        t.life.pairAt = s.clk.lclk ∧ ∀ l : AxisNo, s.pairOn (pairOf l) = true → t.ax[l].cur.calDue = true) := by
  obtain ⟨v, hv, hl, hp, hi, hc⟩ := State.startChecks_head hst
  have hs : s.startChecks = match v.startBad with
      | some (c, x) => v.raise 0x0001 .crimson none [BitVec.ofNat 32 c, BitVec.ofNat 32 x]
      | none => v.checksPass := by
    rw [← hv]
    rfl
  rw [State.startBad_congr hp hi] at hs
  refine ⟨fun c x h => ?_, fun h => ?_⟩
  · rw [h] at hs
    refine ⟨v, hs, ?_⟩
    rw [hl]
    exact ⟨hst, rfl, rfl⟩
  · rw [h] at hs
    obtain ⟨t, ht, h1, h2, h3, h4⟩ := v.checksPass_acts
    have hon : ∀ k, v.pairOn k = s.pairOn k := fun k => by
      unfold State.pairOn
      rw [hl]
    refine ⟨t, hs.trans ht, h1.trans ?_, h2, h3.trans (by rw [hc]), fun l hm => h4 l ((hon _).trans hm)⟩
    unfold State.split
    rw [hi]

theorem startChecks_due {s : State} (now : Ns) (hst : s.life.st = .configured) (hstep : s.life.step = 7) (hf : s.life.testFail = false) :
    execStartChecks now s = .next (s.at now).startChecks :=
  congrArg Host.Outcome.next (if_pos ⟨hst, hstep, by rw [State.at_life, hf]; rfl⟩)

/-- DRIVE_READY of a lane that is ready. -/
theorem State.driveReady_acts {s : State} (hr : s.readyToDrive = true) (hd : s.life.drdy = false) : ∃ v : State,
    s.driveReady = v.raise 0xD008 .grey none [BitVec.ofNat 32 ((s.clk.lclk - s.life.wakeAt) / 1000), s.reasons.setWidth 32] ∧
      v.life = { s.life with drdy := true, reason := s.reasons } ∧ v.aon = { s.aon with failrec := s.aon.failrec &&& 0x7FFFFFFF } ∧
      v.regs.intstat = s.regs.intstat ||| 0x00100000 ∧ v.ax = s.ax := by
  have hg : ¬ ((!s.readyToDrive) = true ∨ s.life.drdy = true) := by
    rw [hr, hd]
    decide
  exact ⟨_, if_neg hg, rfl, rfl, rfl, rfl⟩

theorem State.driveReady_none {s : State} (h : s.readyToDrive = false ∨ s.life.drdy = true) : s.driveReady = s := by
  refine if_pos (h.imp_left fun h => ?_)
  rw [h]
  rfl

/-- The stored configuration is loaded. -/
theorem configurationLoad_acts {s : State} (now : Ns) (hst : s.life.st = .boot) (hstep : s.life.step = 3) (hw : s.aon.postWake = none)
    (ht : s.aon.postTimer = none) : execConfigurationLoad now s = .next { s.at now with
      par := { s.par with eff := s.par.stored, written := [], posted := [] }
      life := { s.life with step := if s.split then 5 else 4 } } := by
  obtain ⟨e, he, hs⟩ := (s.at now).loadPars_eq
  have hx : execConfigurationLoad now s = .next ((s.at now).loadPars.modLife fun f => { f with step := if (s.at now).split then 5 else 4 }) :=
    congrArg Host.Outcome.next (if_pos (And.intro hst hstep))
  rw [hx, he, hs hw ht]
  rfl

/-- The points of a sleep entry. -/
theorem sleepEntryAbortPoint_acts {s u : State} {now : Ns} (hu : u = s.at now) {ap : Fin 4} {e : Entry} (he : s.life.entry = some e)
    (hp : e.passed = ap.val) (ha : e.arming = false) (hc : s.life.plc = none) (hst : s.life.st ≠ .selftest) :
    ((s.aon.wakesrc ≠ 0 ∨ e.abort = true) →
      ∃ t : State, exec (.sleepEntryAbortPoint ap now) s = .next t ∧ t.life.entry = none ∧ t.life.domains = e.doms ∧
        t.life.isolated = 0 ∧ t.life.st = s.life.st ∧ t.aon.armed = false ∧ t.aon.timer = none ∧ t.ax = s.ax ∧ t.auth = s.auth) ∧
    (s.aon.wakesrc = 0 → e.abort = false →
      (ap = 0 → s.twin.planned = none →
        ∃ t : State, exec (.sleepEntryAbortPoint ap now) s = .next t ∧ t.auth = false ∧ t.vtb.st = .off ∧
          (∀ l : AxisNo, t.ax[l].com.cval = false) ∧
          (s.auth = true → t.twin.sent = some (1, ⟨s.twin.txSeq, 0xFF, []⟩) ∧
            ∀ l : AxisNo, t.ax[l].en = false ∧ t.ax[l].pwm.gates = false) ∧
          (e.kind = .doze → t.life.st = .sleep ∧ t.life.ps = .doze ∧ t.life.entry = none ∧ t.aon.keptOp = some e.op) ∧
          (e.kind ≠ .doze → t.life.entry = some { e with passed := 1 } ∧ t.life.ps = s.life.ps)) ∧
      (ap = 1 → e.kind = .sleep →
        ∃ t : State, exec (.sleepEntryAbortPoint ap now) s = .next t ∧ t.life = { s.life with entry := some { e with passed := 2 } } ∧
          t.aon.sigValid = true ∧ t.aon.sigerr = false ∧ (∀ i : Fin 28, t.aon.sigs[i] = Config.freeWord (s.free + i.val)) ∧
          { t with life := u.life, aon := u.aon, free := u.free } = u) ∧
      (ap = 1 → e.kind ≠ .sleep → exec (.sleepEntryAbortPoint ap now) s =
        .next { u with life := { s.life with entry := some { e with passed := 2 } }, aon := { s.aon with sigValid := false } }) ∧
      (ap = 2 → exec (.sleepEntryAbortPoint ap now) s =
        .next { u with life :=
          { s.life with entry := some { e with passed := 3 }, domains := s.life.domains &&& 1, isolated := 0 } }) ∧
      (ap = 3 →
        ∃ t : State, exec (.sleepEntryAbortPoint ap now) s = .next t ∧ t.aon.control = false ∧ t.aon.controlAt = u.clk.lclk ∧
          t.aon.keptOp = some e.op ∧ t.life.domains = 0 ∧ t.life.entry = none ∧ t.life.drdy = false ∧
          t.life.st = (if e.kind = .shutdown then .off else .sleep) ∧
          t.life.ps = (if e.kind = .shutdown then .shutdown else .sleep))) := by
  subst hu
  have hx : exec (.sleepEntryAbortPoint ap now) s = .next ((s.at now).abortPoint ap) := rfl
  obtain ⟨h1, h2⟩ := State.abortPoint_acts (s := s.at now) he hp ha hc hst
  refine ⟨fun h => ?_, fun hw hb => ?_⟩
  · obtain ⟨t, ht, hk⟩ := h1 h
    exact ⟨t, hx.trans (congrArg _ ht), hk⟩
  · obtain ⟨p0, p1, p2, p3⟩ := h2 hw hb
    refine ⟨fun h _ => ?_, fun h hk => ?_, fun h hk => ?_, fun h => ?_, fun h => ?_⟩
    · obtain ⟨t, ht, hk⟩ := (s.at now).entryE2_acts e
      exact ⟨t, hx.trans (congrArg _ ((p0 h).trans ht)), hk⟩
    · obtain ⟨t, ht, k1, k2, k3, k4, k5⟩ := ((s.at now).modLife fun f => { f with entry := some { e with passed := 2 } }).saveGroups_sleep
      refine ⟨t, hx.trans (congrArg _ ((p1 h).trans ?_)), k1, k2, k3, k4, ?_⟩
      · rw [decide_eq_true hk]
        exact ht
      · exact congrArg (fun x : State => { x with life := s.life }) k5
    · rw [hx, p1 h, decide_eq_false hk]
      rfl
    · rw [hx, p2 h]
      rfl
    · obtain ⟨t, ht, hk⟩ := (s.at now).entryE5_acts e
      exact ⟨t, hx.trans (congrArg _ ((p3 h).trans ht)), hk⟩

end Sys2Proof.Machine

namespace Sys2Proof.Machine

/-- Settles O59: each step of sleep, wake, reset and start by the lemma of its handler. -/
theorem lifecycleFollowsItsSteps : Obligations.LifecycleFollowsItsSteps := by
  unfold Obligations.LifecycleFollowsItsSteps
  rintro s u now rfl
  refine ⟨fun w => ⟨fun h => ?_, fun ha he hr a haon => ?_⟩, fun h => ?_, fun n ht hp => ?_, fun h => ?_, fun b c hr hps hc => ?_,
    fun ap h => ?_, fun ap e he => ⟨fun h => ?_, fun hp ha hc hst => sleepEntryAbortPoint_acts rfl he hp ha hc hst⟩, fun h => ?_,
    fun c h => grantTimeout_next s now c h, fun sigs par h => ?_, fun sigs par lost hst hps hc hl => ?_, fun st => ⟨?_, fun h => ?_, fun h hp => ?_⟩,
    fun crystal lane h => vddAonApplied_acts crystal lane h, vddAonLost_acts s, fun vA vB hA hB okA okB => ⟨fun h => ?_, fun hst hstep hb first hf =>
      firmwareImageCheck_acts vA vB hA hB okA okB now hst hstep hb hf⟩, fun h => ?_,
    fun hst hstep hw ht => configurationLoad_acts now hst hstep hw ht, fun h => ?_, fun hst hstep hc => ⟨fun h => ?_, fun hr hm => ?_⟩,
    fun d => ⟨fun h => ?_, fun hf hi hu => ?_⟩, fun h => ?_, fun hst hstep hf => ⟨fun c x hb => ?_, fun hb => ?_⟩, fun h => ?_, fun hr hd => ?_⟩
  -- WAKE_SOURCE
  · exact congrArg Host.Outcome.next (State.latchWake_none (s := s.at now) h)
  · obtain ⟨h1, h2, h3⟩ := State.latchWake_acts (s := s.at now) ha he hr haon
    refine ⟨fun h => congrArg Host.Outcome.next (h1 h), fun hps hst => ?_, fun hps hc => ⟨fun hlt => ?_, fun hge hst => ?_⟩⟩
    · obtain ⟨t, ht, hk⟩ := h2 hps hst
      exact ⟨t, congrArg Host.Outcome.next ht, hk⟩
    · exact congrArg Host.Outcome.next ((h3 hps hc).1 hlt)
    · obtain ⟨t, ht, hk⟩ := (h3 hps hc).2 hge hst
      exact ⟨t, congrArg Host.Outcome.next ht, hk⟩
  -- WAKE_TIMER
  · exact congrArg Host.Outcome.next (State.timerWake_none (s := s.at now) h)
  · refine (congrArg Host.Outcome.next (State.timerWake_some (s := s.at now) ht hp)).trans ?_
    exact apply_ite Host.Outcome.next _ _ _
  -- WAKE_REPLAYED
  · refine congrArg Host.Outcome.next ?_
    unfold State.replayWake
    rw [State.at_aon, h]
  · obtain ⟨h1, h2⟩ := State.replayWake_acts (s := s.at now) hr hps hc
    refine ⟨fun hlt => congrArg Host.Outcome.next (h1 hlt), fun hge hst => ?_⟩
    obtain ⟨t, ht, hk⟩ := h2 hge hst
    exact ⟨t, congrArg Host.Outcome.next ht, hk⟩
  -- SLEEP_ENTRY_ABORT_POINT and SLEEP_GRANT_TIMEOUT
  · exact congrArg Host.Outcome.next (State.abortPoint_none (s := s.at now) ap h)
  · exact congrArg Host.Outcome.next (State.abortPoint_idle (s := s.at now) he h)
  · show execSleepGrantTimeout now s = _
    unfold execSleepGrantTimeout
    simp only [State.at_life, h]
  -- RESUME_SUPPLY_CONFIRMED
  · refine congrArg Host.Outcome.next (if_neg ?_)
    rintro ⟨h1, h2, h3⟩
    obtain h | h | h := h
    · exact h h1
    · exact h h2
    · exact absurd (h.symm.trans h3) (by decide)
  · obtain ⟨t, ht, hk⟩ := (s.at now).resumeCheck_acts lost
    refine ⟨t, congrArg Host.Outcome.next ((if_pos ⟨hst, hps, hc⟩).trans ?_), hk⟩
    rw [State.lostMask_eq (s := s.at now) hl]
    exact ht
  -- NRST
  · obtain ⟨t, ht, hk⟩ := (s.at now).resetLow_acts
    exact ⟨t, congrArg Host.Outcome.next ht, hk⟩
  · refine congrArg Host.Outcome.next ((if_neg (by decide)).trans (if_neg ?_))
    rw [State.at_life, h]
    exact Bool.false_ne_true
  · obtain ⟨t, ht, hk⟩ := State.resetHigh_acts (s := s.at now) st hp
    exact ⟨t, congrArg Host.Outcome.next ((if_neg (by decide)).trans ((if_pos h).trans ht)), hk⟩
  -- FIRMWARE_IMAGE_CHECK and CONFIGURATION_LOAD
  · exact if_pos h
  · exact congrArg Host.Outcome.next (if_neg fun hn => h.elim (· hn.1) (· hn.2))
  -- VERDICT_CHECK
  · exact congrArg Host.Outcome.next (if_pos h)
  · obtain ⟨t, ht, hk⟩ := State.fullStart_acts (s := s.at now) hc
    refine ⟨t, (verdictCheck_due now hst hstep).trans (congrArg Host.Outcome.next ((if_neg ?_).trans ht)), hk⟩
    rintro ⟨h1, h2⟩
    obtain h | h := h
    · exact absurd (h.symm.trans h1) (by decide)
    · exact absurd (h.symm.trans h2) (by decide)
  · obtain ⟨t, ht, hk⟩ := (s.at now).quickStart_acts hst
    exact ⟨t, (verdictCheck_due now hst hstep).trans (congrArg Host.Outcome.next ((if_pos ⟨hr, hm⟩).trans ht)), hk⟩
  -- ISOLATION_RELEASE
  · exact congrArg Host.Outcome.next (State.releaseIso_none (s := s.at now) h)
  · obtain ⟨t, ht, hk⟩ := State.releaseIso_acts (s := s.at now) hf hi hu
    exact ⟨t, congrArg Host.Outcome.next ht, hk⟩
  -- START_CHECKS
  · refine congrArg Host.Outcome.next (if_neg ?_)
    rintro ⟨h1, h2, h3⟩
    obtain h | h | h := h
    · exact h h1
    · exact h h2
    · rw [State.at_life, h] at h3
      exact absurd h3 (by decide)
  · obtain ⟨v, hv, hk⟩ := (State.startChecks_acts (s := s.at now) hst).1 c x hb
    exact ⟨v, (startChecks_due now hst hstep hf).trans (congrArg Host.Outcome.next hv), hk⟩
  · obtain ⟨t, ht, hk⟩ := (State.startChecks_acts (s := s.at now) hst).2 hb
    exact ⟨t, (startChecks_due now hst hstep hf).trans (congrArg Host.Outcome.next ht), hk⟩
  -- DRIVE_READY
  · exact congrArg Host.Outcome.next (State.driveReady_none (s := s.at now) h)
  · obtain ⟨v, hv, hk⟩ := State.driveReady_acts (s := s.at now) hr hd
    exact ⟨v, congrArg Host.Outcome.next hv, hk⟩

end Sys2Proof.Machine

namespace Sys2Proof.Machine

theorem vset_self {α : Type} {n : Nat} (v : Vector α n) (i : Fin n) : vset v i v[i] = v := by
  simp [vset]

/-! ## The enables and the lane state (R440) -/

theorem State.anyEn_of_en {s : State} {l : AxisNo} (h : s.ax[l].en = true) : s.anyEn = true :=
  List.any_eq_true.2 ⟨l, List.mem_finRange l, h⟩

theorem State.anyEn_false_iff (s : State) : s.anyEn = false ↔ ∀ l : AxisNo, s.ax[l].en = false := by
  simp [State.anyEn]

theorem State.syncDrive_ax (s : State) : s.syncDrive.ax = s.ax := by
  obtain ⟨l, r, h, -⟩ := s.syncDrive_eq
  rw [h]

theorem State.syncDrive_anyEn (s : State) : s.syncDrive.anyEn = s.anyEn := by
  unfold State.anyEn
  rw [s.syncDrive_ax]

/-- DRIVE ends with the last enabled axis, and not before. -/
theorem State.syncDrive_drive {s : State} (h : s.life.st = .drive) : s.syncDrive.life.st = if s.anyEn then .drive else .active := by
  unfold State.syncDrive
  rw [h]
  simp only []
  split
  · exact h
  · exact s.setSt_st_eq .active

/-- ACTIVE becomes DRIVE with an enabled axis. -/
theorem State.syncDrive_active {s : State} (h : s.life.st = .active) (he : s.anyEn = true) : s.syncDrive.life.st = .drive := by
  unfold State.syncDrive
  rw [h]
  simp only [he, if_true]
  exact s.setSt_st_eq .drive

/-- With an enabled axis the lane state changes from ACTIVE only. -/
theorem State.syncDrive_enabled {s : State} (h : s.life.st ≠ .active) (he : s.anyEn = true) : s.syncDrive = s := by
  unfold State.syncDrive
  split
  · next ha => exact absurd ha h
  · rw [if_pos he]
  · rfl

/-! ## An axis fault (R66, R263) -/

/-- The axis that a fault leaves: cut but for its permission, with the first cause. -/
def Axis.faulted (a : Axis) (cause : BitVec 4) : Axis := { a.cut with fault := if a.fault = 0 then cause else a.fault, perm := a.perm }

theorem Axis.faulted_off (a : Axis) (cause : BitVec 4) : (a.faulted cause).en = false ∧ (a.faulted cause).pwm.gates = false ∧
    (a.faulted cause).pwm.next = [] ∧ (a.faulted cause).com.mode = .off := ⟨rfl, rfl, rfl, a.cut_mode.1⟩

/-- Of the lane a fault changes the axis, and the lane state by the enables. -/
theorem State.axisFault_acts (s : State) (l : AxisNo) (cause : BitVec 4) :
    (s.axisFault l cause).ax = vset s.ax l (s.ax[l].faulted cause) ∧
      ∃ f r, s.axisFault l cause = { s with ax := vset s.ax l (s.ax[l].faulted cause), life := f, regs := r } := by
  obtain ⟨f, r, h, -⟩ := s.axisFault_eq l cause
  exact ⟨congrArg State.ax h, f, r, h⟩

/-- The fault of the last enabled axis ends DRIVE. -/
theorem State.axisFault_drive {s : State} {l : AxisNo} {cause : BitVec 4} (h : s.life.st = .drive) (he : (s.axisFault l cause).anyEn = false) :
    (s.axisFault l cause).life.st = .active := by
  have he' : (s.modAx l (Axis.faulted · cause)).anyEn = false := (State.syncDrive_anyEn _).symm.trans he
  refine (State.syncDrive_drive (s := s.modAx l (Axis.faulted · cause)) h).trans (if_neg ?_)
  rw [he']
  exact Bool.false_ne_true

/-- Settles O10: the axis by what a fault leaves of it, the lane state by the enables. -/
theorem axisFaultStopsOneAxis : Obligations.AxisFaultStopsOneAxis := by
  intro s l cause
  obtain ⟨hax, f, r, hf⟩ := s.axisFault_acts l cause
  have hl : (s.axisFault l cause).ax[l] = s.ax[l].faulted cause := by rw [hax, vset_same]
  have hpair : (s.axisFault l cause).pair = s.pair := by rw [hf]
  obtain ⟨hen, hgates, hnext, hmode⟩ := s.ax[l].faulted_off cause
  rw [hl]
  refine ⟨hen, hgates, hnext, hmode, rfl, fun m hm => ?_, hpair, State.axisFault_drive, fun hd ha => ?_⟩
  · rw [hax, vset_ne _ _ _ _ hm]
  · obtain ⟨f, r, h, hk⟩ := s.axisFault_eq l cause
    rw [h]
    exact (hk ha hd).1

end Sys2Proof.Machine

namespace Sys2Proof.Machine

/-! ## What the start of an enabled axis may change (R136, R213, R214, R230) -/

/-- Of an axis: its enable, its fault, its loss, and whether it is held off. -/
def Axis.marks (a : Axis) : Bool × BitVec 4 × BitVec 4 × Bool := (a.en, a.fault, a.fb.loss, a.heldOff)

/-- From `s` to `t` an axis has changed, but not in its marks, and the references of steering and braking. -/
def State.startOnly (l : AxisNo) (s t : State) : Prop :=
  ∃ x v b, t = { s with ax := vset s.ax l x, steer := v, brake := b } ∧ x.marks = s.ax[l].marks

theorem State.startOnly_trans {l : AxisNo} {s t u : State} (h : State.startOnly l s t) (k : State.startOnly l t u) : State.startOnly l s u := by
  obtain ⟨x, v, b, rfl, hx⟩ := h
  obtain ⟨y, v', b', rfl, hy⟩ := k
  refine ⟨y, v', b', ?_, ?_⟩
  · simp only [vset_vset]
  · rw [hy, vset_same, hx]

theorem State.modAx_startOnly {s : State} {l : AxisNo} {f : Axis → Axis} (h : (f s.ax[l]).marks = s.ax[l].marks) :
    State.startOnly l s (s.modAx l f) := ⟨f s.ax[l], s.steer, s.brake, rfl, h⟩

theorem State.modSteer_startOnly (s : State) (l : AxisNo) (f : Steer → Steer) : State.startOnly l s (s.modSteer f) :=
  ⟨s.ax[l], f s.steer, s.brake, by rw [vset_self]; rfl, rfl⟩

theorem State.modBrake_startOnly (s : State) (l : AxisNo) (f : Brake → Brake) : State.startOnly l s (s.modBrake f) :=
  ⟨s.ax[l], s.steer, f s.brake, by rw [vset_self]; rfl, rfl⟩

theorem State.startOnly_refl (s : State) (l : AxisNo) : State.startOnly l s s := s.modSteer_startOnly l id

theorem State.writeStops_startOnly (s : State) (l : AxisNo) (a b : Int) : State.startOnly l s (s.writeStops l a b) :=
  State.startOnly_trans (State.modAx_startOnly rfl) (State.modAx_startOnly rfl)

theorem State.gainRef_startOnly (s : State) (l : AxisNo) : State.startOnly l s (s.gainRef l) := by
  unfold State.gainRef
  simp only []
  refine State.startOnly_trans (s.modSteer_startOnly l fun t => { t with ref := vset t.ref l true }) ?_
  split
  · split
    · exact State.writeStops_startOnly _ _ _ _
    · exact State.startOnly_trans (State.writeStops_startOnly _ _ _ _)
        (State.startOnly_trans (State.modSteer_startOnly _ _ _) (State.modAx_startOnly rfl))
  · exact State.writeStops_startOnly _ _ _ _

theorem State.startSearch_startOnly (s : State) (l : AxisNo) (n : Fin 3) : State.startOnly l s (s.startSearch l n) := by
  unfold State.startSearch
  split
  · exact State.startOnly_trans (State.modSteer_startOnly _ _ _) (State.modAx_startOnly rfl)
  · exact State.startOnly_refl _ _

theorem State.setPos_gainRef_startOnly (s : State) (l : AxisNo) (p : Int) : State.startOnly l s ((s.setPos l p).gainRef l) :=
  State.startOnly_trans (State.modAx_startOnly rfl) (State.gainRef_startOnly _ _)

theorem State.firstEnable_startOnly (s : State) (l : AxisNo) : State.startOnly l s (s.firstEnable l) := by
  unfold State.firstEnable
  split
  · exact State.startOnly_refl _ _
  · simp only []
    refine State.startOnly_trans (s.modSteer_startOnly l fun t => { t with enSeen := vset t.enSeen l true }) ?_
    split
    · split
      · exact State.setPos_gainRef_startOnly _ _ _
      · exact State.startSearch_startOnly _ _ _
    · split
      · split
        · exact State.setPos_gainRef_startOnly _ _ _
        · exact State.startOnly_refl _ _
      · split
        · exact State.modBrake_startOnly _ _ _
        · exact State.startOnly_refl _ _

theorem State.startAxis_startOnly (s : State) (l : AxisNo) : State.startOnly l s (s.startAxis l) :=
  State.startOnly_trans (State.modAx_startOnly rfl) (State.startOnly_trans (State.modAx_startOnly rfl) (State.modAx_startOnly rfl))

/-! ## The torque-off demand and the lane state (R262) -/

theorem State.setSt_toDemanded {s : State} {x : LaneSt} (hx : x ≠ .failSilent) (hs : s.life.st ≠ .failSilent) (k : PairNo) :
    (s.setSt x).toDemanded k = s.toDemanded k := by
  unfold State.setSt
  split
  · rfl
  · unfold State.toDemanded
    simp only [State.intr, hx, hs]
    rfl

/-- ACTIVE and DRIVE demand alike. -/
theorem State.syncDrive_toDemanded (s : State) (k : PairNo) : s.syncDrive.toDemanded k = s.toDemanded k := by
  unfold State.syncDrive
  split
  · next h =>
    split
    · exact State.setSt_toDemanded (by decide) (by rw [h]; decide) k
    · rfl
  · next h =>
    split
    · rfl
    · exact State.setSt_toDemanded (by decide) (by rw [h]; decide) k
  · rfl

/-! ## OP_AX_ENABLE and OP_AX_DISABLE (R409, R410) -/

/-- The demand of the supervisor on a pair is taken back. -/
def State.undemanded (s : State) (k : PairNo) : State := s.modPair k fun p => { p with toDemand := false }

/-- The loops of an enabled axis: they go on where the axis `a` ran before, else they start; a first enable begins its reference search. -/
def State.restarted (s : State) (l : AxisNo) (a : Axis) : State :=
  (if a.en && (a.com.mode != CMode.off || a.com.want.isSome) then s.modAx l fun a => { a with prof := { a.prof with enter := true } }
    else s.startAxis l).firstEnable l

theorem State.restarted_startOnly (s : State) (l : AxisNo) (a : Axis) : State.startOnly l s (s.restarted l a) := by
  refine State.startOnly_trans ?_ (State.firstEnable_startOnly _ l)
  split
  · exact State.modAx_startOnly rfl
  · exact State.startAxis_startOnly _ _

/-- An enable outside STEEROFF: up to the lane state, of the axis its marks are known, and no other axis changes. -/
theorem State.enableAxis_eq {s : State} (l : AxisNo) (hp : s.safe.phase ≠ .steeroff) : ∃ (w : State) (x : Axis) (g : Arb) (v : Steer) (b : Brake),
    w = { s.undemanded (pairOf l) with ax := vset s.ax l x, arb := g, steer := v, brake := b } ∧ x.marks = (true, 0, 0, false) ∧
      s.enableAxis l = if w.syncDrive.toDemanded (pairOf l) then w.syncDrive.torqueOff (pairOf l) else w.syncDrive := by
  obtain ⟨g, hg⟩ : ∃ g, (if s.ax[l].fault = 0 then s else s.modArb fun b => { b with grant := vset b.grant l (s.floorAt l) }) =
      { s with arb := g } := by
    split
    · exact ⟨s.arb, rfl⟩
    · exact ⟨_, rfl⟩
  obtain ⟨x, v, b, hx, hm⟩ := (({ s.undemanded (pairOf l) with arb := g } : State).modAx l Axis.enabled).restarted_startOnly l s.ax[l]
  rw [State.modAx_ax, vmod_same] at hm
  refine ⟨_, x, g, v, b, hx.trans ?_, hm, ?_⟩
  · unfold State.modAx vmod
    simp only [vset_vset]
    rfl
  · unfold State.enableAxis
    simp only [hg, hp, if_false]
    rfl

theorem State.enableAxis_acts {s : State} {l : AxisNo} (hp : s.safe.phase ≠ .steeroff) (hd : (s.undemanded (pairOf l)).toDemanded (pairOf l) = false) :
    ∃ t : State, s.enableAxis l = t ∧ t.ax[l].marks = (true, 0, 0, false) ∧ t.pair[pairOf l].toDemand = false ∧
      (∀ m : AxisNo, m ≠ l → t.ax[m] = s.ax[m]) ∧ (s.life.st = .active → t.life.st = .drive) ∧ (s.life.st ≠ .active → t.life = s.life) := by
  obtain ⟨w, x, g, v, b, hw, hx, he⟩ := State.enableAxis_eq l hp
  have hwd : w.syncDrive.toDemanded (pairOf l) = false := by
    rw [State.syncDrive_toDemanded, hw]
    exact hd
  have hax : w.ax = vset s.ax l x := by rw [hw]
  have hl : w.ax[l] = x := by rw [hax, vset_same]
  have hen : w.anyEn = true := State.anyEn_of_en (l := l) (by rw [hl]; exact congrArg Prod.fst hx)
  have hlife : w.life = s.life := by rw [hw]; rfl
  obtain ⟨f, r, hs, -⟩ := w.syncDrive_eq
  refine ⟨w.syncDrive, by rw [he, hwd]; rfl, ?_, ?_, fun m hm => ?_, fun ha => ?_, fun ha => ?_⟩
  · rw [w.syncDrive_ax, hl, hx]
  · rw [hs, hw]
    exact congrArg Pair.toDemand (vmod_same _ _ _)
  · rw [w.syncDrive_ax, hax, vset_ne _ _ _ _ hm]
  · exact State.syncDrive_active (hlife ▸ ha) hen
  · rw [State.syncDrive_enabled (hlife ▸ ha) hen, hlife]

/-- A disabled axis keeps its gates until the next load point. -/
theorem Axis.disable_gates (a : Axis) : a.disable.pwm.gates = a.pwm.gates ∧ (a.pwm.gates = true → a.disable.pwm.gateReq = some false) := by
  have hs : a.stopLoops.pwm = a.pwm := by
    unfold Axis.stopLoops Axis.setMode
    split <;> rfl
  unfold Axis.disable
  simp only [hs]
  split
  · next h => exact ⟨h.symm ▸ rfl, fun _ => rfl⟩
  · next h => exact ⟨rfl, fun h' => absurd h' h⟩

/-- The body of an opcode of the lane that commands its axes. -/
theorem holdBody_eq {f : Req → AxisNo → State → Ans} {s : State} {r : Req} {l : AxisNo} (hl : s.argAxis r.arg0 = some l) (hh : s.holds = true)
    (ha : s.allocated l = true) : holdBody f r s = f r l s := by
  simp only [holdBody, axisBody, hl, hh, ha, Bool.and_self, if_true]

theorem axisBody_eq {f : Req → AxisNo → State → Ans} {s : State} {r : Req} {l : AxisNo} (hl : s.argAxis r.arg0 = some l) :
    axisBody f r s = f r l s := by
  simp only [axisBody, hl]

/-- Settles O15: an enable and a disable by what each leaves of its axis and of the lane state. -/
theorem axisEnableAndDisable : Obligations.AxisEnableAndDisable := by
  intro s r l hl
  obtain ⟨m, hh, -⟩ := s.heard_eq r
  have hl' : (s.heard r).argAxis r.arg0 = some l := by rw [hh]; exact hl
  have enable : s.admits specAxEnable r = true → s.holds = true → s.allocated l = true → exec (.opAxEnable r) s =
      .next ((if s.reloading l then Ans.refuse (s.heard r) 0x11 else if s.enableRefused l then Ans.refuse (s.heard r) 0x40
        else Ans.ok (((s.heard r).modBrake fun b => { b with fimp := vset b.fimp l false, fimpN := vset b.fimpN l 0 }).enableAxis l)).close
          specAxEnable r) := fun ha hs hal => by
    refine congrArg Host.Outcome.next ((s.serve_admits specAxEnable bodyAxEnable r ha).trans ?_)
    unfold bodyAxEnable
    rw [holdBody_eq hl' (by rw [hh]; exact hs) (by rw [hh]; exact hal), hh]
    rfl
  have disable : s.admits specAxDisable r = true → exec (.opAxDisable r) s =
      .next ((if s.standby then Ans.ok ((s.heard r).modAx l fun a => { a with heldOff := true })
        else Ans.ok ((s.heard r).modAx l Axis.disable).syncDrive).close specAxDisable r) := fun ha => by
    refine congrArg Host.Outcome.next ((s.serve_admits specAxDisable bodyAxDisable r ha).trans ?_)
    unfold bodyAxDisable
    rw [axisBody_eq hl', hh]
    rfl
  refine ⟨fun ha hs hal hr => ?_, fun ha hs hal hr he hp hd => ?_, fun ha hst => ?_, fun ha hst => ?_⟩
  · rw [enable ha hs hal, if_pos hr]
  · rw [enable ha hs hal, if_neg (by rw [hr]; exact Bool.false_ne_true), if_neg (by rw [he]; exact Bool.false_ne_true)]
    rw [hh]
    obtain ⟨t, ht, hm, h⟩ := State.enableAxis_acts (l := l)
      (s := ({ s with mb := m } : State).modBrake fun b => { b with fimp := vset b.fimp l false, fimpN := vset b.fimpN l 0 }) hp hd
    simp only [Axis.marks, Prod.mk.injEq] at hm
    obtain ⟨h1, h2, h3, h4⟩ := hm
    exact ⟨t, by rw [ht], h1, h2, h3, h4, h⟩
  · rw [disable ha, if_neg (by rw [hst]; exact Bool.false_ne_true), hh]
    obtain ⟨hen, hmode, hfault, -⟩ := s.ax[l].disable_eq
    obtain ⟨hg, hq⟩ := s.ax[l].disable_gates
    have hax : ((({ s with mb := m } : State).modAx l Axis.disable).syncDrive).ax = vmod s.ax l Axis.disable := State.syncDrive_ax _
    have hal : ((({ s with mb := m } : State).modAx l Axis.disable).syncDrive).ax[l] = s.ax[l].disable := by rw [hax, vmod_same]
    refine ⟨_, rfl, ?_⟩
    rw [hal]
    refine ⟨hen, hmode, hfault, hg, hq, fun j hj => ?_, fun hdr => ?_⟩
    · rw [hax, vmod_ne _ _ _ _ hj]
    · rw [← State.anyEn_false_iff, State.syncDrive_anyEn, State.syncDrive_drive (show (({ s with mb := m } : State).modAx l Axis.disable).life.st = .drive from hdr)]
      split
      · next h => simp [h]
      · next h => simpa using h
  · rw [disable ha, if_pos hst]

end Sys2Proof.Machine

namespace Sys2Proof.Machine

/-! ## Folds over indices of which few act -/

/-- A fold none of whose steps changes the state. -/
theorem forFin_fixed {σ : Type} {n : Nat} {f : Fin n → σ → σ} {s : σ} (h : ∀ i, f i s = s) : forFin n f s = s :=
  List.foldl_fixed' h _

/-- A fold in which one step changes the state, and no later step the state that this one leaves. -/
theorem forFin_first {σ : Type} {n : Nat} {f : Fin n → σ → σ} {s : σ} (i : Fin n) (before : ∀ j, j < i → f j s = s)
    (after : ∀ j, i < j → f j (f i s) = f i s) : forFin n f s = f i s := by
  induction n generalizing s with
  | zero => exact i.elim0
  | succ n ih =>
    have hs : forFin (n + 1) f s = forFin n (fun j => f j.succ) (f 0 s) := by
      unfold forFin fins
      rw [List.finRange_succ, List.foldl_cons, List.foldl_map]
    rw [hs]
    induction i using Fin.cases with
    | zero => exact forFin_fixed fun j => after j.succ j.succ_pos
    | succ i =>
      rw [before 0 i.succ_pos]
      exact ih (f := fun j => f j.succ) i (fun j hj => before j.succ (Fin.succ_lt_succ_iff.2 hj)) fun j hj => after j.succ (Fin.succ_lt_succ_iff.2 hj)

/-! ## A fault with its event (R66) -/

theorem Axis.cut_dsm (a : Axis) : a.cut.dsm = a.dsm := congrArg (fun k => k.2.1) a.cut_kept

theorem Axis.cut_off_eq (a : Axis) : a.cut.cur.off = a.cur.off := congrArg (fun k => k.2.2.1) a.cut_kept

theorem Axis.cut_sumCount (a : Axis) : a.cut.cur.sumCount = a.cur.sumCount := by
  unfold Axis.cut Axis.stopLoops Axis.setMode
  split <;> rfl

theorem Axis.faulted_fault {a : Axis} {cause : BitVec 4} (h : a.fault = 0) : (a.faulted cause).fault = cause := if_pos h

/-- A first fault: the axis is stopped, the lane state follows the enables, and the event is raised. -/
theorem State.faultWith_first {s : State} {l : AxisNo} (cause : BitVec 4) (code : Nat) (args : List Word) (h : s.ax[l].fault = 0) :
    ∃ v : State, s.faultWith l cause code args = v.raise code .crimson (some l) args ∧ v.ax[l] = s.ax[l].faulted cause ∧
      (∀ m : AxisNo, m ≠ l → v.ax[m] = s.ax[m]) ∧ { v with ax := s.ax, life := s.life, regs := s.regs } = s := by
  obtain ⟨hax, f, r, hv⟩ := s.axisFault_acts l cause
  refine ⟨s.axisFault l cause, if_pos h, ?_, fun m hm => ?_, ?_⟩
  · rw [hax, vset_same]
  · rw [hax, vset_ne _ _ _ _ hm]
  · rw [hv]

/-- A faulted axis takes no further fault. -/
theorem State.faultWith_faulted {s : State} {l : AxisNo} (cause : BitVec 4) (code : Nat) (args : List Word) (h : s.ax[l].fault ≠ 0) :
    s.faultWith l cause code args = s := if_neg h

/-! ## One clock of the modulator (R47, R49, R50) -/

theorem Dsm.step_lvl (d : Dsm) (ioc : Q) (x : DsBits) : (d.step ioc x).lvl = x := by
  unfold Dsm.step
  simp only []
  split <;> rfl

/-- An input holds its level one clock longer, or begins to hold a new one. -/
theorem Dsm.step_held (d : Dsm) (ioc : Q) (x : DsBits) (i : Fin 6) :
    (d.step ioc x).held[i] = if x.getLsbD i.val = d.lvl.getLsbD i.val then d.held[i] + 1 else 1 := by
  unfold Dsm.step
  simp only []
  split <;> simp

/-- Between their outputs the fast filters keep what they gave. -/
theorem Dsm.step_between {d : Dsm} (ioc : Q) (x : DsBits) (h : d.phase + 1 < 16) :
    (d.step ioc x).phase = d.phase + 1 ∧ (d.step ioc x).oc = d.oc ∧ (d.step ioc x).fast = d.fast := by
  unfold Dsm.step
  simp only [h, if_true, and_self]

/-- The sixteenth clock gives the fast outputs, and counts those beyond the limit. -/
theorem Dsm.step_output {d : Dsm} (ioc : Q) (x : DsBits) (h : 16 ≤ d.phase + 1) :
    (d.step ioc x).phase = 0 ∧ ∀ i : Fin 3, (d.step ioc x).fast[i] = (comb 16 ((d.step ioc x).ch[i.val]).hist : Q) / 2048 - 1 ∧
      (d.step ioc x).oc[i] = if ioc < |(d.step ioc x).fast[i]| then d.oc[i] + 1 else 0 := by
  have hn : ¬ d.phase + 1 < 16 := Nat.not_lt.2 h
  unfold Dsm.step
  simp only [hn, if_false]
  exact ⟨trivial, fun i => ⟨by simp, by simp⟩⟩

/-- The filters of an axis after a clock. -/
def State.dsmNext (s : State) (l : AxisNo) (x : DsBits) : Dsm := s.ax[l].dsm.step (s.pq P.curIoc l) x

/-- The state after a clock, before its reactions. -/
def State.dsmTaken (s : State) (l : AxisNo) (t : Ns) (x : DsBits) : State :=
  { s with ax := vset s.ax l { s.ax[l] with dsm := s.dsmNext l x }
           pair := vset s.pair (pairOf l) (if 64 ≤ (s.dsmNext l x).held[(5 : Fin 6)] then { s.pair[pairOf l] with stuckAt := t } else s.pair[pairOf l]) }

/-- The reactions to the inputs that have just become stuck. -/
def State.stuckActs (s : State) (l : AxisNo) (d : Dsm) : State := forFin 6 (fun i s => if d.held[i] = 64 then s.stuckInput l i else s) s

/-- The reactions to the fast outputs that have just passed the limit twice. -/
def State.fastActs (s : State) (l : AxisNo) (d : Dsm) : State :=
  forFin 3 (fun i s => if d.oc[i] = 2 then s.faultWith l 5 0x1004 [BitVec.ofNat 32 i.val] else s) s

theorem State.dsmClock_eq (s : State) (l : AxisNo) (t : Ns) (x : DsBits) : s.dsmClock l t x =
    if (s.dsmNext l x).phase = 0 then (((s.dsmTaken l t x).stuckActs l (s.dsmNext l x)).pulseCurrent l t).fastActs l (s.dsmNext l x)
    else (s.dsmTaken l t x).stuckActs l (s.dsmNext l x) := by
  have hd : (s.modAx l fun a => { a with dsm := a.dsm.step (s.pq P.curIoc l) x }).ax[l].dsm = s.dsmNext l x := by
    rw [State.modAx_ax, vmod_same]
    rfl
  have hs : (if 64 ≤ (s.dsmNext l x).held[(5 : Fin 6)] then
      (s.modAx l fun a => { a with dsm := a.dsm.step (s.pq P.curIoc l) x }).modPair (pairOf l) fun p => { p with stuckAt := t }
      else s.modAx l fun a => { a with dsm := a.dsm.step (s.pq P.curIoc l) x }) = s.dsmTaken l t x := by
    unfold State.dsmTaken
    split
    · rfl
    · rw [vset_self]
      rfl
  unfold State.dsmClock
  simp only [hd, hs]
  rfl

theorem State.stuckActs_none {s : State} (l : AxisNo) {d : Dsm} (h : ∀ i : Fin 6, d.held[i] ≠ 64) : s.stuckActs l d = s :=
  forFin_fixed fun i => if_neg (h i)

theorem State.stuckActs_one {s : State} (l : AxisNo) {d : Dsm} {i : Fin 6} (hi : d.held[i] = 64) (h : ∀ j : Fin 6, j ≠ i → d.held[j] ≠ 64) :
    s.stuckActs l d = s.stuckInput l i := by
  unfold State.stuckActs
  rw [forFin_first i]
  · exact if_pos hi
  · exact fun j hj => if_neg (h j (ne_of_lt hj))
  · exact fun j hj => if_neg (h j (ne_of_gt hj))

theorem State.pulseCurrent_none {s : State} {l : AxisNo} (t : Ns) (h : s.ax[l].com.pulse = none) : s.pulseCurrent l t = s := by
  unfold State.pulseCurrent
  rw [h]

/-- The fast outputs ask for nothing, or the axis is faulted already. -/
theorem State.fastActs_none {s : State} {l : AxisNo} {d : Dsm} (h : s.ax[l].fault = 0 → ∀ i : Fin 3, d.oc[i] ≠ 2) : s.fastActs l d = s := by
  refine forFin_fixed fun i => ?_
  split
  · next hi => exact State.faultWith_faulted _ _ _ fun hf => h hf i hi
  · rfl

/-- The first input beyond the limit faults the axis; what the others ask for comes too late. -/
theorem State.fastActs_first {s : State} {l : AxisNo} {d : Dsm} {i : Fin 3} (hf : s.ax[l].fault = 0) (hi : d.oc[i] = 2)
    (h : ∀ j : Fin 3, j < i → d.oc[j] ≠ 2) : s.fastActs l d = s.faultWith l 5 0x1004 [BitVec.ofNat 32 i.val] := by
  obtain ⟨v, hv, hl, -⟩ := State.faultWith_first 5 0x1004 [BitVec.ofNat 32 i.val] hf
  unfold State.fastActs
  rw [forFin_first i]
  · exact if_pos hi
  · exact fun j hj => if_neg (h j hj)
  · intro j _
    rw [if_pos hi]
    split
    · refine State.faultWith_faulted _ _ _ ?_
      rw [hv, State.raise_ax, hl, Axis.faulted_fault hf]
      decide
    · rfl

/-- A clock at whose end the stuck rule has left the state `u`, and the fast outputs ask for nothing. -/
theorem State.dsmClock_stuckOnly {s u : State} {l : AxisNo} (t : Ns) {x : DsBits} (hu : (s.dsmTaken l t x).stuckActs l (s.dsmNext l x) = u)
    (hp : u.ax[l].com.pulse = none) (h : (s.dsmNext l x).phase = 0 → u.ax[l].fault = 0 → ∀ i : Fin 3, (s.dsmNext l x).oc[i] ≠ 2) :
    s.dsmClock l t x = u := by
  rw [State.dsmClock_eq, hu]
  split
  · next h0 => rw [State.pulseCurrent_none t hp, State.fastActs_none (h h0)]
  · rfl

theorem State.dsmTaken_get (s : State) (l : AxisNo) (t : Ns) (x : DsBits) :
    (s.dsmTaken l t x).ax[l] = { s.ax[l] with dsm := s.dsmNext l x } ∧ ∀ m : AxisNo, m ≠ l → (s.dsmTaken l t x).ax[m] = s.ax[m] :=
  ⟨vset_same _ _ _, fun _ hm => vset_ne _ _ _ _ hm⟩

/-- A fault by a clock of the modulator. -/
theorem State.dsmTaken_faults {s : State} {l : AxisNo} (t : Ns) (x : DsBits) {cause : BitVec 4} (code : Nat) (args : List Word)
    (hf : s.ax[l].fault = 0) : ∃ v : State, (s.dsmTaken l t x).faultWith l cause code args = v.raise code .crimson (some l) args ∧
      v.ax[l].fault = cause ∧ v.ax[l].en = false ∧ v.ax[l].pwm.gates = false ∧ v.ax[l].dsm = s.dsmNext l x ∧ v.ax[l].com.pulse = none ∧
      (∀ m : AxisNo, m ≠ l → v.ax[m] = s.ax[m]) ∧
      { v with ax := s.ax, life := s.life, regs := s.regs } = { s with pair := (s.dsmTaken l t x).pair } := by
  obtain ⟨hl, hm⟩ := s.dsmTaken_get l t x
  have hf' : (s.dsmTaken l t x).ax[l].fault = 0 := by rw [hl]; exact hf
  obtain ⟨v, hv, hvl, hvm, hvs⟩ := State.faultWith_first cause code args hf'
  refine ⟨v, hv, ?_⟩
  rw [hvl]
  refine ⟨Axis.faulted_fault hf', rfl, rfl, (Axis.cut_dsm _).trans (congrArg Axis.dsm hl), rfl, fun m hmn => (hvm m hmn).trans (hm m hmn), ?_⟩
  exact congrArg (fun z : State => { z with ax := s.ax }) hvs

/-- What a clock of the modulator does, by the input that has just become stuck and by the fast outputs. -/
theorem State.dsmClock_acts {s : State} {l : AxisNo} (tm : Ns) (x : DsBits) {d' : Dsm} {k : PairNo} {p : Pair} (hk : k = pairOf l)
    (hd : d' = s.dsmNext l x) (hp : p = if 64 ≤ d'.held[(5 : Fin 6)] then { s.pair[k] with stuckAt := tm } else s.pair[k])
    (hpulse : s.ax[l].com.pulse = none) :
    ((∀ i : Fin 6, d'.held[i] ≠ 64) → (d'.phase = 0 → s.ax[l].fault = 0 → ∀ i : Fin 3, d'.oc[i] ≠ 2) →
      s.dsmClock l tm x = { s with ax := vset s.ax l { s.ax[l] with dsm := d' }, pair := vset s.pair k p }) ∧
    (∀ i : Fin 3, (∀ j : Fin 6, d'.held[j] ≠ 64) → d'.phase = 0 → s.ax[l].fault = 0 → d'.oc[i] = 2 → (∀ j : Fin 3, j < i → d'.oc[j] ≠ 2) →
      ∃ v : State, s.dsmClock l tm x = v.raise 0x1004 .crimson (some l) [BitVec.ofNat 32 i.val] ∧
        v.ax[l].fault = 5 ∧ v.ax[l].en = false ∧ v.ax[l].pwm.gates = false ∧ v.ax[l].dsm = d' ∧
        (∀ m : AxisNo, m ≠ l → v.ax[m] = s.ax[m]) ∧
        { v with ax := s.ax, life := s.life, regs := s.regs } = { s with pair := vset s.pair k p }) ∧
    (∀ i : Fin 6, i.val < 3 → (i.val ≠ 2 ∨ s.pn P.dsmIch l ≠ 2) → d'.held[i] = 64 → (∀ j : Fin 6, j ≠ i → d'.held[j] ≠ 64) →
      s.ax[l].fault = 0 →
      ∃ v : State, s.dsmClock l tm x = v.raise 0x1003 .crimson (some l) [BitVec.ofNat 32 i.val] ∧
        v.ax[l].fault = 3 ∧ v.ax[l].en = false ∧ v.ax[l].pwm.gates = false ∧ v.ax[l].dsm = d' ∧
        (∀ m : AxisNo, m ≠ l → v.ax[m] = s.ax[m]) ∧
        { v with ax := s.ax, life := s.life, regs := s.regs } = { s with pair := vset s.pair k p }) := by
  subst hd hk
  have hpair : (s.dsmTaken l tm x).pair = vset s.pair (pairOf l) p := by rw [hp]; rfl
  obtain ⟨hl, -⟩ := s.dsmTaken_get l tm x
  refine ⟨fun h h0 => ?_, fun i h h0 hf hi hb => ?_, fun i hi3 hich hi h hf => ?_⟩
  · refine (State.dsmClock_stuckOnly tm (State.stuckActs_none l h) ?_ ?_).trans ?_
    · rw [hl]; exact hpulse
    · rw [hl]; exact h0
    · rw [← hpair]; rfl
  · obtain ⟨v, hv, h1, h2, h3, h4, -, h5, h6⟩ := State.dsmTaken_faults (cause := 5) tm x 0x1004 [BitVec.ofNat 32 i.val] hf
    refine ⟨v, ?_, h1, h2, h3, h4, h5, hpair ▸ h6⟩
    rw [State.dsmClock_eq, if_pos h0, State.stuckActs_none l h, State.pulseCurrent_none tm (by rw [hl]; exact hpulse),
      State.fastActs_first (by rw [hl]; exact hf) hi hb, hv]
  · obtain ⟨v, hv, h1, h2, h3, h4, hpv, h5, h6⟩ := State.dsmTaken_faults (cause := 3) tm x 0x1003 [BitVec.ofNat 32 i.val] hf
    refine ⟨v, ?_, h1, h2, h3, h4, h5, hpair ▸ h6⟩
    refine State.dsmClock_stuckOnly tm ?_ (by rw [State.raise_ax]; exact hpv) fun _ hf' => ?_
    · rw [State.stuckActs_one l hi h, ← hv]
      unfold State.stuckInput
      rw [if_pos hi3, if_neg]
      rintro ⟨h2, h3⟩
      exact hich.elim (· h2) (· h3)
    · rw [State.raise_ax, h1] at hf'
      exact absurd hf' (by decide)

end Sys2Proof.Machine

namespace Sys2Proof.Machine

/-- A resolver input that has just become stuck is a sensor loss of the axis. -/
theorem State.dsmClock_resolver {s : State} {l : AxisNo} (tm : Ns) (x : DsBits) (hpulse : s.ax[l].com.pulse = none) {i : Fin 6}
    (hi34 : i = 3 ∨ i = 4) (hsrc : s.pn P.fbSrc l = 2) (hlost : s.ax[l].fb.lost = false) (hloss : s.ax[l].fb.loss = 0)
    (hi : (s.dsmNext l x).held[i] = 64) (h : ∀ j : Fin 6, j ≠ i → (s.dsmNext l x).held[j] ≠ 64)
    (h0 : (s.dsmNext l x).phase = 0 → ∀ j : Fin 3, (s.dsmNext l x).oc[j] ≠ 2) :
    ∃ v : State, s.dsmClock l tm x = v.raise 0x5004 .crimson (some l) [6] ∧
      v.ax[l].fb.loss = 6 ∧ v.ax[l].fb.lost = true ∧ v.ax[l].com.cval = false ∧ v.ax[l].en = s.ax[l].en ∧
      v.ax[l].fault = s.ax[l].fault ∧ (∀ m : AxisNo, m ≠ l → v.ax[m] = s.ax[m]) ∧
      { v with ax := s.ax } = { s with pair := (s.dsmTaken l tm x).pair } := by
  obtain ⟨hl, hm⟩ := s.dsmTaken_get l tm x
  obtain ⟨b, hb, he⟩ := (s.dsmTaken l tm x).noteLoss_source l 6
  have hb' : b = s.brake := hb (show s.pn P.fbSrc l ≠ 1 by omega)
  have hlost' : ¬ (s.dsmTaken l tm x).ax[l].fb.lost = true := by
    rw [hl]
    exact fun ht => Bool.false_ne_true (hlost.symm.trans ht)
  rw [if_neg hlost', hl] at he
  refine ⟨{ s.dsmTaken l tm x with brake := b, ax := vset (s.dsmTaken l tm x).ax l (Axis.sensorLost { s.ax[l] with dsm := s.dsmNext l x } 6) }, ?_, ?_⟩
  · refine State.dsmClock_stuckOnly tm ?_ ?_ fun hz _ => h0 hz
    · rw [State.stuckActs_one l hi h]
      refine Eq.trans ?_ he
      have h3 : ¬ i.val < 3 := by obtain rfl | rfl := hi34 <;> decide
      have h5 : i.val < 5 := by obtain rfl | rfl := hi34 <;> decide
      unfold State.stuckInput
      rw [if_neg h3, if_pos h5, show (s.dsmTaken l tm x).src l = 2 from hsrc]
      rfl
    · rw [State.raise_ax, vset_same]
      unfold Axis.sensorLost
      split <;> exact hpulse
  · rw [vset_same]
    refine ⟨if_pos hloss, rfl, rfl, rfl, rfl, fun m hmn => (vset_ne _ _ _ _ hmn).trans (hm m hmn), ?_⟩
    rw [hb']
    rfl

/-- The link-voltage input that has just become stuck makes the link voltage unknown. -/
theorem State.dsmClock_link {s : State} {l : AxisNo} (tm : Ns) (x : DsBits) (hpulse : s.ax[l].com.pulse = none)
    (hi : (s.dsmNext l x).held[(5 : Fin 6)] = 64) (h : ∀ j : Fin 6, j ≠ 5 → (s.dsmNext l x).held[j] ≠ 64)
    (h0 : (s.dsmNext l x).phase = 0 → ∀ j : Fin 3, (s.dsmNext l x).oc[j] ≠ 2) {v : State}
    (hv : v = { s with ax := vset s.ax l { s.ax[l] with dsm := s.dsmNext l x }
                       pair := vset s.pair (pairOf l) { s.pair[pairOf l] with vunk := true, stuckAt := tm, chop := false, chBad := none } }) :
    s.dsmClock l tm x = if s.pair[pairOf l].vunk then v else v.raise 0x1014 .amber (some (loAx (pairOf l))) [BitVec.ofNat 32 (pairOf l).val] := by
  have hle : 64 ≤ (s.dsmNext l x).held[(5 : Fin 6)] := Nat.le_of_eq hi.symm
  have hp : (s.dsmTaken l tm x).pair = vset s.pair (pairOf l) { s.pair[pairOf l] with stuckAt := tm } := by
    unfold State.dsmTaken
    rw [if_pos hle]
  have hmod : (s.dsmTaken l tm x).modPair (pairOf l) (fun p => { p with vunk := true, chop := false, chBad := none }) = v := by
    unfold State.modPair vmod
    rw [hp, vset_same, vset_vset, hv]
    rfl
  have hwas : (s.dsmTaken l tm x).pair[pairOf l].vunk = s.pair[pairOf l].vunk := by rw [hp, vset_same]
  have hax : v.ax[l] = { s.ax[l] with dsm := s.dsmNext l x } := by rw [hv]; exact vset_same _ _ _
  refine State.dsmClock_stuckOnly tm ?_ ?_ fun hz _ => h0 hz
  · rw [State.stuckActs_one l hi h]
    unfold State.stuckInput
    rw [if_neg (by decide), if_neg (by decide)]
    simp only [hmod, hwas]
  · have hax' : (if s.pair[pairOf l].vunk then v else v.raise 0x1014 .amber (some (loAx (pairOf l))) [BitVec.ofNat 32 (pairOf l).val]).ax = v.ax := by
      split
      · rfl
      · rw [State.raise_ax]
    rw [hax', hax]
    exact hpulse

/-! ## The current sum (R48) -/

theorem State.sumFault_none {s : State} {l : AxisNo} (h : s.ax[l].cur.sumCount < 4) : s.sumFault l = s := if_neg (Nat.not_le.2 h)

theorem State.sumFault_acts {s : State} {l : AxisNo} (h : 4 ≤ s.ax[l].cur.sumCount) :
    (s.ax[l].fault = 0 → ∃ v : State, s.sumFault l = v.raise 0x1002 .crimson (some l) [toFix 16 s.ax[l].cur.sum] ∧
      v.ax[l].fault = 4 ∧ v.ax[l].en = false ∧ v.ax[l].pwm.gates = false ∧ v.ax[l].cur.sumCount = 0 ∧
      (∀ m : AxisNo, m ≠ l → v.ax[m] = s.ax[m]) ∧ { v with ax := s.ax, life := s.life, regs := s.regs } = s) ∧
    (s.ax[l].fault ≠ 0 → s.sumFault l = { s with ax := vset s.ax l { s.ax[l] with cur := { s.ax[l].cur with sumCount := 0 } } }) := by
  obtain ⟨u, hu⟩ : ∃ u, u = s.modAx l fun a => { a with cur := { a.cur with sumCount := 0 } } := ⟨_, rfl⟩
  have hs : s.sumFault l = u.faultWith l 4 0x1002 [toFix 16 s.ax[l].cur.sum] := by rw [hu]; exact if_pos h
  have hl : u.ax[l] = { s.ax[l] with cur := { s.ax[l].cur with sumCount := 0 } } := by rw [hu]; exact vmod_same _ _ _
  have hm : ∀ m : AxisNo, m ≠ l → u.ax[m] = s.ax[m] := fun m hm => by rw [hu]; exact vmod_ne _ _ _ _ hm
  rw [hs]
  refine ⟨fun hf => ?_, fun hf => ?_⟩
  · obtain ⟨v, hv, hvl, hvm, hvs⟩ := State.faultWith_first 4 0x1002 [toFix 16 s.ax[l].cur.sum] (s := u) (l := l) (by rw [hl]; exact hf)
    refine ⟨v, hv, ?_⟩
    rw [hvl]
    refine ⟨Axis.faulted_fault (by rw [hl]; exact hf), rfl, rfl, (Axis.cut_sumCount _).trans (by rw [hl]), fun m h => (hvm m h).trans (hm m h), ?_⟩
    rw [hu] at hvs
    exact congrArg (fun z : State => { z with ax := s.ax }) hvs
  · rw [State.faultWith_faulted _ _ _ (by rw [hl]; exact hf), hu]
    rfl

/-! ## The offset calibration (R51) -/

/-- The record of the currents when a calibration has ended. -/
def Cur.calEnded (c : Cur) : Cur :=
  { c with calDue := false, calDone := true, calN := 0, calSum := Vector.replicate 3 0, calMag := Vector.replicate 3 0 }

/-- The gates of an enabled axis follow the calibration. -/
def Axis.gatesFollow (a : Axis) : Axis := if a.en then { a with pwm := { a.pwm with gateReq := some true } } else a

theorem Axis.gatesFollow_eq (a : Axis) : a.gatesFollow.cur = a.cur ∧ (a.en = true → a.gatesFollow.pwm.gateReq = some true) := by
  unfold Axis.gatesFollow
  split
  · exact ⟨rfl, fun _ => rfl⟩
  · next h => exact ⟨rfl, fun he => absurd he h⟩

/-- The axis whose calibration has ended with the offsets `x` in use and `y` stored. -/
def Axis.calibrated (a : Axis) (x y : Vector Q 3) : Axis := Axis.gatesFollow { a with cur := { a.cur.calEnded with off := x, offStored := y } }

/-- The means of the channels that are fitted. -/
def State.calMeans (s : State) (l : AxisNo) : Vector Q 3 :=
  Vector.ofFn fun i => if i.val < s.pn P.dsmIch l then s.ax[l].cur.calSum[i] / 256 else 0

theorem State.calMeans_get {s : State} {l : AxisNo} {i : Fin 3} (h : i.val < s.pn P.dsmIch l) :
    (s.calMeans l)[i] = s.ax[l].cur.calSum[i] / 256 := by
  simp [State.calMeans, h]

theorem State.calEnd_waits {s : State} {l : AxisNo} (h : s.ax[l].cur.calDue = false ∨ s.ax[l].pwm.gates = true ∨ s.ax[l].cur.calN < 16) :
    s.calEnd l = s := by
  refine if_pos ?_
  obtain h | h | h := h
  · rw [h]
    rfl
  · rw [h, Bool.or_true]
    rfl
  · rw [decide_eq_true h, Bool.or_true]

/-- The first fitted channel with too large a mean. -/
def State.calLarge (s : State) (l : AxisNo) : Option (Fin 3) :=
  (fins 3).find? fun i => decide (i.val < s.pn P.dsmIch l ∧ s.pq P.elecIfs l * 2 / 100 < |s.ax[l].cur.calSum[i] / 256|)

theorem State.calLarge_none {s : State} {l : AxisNo}
    (h : ∀ i : Fin 3, i.val < s.pn P.dsmIch l → |s.ax[l].cur.calSum[i] / 256| ≤ s.pq P.elecIfs l * 2 / 100) : s.calLarge l = none := by
  refine List.find?_eq_none.2 fun i _ hi => ?_
  obtain ⟨hich, hbig⟩ := of_decide_eq_true hi
  exact absurd hbig (not_lt.2 (h i hich))

theorem State.calLarge_some {s : State} {l : AxisNo} {i : Fin 3} (hi : i.val < s.pn P.dsmIch l)
    (hbig : s.pq P.elecIfs l * 2 / 100 < |s.ax[l].cur.calSum[i] / 256|)
    (h : ∀ j : Fin 3, j < i → |s.ax[l].cur.calSum[j] / 256| ≤ s.pq P.elecIfs l * 2 / 100) : s.calLarge l = some i := by
  refine List.find?_eq_some_iff_getElem.2 ⟨decide_eq_true ⟨hi, hbig⟩, i.val, by simp, by simp, fun j hj => ?_⟩
  rw [List.getElem_finRange, decide_eq_false]
  · rfl
  · rintro ⟨-, hb⟩
    exact absurd hb (not_lt.2 (h ⟨j, _⟩ hj))

/-- The end of a calibration whose first 16 samples are there. -/
theorem State.calEnd_due {s : State} {l : AxisNo} (hc : s.ax[l].cur.calDue = true) (hg : s.ax[l].pwm.gates = false) (hn : 16 ≤ s.ax[l].cur.calN) :
    s.calEnd l =
      (if ∃ i : Fin 3, i.val < s.pn P.dsmIch l ∧ s.pq P.elecIfs l * 2 / 100 ≤ s.ax[l].cur.calMag[i] / 16 then
        State.raise { s with ax := vset s.ax l (s.ax[l].calibrated s.ax[l].cur.offStored s.ax[l].cur.offStored) } 0x1005 .grey (some l) []
      else if s.ax[l].cur.calN < 256 then s
      else match s.calLarge l with
        | some i => (s.modCur l Cur.calEnded).faultWith l 6 0x1006 [BitVec.ofNat 32 i.val, toFix 16 (s.calMeans l)[i]]
        | none => { s with ax := vset s.ax l (s.ax[l].calibrated (s.calMeans l) (s.calMeans l)) }) := by
  have ready : ∀ f : Cur → Cur, (s.modCur l f).modAx l Axis.gatesFollow =
      { s with ax := vset s.ax l (Axis.gatesFollow { s.ax[l] with cur := f s.ax[l].cur }) } := fun f => by
    simp only [State.modCur, State.modAx, vmod, vset_same, vset_vset]
  have hgo : ¬ ((!s.ax[l].cur.calDue || s.ax[l].pwm.gates || decide (s.ax[l].cur.calN < 16)) = true) := by
    rw [hc, hg]
    simpa using hn
  have hany : (((fins 3).filter fun i => decide (i.val < s.pn P.dsmIch l)).any fun i =>
      decide (s.pq P.elecIfs l * 2 / 100 ≤ s.ax[l].cur.calMag[i] / 16)) = true ↔
      ∃ i : Fin 3, i.val < s.pn P.dsmIch l ∧ s.pq P.elecIfs l * 2 / 100 ≤ s.ax[l].cur.calMag[i] / 16 := by
    simp only [List.any_eq_true, List.mem_filter, List.mem_finRange, true_and, decide_eq_true_eq]
  have hlarge : (((fins 3).filter fun i => decide (i.val < s.pn P.dsmIch l)).find? fun i =>
      decide ((s.pq P.elecIfs l * 2 / 100 : Q) < |(s.calMeans l)[i]|)) = s.calLarge l := by
    rw [List.find?_filter]
    unfold State.calLarge
    congr 1
    funext i
    simp only [decide_eq_true_eq]
    refine decide_eq_decide.2 (and_congr_right fun hi => ?_)
    rw [State.calMeans_get hi]
  refine (if_neg hgo).trans ?_
  by_cases h : ∃ i : Fin 3, i.val < s.pn P.dsmIch l ∧ s.pq P.elecIfs l * 2 / 100 ≤ s.ax[l].cur.calMag[i] / 16
  · rw [if_pos (hany.2 h), if_pos h]
    exact congrArg (State.raise · 0x1005 .grey (some l) []) (ready fun c => { c.calEnded with off := c.offStored })
  · rw [if_neg fun ha => h (hany.1 ha), if_neg h]
    refine if_congr Iff.rfl rfl ?_
    split
    · next i h1 =>
      rw [show s.calLarge l = some i from hlarge.symm.trans h1]
      rfl
    · next h1 =>
      rw [show s.calLarge l = none from hlarge.symm.trans h1]
      exact ready fun c => { c.calEnded with off := s.calMeans l, offStored := s.calMeans l }

theorem State.calEnd_acts {s : State} {l : AxisNo} {c ended : Cur} {lim : Q} (hcur : c = s.ax[l].cur) (hc : c.calDue = true)
    (hg : s.ax[l].pwm.gates = false) (hn : 16 ≤ c.calN) (hlim : lim = s.pq P.elecIfs l * 2 / 100) (hended : ended = c.calEnded) :
    ((∃ i : Fin 3, i.val < s.pn P.dsmIch l ∧ lim ≤ c.calMag[i] / 16) →
      ∃ v : State, s.calEnd l = v.raise 0x1005 .grey (some l) [] ∧ v.ax[l].cur = { ended with off := c.offStored } ∧
        (s.ax[l].en = true → v.ax[l].pwm.gateReq = some true) ∧ (∀ m : AxisNo, m ≠ l → v.ax[m] = s.ax[m]) ∧ { v with ax := s.ax } = s) ∧
    ((∀ i : Fin 3, i.val < s.pn P.dsmIch l → c.calMag[i] / 16 < lim) →
      (c.calN < 256 → s.calEnd l = s) ∧
      (256 ≤ c.calN → (∀ i : Fin 3, i.val < s.pn P.dsmIch l → |c.calSum[i] / 256| ≤ lim) →
        ∃ v : State, s.calEnd l = v ∧
          (∀ i : Fin 3, i.val < s.pn P.dsmIch l → v.ax[l].cur.off[i] = c.calSum[i] / 256 ∧ v.ax[l].cur.offStored[i] = c.calSum[i] / 256) ∧
          { v.ax[l].cur with off := c.off, offStored := c.offStored } = ended ∧
          (s.ax[l].en = true → v.ax[l].pwm.gateReq = some true) ∧ (∀ m : AxisNo, m ≠ l → v.ax[m] = s.ax[m]) ∧ { v with ax := s.ax } = s) ∧
      (∀ i : Fin 3, 256 ≤ c.calN → s.ax[l].fault = 0 → i.val < s.pn P.dsmIch l → lim < |c.calSum[i] / 256| →
        (∀ j : Fin 3, j < i → |c.calSum[j] / 256| ≤ lim) →
        ∃ v : State, s.calEnd l = v.raise 0x1006 .crimson (some l) [BitVec.ofNat 32 i.val, toFix 16 (c.calSum[i] / 256)] ∧
          v.ax[l].fault = 6 ∧ v.ax[l].en = false ∧ v.ax[l].cur.off = c.off ∧ (∀ m : AxisNo, m ≠ l → v.ax[m] = s.ax[m]))) := by
  subst hcur hlim hended
  have hdue := State.calEnd_due hc hg hn
  -- a calibration that ends without a fault
  have done : ∀ (x y : Vector Q 3) (v : State), v = { s with ax := vset s.ax l (s.ax[l].calibrated x y) } →
      v.ax[l].cur = { s.ax[l].cur.calEnded with off := x, offStored := y } ∧ (s.ax[l].en = true → v.ax[l].pwm.gateReq = some true) ∧
        (∀ m : AxisNo, m ≠ l → v.ax[m] = s.ax[m]) ∧ { v with ax := s.ax } = s := by
    rintro x y _ rfl
    obtain ⟨h1, h2⟩ := Axis.gatesFollow_eq { s.ax[l] with cur := { s.ax[l].cur.calEnded with off := x, offStored := y } }
    refine ⟨?_, fun he => ?_, fun m hm => vset_ne _ _ _ _ hm, rfl⟩
    · rw [vset_same]
      exact h1
    · rw [vset_same]
      exact h2 he
  refine ⟨fun h => ?_, fun h => ?_⟩
  · rw [if_pos h] at hdue
    exact ⟨_, hdue, done _ _ _ rfl⟩
  · have hno : ¬ ∃ i : Fin 3, i.val < s.pn P.dsmIch l ∧ s.pq P.elecIfs l * 2 / 100 ≤ s.ax[l].cur.calMag[i] / 16 :=
      fun ⟨i, hi, hl⟩ => absurd (h i hi) (not_lt.2 hl)
    rw [if_neg hno] at hdue
    refine ⟨fun hs => hdue.trans (if_pos hs), fun hw hall => ?_, fun i hw hf hi hbig hb => ?_⟩
    · rw [if_neg (Nat.not_lt.2 hw), State.calLarge_none hall] at hdue
      obtain ⟨hcur, hrest⟩ := done _ _ _ rfl
      refine ⟨_, hdue, fun i hi => ?_, ?_, hrest⟩
      · rw [hcur]
        exact ⟨State.calMeans_get hi, State.calMeans_get hi⟩
      · rw [hcur]
        rfl
    · rw [if_neg (Nat.not_lt.2 hw), State.calLarge_some hi hbig hb] at hdue
      have hl : (s.modCur l Cur.calEnded).ax[l] = { s.ax[l] with cur := s.ax[l].cur.calEnded } := vmod_same _ _ _
      have hf' : (s.modCur l Cur.calEnded).ax[l].fault = 0 := by rw [hl]; exact hf
      obtain ⟨v, hv, hvl, hvm, -⟩ := State.faultWith_first 6 0x1006 [BitVec.ofNat 32 i.val, toFix 16 (s.calMeans l)[i]] hf'
      refine ⟨v, ?_, ?_⟩
      · rw [← State.calMeans_get hi]
        exact hdue.trans hv
      · rw [hvl]
        refine ⟨Axis.faulted_fault hf', rfl, (Axis.cut_off_eq _).trans (by rw [hl]; rfl), fun m hm => (hvm m hm).trans (vmod_ne _ _ _ _ hm)⟩

/-- A sample of a calibration. -/
theorem State.calSample_acts {s : State} {l : AxisNo} (hc : s.ax[l].cur.calDue = true) (hg : s.ax[l].pwm.gates = false)
    (hn : s.ax[l].cur.calN < 256) : (s.calSample l).ax[l].cur.calN = s.ax[l].cur.calN + 1 ∧
      (∀ i : Fin 3, (s.calSample l).ax[l].cur.calSum[i] = s.ax[l].cur.calSum[i] + s.phaseRaw l i) ∧
      (s.ax[l].cur.calN < 16 → ∀ i : Fin 3,
        (s.calSample l).ax[l].cur.calMag[i] = s.ax[l].cur.calMag[i] + |s.phaseRaw l i - s.ax[l].cur.offStored[i]|) := by
  have hgo : ¬ ((!s.ax[l].cur.calDue || s.ax[l].pwm.gates || decide (256 ≤ s.ax[l].cur.calN)) = true) := by
    rw [hc, hg]
    simpa using hn
  unfold State.calSample
  rw [if_neg hgo, State.modCur, State.modAx_ax, vmod_same]
  refine ⟨rfl, fun i => by simp, fun h i => ?_⟩
  rw [if_pos h]
  simp

/-- Settles O39: a clock of the modulator by its stuck inputs and its fast outputs, the current sum and the calibration by their branches. -/
theorem currentProtection : Obligations.CurrentProtection := by
  refine ⟨?_, ?_, ?_⟩
  · rintro s _ l bits now rfl
    refine ⟨fun h => ?_, ?_⟩
    · have hoff : ¬ (s.at now).axOn l = true := by
        rw [show (s.at now).axOn l = false from h]
        exact Bool.false_ne_true
      exact ⟨congrArg Host.Outcome.next (if_neg hoff), congrArg Host.Outcome.next (if_neg hoff)⟩
    · rintro h _ rfl _ rfl
      exact ⟨congrArg Host.Outcome.next (if_pos (show (s.at now).axOn l = true from h)),
        congrArg Host.Outcome.next (if_pos (show (s.at now).axOn l = true from h))⟩
  · rintro s l tm x _ _ _ p rfl rfl rfl hp hpulse
    have hpair : (s.dsmTaken l tm x).pair = vset s.pair (pairOf l) p := by rw [hp]; rfl
    obtain ⟨h1, h2, h3⟩ := State.dsmClock_acts tm x rfl rfl hp hpulse
    refine ⟨⟨Dsm.step_lvl _ _ _, Dsm.step_held _ _ _, Dsm.step_between _ _, Dsm.step_output _ _⟩, h1, h2, h3, fun i hi hs hlost hloss hh ho h0 => ?_,
      fun hh ho h0 v hv => State.dsmClock_link tm x hpulse hh ho h0 hv⟩
    rw [← hpair]
    exact State.dsmClock_resolver tm x hpulse hi hs hlost hloss hh ho h0
  · rintro s _ l now _ rfl rfl
    refine ⟨fun h => congrArg Host.Outcome.next (State.sumFault_none (s := s.at now) h), fun h hf => ?_,
      fun h hf => congrArg Host.Outcome.next ((State.sumFault_acts (s := s.at now) h).2 hf), fun h => ?_, ?_, State.calSample_acts⟩
    · obtain ⟨v, hv, hk⟩ := (State.sumFault_acts (s := s.at now) h).1 hf
      exact ⟨v, congrArg Host.Outcome.next hv, hk⟩
    · refine congrArg Host.Outcome.next ?_
      obtain h | h := h
      · refine if_neg ?_
        rw [show (s.at now).axOn l = false from h]
        exact Bool.false_ne_true
      · split
        · exact State.calEnd_waits (s := s.at now) h
        · rfl
    · intro lim ended hon hc hg hn hlim hended
      have hex : exec (.currentOffsetCalibration l now) s = .next ((s.at now).calEnd l) :=
        congrArg Host.Outcome.next (if_pos (show (s.at now).axOn l = true from hon))
      obtain ⟨h1, h2⟩ := State.calEnd_acts (s := s.at now) rfl hc hg hn hlim hended
      rw [hex]
      refine ⟨fun h => ?_, fun h => ?_⟩
      · obtain ⟨v, hv, hk⟩ := h1 h
        exact ⟨v, congrArg Host.Outcome.next hv, hk⟩
      · obtain ⟨h3, h4, h5⟩ := h2 h
        refine ⟨fun h => congrArg Host.Outcome.next (h3 h), fun hw ha => ?_, fun i hw hf hi hb hj => ?_⟩
        · obtain ⟨v, hv, hk⟩ := h4 hw ha
          exact ⟨v, congrArg Host.Outcome.next hv, hk⟩
        · obtain ⟨v, hv, hk⟩ := h5 i hw hf hi hb hj
          exact ⟨v, congrArg Host.Outcome.next hv, hk⟩

end Sys2Proof.Machine

namespace Sys2Proof.Machine

/-! ## The gate request of a load point (R46, R60) -/

/-- The axis after the gate request of a load point, where the torque-off outputs of its pair permit or not. -/
def Axis.gated (a : Axis) (permit : Bool) : Axis :=
  match a.pwm.gateReq with
  | some false => a.gatesLow
  | some true =>
    if a.en && a.fault == 0 && permit then
      { a with pwm := { a.pwm with gates := true, gateReq := none, owed := false }, cur := a.cur.resettle, cas := { a.cas with enterC := !a.mir.take } }
    else a
  | none => a

theorem Axis.gated_none {a : Axis} {permit : Bool} (h : a.pwm.gateReq = none) : a.gated permit = a := by
  unfold Axis.gated
  rw [h]

theorem Axis.gated_low {a : Axis} {permit : Bool} (h : a.pwm.gateReq = some false) : a.gated permit = a.gatesLow := by
  unfold Axis.gated
  rw [h]

theorem Axis.gated_high {a : Axis} {permit : Bool} (h : a.pwm.gateReq = some true) (he : a.en = true) (hf : a.fault = 0) (hp : permit = true) :
    a.gated permit =
      { a with pwm := { a.pwm with gates := true, gateReq := none, owed := false }, cur := a.cur.resettle, cas := { a.cas with enterC := !a.mir.take } } := by
  unfold Axis.gated
  rw [h]
  simp only [he, hf, hp]
  rfl

/-- A request that the axis or its pair does not permit waits on. -/
theorem Axis.gated_held {a : Axis} {permit : Bool} (h : a.pwm.gateReq = some true) (hn : ¬ (a.en = true ∧ a.fault = 0 ∧ permit = true)) :
    a.gated permit = a := by
  unfold Axis.gated
  rw [h]
  refine if_neg fun hp => hn ?_
  simpa only [Bool.and_eq_true, beq_iff_eq, and_assoc] using hp

theorem State.gatePoint_eq (s : State) (l : AxisNo) :
    s.gatePoint l = { s with ax := vset s.ax l (s.ax[l].gated (s.toPermit (pairOf l))) } := by
  unfold State.gatePoint
  simp only []
  split
  · next h =>
    rw [Axis.gated_low h]
    rfl
  · next h =>
    split
    · next hp =>
      simp only [Bool.and_eq_true, beq_iff_eq] at hp
      obtain ⟨⟨he, hf⟩, hp⟩ := hp
      rw [Axis.gated_high h he hf hp]
      rfl
    · next hp =>
      rw [Axis.gated_held h, vset_self]
      simpa only [Bool.and_eq_true, beq_iff_eq, and_assoc] using hp
  · next h => rw [Axis.gated_none h, vset_self]

/-- What no load point changes of an axis: its carrier, its enable, its fault, and its feedback. -/
def Axis.carried (a : Axis) : Bool × Q × Bool × Q × Bool × Bool × BitVec 4 × Fb :=
  (a.pwm.run, a.pwm.ext, a.pwm.up, a.pwm.corr, a.pwm.lock, a.en, a.fault, a.fb)

theorem Axis.gated_keeps (a : Axis) (permit : Bool) : (a.gated permit).carried = a.carried ∧ (a.gated permit).com = a.com ∧
    (a.gated permit).sch = a.sch ∧ (a.gated permit).pwm.pts = a.pwm.pts := by
  unfold Axis.gated
  split
  · exact ⟨rfl, rfl, rfl, rfl⟩
  · split <;> exact ⟨rfl, rfl, rfl, rfl⟩
  · exact ⟨rfl, rfl, rfl, rfl⟩

/-! ## The duties of a load point (R44, R45, R63) -/

/-- The compare values in force after a load point, where `mp` is the minimum-pulse rule. -/
def Pwm.cmpAt (p : Pwm) (t : Ns) (mp : Nat → Nat) : Vector Nat 3 :=
  match p.taken t with
  | some d => if p.gates then d.cmp.map mp else p.cmp
  | none => p.cmp

/-- The axis with the duties of a load point in force, and its sampling instant asked for. -/
def Axis.withDuties (a : Axis) (t : Ns) (cmp : Vector Nat 3) (owe : Bool) : Axis :=
  { a with
    pwm := { a.pwm with cmp := cmp, loads := (t, cmp) :: a.pwm.loads.take 7, owed := owe,
                        next := a.pwm.next.filter fun d => decide (t / 5 ≤ d.at_ / 5) }
    sch := { a.sch with due := a.sch.due ++ [(a.pwm.pts, t)] } }

/-- The axis after a load point, from its gate request on. -/
def Axis.loaded (a : Axis) (t : Ns) (mp : Nat → Nat) (owe : Bool) (c : Com) : Axis :=
  { a with
    pwm := { a.pwm with cmp := a.pwm.cmpAt t mp, loads := (t, a.pwm.cmpAt t mp) :: a.pwm.loads.take 7, owed := owe,
                        next := a.pwm.next.filter fun d => decide (t / 5 ≤ d.at_ / 5), pts := a.pwm.pts + 1 }
    sch := { a.sch with due := a.sch.due ++ [(a.pwm.pts, t)] }
    com := c }

/-- The duties due at a load point are not written yet. -/
def Pwm.misses (p : Pwm) (t : Ns) : Bool := p.gates && p.owed && !p.onTime t

theorem Pwm.misses_of {p : Pwm} {t : Ns} (hg : p.gates = true) (ho : p.owed = true) (h : ∀ d ∈ p.next, d.due = p.pts → t / 5 ≤ d.at_ / 5) :
    p.misses t = true := by
  have hn : p.onTime t = false := by
    refine List.any_eq_false.2 fun d hd => ?_
    simp only [Bool.and_eq_true, beq_iff_eq, decide_eq_true_eq, not_and, Nat.not_lt]
    exact h d hd
  simp only [Pwm.misses, hg, ho, hn, Bool.not_false, Bool.and_self]

theorem Pwm.misses_not {p : Pwm} {t : Ns} (h : p.owed = false ∨ ∃ d ∈ p.next, d.due = p.pts ∧ d.at_ / 5 < t / 5) : p.misses t = false := by
  obtain h | ⟨d, hd, h⟩ := h
  · simp only [Pwm.misses, h, Bool.and_false, Bool.false_and]
  · have hn : p.onTime t = true := List.any_eq_true.2 ⟨d, hd, by simpa using h⟩
    simp only [Pwm.misses, hn, Bool.not_true, Bool.and_false]

theorem State.pulsePoint_eq (s : State) (l : AxisNo) (t : Ns) : ∃ c,
    s.pulsePoint l t = { s with ax := vset s.ax l { s.ax[l] with com := c } } ∧ (s.pulsePlan l = none → c = s.ax[l].com) := by
  have same : s = { s with ax := vset s.ax l { s.ax[l] with com := s.ax[l].com } } := by rw [vset_self]
  unfold State.pulsePoint
  simp only []
  split
  · exact ⟨s.ax[l].com, same, fun _ => rfl⟩
  · next h =>
    split
    · exact ⟨s.ax[l].com, same, fun _ => rfl⟩
    · split
      · exact ⟨s.ax[l].com, same, fun _ => rfl⟩
      · exact ⟨_, rfl, fun hn => absurd (h.symm.trans hn) (by simp)⟩

theorem State.pulsePlan_congr {s t : State} (hp : t.par = s.par) (hi : t.ident = s.ident) {l : AxisNo} (hm : t.ax[l].com.mode = s.ax[l].com.mode) :
    t.pulsePlan l = s.pulsePlan l := by
  unfold State.pulsePlan
  rw [hm]
  simp only [State.pn_congr hp hi]

/-- A load point: but for what a count touches, the axis alone changes. -/
theorem State.loadPoint_acts (s : State) (l : AxisNo) (t : Ns) {g : Axis} (hg : g = s.ax[l].gated (s.toPermit (pairOf l))) : ∃ owe c,
    State.eventOnly { s with ax := vset s.ax l (g.loaded t (s.minPulse l) owe c) } (s.loadPoint l t) ∧
      (s.pulsePlan l = none → c = s.ax[l].com) ∧ (g.pwm.misses t = false → (s.loadPoint l t).cnt = s.cnt) ∧
      (g.pwm.misses t = true → (s.counter (0x2001 + 256 * l.val)).toNat < 65534 →
        (s.loadPoint l t).cnt = Cells.write zeroD s.cnt (0x2001 + 256 * l.val) (s.counter (0x2001 + 256 * l.val) + 1)) := by
  have hgate : s.gatePoint l = { s with ax := vset s.ax l g } := hg ▸ s.gatePoint_eq l
  obtain ⟨m, n, i, late, hcount, hno, hyes⟩ : ∃ m n i late,
      (if g.pwm.misses t then (s.gatePoint l).bump (0x2001 + 256 * l.val) else s.gatePoint l) =
        { s with ax := vset s.ax l g, mb := m, cnt := n, regs := { s.regs with intstat := i }, aon := { s.aon with late := late } } ∧
      (g.pwm.misses t = false → n = s.cnt) ∧
      (g.pwm.misses t = true → (s.counter (0x2001 + 256 * l.val)).toNat < 65534 →
        n = Cells.write zeroD s.cnt (0x2001 + 256 * l.val) (s.counter (0x2001 + 256 * l.val) + 1)) := by
    rw [hgate]
    cases hm : g.pwm.misses t with
    | false => exact ⟨s.mb, s.cnt, s.regs.intstat, s.aon.late, rfl, fun _ => rfl, fun h => absurd h (by decide)⟩
    | true =>
      obtain ⟨m, n, i, late, h⟩ := State.bump_eventOnly { s with ax := vset s.ax l g } (0x2001 + 256 * l.val)
      refine ⟨m, n, i, late, h, fun h => absurd h (by decide), fun _ hc => ?_⟩
      exact (congrArg State.cnt h).symm.trans (congrArg State.cnt (State.bump_below ({ s with ax := vset s.ax l g } : State) _ hc))
  obtain ⟨u, hu⟩ : ∃ u : State, u =
    { s with ax := vset s.ax l g, mb := m, cnt := n, regs := { s.regs with intstat := i }, aon := { s.aon with late := late } } := ⟨_, rfl⟩
  rw [← hu] at hcount
  have hgl : (s.gatePoint l).ax[l] = g := by rw [hgate, vset_same]
  have hul : u.ax[l] = g := by rw [hu, vset_same]
  obtain ⟨c, hc, hplan⟩ := (u.modAx l fun a => a.withDuties t (g.pwm.cmpAt t (s.minPulse l)) (u.drivesLoop l && g.pwm.gates)).pulsePoint_eq l t
  have hload : s.loadPoint l t = ((u.modAx l fun a => a.withDuties t (g.pwm.cmpAt t (s.minPulse l)) (u.drivesLoop l && g.pwm.gates)).pulsePoint l t).modAx l
      fun a => { a with pwm := { a.pwm with pts := a.pwm.pts + 1 } } := by
    unfold State.loadPoint
    simp only [hgl]
    rw [show (if (g.pwm.gates && g.pwm.owed && !g.pwm.onTime t) = true then (s.gatePoint l).bump (0x2001 + 256 * l.val) else s.gatePoint l) = u from hcount,
      show u.minPulse l = s.minPulse l by rw [hu]; rfl]
    rfl
  obtain ⟨-, hcom, -, -⟩ := s.ax[l].gated_keeps (s.toPermit (pairOf l))
  rw [← hg] at hcom
  have hfin : s.loadPoint l t = { u with ax := vset s.ax l (g.loaded t (s.minPulse l) (u.drivesLoop l && g.pwm.gates) c) } := by
    rw [hload, hc]
    simp only [State.modAx, vmod, vset_same, vset_vset, hul]
    rw [show u.ax = vset s.ax l g by rw [hu], vset_vset]
    rfl
  rw [hfin]
  refine ⟨_, c, ⟨m, n, i, late, by rw [hu]⟩, fun h => ?_, fun h => ?_, fun h hb => ?_⟩
  · have hal : (u.modAx l fun a => a.withDuties t (g.pwm.cmpAt t (s.minPulse l)) (u.drivesLoop l && g.pwm.gates)).ax[l].com = s.ax[l].com := by
      rw [State.modAx_ax, vmod_same, hul]
      exact hcom
    refine (hplan ((State.pulsePlan_congr ?_ ?_ (congrArg Com.mode hal)).trans h)).trans hal <;> rw [hu] <;> rfl
  · rw [hu]
    exact hno h
  · rw [hu]
    exact hyes h hb

/-! ## An extreme of the carrier (R39, R42) -/

/-- The correction of the half-period after a valley with a phase error. -/
def State.valleyCorr (s : State) (l : AxisNo) (err : Int) : Q := -clampQ err (-((s.pn P.pwmHalf l : Q) / 100)) ((s.pn P.pwmHalf l : Q) / 100)

/-- Since when the phase error has been small, at a valley. -/
def Pwm.nearSince (p : Pwm) (t : Ns) (err : Int) : Option Ns := if decide (err.natAbs < 100) then some (p.lockSince.getD t) else none

/-- The phase error has been small for a full vehicle cycle. -/
def Pwm.locks (p : Pwm) (t : Ns) (err : Int) : Bool := match p.nearSince t err with | some t0 => decide (t0 + ms 1 ≤ t) | none => false

/-- The carrier from a valley on. -/
def Pwm.afterValley (p : Pwm) (t : Ns) (err : Int) (corr : Q) : Pwm :=
  { p with corr := corr, lockSince := p.nearSince t err, lock := (p.lock || p.locks t err) && !decide (5000 < err.natAbs)
           unlocked := (p.unlocked && !p.locks t err) || decide (5000 < err.natAbs) }

/-- A valley far from the lock condition loses the lock; another keeps it. -/
theorem Pwm.afterValley_lock (p : Pwm) (t : Ns) (err : Int) (corr : Q) : (5000 < err.natAbs → (p.afterValley t err corr).lock = false) ∧
    (err.natAbs ≤ 5000 → p.lock = true → (p.afterValley t err corr).lock = true) := by
  unfold Pwm.afterValley
  refine ⟨fun h => ?_, fun h hl => ?_⟩
  · rw [decide_eq_true h, Bool.not_true, Bool.and_false]
  · rw [decide_eq_false (Nat.not_lt.2 h), hl]
    rfl

theorem State.carrier_eq (s : State) (l : AxisNo) (t : Ns) (err : Int) : s.carrier l t err =
    (if decide (5000 < err.natAbs) ∧ !s.ax[l].pwm.unlocked then
      State.raise { s with ax := vset s.ax l { s.ax[l] with pwm := s.ax[l].pwm.afterValley t err (s.valleyCorr l err) } } 0x1001 .amber (some l)
        [BitVec.ofInt 32 err]
    else { s with ax := vset s.ax l { s.ax[l] with pwm := s.ax[l].pwm.afterValley t err (s.valleyCorr l err) } }) := rfl

theorem State.carrier_acts (s : State) (l : AxisNo) (t : Ns) (err : Int) :
    State.eventOnly { s with ax := vset s.ax l { s.ax[l] with pwm := s.ax[l].pwm.afterValley t err (s.valleyCorr l err) } } (s.carrier l t err) ∧
      (err.natAbs ≤ 5000 → (s.carrier l t err).cnt = s.cnt) := by
  rw [State.carrier_eq]
  split
  · next h => exact ⟨State.raise_eventOnly _ _ _ _ _, fun hn => absurd (of_decide_eq_true h.1) (Nat.not_lt.2 hn)⟩
  · exact ⟨State.eventOnly_refl _, fun _ => rfl⟩

/-- The carrier from an extreme on. -/
def Pwm.atExtreme (p : Pwm) (peak : Bool) (x : Q) (t : Ns) (err : Int) (corr : Q) : Pwm :=
  if peak then { p with ext := x, up := !peak, corr := 0 } else Pwm.afterValley { p with ext := x, up := !peak, corr := 0 } t err corr

/-- Beside the carrier an extreme changes nothing of the unit. -/
theorem Pwm.atExtreme_eq (p : Pwm) (peak : Bool) (x : Q) (t : Ns) (err : Int) (corr : Q) : ∃ since lock un, p.atExtreme peak x t err corr =
    { p with ext := x, up := !peak, corr := if peak then 0 else corr, lockSince := since, lock := lock, unlocked := un } ∧
      (peak = true → lock = p.lock) ∧ (peak = false → 5000 < err.natAbs → lock = false) ∧
      (peak = false → err.natAbs ≤ 5000 → p.lock = true → lock = true) := by
  cases peak with
  | true => exact ⟨p.lockSince, p.lock, p.unlocked, rfl, fun _ => rfl, fun h => absurd h (by decide), fun h => absurd h (by decide)⟩
  | false =>
    obtain ⟨h1, h2⟩ := Pwm.afterValley_lock { p with ext := x, up := true, corr := 0 } t err corr
    exact ⟨_, _, _, rfl, fun h => absurd h (by decide), fun _ => h1, fun _ => h2⟩

/-- The axis at an extreme of its carrier, before a load point. -/
def State.turned (s : State) (l : AxisNo) (peak : Bool) (x : Q) (t : Ns) (err : Int) : Axis :=
  { s.ax[l] with pwm := s.ax[l].pwm.atExtreme peak x t err (s.valleyCorr l err) }

/-- An extreme of the carrier, but for what the event of a lost lock touches. -/
theorem State.extreme_eq (s : State) (l : AxisNo) (peak : Bool) (x : Q) {t : Ns} (ht : t = x.floor.toNat) {err : Int} (he : err = s.phaseErr l t) :
    ∃ v : State, s.extreme l peak x = (if peak && s.pn P.pwmUpdate l == 1 then v else v.loadPoint l t) ∧
      State.eventOnly { s with ax := vset s.ax l (s.turned l peak x t err) } v ∧
      (peak = true → v = { s with ax := vset s.ax l (s.turned l peak x t err) }) ∧ ((peak = true ∨ err.natAbs ≤ 5000) → v.cnt = s.cnt) := by
  subst ht
  cases peak with
  | true => exact ⟨_, rfl, State.eventOnly_refl _, fun _ => rfl, fun _ => rfl⟩
  | false =>
    obtain ⟨u, hu⟩ : ∃ u : State, u = s.modAx l fun a => { a with pwm := { a.pwm with ext := x, up := true, corr := 0 } } := ⟨_, rfl⟩
    have hx : vset u.ax l { u.ax[l] with pwm := u.ax[l].pwm.afterValley x.floor.toNat err (u.valleyCorr l err) } =
        vset s.ax l (s.turned l false x x.floor.toNat err) := by
      rw [hu]
      simp only [State.modAx, vmod, vset_same, vset_vset]
      rfl
    obtain ⟨hv, hc⟩ := u.carrier_acts l x.floor.toNat err
    rw [hx] at hv
    refine ⟨u.carrier l x.floor.toNat err, ?_, ?_, fun h => absurd h (by decide), fun h => ?_⟩
    · rw [hu, he]
      rfl
    · rw [hu] at hv ⊢
      exact hv
    · obtain h | h := h
      · exact absurd h (by decide)
      · rw [hc h, hu]
        rfl

/-- The torque-off outputs of a pair do not look at the PWM units, or at what an event touches. -/
theorem State.eventOnly_toPermit {s v : State} {l : AxisNo} {y : Axis} (hy : y.perm = s.ax[l].perm)
    (h : State.eventOnly { s with ax := vset s.ax l y } v) (k : PairNo) : v.toPermit k = s.toPermit k := by
  obtain ⟨m, c, i, late, rfl⟩ := h
  have hp : ∀ j : AxisNo, (vset s.ax l y)[j].perm = s.ax[j].perm := fun j => by
    by_cases hj : j = l
    · rw [hj, vset_same, hy]
    · rw [vset_ne _ _ _ _ hj]
  unfold State.toPermit
  rw [hp, hp]
  rfl

/-- What an extreme of the carrier leaves, with its load point. -/
theorem State.extreme_acts (s : State) (l : AxisNo) (peak : Bool) (x : Q) {t : Ns} (ht : t = x.floor.toNat) {err : Int} (he : err = s.phaseErr l t)
    {y g : Axis} (hy : y = s.turned l peak x t err) (hg : g = y.gated (s.toPermit (pairOf l))) :
    (peak = true → s.pn P.pwmUpdate l = 1 → s.extreme l peak x = { s with ax := vset s.ax l y }) ∧
    ((peak = false ∨ s.pn P.pwmUpdate l ≠ 1) → ∃ owe c,
      State.eventOnly { s with ax := vset s.ax l (g.loaded t (s.minPulse l) owe c) } (s.extreme l peak x) ∧
        (s.pulsePlan l = none → c = s.ax[l].com) ∧
        ((peak = true ∨ err.natAbs ≤ 5000) → (g.pwm.misses t = false → (s.extreme l peak x).cnt = s.cnt) ∧
          (g.pwm.misses t = true → (s.counter (0x2001 + 256 * l.val)).toNat < 65534 →
            (s.extreme l peak x).cnt = Cells.write zeroD s.cnt (0x2001 + 256 * l.val) (s.counter (0x2001 + 256 * l.val) + 1)))) := by
  obtain ⟨v, hv, hev, hpeak, hcnt⟩ := s.extreme_eq l peak x ht he
  rw [← hy] at hev hpeak
  refine ⟨fun h h1 => ?_, fun h => ?_⟩
  · rw [hv, h, h1]
    exact hpeak h
  · have hno : ¬ (peak && s.pn P.pwmUpdate l == 1) = true := by
      simp only [Bool.and_eq_true, beq_iff_eq, not_and]
      exact fun hp => h.resolve_left (by rw [hp]; decide)
    rw [if_neg hno] at hv
    have hperm : v.toPermit (pairOf l) = s.toPermit (pairOf l) := State.eventOnly_toPermit (by rw [hy]; rfl) hev _
    obtain ⟨m, n, i, late, hve⟩ := hev
    have hvl : v.ax[l] = y := by rw [hve, vset_same]
    obtain ⟨owe, c, hl, hc, hm0, hm1⟩ := v.loadPoint_acts l t (g := g) (by rw [hvl, hperm, hg])
    have hmin : v.minPulse l = s.minPulse l := by rw [hve]; rfl
    have hplan : v.pulsePlan l = s.pulsePlan l := State.pulsePlan_congr (by rw [hve]) (by rw [hve]) (by rw [hvl, hy]; rfl)
    rw [← hv] at hl hm0 hm1
    refine ⟨owe, c, ?_, fun hp => ?_, fun hnear => ?_⟩
    · rw [hmin] at hl
      refine State.eventOnly_trans ⟨m, n, i, late, ?_⟩ hl
      rw [hve]
      simp only [vset_vset]
    · rw [hc (hplan.trans hp), hvl, hy]
      rfl
    · have hcounter : v.counter (0x2001 + 256 * l.val) = s.counter (0x2001 + 256 * l.val) := congrArg (Cells.read zeroD · _) (hcnt hnear)
      rw [hcnt hnear] at hm0 hm1
      rw [hcounter] at hm1
      exact ⟨hm0, hm1⟩

end Sys2Proof.Machine

namespace Sys2Proof.Machine

/-! ## PWM_LOAD_POINT (R39 to R46, R63) -/

theorem State.at_eventOnly {s t : State} (h : s.eventOnly t) (now : Ns) : (s.at now).eventOnly (t.at now) := by
  obtain ⟨m, c, i, late, rfl⟩ := h
  exact ⟨m, c, i, late, rfl⟩

/-- A carrier at its next extreme: one that does not run starts at a valley within 5 ns of the lock condition, a running one reaches the end of its
half-period. -/
def State.meets (s : State) (l : AxisNo) (peak : Bool) (now : Ns) (x : Q) (t : Ns) : Prop :=
  (s.ax[l].pwm.run = false ∧ peak = false ∧ 0 ≤ s.phaseErr l t ∧ s.phaseErr l t < 5 ∧ t = (s.at now).clk.lclk ∧ x = t) ∨
    (s.ax[l].pwm.run = true ∧ peak = s.ax[l].pwm.up ∧ x = s.ax[l].pwm.ext + s.halfLen l ∧ x ≤ now ∧ t = x.floor.toNat)

theorem floor_toNat_le {x : Q} {n : Nat} (h : x ≤ n) : x.floor.toNat ≤ n := by
  have hf : (x.floor : Q) ≤ n := le_trans (Rat.floor_le x) h
  exact Int.toNat_le.2 (by exact_mod_cast hf)

theorem State.meets_floor {s : State} {l : AxisNo} {peak : Bool} {now : Ns} {x : Q} {t : Ns} (h : s.meets l peak now x t) : t = x.floor.toNat := by
  obtain ⟨-, -, -, -, -, rfl⟩ | ⟨-, -, -, -, h⟩ := h
  · rw [show ((t : Nat) : Q) = ((t : Int) : Q) by norm_cast, Rat.floor_intCast, Int.toNat_natCast]
  · exact h

/-- The unit of a carrier that runs, or that starts at this valley with its lock. -/
def Pwm.begun (p : Pwm) : Pwm := if p.run then p else { p with run := true, lock := true }

theorem Pwm.begun_eq (p : Pwm) : p.begun = { p with run := true, lock := p.begun.lock } ∧ (p.run = false → p.begun.lock = true) ∧
    (p.run = true → p.begun = p) := by
  unfold Pwm.begun
  cases h : p.run with
  | false => exact ⟨rfl, fun _ => rfl, fun h => absurd h (by decide)⟩
  | true =>
    refine ⟨?_, fun h => absurd h (by decide), fun _ => rfl⟩
    rw [if_pos rfl, ← h]

/-- A carrier at no extreme does nothing. -/
theorem execPwmLoadPoint_idle {s : State} {l : AxisNo} {peak : Bool} {now : Ns} {p : Pwm} (hp : p = s.ax[l].pwm)
    (h : s.axOn l = false ∨ s.allocated l = false ∨
      (p.run = false ∧ (peak = true ∨ s.phaseErr l (s.at now).clk.lclk < 0 ∨ 5 ≤ s.phaseErr l (s.at now).clk.lclk)) ∨
      (p.run = true ∧ (peak ≠ p.up ∨ (now : Q) < p.ext + s.halfLen l))) :
    exec (.pwmLoadPoint l peak now) s = .next (s.at now) := by
  subst hp
  simp only [exec, execPwmLoadPoint]
  split
  · rfl
  · next hon =>
    simp only [Bool.or_eq_true, Bool.not_eq_true', not_or, Bool.not_eq_false] at hon
    obtain ⟨hon, hal⟩ := hon
    obtain h | h | ⟨hr, h⟩ | ⟨hr, h⟩ := h
    · exact absurd (h.symm.trans hon) Bool.false_ne_true
    · exact absurd (h.symm.trans hal) Bool.false_ne_true
    · rw [hr, if_neg Bool.false_ne_true, if_neg]
      simp only [Bool.and_eq_true, Bool.not_eq_true', decide_eq_true_eq]
      rintro ⟨hpk, h0, h5⟩
      obtain h | h | h := h
      · exact Bool.false_ne_true (hpk.symm.trans h)
      · exact absurd h0 (not_le.2 h)
      · exact absurd h5 (not_lt.2 h)
    · rw [hr, if_pos rfl, if_neg]
      simp only [Bool.and_eq_true, beq_iff_eq, decide_eq_true_eq]
      rintro ⟨hup, hx⟩
      exact h.elim (· hup) fun h => absurd hx (not_le.2 h)

/-- No extreme of a carrier moves the clock. -/
theorem State.extreme_clk (s : State) (l : AxisNo) (peak : Bool) (x : Q) : (s.extreme l peak x).clk = s.clk := by
  obtain ⟨h1, h2⟩ := s.extreme_acts l peak x rfl rfl rfl rfl
  by_cases h : peak = true ∧ s.pn P.pwmUpdate l = 1
  · rw [h1 h.1 h.2]
  · obtain ⟨owe, c, ⟨m, n, i, late, he⟩, -⟩ := h2 ((not_and_or.1 h).imp_left Bool.eq_false_of_not_eq_true)
    rw [he]

theorem State.at_reached {s : State} {now : Ns} (h : now ≤ s.clk.lclk) : s.at now = s := by
  unfold State.at
  rw [max_eq_left h]

/-- A carrier at its next extreme turns there, at its own time. -/
theorem execPwmLoadPoint_extreme {s : State} {l : AxisNo} {peak : Bool} {now : Ns} {x : Q} {t : Ns} (hon : s.axOn l = true) (hal : s.allocated l = true)
    (h : s.meets l peak now x t) : ∃ (k : Clk) (v : State),
      v = { s with clk := k, ax := vset s.ax l { s.ax[l] with pwm := s.ax[l].pwm.begun } } ∧
      (v.at now).clk = (s.at now).clk ∧ v.phaseErr l t = s.phaseErr l t ∧ exec (.pwmLoadPoint l peak now) s = .next ((v.extreme l peak x).at now) := by
  have hgo : ¬ ((!s.axOn l || !s.allocated l) = true) := by
    rw [hon, hal]
    decide
  obtain ⟨hr, hpk, h0, h5, ht, hx⟩ | ⟨hr, hpk, hx, hnow, ht⟩ := h
  · have hv : ({ s.at now with ax := vset s.ax l { s.ax[l] with pwm := s.ax[l].pwm.begun } } : State) =
        (s.at now).modAx l fun a => { a with pwm := { a.pwm with run := true, lock := true } } := by
      unfold Pwm.begun
      rw [hr]
      rfl
    have hgo' : (!peak && decide (0 ≤ (s.at now).phaseErr l (s.at now).clk.lclk ∧ (s.at now).phaseErr l (s.at now).clk.lclk < 5)) = true := by
      rw [← ht, hpk, decide_eq_true ⟨h0, h5⟩]
      rfl
    refine ⟨(s.at now).clk, _, rfl, ?_, rfl, ?_⟩
    · show ((s.at now).at now).clk = (s.at now).clk
      rw [State.at_reached (le_max_right _ _)]
    · rw [State.at_reached (s := State.extreme _ l peak x) (by rw [State.extreme_clk]; exact le_max_right _ _)]
      simp only [exec, execPwmLoadPoint]
      rw [if_neg hgo, hr, if_neg Bool.false_ne_true, if_pos hgo', ← hv, hpk, hx, ht]
      rfl
  · have hv : ({ s.at t with ax := vset s.ax l { s.ax[l] with pwm := s.ax[l].pwm.begun } } : State) = s.at t := by
      unfold Pwm.begun
      rw [hr, if_pos rfl, vset_self]
      rfl
    have hgo' : (peak == s.ax[l].pwm.up && decide (s.ax[l].pwm.ext + s.halfLen l ≤ (now : Q))) = true := by
      rw [← hx, ← hpk, decide_eq_true hnow, beq_self_eq_true]
      rfl
    have htn : t ≤ now := ht ▸ floor_toNat_le hnow
    refine ⟨(s.at t).clk, _, rfl, ?_, rfl, ?_⟩
    · show ({ s.clk with lclk := max (max s.clk.lclk t) now } : Clk) = { s.clk with lclk := max s.clk.lclk now }
      rw [max_assoc, max_eq_right htn]
    · simp only [exec, execPwmLoadPoint]
      rw [if_neg hgo, hr, if_pos rfl, if_pos hgo', ← hx, ← ht]
      exact congrArg (fun v : State => Host.Outcome.next ((v.extreme l peak x).at now)) hv.symm

/-- The axis at the extreme that its carrier meets, before a load point. -/
def State.meeting (s : State) (l : AxisNo) (peak : Bool) (x : Q) (t : Ns) : Axis :=
  { s.ax[l] with pwm := s.ax[l].pwm.begun.atExtreme peak x t (s.phaseErr l t) (s.valleyCorr l (s.phaseErr l t)) }

/-- What PWM_LOAD_POINT leaves at an extreme. -/
theorem execPwmLoadPoint_acts {s : State} {l : AxisNo} {peak : Bool} {now : Ns} {x : Q} {t : Ns} (hon : s.axOn l = true) (hal : s.allocated l = true)
    (h : s.meets l peak now x t) {y g : Axis} (hy : y = s.meeting l peak x t) (hg : g = y.gated (s.toPermit (pairOf l))) :
    ∃ v : State, exec (.pwmLoadPoint l peak now) s = .next v ∧
      (peak = true → s.pn P.pwmUpdate l = 1 → v = { s.at now with ax := vset s.ax l y }) ∧
      ((peak = false ∨ s.pn P.pwmUpdate l ≠ 1) → ∃ owe c,
        State.eventOnly { s.at now with ax := vset s.ax l (g.loaded t (s.minPulse l) owe c) } v ∧
          (s.pulsePlan l = none → c = s.ax[l].com) ∧
          ((peak = true ∨ (s.phaseErr l t).natAbs ≤ 5000) → (g.pwm.misses t = false → v.cnt = s.cnt) ∧
            (g.pwm.misses t = true → (s.counter (0x2001 + 256 * l.val)).toNat < 65534 →
              v.cnt = Cells.write zeroD s.cnt (0x2001 + 256 * l.val) (s.counter (0x2001 + 256 * l.val) + 1)))) := by
  obtain ⟨k, v, hv, hk, he, hex⟩ := execPwmLoadPoint_extreme hon hal h
  have hvl : v.ax[l] = { s.ax[l] with pwm := s.ax[l].pwm.begun } := by rw [hv, vset_same]
  have hyv : y = v.turned l peak x t (s.phaseErr l t) := by
    unfold State.turned
    rw [hvl, hy, hv]
    rfl
  have hperm : v.toPermit (pairOf l) = s.toPermit (pairOf l) :=
    (State.eventOnly_toPermit (s := { s with clk := k }) (y := { s.ax[l] with pwm := s.ax[l].pwm.begun }) rfl
      ⟨s.mb, s.cnt, s.regs.intstat, s.aon.late, hv⟩ (pairOf l)).trans rfl
  have hat : ∀ z, ({ v with ax := vset v.ax l z } : State).at now = { s.at now with ax := vset s.ax l z } := fun z => by
    show ({ v with ax := vset v.ax l z, clk := (v.at now).clk } : State) = _
    rw [hk, hv]
    simp only [vset_vset]
    rfl
  obtain ⟨h1, h2⟩ := v.extreme_acts l peak x (State.meets_floor h) he.symm hyv (hperm ▸ hg)
  rw [show v.pn P.pwmUpdate l = s.pn P.pwmUpdate l by rw [hv]; rfl] at h1 h2
  refine ⟨_, hex, fun hp hu => ?_, fun hp => ?_⟩
  · rw [h1 hp hu, hat]
  · obtain ⟨owe, c, hev, hc, hcnt⟩ := h2 hp
    have hplan : v.pulsePlan l = s.pulsePlan l := State.pulsePlan_congr (by rw [hv]) (by rw [hv]) (by rw [hvl])
    refine ⟨owe, c, ?_, fun hn => ?_, ?_⟩
    · have := State.at_eventOnly hev now
      rw [hat, show v.minPulse l = s.minPulse l by rw [hv]; rfl] at this
      exact this
    · rw [hc (hplan.trans hn), hvl]
    · rw [hv] at hcnt ⊢
      exact hcnt

theorem State.meeting_eq (s : State) (l : AxisNo) (peak : Bool) (x : Q) (t : Ns) : ∃ since lock un,
    s.meeting l peak x t = { s.ax[l] with pwm := { s.ax[l].pwm with
      run := true, ext := x, up := !peak, corr := if peak then 0 else s.valleyCorr l (s.phaseErr l t), lockSince := since, lock := lock
      unlocked := un } } ∧
      (s.ax[l].pwm.run = false → peak = false → (s.phaseErr l t).natAbs ≤ 5000 → lock = true) ∧
      (peak = false → 5000 < (s.phaseErr l t).natAbs → lock = false) := by
  obtain ⟨hb, hl, -⟩ := s.ax[l].pwm.begun_eq
  obtain ⟨since, lock, un, he, -, hfar, hnear⟩ := s.ax[l].pwm.begun.atExtreme_eq peak x t (s.phaseErr l t) (s.valleyCorr l (s.phaseErr l t))
  refine ⟨since, lock, un, ?_, fun hr hp hn => hnear hp hn (hl hr), hfar⟩
  unfold State.meeting
  rw [he, hb]

/-- A peak under single update is met by a running carrier, whose next half-period is the nominal one. -/
theorem State.meeting_peak {s : State} {l : AxisNo} {now : Ns} {x : Q} {t : Ns} (h : s.meets l true now x t) :
    s.meeting l true x t = { s.ax[l] with pwm := { s.ax[l].pwm with ext := x, up := false, corr := 0 } } := by
  obtain ⟨-, hp, -⟩ | ⟨hr, -⟩ := h
  · exact absurd hp (by decide)
  · unfold State.meeting
    rw [s.ax[l].pwm.begun_eq.2.2 hr]
    rfl

theorem Axis.loaded_carried (a : Axis) (t : Ns) (mp : Nat → Nat) (owe : Bool) (c : Com) : (a.loaded t mp owe c).carried = a.carried := rfl

/-! ## The axis after a load point (R44 to R46) -/

/-- The gates and the gate request, as a load point leaves them, go by the request before it. -/
theorem Axis.gated_gates (a : Axis) (permit : Bool) :
    (a.pwm.gateReq = some false → (a.gated permit).pwm.gates = false ∧ (a.gated permit).pwm.gateReq = none ∧ (a.gated permit).pwm.next = []) ∧
    (a.pwm.gateReq = some true → a.en = true → a.fault = 0 → permit = true →
      (a.gated permit).pwm.gates = true ∧ (a.gated permit).pwm.gateReq = none ∧ (a.gated permit).cur = a.cur.resettle) ∧
    (a.pwm.gateReq = some true → (a.en = false ∨ a.fault ≠ 0 ∨ permit = false) →
      (a.gated permit).pwm.gates = a.pwm.gates ∧ (a.gated permit).pwm.gateReq = a.pwm.gateReq) := by
  refine ⟨fun h => ?_, fun h he hf hp => ?_, fun h hn => ?_⟩
  · rw [Axis.gated_low h]
    exact ⟨rfl, rfl, rfl⟩
  · rw [Axis.gated_high h he hf hp]
    exact ⟨rfl, rfl, rfl⟩
  · have hno : ¬ (a.en = true ∧ a.fault = 0 ∧ permit = true) := by
      rintro ⟨he, hf, hp⟩
      obtain hn | hn | hn := hn
      · exact Bool.false_ne_true (hn.symm.trans he)
      · exact hn hf
      · exact Bool.false_ne_true (hn.symm.trans hp)
    rw [Axis.gated_held h hno]
    exact ⟨rfl, rfl⟩

/-- Duties written before the load point come in force through the minimum-pulse rule. -/
theorem Pwm.cmpAt_taken {p : Pwm} {t : Ns} (hg : p.gates = true) {d : Duty} (h : p.taken t = some d) (mp : Nat → Nat) : p.cmpAt t mp = d.cmp.map mp := by
  unfold Pwm.cmpAt
  rw [h, hg]
  rfl

/-- Where no duty was written before the load point, the old ones stay. -/
theorem Pwm.cmpAt_kept {p : Pwm} {t : Ns} (h : ∀ d ∈ p.next, t / 5 ≤ d.at_ / 5) (mp : Nat → Nat) : p.cmpAt t mp = p.cmp := by
  have hn : p.taken t = none := by
    rw [Pwm.taken, List.getLast?_eq_none_iff, List.filter_eq_nil_iff]
    intro d hd
    simpa using h d hd
  unfold Pwm.cmpAt
  rw [hn]

theorem State.minPulse_eq (s : State) (l : AxisNo) (c m : Nat) (hm : m = 5 * s.pn P.pwmDead l + 5 * s.pn P.pwmMinpulse l) :
    s.minPulse l c = (if 10 * c < 32 * m then 0 else if 10 * (32 * s.pn P.pwmHalf l - c) < 32 * m then 32 * s.pn P.pwmHalf l else c) := by
  rw [hm]
  rfl

theorem State.canonical_cnt {s : State} (h : s.canonical = true) : Cells.wf zeroD s.cnt = true := by
  simp only [State.canonical, Bool.and_eq_true] at h
  obtain ⟨⟨⟨⟨⟨⟨-, hcnt⟩, -⟩, -⟩, -⟩, -⟩, -⟩ := h
  exact hcnt

/-- A counter written one up counts one, and the others stay. -/
theorem State.counter_counted {s v : State} {i : Nat} (hs : s.canonical = true) (h : v.cnt = Cells.write zeroD s.cnt i (s.counter i + 1)) :
    v.counter i = s.counter i + 1 ∧ ∀ j, j ≠ i → v.counter j = s.counter j := by
  unfold State.counter at h ⊢
  rw [h]
  exact ⟨Cells.read_write_same zeroD _ _ _ (State.canonical_cnt hs), fun j hj => Cells.read_write_ne zeroD _ _ _ _ (State.canonical_cnt hs) hj⟩

/-- The duties of an axis whose gates are driven, after a load point, and the count of duties not written yet. -/
theorem Axis.loaded_duties {s v : State} {l : AxisNo} {g : Axis} {tm : Ns} {owe : Bool} {c : Com} {near : Prop} (hgates : g.pwm.gates = true)
    (hl : v.ax[l] = g.loaded tm (s.minPulse l) owe c)
    (hcnt : near → (g.pwm.misses tm = false → v.cnt = s.cnt) ∧ (g.pwm.misses tm = true → (s.counter (0x2001 + 256 * l.val)).toNat < 65534 →
      v.cnt = Cells.write zeroD s.cnt (0x2001 + 256 * l.val) (s.counter (0x2001 + 256 * l.val) + 1))) :
    v.ax[l].pwm.gates = true ∧ v.ax[l].pwm.next = g.pwm.next.filter (fun d => decide (tm / 5 ≤ d.at_ / 5)) ∧
      v.ax[l].pwm.loads = (tm, v.ax[l].pwm.cmp) :: g.pwm.loads.take 7 ∧
      (∀ (d : Duty) (i : Fin 3) (m : Nat), g.pwm.taken tm = some d → m = 5 * s.pn P.pwmDead l + 5 * s.pn P.pwmMinpulse l →
        v.ax[l].pwm.cmp[i] = (if 10 * d.cmp[i] < 32 * m then 0
          else if 10 * (32 * s.pn P.pwmHalf l - d.cmp[i]) < 32 * m then 32 * s.pn P.pwmHalf l else d.cmp[i])) ∧
      ((∀ d ∈ g.pwm.next, tm / 5 ≤ d.at_ / 5) → v.ax[l].pwm.cmp = g.pwm.cmp) ∧
      (g.pwm.owed = true → (∀ d ∈ g.pwm.next, d.due = g.pwm.pts → tm / 5 ≤ d.at_ / 5) → near → s.canonical = true →
        (s.counter (0x2001 + 256 * l.val)).toNat < 65534 →
        v.counter (0x2001 + 256 * l.val) = s.counter (0x2001 + 256 * l.val) + 1 ∧ ∀ j, j ≠ 0x2001 + 256 * l.val → v.counter j = s.counter j) ∧
      ((g.pwm.owed = false ∨ ∃ d ∈ g.pwm.next, d.due = g.pwm.pts ∧ d.at_ / 5 < tm / 5) → near → v.cnt = s.cnt) := by
  rw [hl]
  refine ⟨hgates, rfl, rfl, fun d i m hd hm => ?_, fun h => Pwm.cmpAt_kept h _, fun ho hlate hnear hcan hlow => ?_, fun hin hnear => ?_⟩
  · show (g.pwm.cmpAt tm (s.minPulse l))[i] = _
    rw [Pwm.cmpAt_taken hgates hd, ← s.minPulse_eq l _ m hm]
    exact Vector.getElem_map _ _
  · exact State.counter_counted hcan ((hcnt hnear).2 (Pwm.misses_of hgates ho hlate) hlow)
  · exact (hcnt hnear).1 (Pwm.misses_not hin)

/-- Settles O42: a carrier at no extreme by its guards, one at an extreme by what it and its load point leave of the axis. -/
theorem pwmLoadPointActs : Obligations.PwmLoadPointActs := by
  rintro s _ l peak now _ _ rfl rfl rfl
  refine ⟨fun h => execPwmLoadPoint_idle rfl h, fun x tm hon hal hx => ?_⟩
  have hm : s.meets l peak now x tm := hx
  obtain ⟨y, hy⟩ : ∃ y, y = s.meeting l peak x tm := ⟨_, rfl⟩
  obtain ⟨g, hg⟩ : ∃ g, g = y.gated (s.toPermit (pairOf l)) := ⟨_, rfl⟩
  obtain ⟨v, hex, h1, h2⟩ := execPwmLoadPoint_acts hon hal hm hy hg
  obtain ⟨since, lock, un, hye, hlock, hfar⟩ := s.meeting_eq l peak x tm
  rw [← hy] at hye
  obtain ⟨hkeep, hgcom, hsch, hpts⟩ := y.gated_keeps (s.toPermit (pairOf l))
  rw [← hg] at hkeep hgcom hsch hpts
  obtain ⟨z, hz, hcar, hcom⟩ : ∃ z, State.eventOnly { s.at now with ax := vset s.ax l z } v ∧ z.carried = y.carried ∧
      (s.pulsePlan l = none → z.com = s.ax[l].com) := by
    by_cases hp : peak = true ∧ s.pn P.pwmUpdate l = 1
    · exact ⟨y, (h1 hp.1 hp.2) ▸ State.eventOnly_refl _, rfl, fun _ => by rw [hye]⟩
    · obtain ⟨owe, c, hev, hc, -⟩ := h2 ((not_and_or.1 hp).imp_left Bool.eq_false_of_not_eq_true)
      exact ⟨_, hev, hkeep, hc⟩
  have hzl : v.ax[l] = z ∧ (∀ m : AxisNo, m ≠ l → v.ax[m] = s.ax[m]) ∧ v.pair = s.pair ∧ v.life = s.life := by
    obtain ⟨m, n, i, late, rfl⟩ := hz
    exact ⟨vset_same _ _ _, fun m hm => vset_ne _ _ _ _ hm, rfl, rfl⟩
  obtain ⟨hzl, hothers, hpair, hlife⟩ := hzl
  rw [hye] at hcar
  simp only [Axis.carried, Prod.mk.injEq] at hcar
  obtain ⟨hrun, hext, hup, hcorr, hlk, hen, hfault, hfb⟩ := hcar
  refine ⟨v, hex, hzl ▸ hrun, hzl ▸ hext, hzl ▸ hup, hzl ▸ hcorr, fun hr => ?_, fun hp hf => ?_, fun hp hu => ?_, fun hp => ?_,
    hzl ▸ hen, hzl ▸ hfault, hzl ▸ hfb, hzl ▸ hcom, hothers, hpair, hlife⟩
  · obtain ⟨-, hpk, h0, h5, -⟩ | ⟨hr', -⟩ := hm
    · rw [hzl, hlk]
      exact hlock hr hpk (by omega)
    · exact absurd (hr.symm.trans hr') Bool.false_ne_true
  · rw [hzl, hlk, hfar hp hf]
  · subst hp
    rw [h1 rfl hu, hy, State.meeting_peak hm]
  · obtain ⟨owe, c, hev, -, hcnt⟩ := h2 hp
    have hl : v.ax[l] = g.loaded tm (s.minPulse l) owe c := by
      obtain ⟨m, n, i, late, rfl⟩ := hev
      exact vset_same _ _ _
    obtain ⟨hlow, hhigh, hheld⟩ := y.gated_gates (s.toPermit (pairOf l))
    rw [← hg] at hlow hhigh hheld
    refine ⟨?_, ?_, fun hgates hreq => ?_, fun hreq => ?_, fun hreq he hf hperm => ?_, fun hreq hno => ?_⟩
    · rw [hl, show (g.loaded tm (s.minPulse l) owe c).sch = { g.sch with due := g.sch.due ++ [(g.pwm.pts, tm)] } from rfl, hsch, hpts, hye]
    · rw [hl, show (g.loaded tm (s.minPulse l) owe c).pwm.pts = g.pwm.pts + 1 from rfl, hpts, hye]
    · have hgy : g = y := hg.trans (Axis.gated_none (by rw [hye]; exact hreq))
      have hpwm : g.pwm = _ := congrArg Axis.pwm (hgy.trans hye)
      have hgg : g.pwm.gates = true := by rw [hpwm]; exact hgates
      have hd := Axis.loaded_duties hgg hl hcnt
      rw [hpwm] at hd
      exact hd
    · obtain ⟨h1, h2, h3⟩ := hlow (by rw [hye]; exact hreq)
      rw [hl]
      exact ⟨h1, h2, congrArg (List.filter _) h3⟩
    · obtain ⟨h1, h2, h3⟩ := hhigh (by rw [hye]; exact hreq) (by rw [hye]; exact he) (by rw [hye]; exact hf) hperm
      rw [hl]
      exact ⟨h1, h2, h3.trans (by rw [hye]; rfl)⟩
    · obtain ⟨h1, h2⟩ := hheld (by rw [hye]; exact hreq) (by rw [hye]; exact hno)
      rw [hl]
      exact ⟨h1.trans (by rw [hye]), h2.trans (by rw [hye])⟩

end Sys2Proof.Machine

namespace Sys2Proof.Machine

/-! ## The motion opcodes (R78, R83, R86, R138, R159, R161) -/

/-- An admitted opcode of the lane that commands its axes answers what its body gives. -/
theorem State.serve_holdBody {s : State} {r : Req} {l : AxisNo} {o : OpSpec} {f : Req → AxisNo → State → Ans} {x : Ans} (ha : s.admits o r = true)
    (hl : s.argAxis r.arg0 = some l) (hh : s.holds = true) (hal : s.allocated l = true) (hx : f r l (s.heard r) = x) :
    Host.Outcome.next (s.serve o (holdBody f) r) = (.next (x.close o r) : Out) := by
  obtain ⟨m, hm, -⟩ := s.heard_eq r
  rw [s.serve_admits o _ r ha, ← hx, holdBody_eq (l := l) (by rw [hm]; exact hl) (by rw [hm]; exact hh) (by rw [hm]; exact hal)]

theorem State.modAx_modAx (s : State) (l : AxisNo) (f g : Axis → Axis) : (s.modAx l f).modAx l g = s.modAx l fun a => g (f a) := by
  unfold State.modAx vmod
  simp only [vset_same, vset_vset]

/-- ABORT ends, but not while a safe stop runs (R161, R266). -/
theorem Axis.dropAbort_eq (a : Axis) : a.dropAbort = { a with prof := { a.prof with abort := a.prof.abort && a.ss.ssa } } := by
  unfold Axis.dropAbort
  split
  · next h => rw [h, Bool.and_true]
  · next h => rw [eq_false_of_ne_true h, Bool.and_false]

/-- Settles O16: each motion opcode by the fields of its axis that its body writes. -/
theorem axisMotionOpcodes : Obligations.AxisMotionOpcodes := by
  intro s r l hl hh hal
  obtain ⟨m, hm, -⟩ := s.heard_eq r
  have answers : ∀ {o : OpSpec} (f : Req → AxisNo → State → Ans) {x : Ans}, s.admits o r = true → f r l (s.heard r) = x →
      Host.Outcome.next (s.serve o (holdBody f) r) = (.next (x.close o r) : Out) := fun f x ha hx =>
    State.serve_holdBody ha hl hh hal hx
  have changed : ∀ f : Axis → Axis, ((s.heard r).modAx l f).ax[l] = f s.ax[l] := fun f => by
    rw [State.modAx_ax, vmod_same, hm]
  have others : ∀ (f : Axis → Axis) (m : AxisNo), m ≠ l → ((s.heard r).modAx l f).ax[m] = s.ax[m] := fun f m h => by
    rw [State.modAx_ax, vmod_ne _ _ _ _ h, hm]
  refine ⟨fun ha hc => answers _ ha ?_, fun ha he hc => answers _ ha ?_, fun ha => answers _ ha ?_, fun ha => ?_,
    fun ha => ⟨answers _ ha ?_, answers _ ha rfl⟩, fun ha => ?_, fun ha hc hk => answers _ ha ?_⟩
  · rw [if_neg (by rw [hm]; exact not_not.2 hc)]
    simp only [Axis.dropAbort_eq]
  · have he' : ¬ (!s.ax[l].en) = true := by rw [he]; exact Bool.false_ne_true
    rw [if_neg (by rw [hm]; exact not_or.2 ⟨he', not_not.2 hc⟩)]
    rfl
  · rw [funext Axis.dropAbort_eq]
  · cases hp : Config.setposPoscnt r.payload with
    | none =>
      refine ⟨_, answers _ ha (by rw [hp]), ?_⟩
      rw [State.setPos, changed]
      exact ⟨rfl, rfl, rfl, others _⟩
    | some p =>
      refine ⟨_, answers _ ha (by rw [hp]), ?_⟩
      rw [State.setPos, State.modAx_modAx, changed]
      exact ⟨rfl, rfl, rfl, others _⟩
  · rw [hm]
  · refine ⟨_, answers _ ha rfl, ?_⟩
    rw [State.modCas, changed, show (s.heard r).clk = s.clk by rw [hm]]
    exact ⟨fun h => if_pos h, fun h => by rw [if_neg (by rw [h]; decide), if_pos h],
      fun h => by rw [if_neg (by rw [h]; decide), if_neg (by rw [h]; decide)], others _⟩
  · have hn : ¬ ((!s.split) = true ∧ s.kind l ≠ 4) := fun ⟨h1, h2⟩ => hk.elim (fun h => by simp [h] at h1) h2
    rw [if_neg (by rw [hm]; exact not_or.2 ⟨hc, hn⟩)]

end Sys2Proof.Machine

namespace Sys2Proof.Machine

/-! ## What counting leaves of the other counters (R504) -/

/-- Canonical counters stay canonical, and the counter `j` stays as it is. -/
def State.keepsCount (s t : State) (j : Nat) : Prop := Cells.wf zeroD s.cnt = true → Cells.wf zeroD t.cnt = true ∧ t.counter j = s.counter j

theorem State.keepsCount_of_cnt {s t : State} (h : t.cnt = s.cnt) (j : Nat) : s.keepsCount t j := fun hw => by
  unfold State.counter
  rw [h]
  exact ⟨hw, rfl⟩

theorem State.keepsCount_trans {s t u : State} {j : Nat} (h : s.keepsCount t j) (h' : t.keepsCount u j) : s.keepsCount u j := fun hw =>
  ⟨(h' (h hw).1).1, (h' (h hw).1).2.trans (h hw).2⟩

theorem State.keepsCount_write {s t : State} {i j : Nat} {w : Word} (h : t.cnt = Cells.write zeroD s.cnt i w) (hj : j ≠ i) : s.keepsCount t j :=
  fun hw => by
    unfold State.counter
    rw [h]
    exact ⟨Cells.wf_write _ _ _ _ hw, Cells.read_write_ne zeroD _ _ _ _ hw hj⟩

theorem Counters.bump_ne {c : Counters} {i j : Nat} (hw : Cells.wf zeroD c = true) (hj : j ≠ i) :
    Cells.read zeroD (Counters.bump c i).1 j = Cells.read zeroD c j := by
  unfold Counters.bump
  simp only []
  split
  · rfl
  · split <;> exact Cells.read_write_ne zeroD _ _ _ _ hw hj

/-- An event counts at most a drop of its queue. -/
theorem State.raise_keepsCount (s : State) (code : Nat) (sev : Sev) (ax : Option AxisNo) (args : List Word) {j : Nat} (hj : j ≠ qCnt 8) :
    s.keepsCount (s.raise code sev ax args) j := by
  unfold State.raise State.queueEvent State.pushEvent
  simp only []
  split
  · split
    · exact State.keepsCount_of_cnt rfl j
    · exact fun hw => ⟨Counters.wf_bump _ _ hw, Counters.bump_ne hw hj⟩
  · exact State.keepsCount_of_cnt rfl j

theorem State.bump_keepsCount (s : State) {i j : Nat} (hi : j ≠ i) (hj : j ≠ qCnt 8) : s.keepsCount (s.bump i) j := by
  have counted : ∀ t : State, t.cnt = (Counters.bump s.cnt i).1 → s.keepsCount t j := fun t ht hw => by
    unfold State.counter
    rw [ht]
    exact ⟨Counters.wf_bump _ _ hw, Counters.bump_ne hw hi⟩
  unfold State.bump
  simp only []
  split
  · exact State.keepsCount_trans (counted _ rfl) (State.raise_keepsCount _ _ _ _ _ hj)
  · exact counted _ rfl

/-! ## Pulse dividers (R95, R96) -/

theorem State.pendPulse_eventOnly (s : State) (d : Nat) : s.eventOnly (s.pendPulse d) := by
  have counted : ∀ c, s.eventOnly { s with cnt := c } := fun c => ⟨s.mb, c, s.regs.intstat, s.aon.late, rfl⟩
  unfold State.pendPulse
  simp only []
  split
  · exact s.eventOnly_refl
  · split
    · exact counted _
    · split
      · exact counted _
      · exact s.bump_eventOnly _

theorem State.pendPulses_eventOnly (s : State) (d n : Nat) : s.eventOnly (s.pendPulses d n) := by
  induction n generalizing s with
  | zero => exact s.eventOnly_refl
  | succ n ih => exact State.eventOnly_trans (s.pendPulse_eventOnly d) (ih _)

/-- The pulses of one output count at its own counter. -/
theorem State.pendPulse_keepsCount (s : State) {d j : Nat} (hd : j ≠ 0x5F20 + d) (hj : j ≠ qCnt 8) : s.keepsCount (s.pendPulse d) j := by
  unfold State.pendPulse
  simp only []
  split
  · exact State.keepsCount_of_cnt rfl j
  · split
    · exact State.keepsCount_write rfl hd
    · split
      · exact State.keepsCount_write rfl hd
      · exact s.bump_keepsCount hd hj

theorem State.pendPulses_keepsCount (s : State) {d j : Nat} (n : Nat) (hd : j ≠ 0x5F20 + d) (hj : j ≠ qCnt 8) :
    s.keepsCount (s.pendPulses d n) j := by
  induction n generalizing s with
  | zero => exact State.keepsCount_of_cnt rfl j
  | succ n ih => exact State.keepsCount_trans (s.pendPulse_keepsCount hd hj) (ih _)

/-- Below its limit the count of pending pulses goes one up. -/
theorem State.pendPulse_below {s : State} {d : Nat} (hw : Cells.wf zeroD s.cnt = true) (h : (s.counter (0x5F20 + d)).toNat < 65534) :
    (s.pendPulse d).counter (0x5F20 + d) = s.counter (0x5F20 + d) + 1 := by
  have h16 : (s.counter (0x5F20 + d)).getLsbD 16 = false := by
    rw [BitVec.getLsbD, Nat.testBit_lt_two_pow (by omega)]
  have hb : s.pendPulse d = s.bump (0x5F20 + d) := by
    unfold State.pendPulse
    simp only [h16, Bool.false_eq_true, and_false, if_false]
    exact if_neg (by omega)
  rw [hb, State.bump_below s _ h]
  exact Cells.read_write_same zeroD _ _ _ hw

/-- A divider after one edge of its source. -/
def State.edgeDivider (s : State) (d : Fin 2) : Divider :=
  { s.divs[d] with acc := (s.divs[d].acc + s.pn P.pdNum 0 d.val) % s.pn P.pdDen 0 d.val }

theorem State.dividerEdge_eq (s : State) (d : Fin 2) : s.dividerEdge d =
    State.pendPulses { s with divs := vset s.divs d (s.edgeDivider d) } d.val ((s.divs[d].acc + s.pn P.pdNum 0 d.val) / s.pn P.pdDen 0 d.val) := by
  unfold State.dividerEdge State.edgeDivider vmod
  rfl

/-- A whole revolution of the accumulator is one pending pulse. -/
theorem State.dividerEdge_counts {s : State} {d : Fin 2} (hw : Cells.wf zeroD s.cnt = true)
    (hlo : s.pn P.pdDen 0 d.val ≤ s.divs[d].acc + s.pn P.pdNum 0 d.val)
    (hhi : s.divs[d].acc + s.pn P.pdNum 0 d.val < 2 * s.pn P.pdDen 0 d.val) (h : (s.counter (0x5F20 + d.val)).toNat < 65534) :
    (s.dividerEdge d).counter (0x5F20 + d.val) = s.counter (0x5F20 + d.val) + 1 := by
  have h1 : (s.divs[d].acc + s.pn P.pdNum 0 d.val) / s.pn P.pdDen 0 d.val = 1 := Nat.div_eq_of_lt_le (by omega) (by omega)
  rw [s.dividerEdge_eq, h1]
  exact State.pendPulse_below (s := { s with divs := vset s.divs d (s.edgeDivider d) }) hw h

/-- An edge of a source at one divider. -/
def State.sourceStep (src : Nat) (d : Fin 2) (s : State) : State := if s.pn P.pdSrc 0 d.val = src then s.dividerEdge d else s

theorem State.sourceEdge_eq (s : State) (src : Nat) : s.sourceEdge src = State.sourceStep src 1 (State.sourceStep src 0 s) := rfl

theorem State.sourceStep_eventOnly (s : State) (src : Nat) (d : Fin 2) :
    State.eventOnly { s with divs := vset s.divs d (if s.pn P.pdSrc 0 d.val = src then s.edgeDivider d else s.divs[d]) } (s.sourceStep src d) := by
  unfold State.sourceStep
  split
  · exact State.pendPulses_eventOnly _ _ _
  · rw [vset_self]
    exact s.eventOnly_refl

theorem State.sourceStep_keepsCount (s : State) (src : Nat) {d e : Fin 2} (h : e ≠ d) : s.keepsCount (s.sourceStep src d) (0x5F20 + e.val) := by
  have hv : e.val ≠ d.val := fun hv => h (Fin.ext hv)
  unfold State.sourceStep
  split
  · rw [s.dividerEdge_eq]
    exact State.keepsCount_trans (State.keepsCount_of_cnt rfl _)
      (State.pendPulses_keepsCount { s with divs := vset s.divs d (s.edgeDivider d) } _ (fun h' => hv (Nat.add_left_cancel h')) (by
        have : qCnt 8 = 0x0F18 := rfl
        omega))
  · exact State.keepsCount_of_cnt rfl _

theorem State.eventOnly_withDivs {s t : State} (h : s.eventOnly t) (v : Vector Divider 2) : State.eventOnly { s with divs := v } { t with divs := v } := by
  obtain ⟨m, c, i, late, rfl⟩ := h
  exact ⟨m, c, i, late, rfl⟩

/-- What the step of one divider leaves to the other. -/
theorem State.sourceStep_other (s : State) (src : Nat) {d e : Fin 2} (h : e ≠ d) :
    (∀ p i, (s.sourceStep src d).pn p 0 i = s.pn p 0 i) ∧ (s.sourceStep src d).divs[e] = s.divs[e] ∧
      (s.sourceStep src d).edgeDivider e = s.edgeDivider e := by
  obtain ⟨m, c, i, late, ht⟩ := s.sourceStep_eventOnly src d
  have hd : (s.sourceStep src d).divs[e] = s.divs[e] := by
    rw [ht]
    exact vset_ne _ _ _ _ h
  have hp : ∀ p i, (s.sourceStep src d).pn p 0 i = s.pn p 0 i := fun p i => by
    rw [ht]
    rfl
  refine ⟨hp, hd, ?_⟩
  unfold State.edgeDivider
  rw [hd, hp, hp]

/-- The dividers that take a source take its edge, and nothing else changes but the counters and what an event leaves. -/
theorem State.sourceEdge_eventOnly (s : State) (src : Nat) : ∃ v : Vector Divider 2, State.eventOnly { s with divs := v } (s.sourceEdge src) ∧
    ∀ d : Fin 2, v[d] = if s.pn P.pdSrc 0 d.val = src then s.edgeDivider d else s.divs[d] := by
  have h0 := s.sourceStep_eventOnly src 0
  have hdivs : (s.sourceStep src 0).divs = vset s.divs 0 (if s.pn P.pdSrc 0 (0 : Fin 2).val = src then s.edgeDivider 0 else s.divs[(0 : Fin 2)]) := by
    obtain ⟨m, c, i, late, ht⟩ := h0
    rw [ht]
  obtain ⟨hp, hd, he⟩ := s.sourceStep_other src (d := 0) (e := 1) (by decide)
  rw [s.sourceEdge_eq]
  refine ⟨_, State.eventOnly_trans (State.eventOnly_withDivs h0 _) ((s.sourceStep src 0).sourceStep_eventOnly src 1), fun d => ?_⟩
  obtain rfl | rfl : d = 0 ∨ d = 1 := by omega
  · rw [vset_ne _ _ _ _ (by decide), hdivs, vset_same]
  · rw [vset_same, hp, hd, he]

/-- A divider that takes the source and wraps has one more pulse pending. -/
theorem State.sourceEdge_counts {s : State} {d : Fin 2} {src : Nat} (hw : Cells.wf zeroD s.cnt = true) (hsrc : s.pn P.pdSrc 0 d.val = src)
    (hlo : s.pn P.pdDen 0 d.val ≤ s.divs[d].acc + s.pn P.pdNum 0 d.val)
    (hhi : s.divs[d].acc + s.pn P.pdNum 0 d.val < 2 * s.pn P.pdDen 0 d.val) (h : (s.counter (0x5F20 + d.val)).toNat < 65534) :
    (s.sourceEdge src).counter (0x5F20 + d.val) = s.counter (0x5F20 + d.val) + 1 := by
  have counts : ∀ t : State, (∀ p i, t.pn p 0 i = s.pn p 0 i) → t.divs[d] = s.divs[d] → Cells.wf zeroD t.cnt = true →
      t.counter (0x5F20 + d.val) = s.counter (0x5F20 + d.val) → (t.sourceStep src d).counter (0x5F20 + d.val) = s.counter (0x5F20 + d.val) + 1 :=
    fun t hp hd hw hc => by
      rw [State.sourceStep, if_pos (by rw [hp, hsrc]), ← hc]
      exact State.dividerEdge_counts hw (by rw [hp, hp, hd]; exact hlo) (by rw [hp, hp, hd]; exact hhi) (by rw [hc]; exact h)
  rw [s.sourceEdge_eq]
  obtain rfl | rfl : d = 0 ∨ d = 1 := by omega
  · obtain ⟨hw', -⟩ := s.sourceStep_keepsCount src (d := 0) (e := 1) (by decide) hw
    obtain ⟨-, hc⟩ := (s.sourceStep src 0).sourceStep_keepsCount src (d := 1) (e := 0) (by decide) hw'
    exact hc.trans (counts s (fun _ _ => rfl) rfl hw rfl)
  · obtain ⟨hp, hd, -⟩ := s.sourceStep_other src (d := 0) (e := 1) (by decide)
    obtain ⟨hw', hc⟩ := s.sourceStep_keepsCount src (d := 0) (e := 1) (by decide) hw
    exact counts _ hp hd hw' hc

end Sys2Proof.Machine

namespace Sys2Proof.Machine

theorem vmod_vmod {α : Type} {n : Nat} (v : Vector α n) (i : Fin n) (f g : α → α) : vmod (vmod v i f) i g = vset v i (g (f v[i])) := by
  unfold vmod
  rw [vset_same, vset_vset]

/-! ## SENT frames (R90, R91) -/

/-- The sync pulse, the number of pulses, and the nibbles with their CRC of a frame that passes the checks (R91). -/
def State.sentPasses (s : State) (p : Fin 3) (sync : Ns) (r : List Ns) (st : BitVec 4) (ds : List (BitVec 4)) : Prop :=
  0 < sync ∧ s.pq P.spTick 0 p.val * 56000 * 3 / 4 ≤ sync ∧ (sync : Q) ≤ s.pq P.spTick 0 p.val * 56000 * 5 / 4 ∧
    (∀ q, s.ports[p].sync = some q → 64 * ((sync : Int) - q).natAbs ≤ q) ∧ r.length = s.pn P.spNib 0 p.val + 2 + s.pn P.spPause 0 p.val ∧
    sentNibbles sync (r.take (s.pn P.spNib 0 p.val + 2)) = some (st :: ds ++ [crc4 (s.pn P.spCrc 0 p.val = 1) ds])

theorem State.syncOk_iff (s : State) (p : Fin 3) (sync : Ns) : s.syncOk p sync = true ↔
    0 < sync ∧ s.pq P.spTick 0 p.val * 56000 * 3 / 4 ≤ sync ∧ (sync : Q) ≤ s.pq P.spTick 0 p.val * 56000 * 5 / 4 ∧
      ∀ q, s.ports[p].sync = some q → 64 * ((sync : Int) - q).natAbs ≤ q := by
  unfold State.syncOk
  cases s.ports[p].sync <;> simp [and_assoc]

/-- A list ends with the check of what stands before its end. -/
theorem endsWith_check {α : Type} (c : List α → α) (xs ds : List α) :
    (xs.getLast? = some (c xs.dropLast) ∧ xs.dropLast = ds) ↔ xs = ds ++ [c ds] := by
  constructor
  · rintro ⟨h, rfl⟩
    exact (List.dropLast_append_getLast? _ h).symm
  · rintro rfl
    simp

theorem State.sentData_iff {s : State} {p : Fin 3} {f : SentIn} {sync : Ns} {r : List Ns} (hf : f.pulses = sync :: r) (st : BitVec 4)
    (ds : List (BitVec 4)) : s.sentData p f = some (st, ds) ↔ s.sentPasses p sync r st ds := by
  have hsync := s.syncOk_iff p sync
  have hcrc := endsWith_check (crc4 (s.pn P.spCrc 0 p.val = 1))
  unfold State.sentData State.sentPasses
  rw [hf]
  simp only []
  constructor
  · intro h
    split at h
    · next hc =>
      obtain ⟨hok, hlen⟩ := (Bool.and_eq_true _ _).mp hc
      obtain ⟨h1, h2, h3, h4⟩ := hsync.1 hok
      split at h
      · next st' xs hn =>
        split at h
        · next hg =>
          cases h
          exact ⟨h1, h2, h3, h4, beq_iff_eq.1 hlen, by rw [hn, List.cons_append, ← (hcrc xs _).1 ⟨hg, rfl⟩]⟩
        · cases h
      · cases h
    · cases h
  · rintro ⟨h1, h2, h3, h4, hlen, hn⟩
    obtain ⟨hg, hd⟩ := (hcrc _ ds).2 rfl
    rw [if_pos (by rw [hsync.2 ⟨h1, h2, h3, h4⟩, Bool.true_and, beq_iff_eq, hlen]), hn]
    simp

theorem Port.slowStep_eq (p : Port) (ser : Nat) (st : BitVec 4) : ∃ c i d,
    p.slowStep ser st = { p with status := st, slow := c, slowId := i, slowData := d } ∧ (ser = 0 → c = p.slow ∧ i = p.slowId ∧ d = p.slowData) := by
  unfold Port.slowStep
  simp only []
  split
  · next h =>
    generalize (if st.getLsbD 3 = true then [st] else p.slow ++ [st]) = c
    split <;> exact ⟨_, _, _, rfl, fun h0 => by omega⟩
  · split
    · next h => split <;> exact ⟨_, _, _, rfl, fun h0 => by omega⟩
    · exact ⟨_, _, _, rfl, fun _ => ⟨rfl, rfl, rfl⟩⟩

/-- A status nibble leaves the data of the port and its trigger, and without a slow channel what that has gathered. -/
theorem Port.slowStep_keeps (p : Port) (ser : Nat) (st : BitVec 4) : (p.slowStep ser st).data = p.data ∧ (p.slowStep ser st).valid = p.valid ∧
    (p.slowStep ser st).time = p.time ∧ (p.slowStep ser st).lastAt = p.lastAt ∧ (p.slowStep ser st).timedOut = p.timedOut ∧
    (p.slowStep ser st).sync = p.sync ∧ (p.slowStep ser st).status = st ∧ (p.slowStep ser st).busy = p.busy ∧
    (p.slowStep ser st).trigDue = p.trigDue ∧ (ser = 0 → (p.slowStep ser st).slow = p.slow ∧ (p.slowStep ser st).slowId = p.slowId ∧
      (p.slowStep ser st).slowData = p.slowData) := by
  obtain ⟨c, i, d, he, h0⟩ := p.slowStep_eq ser st
  rw [he]
  exact ⟨rfl, rfl, rfl, rfl, rfl, rfl, rfl, rfl, rfl, h0⟩

/-- The sixteenth status nibble ends a short message. -/
theorem Port.slowStep_short {p : Port} {ser : Nat} {st : BitVec 4} {m : List (BitVec 4)} (hser : ser = 1) (hm : m = p.slow ++ [st]) (hl : m.length = 16)
    (hh : (m.headD 0).getLsbD 3 = true) (hs : st.getLsbD 3 = false) :
    (p.slowStep ser st).slowId = BitVec.ofNat 8 (nibbleBits 2 (m.take 4)) ∧
      (p.slowStep ser st).slowData = BitVec.ofNat 16 (nibbleBits 2 ((m.drop 4).take 8)) := by
  subst hser
  unfold Port.slowStep
  simp only [if_true, hs, Bool.false_eq_true, if_false, ← hm, hl, hh, and_self]

theorem execSentFrame_idle {s : State} {p : Fin 3} (f : SentIn) (now : Ns) (h : s.linkOn = false ∨ s.pn P.spMode 0 p.val ≠ 1) :
    exec (.sentFrame p f now) s = .next (s.at now) :=
  if_pos (h.imp_left fun hl => by rw [show (s.at now).linkOn = s.linkOn from rfl, hl]; rfl)

/-- The port `x` with the data of a frame that has just passed the checks. -/
def State.sentPort (s : State) (p : Fin 3) (x : Port) (f : SentIn) (st : BitVec 4) (ds : List (BitVec 4)) : Port :=
  (x.take (nibbles ds) (s.gtAt (s.clk.lclk - (f.pulses.drop 1).sum)) s.clk.lclk).slowStep (s.pn P.spSer 0 p.val) st

/-- A port that takes SENT frames tries the pulses of one (R90, R91). -/
theorem execSentFrame_tried {s : State} {p : Fin 3} (f : SentIn) (now : Ns) (hl : s.linkOn = true) (hm : s.pn P.spMode 0 p.val = 1) {x : Port}
    (hx : x = { s.ports[p] with sync := f.pulses.head?.orElse fun _ => s.ports[p].sync }) :
    (∀ st ds, s.sentData p f = some (st, ds) →
      exec (.sentFrame p f now) s = .next { s.at now with ports := vset s.ports p ((s.at now).sentPort p x f st ds) }) ∧
    (s.sentData p f = none → exec (.sentFrame p f now) s = .next (({ s.at now with ports := vset s.ports p x }).bump (0x5F00 + p.val))) := by
  have hn : ¬ ((!(s.at now).linkOn) = true ∨ (s.at now).pn P.spMode 0 p.val ≠ 1) := by
    rw [show (s.at now).linkOn = s.linkOn from rfl, hl]
    exact not_or.2 ⟨Bool.false_ne_true, not_not.2 hm⟩
  have hd : (s.at now).sentData p f = s.sentData p f := rfl
  refine ⟨fun st ds h => (if_neg hn).trans ?_, fun h => (if_neg hn).trans ?_⟩
  · simp only [hd, h, vmod_vmod]
    rw [hx]
    rfl
  · simp only [hd, h]
    rw [hx]
    rfl

/-! ## SSI frames (R90, R92, R93) -/

theorem State.ssiTime_eq (s : State) (p : Fin 3) : s.ssiTime p =
    (s.pn P.spBits 0 p.val + if s.pn P.spEbit 0 p.val = 0 then 0 else 1) * 1000000 / s.pn P.spClk 0 p.val + 5 * s.pn P.spSdel 0 p.val +
      1000 * s.pn P.spMono 0 p.val := by
  rw [Nat.mul_comm 1000]
  rfl

theorem State.ssiTrigger_skipped {s : State} {p : Fin 3} {t : Ns} (h : t < s.ports[p].busyUntil) :
    s.ssiTrigger p t = ({ s with ports := vset s.ports p { s.ports[p] with trigDue := none } }).bump (0x5F00 + p.val) := by
  unfold State.ssiTrigger
  simp only [vmod_same]
  rw [if_pos h]
  rfl

theorem State.ssiTrigger_starts {s : State} {p : Fin 3} {t : Ns} (h : s.ports[p].busyUntil ≤ t) :
    s.ssiTrigger p t = { s with ports := vset s.ports p { s.ports[p] with
      trigDue := none, busy := true, driven := true, trigAt := s.gtAt t, busyUntil := t + s.ssiTime p } } := by
  unfold State.ssiTrigger
  simp only [vmod_same, vmod_vmod]
  rw [if_neg (Nat.not_lt.2 h)]
  rfl

theorem execSsiTrigger_due {s : State} {p : Fin 3} {y : Ns} (now : Ns) (h : s.ports[p].trigDue = some y) : exec (.ssiTrigger p now) s =
    .next (if (s.linkOn && s.auth) = true then (s.at now).ssiTrigger p y
      else { s.at now with ports := vset s.ports p { s.ports[p] with trigDue := none } }) := by
  simp only [exec, execSsiTrigger, State.at_ports, h]
  rfl

/-- What makes a frame useless: a line fault, a set error bit, a wrong number of bits, or the end of authority within it. -/
def State.ssiBad (s : State) (p : Fin 3) (f : SsiIn) : Prop :=
  f.lineBefore = false ∨ (s.pn P.spEbit 0 p.val ≠ 0 ∧ f.bits.getD (s.pn P.spEbit 0 p.val - 1) false = true) ∨ f.bits.length ≠ s.ssiClocks p ∨
    (s.auth = true ∧ s.ports[p].busy = false)

/-- The port with the data of a whole frame. -/
def State.ssiPort (s : State) (p : Fin 3) (f : SsiIn) : Port :=
  Port.take { s.ports[p] with busy := false, driven := false } (s.ssiData p f.bits)
    (if s.ports[p].busy then s.ports[p].trigAt else s.gtAt f.first) s.clk.lclk

theorem execSsiFrame_taken {s : State} {p : Fin 3} (f : SsiIn) (now : Ns) (hl : s.linkOn = true) (hm : s.pn P.spMode 0 p.val = 2) :
    (s.ssiBad p f → exec (.ssiFrame p f now) s =
      .next { s.at now with ports := vset s.ports p { s.ports[p] with busy := false, driven := false } }) ∧
    (¬ s.ssiBad p f → exec (.ssiFrame p f now) s = .next { s.at now with ports := vset s.ports p ((s.at now).ssiPort p f) }) := by
  have hn : ¬ ((!(s.at now).linkOn) = true ∨ (s.at now).pn P.spMode 0 p.val ≠ 2) := by
    rw [show (s.at now).linkOn = s.linkOn from rfl, hl]
    exact not_or.2 ⟨Bool.false_ne_true, not_not.2 hm⟩
  have hb : ((!f.lineBefore || (s.pn P.spEbit 0 p.val != 0 && f.bits.getD (s.pn P.spEbit 0 p.val - 1) false) ||
      f.bits.length != s.ssiClocks p || (s.auth && !s.ports[p].busy)) = true) ↔ s.ssiBad p f := by
    simp [State.ssiBad, or_assoc]
  refine ⟨fun h => (if_neg hn).trans ((if_pos (hb.2 h)).trans rfl), fun h => (if_neg hn).trans ((if_neg fun h' => h (hb.1 h')).trans ?_)⟩
  simp only [vmod_vmod]
  rfl

/-! ## Time-outs (R90) -/

/-- A valid frame is overdue at a port (R90). -/
def State.portLate (s : State) (p : Fin 3) (t : Ns) : Prop :=
  s.linkOn = true ∧ s.pn P.spMode 0 p.val ≠ 0 ∧ s.ports[p].timedOut = false ∧ s.ports[p].lastAt + 1000 * s.pn P.spTmo 0 p.val ≤ t

theorem execSerialTimeout_eq (s : State) (p : Fin 3) (now : Ns) :
    (s.portLate p (s.at now).clk.lclk → exec (.serialTimeout p now) s =
      .next (({ s.at now with ports := vset s.ports p { s.ports[p] with valid := false, timedOut := true } }).raise 0x5005 .amber none
        [BitVec.ofNat 32 p.val])) ∧
    (¬ s.portLate p (s.at now).clk.lclk → exec (.serialTimeout p now) s = .next (s.at now)) := by
  have hb : ((s.at now).linkOn && (s.at now).pn P.spMode 0 p.val != 0 && !(s.at now).ports[p].timedOut &&
      (s.at now).since (s.at now).ports[p].lastAt (us ((s.at now).pn P.spTmo 0 p.val))) = true ↔ s.portLate p (s.at now).clk.lclk := by
    simp only [Bool.and_eq_true, bne_iff_ne, Bool.not_eq_true', and_assoc]
    unfold State.portLate
    rw [Nat.mul_comm 1000]
    exact ⟨fun ⟨h1, h2, h3, h4⟩ => ⟨h1, h2, h3, of_decide_eq_true h4⟩, fun ⟨h1, h2, h3, h4⟩ => ⟨h1, h2, h3, decide_eq_true h4⟩⟩
  exact ⟨fun h => congrArg Host.Outcome.next (if_pos (hb.2 h)), fun h => congrArg Host.Outcome.next (if_neg fun h' => h (hb.1 h'))⟩

/-! ## Wheel-speed inputs (R94, R95) -/

theorem State.noEdge_iff (s : State) (w : Fin 8) : s.noEdge w = true ↔ ∀ x, s.wheels[w].tLast = some x → x + 1000000 * s.pn P.wsTmo ≤ s.gt := by
  unfold State.noEdge
  cases s.wheels[w].tLast <;> simp [ms, mul_comm]

/-- A wheel-speed input after an edge whose line changed at a global time. -/
def Wheel.edge (x : Wheel) (t : Int) : Wheel := { x with n := x.n + 1, tLast := some t, still := false }

/-- The state at an edge of a wheel-speed input, before the dividers take it. -/
def State.atEdge (s : State) (w : Fin 8) : State := { s with wheels := vset s.wheels w (s.wheels[w].edge (s.gt - 5 * s.pn P.wsFilt)) }

theorem execWheelSpeedEdge_counts {s : State} {w : Fin 8} {ris : Bool} (now : Ns) (hl : s.linkOn = true) (h : ris = true ∨ s.pn P.wsEdge ≠ 0) :
    exec (.wheelSpeedEdge w ris now) s = .next (((s.at now).atEdge w).sourceEdge w.val) := by
  refine if_neg (not_or.2 ⟨?_, ?_⟩)
  · rw [show (s.at now).linkOn = s.linkOn from rfl, hl]
    exact Bool.false_ne_true
  · rintro ⟨h0, hr⟩
    exact h.elim (fun h => by rw [h] at hr; exact Bool.false_ne_true hr) fun h => h h0

/-- Settles O45: each input by what its event leaves of its port, its wheel or its divider. -/
theorem sensorInputsDeliver : Obligations.SensorInputsDeliver := by
  rintro s _ p now rfl
  refine ⟨fun f h => execSentFrame_idle f now h, fun f hl hm hf => ?_, fun f sync r st ds n good hl hm hf hn hg => ?_,
    fun h => ?_, fun y hy h => ?_, fun y hy hl ha => ⟨fun h => ?_, fun h => ?_⟩, fun f h => ?_, fun f e bad b hl hm he hb hbad => ?_,
    fun hl hm ht h => ?_, fun h => ?_, fun w ris hl h => ?_, fun w h => ?_, fun w ris h => ?_, fun w h => ?_, fun w x hx h => ?_,
    fun d hc hp hn => ?_, fun d h => ?_⟩
  · have h := (execSentFrame_tried f now hl hm rfl).2 (by unfold State.sentData; rw [hf])
    rw [h, hf]
    show Host.Outcome.next (State.bump { s.at now with ports := vset s.ports p s.ports[p] } _) = _
    rw [vset_self]
    rfl
  · subst hn
    obtain ⟨hgot, hlost⟩ := execSentFrame_tried f now hl hm rfl
    have hd := State.sentData_iff (s := s) (p := p) hf
    rw [hf] at hgot hlost
    refine ⟨fun h => ?_, fun h => ?_⟩
    · obtain ⟨h1, h2, h3, h4, h5, -, h6⟩ := hg.1 h
      refine ⟨_, hgot st ds ((hd st ds).2 ⟨h1, h2, h3, h4, h5, h6⟩), ?_⟩
      unfold State.sentPort
      obtain ⟨k1, k2, k3, k4, k5, k6, k7, k8, k9, k10⟩ := Port.slowStep_keeps (Port.take { s.ports[p] with sync := some sync } (nibbles ds)
        ((s.at now).gtAt ((s.at now).clk.lclk - r.sum)) (s.at now).clk.lclk) (s.pn P.spSer 0 p.val) st
      rw [hf]
      exact ⟨k1, k2, k3, k4, k5, k6, k7, k8, k9, k10, fun m hser hm hlen hh hst => Port.slowStep_short hser hm hlen hh hst⟩
    · refine hlost ?_
      cases hs : s.sentData p f with
      | none => rfl
      | some x => exact absurd ((hd x.1 x.2).1 hs) (h x.1 x.2)
  · simp only [exec, execSsiTrigger, State.at_ports, h]
  · rw [execSsiTrigger_due now hy, if_neg (by simpa [or_iff_not_imp_left] using h)]
  · rw [execSsiTrigger_due now hy, if_pos (by rw [hl, ha]; rfl)]
    exact congrArg Host.Outcome.next (State.ssiTrigger_skipped h)
  · rw [execSsiTrigger_due now hy, if_pos (by rw [hl, ha]; rfl)]
    rw [State.ssiTrigger_starts (s := s.at now) h, State.ssiTime_eq]
    rfl
  · exact if_pos (h.imp_left fun hl => by rw [show (s.at now).linkOn = s.linkOn from rfl, hl]; rfl)
  · subst he hb
    obtain ⟨h1, h2⟩ := execSsiFrame_taken f now hl hm
    have hb : bad = true ↔ s.ssiBad p f := by
      rw [hbad]
      exact decide_eq_true_iff
    exact ⟨fun h => h1 (hb.1 h), fun h => h2 fun h' => by rw [hb.2 h'] at h; cases h⟩
  · exact (execSerialTimeout_eq s p now).1 ⟨hl, hm, ht, h⟩
  · refine (execSerialTimeout_eq s p now).2 ?_
    rintro ⟨h1, h2, h3, h4⟩
    obtain h | h | h | h := h
    · cases h1.symm.trans h
    · exact h2 h
    · cases h3.symm.trans h
    · exact absurd h4 (Nat.not_le.2 h)
  · obtain ⟨v, hv, hd⟩ := ((s.at now).atEdge w).sourceEdge_eventOnly w.val
    refine ⟨_, execWheelSpeedEdge_counts now hl h, ?_⟩
    have hc := fun d hcan => State.sourceEdge_counts (s := (s.at now).atEdge w) (d := d) (src := w.val) (State.canonical_cnt (s := s) hcan)
    obtain ⟨m, c, i, late, ht⟩ := hv
    have hdivs : (((s.at now).atEdge w).sourceEdge w.val).divs = v := by rw [ht]
    rw [hdivs]
    refine ⟨by rw [ht]; rfl, fun d hs => (hd d).trans (if_neg hs), fun d hs => ⟨?_, fun hcan h1 h2 h3 => hc d hcan hs h1 h2 h3⟩, by rw [ht]; rfl,
      by rw [ht]; rfl⟩
    exact congrArg Divider.acc ((hd d).trans (if_pos hs))
  · exact if_pos (Or.inr ⟨h, rfl⟩)
  · exact if_pos (Or.inl (by rw [show (s.at now).linkOn = s.linkOn from rfl, h]; rfl))
  · exact congrArg Host.Outcome.next (if_pos (((s.at now).noEdge_iff w).2 h))
  · exact congrArg Host.Outcome.next (if_neg fun hno => absurd (((s.at now).noEdge_iff w).1 hno x hx) (not_le.2 h))
  · have hw := State.canonical_cnt hc
    exact ⟨_, congrArg Host.Outcome.next (if_pos ⟨hp, hn⟩), Cells.read_write_same zeroD _ _ _ hw, fun j hj => Cells.read_write_ne zeroD _ _ _ _ hw hj,
      rfl, rfl⟩
  · exact congrArg Host.Outcome.next (if_neg fun ⟨h1, h2⟩ => h.elim h1 fun h => absurd h2 (Nat.not_le.2 h))

end Sys2Proof.Machine

namespace Sys2Proof.Machine

/-! ## Encoder transitions (R73, R81) -/

/-- The transitions of R73 in the forward direction, from one pair of levels to the next. -/
def baForward : List (BitVec 2 × BitVec 2) := [(0, 1), (1, 3), (3, 2), (2, 0)]

/-- A transition of one line goes one place on in the sequence, or one place back. -/
theorem baPlace_legal : ∀ {a b : BitVec 2}, b ≠ a → b ≠ ~~~a → (baPlace b + 4 - baPlace a) % 4 ≠ 0 ∧ (baPlace b + 4 - baPlace a) % 4 ≠ 2 ∧
    ((baPlace b + 4 - baPlace a) % 4 = 1 ↔ (a, b) ∈ baForward) := by
  decide

theorem baPlace_illegal : ∀ a : BitVec 2, (baPlace (~~~a) + 4 - baPlace a) % 4 = 2 := by
  decide

theorem Fb.count_keeps (f : Fb) (t : Ns) (ba : BitVec 2) (up : Bool) : (f.count t ba up).mov = f.mov + (if up then 1 else 0xFFFFFFFF) ∧
    (f.count t ba up).ba = ba ∧ (f.count t ba up).fwd = up ∧ (f.count t ba up).pos64 = f.pos64 ∧ (f.count t ba up).zref = f.zref ∧
    (f.count t ba up).loss = f.loss ∧ (f.count t ba up).lost = f.lost := ⟨rfl, rfl, rfl, rfl, rfl, rfl, rfl⟩

/-- POSCNT counts, but not in the cycle of an index load (R78). -/
theorem Fb.count_pos (f : Fb) (t : Ns) (ba : BitVec 2) (up : Bool) :
    ((∀ y, f.loadAt = some y → t / 5 ≠ y / 5) → (f.count t ba up).pos = f.pos + (if up then 1 else 0xFFFFFFFF)) ∧
      (∀ y, f.loadAt = some y → t / 5 = y / 5 → (f.count t ba up).pos = f.pos) := by
  unfold Fb.count Fb.setCount sameCycle
  cases hl : f.loadAt with
  | none => exact ⟨fun _ => rfl, fun y h => by cases h⟩
  | some u =>
    refine ⟨fun h => if_neg ?_, fun y hy h => if_pos ?_⟩
    · simpa using h u rfl
    · cases hy
      simpa using h

/-- The axis at a loss, of its commutation source or not. -/
def Axis.lossNoted (a : Axis) (cause : BitVec 4) (source : Bool) : Axis :=
  if source then a.sensorLost cause else { a with fb := { a.fb with loss := if a.fb.loss = 0 then cause else a.fb.loss } }

theorem State.noteLoss_eventOnly (s : State) (l : AxisNo) (cause : BitVec 4) (source : Bool) : ∃ b : Brake,
    State.eventOnly { s with brake := b, ax := vset s.ax l (s.ax[l].lossNoted cause source) } (s.noteLoss l cause source) := by
  cases source with
  | false => exact ⟨s.brake, State.eventOnly_refl _⟩
  | true =>
    obtain ⟨b, -, h⟩ := s.noteLoss_source l cause
    refine ⟨b, ?_⟩
    rw [h]
    split
    · exact State.eventOnly_refl _
    · exact State.raise_eventOnly _ _ _ _ _

/-- What the encoder shows of an axis, and its enable. -/
def Axis.encoder (a : Axis) : Word × Word × BitVec 2 × Bool × Int × Bool := (a.fb.pos, a.fb.mov, a.fb.ba, a.fb.fwd, a.fb.pos64, a.en)

theorem Axis.lossNoted_encoder (a : Axis) (cause : BitVec 4) (source : Bool) : (a.lossNoted cause source).encoder = a.encoder := by
  cases source <;> rfl

/-- A missing index is a loss, of the commutation source where that is the encoder (R81). -/
theorem State.indexMissing_acts (s : State) (l : AxisNo) : ∃ (b : Brake) (y : Axis),
    State.eventOnly { s with brake := b, ax := vset s.ax l y } (s.indexMissing l) ∧ y.encoder = s.ax[l].encoder ∧
      ((s.ax[l].fb.zref = none ∨ s.pn P.fbLcchk l ≠ 1 ∨ s.pn P.fbSrc l ≠ 1) → y.com = s.ax[l].com ∧ y.fb.lost = s.ax[l].fb.lost) ∧
      (∀ z, s.ax[l].fb.zref = some z → s.pn P.fbLcchk l = 1 → s.pn P.fbSrc l = 1 → s.ax[l].fb.loss = 0 →
        4 * s.pn P.fbLines l + s.pn P.fbLctol l < (diff32 s.ax[l].fb.mov z).natAbs → y.fb.loss = 3 ∧ y.fb.lost = true ∧ y.com.cval = false) := by
  have same : State.eventOnly { s with brake := s.brake, ax := vset s.ax l s.ax[l] } s := by
    rw [vset_self]
    exact s.eventOnly_refl
  unfold State.indexMissing
  simp only []
  split
  · next hz => exact ⟨_, _, same, rfl, fun _ => ⟨rfl, rfl⟩, fun z h => by rw [hz] at h; cases h⟩
  · next z hz =>
    split
    · next hc =>
      unfold State.encoderLoss
      split
      · next h2 => exact ⟨_, _, same, rfl, fun _ => ⟨rfl, rfl⟩, fun _ _ _ h1 => absurd (h2.symm.trans h1) (by decide)⟩
      · next h2 =>
        obtain ⟨b, hb⟩ := s.noteLoss_eventOnly l 3 (decide (s.pn P.fbSrc l = 1))
        refine ⟨b, _, hb, Axis.lossNoted_encoder _ _ _, ?_, ?_⟩
        · rintro (h | h | h)
          · cases hz.symm.trans h
          · exact absurd hc.1 h
          · rw [decide_eq_false h]
            exact ⟨rfl, rfl⟩
        · intro _ _ _ h1 h0 _
          rw [decide_eq_true h1]
          exact ⟨if_pos h0, rfl, rfl⟩
    · next hc => exact ⟨_, _, same, rfl, fun _ => ⟨rfl, rfl⟩, fun y hy h1 _ _ h => by
        cases hz.symm.trans hy
        exact absurd ⟨h1, h⟩ hc⟩

/-- The state after a legal transition, before the dividers take it. -/
def State.counted (s : State) (l : AxisNo) (ba : BitVec 2) (up : Bool) : State :=
  s.modAx l fun a => { a with fb := a.fb.count s.clk.lclk ba up }

/-- A legal transition counts up or down, at the dividers too, and may show that the index is missing. -/
theorem execEncoderTransition_legal {s : State} {l : AxisNo} {ba : BitVec 2} (now : Ns) (hon : s.axOn l = true) (h1 : ba ≠ s.ax[l].fb.ba)
    (h2 : ba ≠ ~~~s.ax[l].fb.ba) {up : Bool} (hup : up = true ↔ ((s.ax[l].fb.ba, ba) ∈ baForward ↔ s.pn P.fbDir l ≠ 1)) :
    exec (.encoderTransition l ba now) s = .next ((((s.at now).counted l ba up).sourceEdge (8 + l.val)).indexMissing l) := by
  obtain ⟨h0, hn2, hm⟩ := baPlace_legal h1 h2
  have hu : decide (((baPlace ba + 4 - baPlace s.ax[l].fb.ba) % 4 = 1) ≠ (s.pn P.fbDir l = 1)) = up := by
    rw [Bool.eq_iff_iff, decide_eq_true_iff, hup, ne_eq, eq_iff_iff, hm]
    exact not_iff.trans (not_iff_comm.trans iff_comm)
  have hon' : (s.at now).axOn l = true := hon
  rw [← hu]
  simp only [exec, execEncoderTransition, hon', Bool.not_true, Bool.false_eq_true, if_false]
  exact (if_neg h0).trans (if_neg hn2)

/-! ## Illegal transitions (R74, R75) -/

/-- The eighth illegal transition within 1 ms makes a burst. -/
theorem burstOf_take (x : Ns) : ∀ ts : List Ns, burstOf ((x :: ts).take 8) = true ↔ ∃ r, ((x :: ts).take 8)[7]? = some r ∧ x ≤ r + 1000000
  | [] | [_] | [_, _] | [_, _, _] | [_, _, _, _] | [_, _, _, _, _] | [_, _, _, _, _, _] => by simp [burstOf]
  | _ :: _ :: _ :: _ :: _ :: _ :: _ :: _ => by simp [burstOf]

/-- The axis after an illegal transition. -/
def Axis.misread (a : Axis) (t : Ns) (ba : BitVec 2) : Axis :=
  { a with fb := { a.fb with ba := ba, punc := true, illRep := true, illegal := (t :: a.fb.illegal).take 8,
                             illBurst := a.fb.illBurst || burstOf ((t :: a.fb.illegal).take 8) } }

theorem Axis.misread_burst (a : Axis) (t : Ns) (ba : BitVec 2) : (a.misread t ba).fb.illBurst = true ↔
    (a.fb.illBurst = true ∨ ∃ r, (a.misread t ba).fb.illegal[7]? = some r ∧ t ≤ r + 1000000) :=
  Bool.or_eq_true_iff.trans (or_congr_right (burstOf_take t a.fb.illegal))

/-- An illegal transition is counted, and raises its event where that is owed (R74). -/
theorem State.illegalTransition_eq (s : State) (l : AxisNo) (ba : BitVec 2) {v : State}
    (hv : v = { s.bump (0x5000 + 256 * l.val) with ax := vset s.ax l (s.ax[l].misread s.clk.lclk ba) }) :
    s.illegalTransition l ba = if s.ax[l].fb.illRep then v else v.raise 0x5002 .amber (some l) [] := by
  subst hv
  unfold State.illegalTransition State.modAx vmod
  simp only [State.bump_ax, State.bump_clk]
  cases s.ax[l].fb.illRep <;> rfl

theorem execEncoderTransition_illegal {s : State} {l : AxisNo} (now : Ns) (hon : s.axOn l = true) {ba : BitVec 2} (h : ba = ~~~s.ax[l].fb.ba) :
    exec (.encoderTransition l ba now) s = .next ((s.at now).illegalTransition l ba) := by
  have hon' : (s.at now).axOn l = true := hon
  have hd : (baPlace ba + 4 - baPlace (s.at now).ax[l].fb.ba) % 4 = 2 := h ▸ baPlace_illegal _
  simp only [exec, execEncoderTransition, hon', Bool.not_true, Bool.false_eq_true, if_false, hd]
  rfl

/-! ## Index events (R77 to R81, R103, R104) -/

/-- Of the clocks, the parameters and the pairs nothing has changed, and of the axes `l` alone. -/
def State.onlyAxis (l : AxisNo) (s t : State) : Prop :=
  t.ident = s.ident ∧ t.clk = s.clk ∧ t.vtb = s.vtb ∧ t.par = s.par ∧ t.pair = s.pair ∧ ∀ m : AxisNo, m ≠ l → t.ax[m] = s.ax[m]

theorem State.onlyAxis_refl (l : AxisNo) (s : State) : State.onlyAxis l s s := ⟨rfl, rfl, rfl, rfl, rfl, fun _ _ => rfl⟩

theorem State.onlyAxis_trans {l : AxisNo} {s t u : State} (h : State.onlyAxis l s t) (h' : State.onlyAxis l t u) : State.onlyAxis l s u := by
  obtain ⟨h1, h2, h3, h4, h5, h6⟩ := h
  obtain ⟨g1, g2, g3, g4, g5, g6⟩ := h'
  exact ⟨g1.trans h1, g2.trans h2, g3.trans h3, g4.trans h4, g5.trans h5, fun m hm => (g6 m hm).trans (h6 m hm)⟩

theorem State.modAx_onlyAxis (s : State) (l : AxisNo) (f : Axis → Axis) : State.onlyAxis l s (s.modAx l f) :=
  ⟨rfl, rfl, rfl, rfl, rfl, fun _ hm => vmod_ne _ _ _ _ hm⟩

theorem State.eventOnly_onlyAxis {s t : State} (l : AxisNo) (h : s.eventOnly t) : State.onlyAxis l s t := by
  obtain ⟨m, c, i, late, rfl⟩ := h
  exact ⟨rfl, rfl, rfl, rfl, rfl, fun _ _ => rfl⟩

theorem State.axisFault_onlyAxis (s : State) (l : AxisNo) (cause : BitVec 4) : State.onlyAxis l s (s.axisFault l cause) := by
  obtain ⟨-, f, r, h⟩ := s.axisFault_acts l cause
  rw [h]
  exact ⟨rfl, rfl, rfl, rfl, rfl, fun m hm => vset_ne _ _ _ _ hm⟩

theorem State.onlyAxis_gt {l : AxisNo} {s t : State} (h : State.onlyAxis l s t) : t.gt = s.gt := by
  obtain ⟨hi, hc, hv, hp, -⟩ := h
  unfold State.gt
  rw [hc, State.gtAt_congr hp hi hc hv]

theorem State.onlyAxis_pn {l : AxisNo} {s t : State} (h : State.onlyAxis l s t) (p : PSpec) (i j : Nat) : t.pn p i j = s.pn p i j := by
  obtain ⟨hi, -, -, hp, -⟩ := h
  exact State.pn_congr hp hi p i j

/-- What a fault keeps of the sensor and of COMCNT. -/
theorem Axis.faulted_sensor (a : Axis) (cause : BitVec 4) : (a.faulted cause).fb = a.fb ∧ (a.faulted cause).com.count = a.com.count ∧
    (a.faulted cause).com.ref = a.com.ref ∧ (a.faulted cause).com.cval = a.com.cval := by
  unfold Axis.faulted Axis.cut Axis.stopLoops Axis.setMode
  split <;> exact ⟨rfl, rfl, rfl, rfl⟩

/-- What the commutation of an index event leaves of the sensor. -/
def Fb.index (f : Fb) : Latch × Bool × Option Word × Word × Word × Bool × Bool × Option Ns × Int :=
  (f.zlatch, f.zseen, f.zref, f.pos, f.mov, f.punc, f.armed, f.armAt, f.pos64)

/-- The commutation at an index event that counts: COMCNT starts again, and a provisional angle far off is a fault (R103, R104). -/
theorem State.indexCommutation_eq {s : State} {l : AxisNo} (h : s.ax[l].fb.lossAct = false) : ∃ (f : Axis → Axis) (c : Bool) (w : List Word),
    s.indexCommutation l = (if c then ((s.modAx l f).axisFault l 9).raise 0x6001 .crimson (some l) w else s.modAx l f) ∧
      ∀ a, (f a).fb.index = a.fb.index ∧ (f a).com.count = 0 ∧ (f a).com.ref = a.fb.mov ∧ (f a).com.cval = true :=
  ⟨_, _, _, if_neg (by rw [h]; exact Bool.false_ne_true), fun _ => ⟨rfl, rfl, rfl, rfl⟩⟩

/-- An index event zeroes COMCNT, unless a sensor loss of the same sample wins; the counters and the latches stay (R103, R112). -/
theorem State.indexCommutation_acts (s : State) (l : AxisNo) : State.onlyAxis l s (s.indexCommutation l) ∧
    (s.indexCommutation l).ax[l].fb.index = s.ax[l].fb.index ∧
    (s.ax[l].fb.lossAct = false → (s.indexCommutation l).ax[l].com.count = 0 ∧ (s.indexCommutation l).ax[l].com.ref = s.ax[l].fb.mov ∧
      (s.indexCommutation l).ax[l].com.cval = true) := by
  cases h : s.ax[l].fb.lossAct with
  | true =>
    rw [show s.indexCommutation l = s from if_pos h]
    exact ⟨State.onlyAxis_refl l s, rfl, fun h' => by cases h'⟩
  | false =>
    obtain ⟨f, c, w, he, hf⟩ := State.indexCommutation_eq h
    obtain ⟨hfb, hn, hr, hc⟩ := hf s.ax[l]
    have hl : (s.modAx l f).ax[l] = f s.ax[l] := by rw [State.modAx_ax, vmod_same]
    rw [he]
    split
    · obtain ⟨gfb, gn, gr, gc⟩ := (f s.ax[l]).faulted_sensor 9
      have hl' : (((s.modAx l f).axisFault l 9).raise 0x6001 .crimson (some l) w).ax[l] = (f s.ax[l]).faulted 9 := by
        rw [State.raise_ax, ((s.modAx l f).axisFault_acts l 9).1, vset_same, hl]
      rw [hl', gfb, gn, gr, gc]
      exact ⟨State.onlyAxis_trans (s.modAx_onlyAxis l f) (State.onlyAxis_trans (State.axisFault_onlyAxis _ l 9)
        (State.eventOnly_onlyAxis l (State.raise_eventOnly _ _ _ _ _))), hfb, fun _ => ⟨hn, hr, hc⟩⟩
    · rw [hl]
      exact ⟨s.modAx_onlyAxis l f, hfb, fun _ => ⟨hn, hr, hc⟩⟩

/-- The load of POSCNT that an index event asks for (R78). -/
def State.loadsIndex (s : State) (l : AxisNo) : Prop :=
  s.pn P.fbZmode l = 1 ∨ (s.pn P.fbZmode l = 2 ∧ s.ax[l].fb.armed = true ∧ ∀ y, s.ax[l].fb.armAt = some y → y / 5 ≠ s.clk.lclk / 5)

/-- The axis after a load of POSCNT. -/
def State.indexLoaded (s : State) (l : AxisNo) : Axis :=
  { s.ax[l] with fb := { s.ax[l].fb.setCount s.clk.lclk (s.pw P.fbZval l) s.ax[l].fb.mov with
      punc := false, armed := false, lastLoad := some (s.gt - s.fbLag l), loadAt := some s.clk.lclk } }

theorem State.indexLoad_acts (s : State) (l : AxisNo) :
    (s.loadsIndex l → State.eventOnly { s with ax := vset s.ax l (s.indexLoaded l) } (s.indexLoad l)) ∧ (¬ s.loadsIndex l → s.indexLoad l = s) := by
  have hc : (s.pn P.fbZmode l = 1 ∨ (s.pn P.fbZmode l = 2 ∧ s.ax[l].fb.armed = true ∧
      (!(match s.ax[l].fb.armAt with | some t => sameCycle t s.clk.lclk | none => false)) = true)) ↔ s.loadsIndex l := by
    unfold State.loadsIndex sameCycle
    cases s.ax[l].fb.armAt <;> simp
  refine ⟨fun h => ?_, fun h => if_neg fun h' => h (hc.1 h')⟩
  rw [show s.indexLoad l = _ from if_pos (hc.2 h)]
  split
  · exact State.raise_eventOnly _ _ _ _ _
  · exact State.eventOnly_refl _

/-- A load of POSCNT leaves the losses and the commutation. -/
theorem State.indexLoad_keeps (s : State) (l : AxisNo) : (s.indexLoad l).ax[l].com = s.ax[l].com ∧ (s.indexLoad l).ax[l].fb.loss = s.ax[l].fb.loss ∧
    (s.indexLoad l).ax[l].fb.lost = s.ax[l].fb.lost ∧ (s.indexLoad l).ax[l].fb.lcpass = s.ax[l].fb.lcpass ∧
    (s.indexLoad l).ax[l].fb.zref = s.ax[l].fb.zref := by
  obtain ⟨loads, keeps⟩ := s.indexLoad_acts l
  by_cases h : s.loadsIndex l
  · have hl : (s.indexLoad l).ax[l] = s.indexLoaded l := by
      obtain ⟨m, n, i, late, hm⟩ := loads h
      rw [hm]
      exact vset_same _ _ _
    rw [hl]
    exact ⟨rfl, rfl, rfl, rfl, rfl⟩
  · rw [keeps h]
    exact ⟨rfl, rfl, rfl, rfl, rfl⟩

/-- The axis with ZLATCH taken (R77). -/
def Axis.zlatched (a : Axis) (time : Int) : Axis :=
  { a with fb := { a.fb with zlatch := ⟨a.fb.pos, a.fb.mov, time⟩, zrec := (⟨a.fb.pos, a.fb.mov, time⟩ :: a.fb.zrec).take 16, zseen := true } }

/-- The axis with MOVCNT kept for the next line-count check (R80). -/
def Axis.zmarked (a : Axis) : Axis := { a with fb := { a.fb with zref := some a.fb.mov } }

/-- The state at an index event, with ZLATCH taken. -/
def State.zTaken (s : State) (l : AxisNo) : State := s.modAx l (Axis.zlatched · (s.gt - s.fbLag l))

/-- An index event after ZLATCH: the line count, COMCNT where that is right, and the load. -/
theorem State.indexEvent_eq (s : State) (l : AxisNo) : s.indexEvent l =
    State.indexLoad (if ((s.zTaken l).lineCheck l).1 then (((s.zTaken l).lineCheck l).2.modAx l Axis.zmarked).indexCommutation l
      else ((s.zTaken l).lineCheck l).2.modAx l Axis.zmarked) l := rfl

/-- The first index event since the enable, which has no line count to check (R77, R78, R80, R103). -/
theorem State.indexEvent_first {s : State} {l : AxisNo} (hz : s.ax[l].fb.zref = none) {t : State} (ht : t = s.indexEvent l) :
    t.ax[l].fb.zlatch = ⟨s.ax[l].fb.pos, s.ax[l].fb.mov, s.gt - s.fbLag l⟩ ∧ t.ax[l].fb.zseen = true ∧ t.ax[l].fb.zref = some s.ax[l].fb.mov ∧
      (s.ax[l].fb.lossAct = false → t.ax[l].com.count = 0 ∧ t.ax[l].com.ref = s.ax[l].fb.mov ∧ t.ax[l].com.cval = true) ∧
      (s.loadsIndex l → t.ax[l].fb.pos = s.pw P.fbZval l ∧ t.ax[l].fb.punc = false ∧ t.ax[l].fb.armed = false ∧
        t.ax[l].fb.lastLoad = some (s.gt - s.fbLag l)) ∧
      (¬ s.loadsIndex l → t.ax[l].fb.pos = s.ax[l].fb.pos ∧ t.ax[l].fb.punc = s.ax[l].fb.punc ∧ t.ax[l].fb.armed = s.ax[l].fb.armed) ∧
      t.ax[l].fb.mov = s.ax[l].fb.mov ∧ t.ax[l].fb.pos64 = s.ax[l].fb.pos64 ∧ State.onlyAxis l s t := by
  have hzl : (s.zTaken l).ax[l] = s.ax[l].zlatched (s.gt - s.fbLag l) := by rw [State.zTaken, State.modAx_ax, vmod_same]
  have hcheck : (s.zTaken l).lineCheck l = (true, s.zTaken l) := by
    unfold State.lineCheck
    rw [hzl, show (s.ax[l].zlatched (s.gt - s.fbLag l)).fb.zref = none from hz]
  obtain ⟨w, hw⟩ : ∃ w, w = (s.zTaken l).modAx l Axis.zmarked := ⟨_, rfl⟩
  have hwl : w.ax[l] = (s.ax[l].zlatched (s.gt - s.fbLag l)).zmarked := by rw [hw, State.modAx_ax, vmod_same, hzl]
  obtain ⟨hco, hcf, hcc⟩ := w.indexCommutation_acts l
  have hso : State.onlyAxis l s w := hw ▸ State.onlyAxis_trans (s.modAx_onlyAxis l _) (State.modAx_onlyAxis _ l _)
  have hsc := State.onlyAxis_trans hso hco
  have he : t = (w.indexCommutation l).indexLoad l := by
    rw [ht, s.indexEvent_eq l, hcheck, hw]
    rfl
  generalize w.indexCommutation l = c at hcf hcc hsc he
  obtain ⟨hident, hclk, -, hpar, -⟩ := id hsc
  rw [hwl] at hcf hcc
  obtain ⟨hlatch, hseen, href, hpos, hmov, hpunc, harmed, harmAt, hpos64⟩ : c.ax[l].fb.zlatch = _ ∧ c.ax[l].fb.zseen = _ ∧ c.ax[l].fb.zref = _ ∧
      c.ax[l].fb.pos = s.ax[l].fb.pos ∧ c.ax[l].fb.mov = s.ax[l].fb.mov ∧ c.ax[l].fb.punc = s.ax[l].fb.punc ∧
      c.ax[l].fb.armed = s.ax[l].fb.armed ∧ c.ax[l].fb.armAt = s.ax[l].fb.armAt ∧ c.ax[l].fb.pos64 = s.ax[l].fb.pos64 := by
    simp only [Fb.index, Prod.mk.injEq] at hcf
    exact hcf
  have hload : c.loadsIndex l ↔ s.loadsIndex l := by
    unfold State.loadsIndex
    rw [State.onlyAxis_pn hsc, harmed, harmAt, hclk]
  obtain ⟨loads, keeps⟩ := c.indexLoad_acts l
  rw [← he, hload] at loads keeps
  by_cases h : s.loadsIndex l
  · have hlo : State.onlyAxis l s t := State.onlyAxis_trans hsc
      (State.onlyAxis_trans (c.modAx_onlyAxis l fun _ => c.indexLoaded l) (State.eventOnly_onlyAxis l (loads h)))
    have htl : t.ax[l] = c.indexLoaded l := by
      obtain ⟨m, n, i, late, hm⟩ := loads h
      rw [hm]
      exact vset_same _ _ _
    have hval : c.pw P.fbZval l = s.pw P.fbZval l := by
      unfold State.pw State.eff State.parVal
      rw [hident, hpar]
    have htime : c.gt - c.fbLag l = s.gt - s.fbLag l := by
      unfold State.fbLag
      rw [State.onlyAxis_gt hsc, State.onlyAxis_pn hsc]
    rw [htl]
    exact ⟨hlatch, hseen, href, hcc, fun _ => ⟨hval, rfl, rfl, congrArg some htime⟩,
      fun h' => absurd h h', hmov, hpos64, hlo⟩
  · rw [keeps h]
    exact ⟨hlatch, hseen, href, hcc, fun h' => absurd h' h,
      fun _ => ⟨hpos, hpunc, harmed⟩, hmov, hpos64, hsc⟩

/-- No difference of MOVCNT that the line-count check allows (R80). -/
theorem State.lineOk_false {s : State} {l : AxisNo} {d c : Int} (hc : c = 4 * (s.pn P.fbLines l : Int))
    (h : ∀ x ∈ [0, c, -c], (s.pn P.fbLctol l : Int) < |d - x|) : s.lineOk l d = false := by
  have hn : ((s.countsPerRev l : Nat) : Int) = c := by rw [hc, State.countsPerRev, Nat.cast_mul]; rfl
  obtain ⟨h0, h1, h2⟩ : (s.pn P.fbLctol l : Int) < |d - 0| ∧ (s.pn P.fbLctol l : Int) < |d - c| ∧ (s.pn P.fbLctol l : Int) < |d - -c| := by
    simpa using h
  rw [Int.abs_eq_natAbs] at h0 h1 h2
  unfold State.lineOk
  rw [hn]
  simp only [Bool.or_eq_false_iff, decide_eq_false_iff_not]
  omega

/-- An index event at a wrong line count is a loss of the commutation source (R80). -/
theorem State.indexEvent_wrong {s : State} {l : AxisNo} {z : Word} (hz : s.ax[l].fb.zref = some z) (hk : s.pn P.fbLcchk l = 1)
    (hd : s.lineOk l (diff32 s.ax[l].fb.mov z) = false) (h0 : s.ax[l].fb.loss = 0) (hsrc : s.pn P.fbSrc l = 1) {t : State} (ht : t = s.indexEvent l) :
    t.ax[l].fb.loss = 2 ∧ t.ax[l].fb.lost = true ∧ t.ax[l].fb.lcpass = false ∧ t.ax[l].com.cval = false ∧
      (s.ax[l].fb.idxSave = none → t.ax[l].com.count = s.ax[l].com.count) ∧ t.ax[l].fb.zref = some s.ax[l].fb.mov := by
  obtain ⟨b, hb⟩ : ∃ b, b = ((s.zTaken l).modAx l fun a => { a with fb := { a.fb with lcpass := false } }).bump (0x5001 + 256 * l.val) := ⟨_, rfl⟩
  have hzl : (s.zTaken l).ax[l] = s.ax[l].zlatched (s.gt - s.fbLag l) := by rw [State.zTaken, State.modAx_ax, vmod_same]
  have hcheck : (s.zTaken l).lineCheck l = (false, b.encoderLoss l 2) := by
    have hk' : ¬ (s.zTaken l).pn P.fbLcchk l ≠ 1 := not_not.2 hk
    have hd' : ¬ (s.zTaken l).lineOk l (diff32 (s.ax[l].zlatched (s.gt - s.fbLag l)).fb.mov z) = true := by
      rw [Bool.not_eq_true]
      exact hd
    unfold State.lineCheck
    rw [hzl, show (s.ax[l].zlatched (s.gt - s.fbLag l)).fb.zref = some z from hz, hb]
    exact (if_neg hk').trans (if_neg hd')
  have hbl : b.ax[l] = { s.ax[l].zlatched (s.gt - s.fbLag l) with fb := { (s.ax[l].zlatched (s.gt - s.fbLag l)).fb with lcpass := false } } := by
    rw [hb, State.bump_ax, State.modAx_ax, vmod_same, hzl]
  have hbs : b.pn P.fbSrc l = 1 := by
    rw [hb, State.pn_congr (State.bump_par _ _) (State.bump_ident _ _)]
    exact hsrc
  have hloss : b.encoderLoss l 2 = b.noteLoss l 2 true := by
    unfold State.encoderLoss
    rw [hbs]
    rfl
  have hel : (b.encoderLoss l 2).ax[l] = b.ax[l].sensorLost 2 := by
    obtain ⟨k, m, n, i, late, hm⟩ := b.noteLoss_eventOnly l 2 true
    rw [hloss, hm]
    exact vset_same _ _ _
  have he : t = ((b.encoderLoss l 2).modAx l Axis.zmarked).indexLoad l := by
    rw [ht, s.indexEvent_eq l, hcheck]
    rfl
  obtain ⟨hcom, hl, hlost, hpass, href⟩ := ((b.encoderLoss l 2).modAx l Axis.zmarked).indexLoad_keeps l
  rw [← he, State.modAx_ax, vmod_same, hel, hbl] at hcom hl hlost hpass href
  rw [hcom, hl, hlost, hpass, href]
  exact ⟨if_pos h0, rfl, rfl, rfl, fun hs => by simp only [Axis.zmarked, Axis.sensorLost, Axis.zlatched, hs], rfl⟩

end Sys2Proof.Machine

namespace Sys2Proof.Machine

/-! ## The clauses of the encoder (R73 to R75) -/

/-- A legal transition, by what it leaves of the axis, of the dividers and of the other axes. -/
theorem State.counted_acts {s : State} {l : AxisNo} {ba : BitVec 2} {up : Bool} {t : State}
    (ht : t = ((s.counted l ba up).sourceEdge (8 + l.val)).indexMissing l) {x : Word} (hx : x = if up then 1 else 0xFFFFFFFF) :
    ((∀ y, s.ax[l].fb.loadAt = some y → s.clk.lclk / 5 ≠ y / 5) → t.ax[l].fb.pos = s.ax[l].fb.pos + x) ∧
      (∀ y, s.ax[l].fb.loadAt = some y → s.clk.lclk / 5 = y / 5 → t.ax[l].fb.pos = s.ax[l].fb.pos) ∧
      t.ax[l].fb.mov = s.ax[l].fb.mov + x ∧ t.ax[l].fb.ba = ba ∧ t.ax[l].fb.fwd = up ∧ t.ax[l].fb.pos64 = s.ax[l].fb.pos64 ∧
      t.ax[l].en = s.ax[l].en ∧
      ((s.ax[l].fb.zref = none ∨ s.pn P.fbLcchk l ≠ 1 ∨ s.pn P.fbSrc l ≠ 1) → t.ax[l].com = s.ax[l].com ∧ t.ax[l].fb.lost = s.ax[l].fb.lost) ∧
      (∀ z, s.ax[l].fb.zref = some z → s.pn P.fbLcchk l = 1 → s.pn P.fbSrc l = 1 → s.ax[l].fb.loss = 0 →
        4 * s.pn P.fbLines l + s.pn P.fbLctol l < (diff32 (s.ax[l].fb.mov + x) z).natAbs →
        t.ax[l].fb.loss = 3 ∧ t.ax[l].fb.lost = true ∧ t.ax[l].com.cval = false) ∧
      (∀ d : Fin 2, s.pn P.pdSrc 0 d.val = 8 + l.val → t.divs[d] = s.edgeDivider d) ∧
      (∀ d : Fin 2, s.pn P.pdSrc 0 d.val ≠ 8 + l.val → t.divs[d] = s.divs[d]) ∧ (∀ m : AxisNo, m ≠ l → t.ax[m] = s.ax[m]) := by
  obtain ⟨c, hc⟩ : ∃ c, c = s.counted l ba up := ⟨_, rfl⟩
  have hcl : c.ax[l] = { s.ax[l] with fb := s.ax[l].fb.count s.clk.lclk ba up } := by rw [hc, State.counted, State.modAx_ax, vmod_same]
  rw [← hc] at ht
  obtain ⟨v, hv, hd⟩ := c.sourceEdge_eventOnly (8 + l.val)
  obtain ⟨e, he⟩ : ∃ e, e = c.sourceEdge (8 + l.val) := ⟨_, rfl⟩
  rw [← he] at hv ht
  obtain ⟨b, y, hy, henc, hkeep, hlose⟩ := e.indexMissing_acts l
  rw [← ht] at hy
  have hpn : ∀ p i j, e.pn p i j = s.pn p i j := fun p i j => by
    obtain ⟨m, n, i, late, rfl⟩ := hv
    rw [hc]
    rfl
  have heax : e.ax = c.ax := by
    obtain ⟨m, n, i, late, rfl⟩ := hv
    rfl
  have hediv : e.divs = v := by
    obtain ⟨m, n, i, late, rfl⟩ := hv
    rfl
  obtain ⟨htl, hto, htd⟩ : t.ax[l] = y ∧ (∀ m : AxisNo, m ≠ l → t.ax[m] = e.ax[m]) ∧ t.divs = e.divs := by
    obtain ⟨m, n, i, late, rfl⟩ := hy
    exact ⟨vset_same _ _ _, fun m hm => vset_ne _ _ _ _ hm, rfl⟩
  rw [heax, hcl] at henc hkeep hlose
  simp only [hpn] at hkeep hlose
  simp only [Axis.encoder, Prod.mk.injEq] at henc
  obtain ⟨hpos, hmov, hba, hfwd, hpos64, hen⟩ := henc
  obtain ⟨hp1, hp2⟩ := s.ax[l].fb.count_pos s.clk.lclk ba up
  rw [htl, htd, hediv]
  subst hx
  refine ⟨fun h => hpos.trans (hp1 h), fun z hz h => hpos.trans (hp2 z hz h), hmov, hba, hfwd, hpos64, hen, hkeep, hlose, fun d h => ?_, fun d h => ?_,
    fun m hm => ?_⟩
  · rw [hd, hc]
    exact if_pos h
  · rw [hd, hc]
    exact if_neg h
  · rw [hto m hm, heax, hc]
    exact vmod_ne _ _ _ _ hm

/-- An illegal transition, by what it leaves of the axis, its count and its event. -/
theorem State.illegalTransition_acts (s : State) (l : AxisNo) (ba : BitVec 2) {t : State} (ht : t = s.illegalTransition l ba) :
    t.ax = vset s.ax l (s.ax[l].misread s.clk.lclk ba) ∧ t.divs = s.divs ∧
      (s.ax[l].fb.illRep = false → ∃ v : State, t = v.raise 0x5002 .amber (some l) []) ∧
      (s.ax[l].fb.illRep = true → s.canonical = true → (s.counter (0x5000 + 256 * l.val)).toNat < 65534 →
        t.counter (0x5000 + 256 * l.val) = s.counter (0x5000 + 256 * l.val) + 1 ∧ t.mb = s.mb) := by
  obtain ⟨v, hv⟩ : ∃ v, v = { s.bump (0x5000 + 256 * l.val) with ax := vset s.ax l (s.ax[l].misread s.clk.lclk ba) } := ⟨_, rfl⟩
  rw [s.illegalTransition_eq l ba hv] at ht
  cases hr : s.ax[l].fb.illRep with
  | false =>
    rw [hr] at ht
    refine ⟨?_, ?_, fun _ => ⟨v, ht⟩, fun h => Bool.noConfusion h⟩
    · rw [ht, if_neg Bool.false_ne_true, State.raise_ax, hv]
    · rw [ht, if_neg Bool.false_ne_true, State.raise_divs, hv]
      exact State.bump_divs _ _
  | true =>
    rw [hr, if_pos rfl, hv] at ht
    rw [ht]
    refine ⟨rfl, State.bump_divs _ _, fun h => Bool.noConfusion h, fun _ hcan hlow => ?_⟩
    rw [State.bump_below s _ hlow]
    exact ⟨Cells.read_write_same zeroD _ _ _ (State.canonical_cnt hcan), rfl⟩

/-- A burst on the encoder of the commutation is a loss of it. -/
theorem State.encoderFailed_source {s : State} {l : AxisNo} (hb : s.ax[l].fb.illBurst = true) (hsrc : s.pn P.fbSrc l = 1)
    (hlost : s.ax[l].fb.lost = false) : ∃ t : State, s.encoderFailed l = t.raise 0x5004 .crimson (some l) [1] ∧
      t.ax = vset s.ax l (Axis.sensorLost { s.ax[l] with fb := { s.ax[l].fb with illBurst := false } } 1) := by
  obtain ⟨c, hc⟩ : ∃ c, c = s.modAx l fun a => { a with fb := { a.fb with illBurst := false } } := ⟨_, rfl⟩
  have hcl : c.ax[l] = { s.ax[l] with fb := { s.ax[l].fb with illBurst := false } } := by rw [hc, State.modAx_ax, vmod_same]
  have hf : s.encoderFailed l = c.noteLoss l 1 true := by
    unfold State.encoderFailed State.encoderLoss
    rw [if_pos hb, ← hc, show c.pn P.fbSrc l = 1 by rw [hc]; exact hsrc]
    rfl
  obtain ⟨b, -, h⟩ := c.noteLoss_source l 1
  rw [hcl, if_neg (by rw [hlost]; exact Bool.false_ne_true)] at h
  refine ⟨_, hf.trans h, ?_⟩
  rw [hc]
  exact vset_vset _ _ _ _

theorem execEncoderTransition_same {s : State} {l : AxisNo} (now : Ns) (hon : s.axOn l = true) {ba : BitVec 2} (h : ba = s.ax[l].fb.ba) :
    exec (.encoderTransition l ba now) s = .next (s.at now) := by
  have hon' : (s.at now).axOn l = true := hon
  have hd : (baPlace ba + 4 - baPlace (s.at now).ax[l].fb.ba) % 4 = 0 := by
    rw [State.at_ax, ← h, Nat.add_sub_cancel_left]
  simp only [exec, execEncoderTransition, hon', Bool.not_true, Bool.false_eq_true, if_false, hd]
  rfl

/-! ## The clauses of the index and of the reference switch (R77, R86) -/

theorem execIndexEvent_taken {s : State} {l : AxisNo} {ris : Bool} (now : Ns) (hon : s.axOn l = true) (hr : ris = s.ax[l].fb.fwd)
    (hq : zQualified (s.pn P.fbZqual l) s.ax[l].fb.ba = true) : exec (.indexEvent l ris now) s = .next ((s.at now).indexEvent l) := by
  have hc : ((s.at now).axOn l && (ris == (s.at now).ax[l].fb.fwd) && zQualified ((s.at now).pn P.fbZqual l) (s.at now).ax[l].fb.ba) = true := by
    rw [show (s.at now).axOn l = true from hon, show zQualified ((s.at now).pn P.fbZqual l) (s.at now).ax[l].fb.ba = true from hq, hr, State.at_ax,
      beq_self_eq_true]
    rfl
  exact congrArg Host.Outcome.next (if_pos hc)

theorem execIndexEvent_ignored {s : State} {l : AxisNo} {ris : Bool} (now : Ns)
    (h : ris ≠ s.ax[l].fb.fwd ∨ zQualified (s.pn P.fbZqual l) s.ax[l].fb.ba = false) : exec (.indexEvent l ris now) s = .next (s.at now) := by
  refine congrArg Host.Outcome.next (if_neg fun hc => ?_)
  simp only [Bool.and_eq_true, beq_iff_eq] at hc
  obtain ⟨⟨-, hr⟩, hq⟩ := hc
  exact h.elim (fun h => h hr) fun h => by cases h.symm.trans hq

/-- An edge that the reference switch latches, on an axis that steers no axle (R86). -/
theorem execReferenceSwitchEdge_latches {s : State} {l : AxisNo} (ris : Bool) (now : Ns) (hon : s.axOn l = true) (hm : s.pn P.refMode l = 1)
    (he : s.pn P.refEdge l = 2) (hax : s.axle l = none) : exec (.referenceSwitchEdge l ris now) s = .next ((s.at now).modAx l fun a =>
      { a with fb := { a.fb with ref := ⟨a.fb.pos, a.fb.mov, (s.at now).gt - 5 * (s.pn P.refFilt l : Int)⟩, rlatch := true,
                                 rovr := a.fb.rovr || a.fb.rlatch, refArmed := false } }) := by
  have hc : (s.at now).referenceEdge l ris = (true, _) := if_pos ⟨hon, Or.inl he, Or.inl hm⟩
  simp only [exec, execReferenceSwitchEdge, hc]
  rw [show State.axle ((s.at now).modAx l _) l = none from hax]
  rfl

theorem execReferenceSwitchEdge_off {s : State} {l : AxisNo} (ris : Bool) (now : Ns) (hm : s.pn P.refMode l ≠ 1 ∧ s.pn P.refMode l ≠ 2) :
    exec (.referenceSwitchEdge l ris now) s = .next (s.at now) := by
  have hc : (s.at now).referenceEdge l ris = (false, s.at now) := if_neg fun ⟨_, _, h⟩ => h.elim hm.1 fun h => hm.2 h.1
  simp only [exec, execReferenceSwitchEdge, hc]

/-! ## The clauses of the resolver (R88, R89) -/

/-- The axis with the number of the peak it has measured. -/
def Axis.atPeak (a : Axis) (k : Int) : Axis := { a with fb := { a.fb with resK := some k } }

/-- The axis with the pair of values for the kernel. -/
def Axis.measured (a : Axis) (x y : W24) : Axis := { a with fb := { a.fb with resS := x, resC := y, resNew := true } }

/-- The axis whose pair has been judged by its amplitude and by the angle tracked. -/
def Axis.judged (a : Axis) (bad trk : Bool) : Axis :=
  { a with fb := { a.fb with rampl := bad, ampBad := if bad then a.fb.ampBad + 1 else 0, trkBad := if trk then a.fb.trkBad + 1 else 0 } }

/-- The axis with the pair of a new peak. -/
def Axis.peakTaken (a : Axis) (k : Int) (x y : W24) : Axis :=
  { a with fb := { a.fb with resK := some k, resS := x, resC := y, resNew := true } }

theorem Axis.atPeak_measured (a : Axis) (k : Int) (x y : W24) : (a.atPeak k).measured x y = a.peakTaken k x y := rfl

/-- The axis with the pair of a new peak, judged by its amplitude alone. -/
def Axis.peakJudged (a : Axis) (k : Int) (x y : W24) (bad : Bool) : Axis :=
  { a with fb := { a.fb with resK := some k, resS := x, resC := y, resNew := true, rampl := bad, ampBad := if bad then a.fb.ampBad + 1 else 0,
                             trkBad := 0 } }

theorem Axis.peakTaken_judged (a : Axis) (k : Int) (x y : W24) (bad : Bool) : (a.peakTaken k x y).judged bad false = a.peakJudged k x y bad := rfl

/-- The losses that four bad measurements make. -/
def State.resolverLosses (s : State) (l : AxisNo) : State :=
  let t := if 4 ≤ s.ax[l].fb.ampBad then s.noteLoss l 4 true else s
  if 4 ≤ t.ax[l].fb.trkBad then t.noteLoss l 5 true else t

theorem State.resolverLosses_amplitude {s : State} {l : AxisNo} (h : s.ax[l].fb.trkBad = 0) :
    s.resolverLosses l = if 4 ≤ s.ax[l].fb.ampBad then s.noteLoss l 4 true else s := by
  refine if_neg (Nat.not_le.2 ?_)
  split
  · obtain ⟨b, m, n, i, late, hn⟩ := s.noteLoss_eventOnly l 4 true
    rw [hn, show (vset s.ax l (s.ax[l].lossNoted 4 true))[l].fb.trkBad = 0 by rw [vset_same]; exact h]
    decide
  · rw [h]
    decide

theorem State.resolverTake_unjudged {s : State} {l : AxisNo} {x y : W24} (hx : x = s.ax[l].dsm.ch[(3 : Fin 6)].out (s.decOf l 3))
    (hy : y = s.ax[l].dsm.ch[(4 : Fin 6)].out (s.decOf l 4)) (h : s.pn P.fbSrc l ≠ 2) :
    s.resolverTake l = s.modAx l (Axis.measured · x y) := by
  subst hx hy
  exact if_pos h

/-- With fb.src = 2 a pair is judged; without an angle tracked, by its amplitude alone (R88, R89). -/
theorem State.resolverTake_judged {s : State} {l : AxisNo} {x y : W24} (hx : x = s.ax[l].dsm.ch[(3 : Fin 6)].out (s.decOf l 3))
    (hy : y = s.ax[l].dsm.ch[(4 : Fin 6)].out (s.decOf l 4)) (h : s.pn P.fbSrc l = 2) (hv : s.ax[l].del.valid = false) {m : Q}
    (hm : m = ofQ23 x * ofQ23 x + ofQ23 y * ofQ23 y) {bad : Bool}
    (hb : bad = decide (m < s.pq P.resAmin l * s.pq P.resAmin l ∨ s.pq P.resAmax l * s.pq P.resAmax l < m)) {u : State}
    (hu : u = s.modAx l fun a => (a.measured x y).judged bad false) :
    s.resolverTake l = if 4 ≤ u.ax[l].fb.ampBad then u.noteLoss l 4 true else u := by
  obtain ⟨w, hw⟩ : ∃ w, w = s.modAx l (Axis.measured · x y) := ⟨_, rfl⟩
  have hwv : w.ax[l].del.valid = false := by
    rw [hw, State.modAx_ax, vmod_same]
    exact hv
  obtain ⟨e, he⟩ : ∃ e : Bool, s.resolverTake l = (w.modAx l (Axis.judged · bad (w.ax[l].del.valid && e))).resolverLosses l := by
    subst hw hb hm hx hy
    exact ⟨_, if_neg (not_not.2 h)⟩
  rw [hwv, Bool.false_and, hw, State.modAx_modAx, ← hu] at he
  rw [he, State.resolverLosses_amplitude]
  rw [hu, State.modAx_ax, vmod_same]
  rfl

theorem execResolverMeasurement_eq {s : State} {l : AxisNo} (bits : List DsBits) (now : Ns) (hon : s.axOn l = true) {v : State}
    (hv : v = (s.at now).feed l bits (s.at now).clk.lclk) {k : Int} (hk : k = v.excPeak l v.gt) : exec (.resolverMeasurement l bits now) s =
      .next (if v.ax[l].fb.resK = some k then v else (v.modAx l (Axis.atPeak · k)).resolverTake l) := by
  subst hk hv
  exact if_neg (by rw [show (s.at now).axOn l = true from hon]; exact Bool.false_ne_true)

/-- A peak measured for the first time gives its pair, which with fb.src = 2 is judged. -/
theorem State.resolverTake_peak {v : State} {l : AxisNo} (k : Int) {x y : W24} (hx : x = v.ax[l].dsm.ch[(3 : Fin 6)].out (v.decOf l 3))
    (hy : y = v.ax[l].dsm.ch[(4 : Fin 6)].out (v.decOf l 4)) :
    (v.pn P.fbSrc l ≠ 2 → (v.modAx l (Axis.atPeak · k)).resolverTake l = v.modAx l (Axis.peakTaken · k x y)) ∧
      (v.pn P.fbSrc l = 2 → v.ax[l].del.valid = false → ∀ (m : Q) (bad : Bool) (u : State), m = ofQ23 x * ofQ23 x + ofQ23 y * ofQ23 y →
        bad = decide (m < v.pq P.resAmin l * v.pq P.resAmin l ∨ v.pq P.resAmax l * v.pq P.resAmax l < m) →
        u = v.modAx l (Axis.peakJudged · k x y bad) →
        (v.modAx l (Axis.atPeak · k)).resolverTake l = if 4 ≤ u.ax[l].fb.ampBad then u.noteLoss l 4 true else u) := by
  have hl : (v.modAx l (Axis.atPeak · k)).ax[l] = v.ax[l].atPeak k := by rw [State.modAx_ax, vmod_same]
  have hx' : x = (v.modAx l (Axis.atPeak · k)).ax[l].dsm.ch[(3 : Fin 6)].out ((v.modAx l (Axis.atPeak · k)).decOf l 3) := by
    rw [hl]
    exact hx
  have hy' : y = (v.modAx l (Axis.atPeak · k)).ax[l].dsm.ch[(4 : Fin 6)].out ((v.modAx l (Axis.atPeak · k)).decOf l 4) := by
    rw [hl]
    exact hy
  refine ⟨fun h => ?_, fun h hval m bad u hm hb hu => ?_⟩
  · rw [State.resolverTake_unjudged hx' hy' h, State.modAx_modAx]
    simp only [Axis.atPeak_measured]
  · refine State.resolverTake_judged hx' hy' h ?_ hm hb ?_
    · rw [hl]
      exact hval
    · rw [hu, State.modAx_modAx]
      simp only [Axis.atPeak_measured, Axis.peakTaken_judged]

/-- The fourth bad amplitude is a loss of a resolver that had none. -/
theorem State.fourthBad_acts {v : State} {l : AxisNo} (hsrc : v.pn P.fbSrc l = 2) {f : Axis → Axis}
    (hf : (f v.ax[l]).fb.lost = false) {u : State} (hu : u = v.modAx l f) :
    u.noteLoss l 4 true = State.raise { v with ax := vset v.ax l ((f v.ax[l]).sensorLost 4) } 0x5004 .crimson (some l) [4] := by
  have hul : u.ax[l] = f v.ax[l] := by rw [hu, State.modAx_ax, vmod_same]
  obtain ⟨b, hb, h⟩ := u.noteLoss_source l 4
  have hub : b = v.brake := by
    rw [hb (by rw [hu, show (v.modAx l f).pn P.fbSrc l = v.pn P.fbSrc l from rfl, hsrc]; decide), hu]
    rfl
  rw [hul, if_neg (by rw [hf]; exact Bool.false_ne_true), hub, hu, State.modAx_ax] at h
  unfold vmod at h
  rw [vset_vset] at h
  rw [hu]
  exact h

/-- Settles O44: each event of a sensor by what it leaves of its axis. -/
theorem positionSensorsCount : Obligations.PositionSensorsCount := by
  rintro s _ l now _ rfl rfl hon
  have hon' : (s.at now).axOn l = true := hon
  refine ⟨fun ba h => ?_, fun ba h1 h2 => ?_, fun ba h => ?_, fun hb hs h0 hl => ?_, fun hb hs => ?_, fun hb => ?_, fun ris h => ?_,
    fun ris tz load hr hq hz htz hload => ?_, fun z d c hq hz hk hd hc hx h0 hl hs => ?_, fun ris hm he hax => ?_, fun ris hm => ?_,
    fun bits v k si co m hv hk hsi hco hm => ?_⟩
  · exact execEncoderTransition_same now hon h
  · obtain ⟨up, hup⟩ : ∃ up, up = decide ((s.ax[l].fb.ba, ba) ∈ baForward ↔ s.pn P.fbDir l ≠ 1) := ⟨_, rfl⟩
    have hiff := decide_eq_true_iff.symm.trans (Bool.eq_iff_iff.1 hup).symm
    obtain ⟨t, ht⟩ : ∃ t, t = (((s.at now).counted l ba up).sourceEdge (8 + l.val)).indexMissing l := ⟨_, rfl⟩
    have hex := execEncoderTransition_legal now hon h1 h2 hiff.symm
    rw [← ht] at hex
    obtain ⟨k1, k2, k3, k4, k5, k6, k7, k8, k9, k10, k11, k12⟩ := State.counted_acts ht rfl
    refine ⟨t, if up then 1 else 0xFFFFFFFF, hex, ?_, k1, k2, k3, k4, k5.trans ?_, k6, k7, k8, k9, fun d h _ => congrArg Divider.acc (k10 d h), k11, k12⟩
    · subst hup
      by_cases h : ((s.ax[l].fb.ba, ba) ∈ baForward ↔ s.pn P.fbDir l ≠ 1)
      · rw [decide_eq_true h]
        exact (if_pos h).symm
      · rw [decide_eq_false h]
        exact (if_neg h).symm
    · cases up <;> rfl
  · obtain ⟨hax, hdivs, hrep, hcnt⟩ := (s.at now).illegalTransition_acts l ba rfl
    have hl : ((s.at now).illegalTransition l ba).ax[l] = s.ax[l].misread (s.at now).clk.lclk ba := by
      rw [hax]
      exact vset_same _ _ _
    refine ⟨_, execEncoderTransition_illegal now hon h, ?_⟩
    rw [hl]
    exact ⟨rfl, rfl, rfl, rfl, rfl, rfl, s.ax[l].misread_burst _ ba, hdivs, fun m hm => by rw [hax]; exact vset_ne _ _ _ _ hm, hrep, hcnt⟩
  · obtain ⟨t, hf, hax⟩ := State.encoderFailed_source (s := s.at now) hb hs hl
    have htl : t.ax[l] = _ := hax ▸ vset_same _ _ _
    refine ⟨t, congrArg Host.Outcome.next ((if_pos hon').trans hf), ?_⟩
    rw [htl]
    exact ⟨if_pos h0, rfl, rfl, rfl, fun m hm => by rw [hax]; exact vset_ne _ _ _ _ hm⟩
  · refine congrArg Host.Outcome.next ((if_pos hon').trans ((if_pos hb).trans ((if_pos ?_).trans ?_)))
    · exact hs
    · rfl
  · refine congrArg Host.Outcome.next ((if_pos hon').trans (if_neg ?_))
    rw [State.at_ax, hb]
    exact Bool.false_ne_true
  · exact execIndexEvent_ignored now h
  · obtain ⟨t, ht⟩ : ∃ t, t = (s.at now).indexEvent l := ⟨_, rfl⟩
    obtain ⟨k1, k2, k3, k4, k5, k6, k7, k8, -, -, -, -, k9, k10⟩ := State.indexEvent_first (s := s.at now) hz ht
    have hl : load ↔ (s.at now).loadsIndex l := hload
    have hex := execIndexEvent_taken now hon hr hq
    rw [← ht] at hex
    subst htz
    exact ⟨t, hex, k1, k2, k3, k4, fun h => k5 (hl.1 h), fun h => k6 fun h' => h (hl.2 h'), k7, k8, k10, k9⟩
  · obtain ⟨t, ht⟩ : ∃ t, t = (s.at now).indexEvent l := ⟨_, rfl⟩
    have hex := execIndexEvent_taken now hon rfl hq
    rw [← ht] at hex
    subst hd
    exact ⟨t, hex, State.indexEvent_wrong (s := s.at now) hz hk (State.lineOk_false hc hx) h0 hs ht⟩
  · exact execReferenceSwitchEdge_latches ris now hon hm he hax
  · exact execReferenceSwitchEdge_off ris now hm
  · have hvp : v.par = (s.at now).par := by rw [hv, State.feed_par]
    have hvi : v.ident = (s.at now).ident := by
      rw [hv]
      obtain ⟨⟨hi, -⟩, -⟩ := (s.at now).feed_sampleFrame l bits (s.at now).clk.lclk
      exact hi
    have hsrc : v.pn P.fbSrc l = s.pn P.fbSrc l := State.pn_congr hvp hvi _ _ _
    have hlo : v.pq P.resAmin l = s.pq P.resAmin l := State.pq_congr hvp hvi _ _ _
    have hhi : v.pq P.resAmax l = s.pq P.resAmax l := State.pq_congr hvp hvi _ _ _
    have hex := execResolverMeasurement_eq bits now hon hv hk
    obtain ⟨unjudged, judged⟩ := State.resolverTake_peak k hsi hco
    rw [hsrc] at unjudged judged
    rw [hlo, hhi] at judged
    refine ⟨fun h => ?_, fun hr h2 => ?_, fun hr h2 hval h1 h3 => ?_, fun hr h2 hval hbad hn h0 hlost => ?_⟩
    · rw [hex, if_pos h]
    · rw [hex, if_neg hr, unjudged h2]
      rfl
    · have hb : false = decide (m < s.pq P.resAmin l * s.pq P.resAmin l ∨ s.pq P.resAmax l * s.pq P.resAmax l < m) :=
        (decide_eq_false (not_or.2 ⟨not_lt.2 h1, not_lt.2 h3⟩)).symm
      rw [hex, if_neg hr, judged h2 hval m false _ hm hb rfl, if_neg]
      · rfl
      · rw [State.modAx_ax, vmod_same]
        exact Nat.not_succ_le_zero 3
    · have hb := (decide_eq_true hbad).symm
      have hful : (v.ax[l].peakJudged k si co true).fb.ampBad = 4 := congrArg (· + 1) hn
      obtain ⟨w, hw⟩ : ∃ w : State, w = { v with ax := vset v.ax l ((v.ax[l].peakJudged k si co true).sensorLost 4) } := ⟨_, rfl⟩
      have hwl : w.ax[l] = (v.ax[l].peakJudged k si co true).sensorLost 4 := by
        rw [hw]
        exact vset_same _ _ _
      refine ⟨w, ?_, ?_⟩
      · rw [hex, if_neg hr, judged h2 hval m true _ hm hb rfl, if_pos (by rw [State.modAx_ax, vmod_same, hful]),
          State.fourthBad_acts (hsrc.trans h2) (f := (Axis.peakJudged · k si co true)) hlost rfl, hw]
      · rw [hwl]
        refine ⟨if_pos h0, rfl, rfl, rfl, fun m hm => ?_, ?_⟩
        · rw [hw]
          exact vset_ne _ _ _ _ hm
        · rw [hw]

end Sys2Proof.Machine

namespace Sys2Proof.Machine

/-! ## Alignment, compare registers, axis status and the axis-level safe stop (R106, R164, R171, R264) -/

/-- An admitted opcode of an axis answers what its body gives. -/
theorem State.serve_axisBody {s : State} {r : Req} {l : AxisNo} {o : OpSpec} {f : Req → AxisNo → State → Ans} {x : Ans} (ha : s.admits o r = true)
    (hl : s.argAxis r.arg0 = some l) (hx : f r l (s.heard r) = x) :
    Host.Outcome.next (s.serve o (axisBody f) r) = (.next (x.close o r) : Out) := by
  obtain ⟨m, hm, -⟩ := s.heard_eq r
  rw [s.serve_admits o _ r ha, ← hx, axisBody_eq (l := l) (by rw [hm]; exact hl)]

/-- The axis as its safe stop begins, of one kind and at one time (R264). -/
def Axis.ssBegun (a : Axis) (kind : Bool) (t : Ns) : Axis :=
  { a with
    ss := { a.ss with ssa := true, ssk := kind, w0 := a.cas.wAct, t0 := t, still := 0, due := false }
    cas := { a.cas with wWin := if a.cas.loop = 1 then (if a.cas.hold then a.cas.wWin else a.win.front.value) else a.cas.wRef } }

/-- A change of one axis that keeps what its safe stop has noted. -/
theorem State.modAx_ss {s : State} {l : AxisNo} {f : Axis → Axis} (h : ∀ a, (f a).ss = a.ss) :
    (s.modAx l f).ax[l].ss = s.ax[l].ss ∧ ∀ m : AxisNo, m ≠ l → (s.modAx l f).ax[m] = s.ax[m] := by
  rw [State.modAx_ax, vmod_same]
  exact ⟨h _, fun m hm => vmod_ne _ _ _ _ hm⟩

/-- What follows the begin of a safe stop: a stop of the profile, or no torque, and the event (R264). -/
theorem State.ssStart_first {s : State} {l : AxisNo} (cause : Nat) (h : s.ax[l].ss.ssa = false) : ∃ t : State, s.ssStart l cause = t ∧
    t.ax[l].ss = (s.ax[l].ssBegun (s.pn P.ssKind l == 1) s.clk.lclk).ss ∧ ∀ m : AxisNo, m ≠ l → t.ax[m] = s.ax[m] := by
  obtain ⟨v, hv⟩ : ∃ v : State, v = s.modAx l (Axis.ssBegun · (s.pn P.ssKind l == 1) s.clk.lclk) := ⟨_, rfl⟩
  obtain ⟨w, hw, hs, ho⟩ : ∃ w : State, (if s.ax[l].cas.loop = 2 then (v.stopAxis l s.ax[l].sch.inst (v.stopDec l) 5).1
        else if s.ax[l].cas.loop = 0 then v.modAx l fun a => { a with cur := { a.cur with iqHeld := 0 } } else v) = w ∧
      w.ax[l].ss = v.ax[l].ss ∧ ∀ m : AxisNo, m ≠ l → w.ax[m] = v.ax[m] := by
    refine ⟨_, rfl, ?_⟩
    split
    · exact State.modAx_ss fun _ => rfl
    · split
      · exact State.modAx_ss fun _ => rfl
      · exact ⟨rfl, fun _ _ => rfl⟩
  refine ⟨w.raise 0xA002 .crimson (some l) [BitVec.ofNat 32 cause], ?_, ?_⟩
  · rw [← hw, hv]
    exact if_neg (by rw [h]; exact Bool.false_ne_true)
  · rw [State.raise_ax, hs]
    refine ⟨?_, fun m hm => (ho m hm).trans ?_⟩
    · rw [hv, State.modAx_ax, vmod_same]
    · rw [hv, State.modAx_ax, vmod_ne _ _ _ _ hm]

/-- A first axis-level safe stop notes its speed, its time and its kind; a further cause changes no axis (R264). -/
theorem State.ssStart_acts (s : State) (l : AxisNo) (cause : Nat) : ∃ t : State, s.ssStart l cause = t ∧ t.ax[l].ss.ssa = true ∧
    (s.ax[l].ss.ssa = true → t.ax = s.ax) ∧
    (s.ax[l].ss.ssa = false → t.ax[l].ss.w0 = s.ax[l].cas.wAct ∧ t.ax[l].ss.t0 = s.clk.lclk ∧ t.ax[l].ss.ssk = decide (s.pn P.ssKind l = 1)) ∧
    ∀ m : AxisNo, m ≠ l → t.ax[m] = s.ax[m] := by
  cases h : s.ax[l].ss.ssa with
  | true =>
    refine ⟨_, if_pos h, ?_⟩
    rw [State.raise_ax]
    exact ⟨h, fun _ => rfl, fun h' => absurd h' (by decide), fun _ _ => rfl⟩
  | false =>
    obtain ⟨t, ht, hs, ho⟩ := State.ssStart_first cause h
    rw [← ht] at hs ho
    refine ⟨_, rfl, ?_⟩
    rw [hs]
    exact ⟨rfl, fun h' => absurd h' (by decide), fun _ => ⟨rfl, rfl, rfl⟩, ho⟩

/-- Settles O17: each opcode by its body on the state in which its source has been heard. -/
theorem axisServiceOpcodes : Obligations.AxisServiceOpcodes := by
  intro s r l hl
  obtain ⟨m, hm, -⟩ := s.heard_eq r
  refine ⟨fun ha hh hal hen hf hsrc hn => State.serve_holdBody ha hl hh hal ?_, fun ha hh hal n v w hn hv hw hok => State.serve_holdBody ha hl hh hal ?_,
    fun ha c hc => State.serve_axisBody ha hl ?_, fun ha => State.serve_axisBody ha hl ?_, fun ha hst hal => ?_⟩
  · have hgo : ¬ (!s.ax[l].en || s.ax[l].fault != 0 || s.src l != 1 || s.ax[l].com.align.isSome) = true := by
      rw [hen, hf, hsrc, hn]
      decide
    rw [hm]
    exact if_neg hgo
  · subst hn hv hw
    rw [hm]
    cases hc : s.ax[l].cmp[Config.cmpRegister r.arg0 r.payload].write with
    | none | some x =>
      rw [hc] at hok
      simp only [hc]
      exact if_pos hok
  · rw [hc, hm]
  · rw [hm]
    rfl
  · obtain ⟨t, ht, h⟩ := (s.heard r).ssStart_acts l 1
    refine ⟨t, State.serve_axisBody ha hl ?_, ?_⟩
    · rw [← ht, hm]
      exact if_pos (by rw [Bool.and_eq_true]; exact ⟨hst, hal⟩)
    · rw [hm] at h
      exact h

end Sys2Proof.Machine

namespace Sys2Proof.Machine

/-! ## The safety opcodes (R124, R256, R258, R268, R271) -/

/-- What the release of a vehicle-level safe stop leaves: no stop, the brake held, no axis enabled and no pair demanded off (R271). -/
theorem State.releaseStop_acts (s : State) : ∃ t : State, s.releaseStop = t ∧ t.safe = {} ∧ t.brake.park = .hold ∧
    (∀ l : AxisNo, t.ax[l].en = false) ∧ (∀ k : PairNo, t.pair[k].toDemand = false) ∧
    t.life.st = if s.auth || s.split then .active else .standby := by
  obtain ⟨v, hv⟩ : ∃ v : State, v = { s with
      ax := s.ax.map fun a => if a.en then a.disable else a
      pair := s.pair.map fun (p : Pair) => { p with toDemand := false }
      brake := { s.brake with park := .hold, parkAt := s.clk.lclk }
      safe := {} } := ⟨_, rfl⟩
  have ht : s.releaseStop = v.setSt (if s.auth || s.split then .active else .standby) := hv ▸ rfl
  refine ⟨_, ht, ?_, ?_, fun l => ?_, fun k => ?_, State.setSt_st_eq _ _⟩
  · rw [State.setSt_safe, hv]
  · rw [State.setSt_brake, hv]
  · rw [State.setSt_ax, hv, Fin.getElem_fin, Vector.getElem_map]
    split
    · exact (Axis.disable_eq _).1
    · next h => exact eq_false_of_ne_true h
  · rw [State.setSt_pair, hv, Fin.getElem_fin, Vector.getElem_map]

/-- Settles O18: each opcode by its body on the state in which its source has been heard. -/
theorem safetyOpcodes : Obligations.SafetyOpcodes := by
  intro s r
  obtain ⟨m, hm, -⟩ := s.heard_eq r
  have answers : ∀ {o : OpSpec} {b : Body} {x : Ans}, s.admits o r = true → b r (s.heard r) = x →
      Host.Outcome.next (s.serve o b r) = (.next (x.close o r) : Out) := fun ha hx => by
    rw [s.serve_admits _ _ r ha, hx]
  refine ⟨fun ha n hn => ⟨fun hoff => answers ha ?_, fun hon => answers ha ?_⟩, fun ha hst => answers ha ?_, fun ha hp hn => ?_,
    fun ha h => answers ha ?_, fun ha => answers ha rfl⟩
  · subst hn
    rw [hm]
    exact if_pos hoff
  · subst hn
    rw [hm]
    exact if_neg hon
  · rw [hm]
    exact if_pos hst
  · obtain ⟨t, ht, h⟩ := (s.heard r).releaseStop_acts
    refine ⟨t, answers ha ?_, ?_⟩
    · rw [← ht, hm]
      exact if_pos ⟨hp, by rw [Bool.not_eq_true']; exact hn⟩
    · rw [hm] at h
      exact h
  · rw [hm]
    refine if_neg fun ⟨h1, h2⟩ => h.elim (fun h => h h1) fun h => ?_
    rw [Bool.not_eq_true'] at h2
    exact Bool.false_ne_true (h2.symm.trans h)

end Sys2Proof.Machine

namespace Sys2Proof.Machine

/-! ## The stages of the link watch (R125) -/

/-- Whether a stage is in force after its counts have been judged. -/
def Pair.stageAfter (p : Pair) (i : Fin 3) : Bool := if p.ov[i] then decide (p.below[i] < 2) else decide (2 ≤ p.above[i])

/-- The pair once one stage has been entered or left. -/
def Pair.staged (p : Pair) (i : Fin 3) : Pair := { p with ov := vset p.ov i (p.stageAfter i) }

/-- Stage `i` is entered. -/
def Pair.enters (p : Pair) (i : Fin 3) : Prop := p.ov[i] = false ∧ 2 ≤ p.above[i]

/-- The fault of both axes of a pair (R125): of the lane nothing else changes than the lane state. -/
theorem State.pairFault_acts (s : State) (k : PairNo) (cause : BitVec 4) : ∃ t : State,
    (s.axisFault (loAx k) cause).axisFault (hiAx k) cause = t ∧ t.pair = s.pair ∧
      (∀ m : AxisNo, pairOf m = k → t.ax[m] = s.ax[m].faulted cause) ∧ ∀ m : AxisNo, pairOf m ≠ k → t.ax[m] = s.ax[m] := by
  obtain ⟨-, f, r, h⟩ := s.axisFault_acts (loAx k) cause
  obtain ⟨-, f', r', h'⟩ := (s.axisFault (loAx k) cause).axisFault_acts (hiAx k) cause
  refine ⟨_, h', ?_, fun m hm => ?_, fun m hm => ?_⟩
  · rw [h]
  · rw [h]
    exact vmod_pair_same s.ax (Axis.faulted · cause) hm
  · rw [h]
    obtain ⟨j, rfl⟩ : ∃ j, pairOf j = k := ⟨loAx k, pairOf_loAx k⟩
    exact vmod_pair_other s.ax (Axis.faulted · cause) hm

/-- One stage of a pair whose voltage is known: the pair's record, and the fault of both axes where stage 3 is entered. -/
theorem State.stageStep_acts {s : State} {k : PairNo} (i : Fin 3) (h : s.pair[k].vunk = false) : ∃ t : State, s.stageStep k i = t ∧
    t.pair = vset s.pair k (s.pair[k].staged i) ∧ (∀ m : AxisNo, pairOf m ≠ k → t.ax[m] = s.ax[m]) ∧
      (¬ (i = 2 ∧ s.pair[k].enters i) → t.ax = s.ax ∧ t.life = s.life) ∧
      (i = 2 → s.pair[k].enters i → ∀ m : AxisNo, pairOf m = k → t.ax[m] = s.ax[m].faulted 8) := by
  obtain ⟨v, hv⟩ : ∃ v : Bool → State, v = fun b => { s with pair := vset s.pair k { s.pair[k] with ov := vset s.pair[k].ov i b } } := ⟨_, rfl⟩
  have hs : s.stageStep k i = if (!s.pair[k].ov[i]) = true ∧ 2 ≤ s.pair[k].above[i] then
        (if i = 2 then ((v true).axisFault (loAx k) 8).axisFault (hiAx k) 8 else v true).raise (0x1011 + i.val)
          (if i = 2 then .crimson else .amber) (some (loAx k)) [BitVec.ofNat 32 k.val, toFix 16 s.pair[k].vlink]
      else if s.pair[k].ov[i] = true ∧ 2 ≤ s.pair[k].below[i] then v false else s := by
    rw [hv]
    exact if_neg (by rw [h]; exact Bool.false_ne_true)
  by_cases hin : s.pair[k].enters i
  · have hp : s.pair[k].stageAfter i = true := (if_neg (by rw [hin.1]; exact Bool.false_ne_true)).trans (decide_eq_true hin.2)
    rw [if_pos ⟨by rw [hin.1]; rfl, hin.2⟩] at hs
    refine ⟨_, hs, ?_⟩
    rw [State.raise_pair, State.raise_ax, State.raise_life, Pair.staged, hp]
    by_cases hi : i = 2
    · obtain ⟨t, ht, hpair, hon, hoff⟩ := (v true).pairFault_acts k 8
      rw [if_pos hi, ht]
      rw [hv] at hpair hon hoff
      exact ⟨hpair, hoff, fun hn => absurd ⟨hi, hin⟩ hn, fun _ _ => hon⟩
    · rw [if_neg hi, hv]
      exact ⟨rfl, fun _ _ => rfl, fun _ => ⟨rfl, rfl⟩, fun h => absurd h hi⟩
  · rw [if_neg (fun ⟨h1, h2⟩ => hin ⟨by simpa using h1, h2⟩)] at hs
    split at hs
    · next hout =>
      have hp : s.pair[k].stageAfter i = false := (if_pos hout.1).trans (decide_eq_false (Nat.not_lt.2 hout.2))
      refine ⟨_, hs, ?_⟩
      rw [Pair.staged, hp, hv]
      exact ⟨rfl, fun _ _ => rfl, fun _ => ⟨rfl, rfl⟩, fun _ h => absurd h hin⟩
    · next hout =>
      have hp : s.pair[k].stageAfter i = s.pair[k].ov[i] := by
        unfold Pair.stageAfter
        cases ho : s.pair[k].ov[i] with
        | true => exact decide_eq_true (Nat.not_le.1 fun h => hout ⟨ho, h⟩)
        | false => exact decide_eq_false fun h => hin ⟨ho, h⟩
      refine ⟨_, hs, ?_⟩
      rw [Pair.staged, hp, vset_self]
      exact ⟨(vset_self _ _).symm, fun _ _ => rfl, fun _ => ⟨rfl, rfl⟩, fun _ h => absurd h hin⟩

/-- All stages of a pair whose voltage is known. -/
theorem State.stages_acts {s : State} {k : PairNo} (h : s.pair[k].vunk = false) : ∃ t : State, s.stages k = t ∧
    t.pair = vset s.pair k (((s.pair[k].staged 0).staged 1).staged 2) ∧ (∀ m : AxisNo, pairOf m ≠ k → t.ax[m] = s.ax[m]) ∧
      (¬ s.pair[k].enters 2 → t.ax = s.ax ∧ t.life = s.life) ∧
      (s.pair[k].enters 2 → ∀ m : AxisNo, pairOf m = k → t.ax[m] = s.ax[m].faulted 8) := by
  obtain ⟨a, ha, pa, -, ka, -⟩ := State.stageStep_acts 0 h
  have qa : a.pair[k] = s.pair[k].staged 0 := by rw [pa, vset_same]
  obtain ⟨b, hb, pb, -, kb, -⟩ := State.stageStep_acts (s := a) (k := k) 1 (by rw [qa]; exact h)
  have qb : b.pair[k] = (s.pair[k].staged 0).staged 1 := by rw [pb, vset_same, qa]
  obtain ⟨t, ht, pt, ot, kt, ft⟩ := State.stageStep_acts (s := b) (k := k) 2 (by rw [qb]; exact h)
  obtain ⟨axa, lfa⟩ := ka fun hn => absurd hn.1 (by decide)
  obtain ⟨axb, lfb⟩ := kb fun hn => absurd hn.1 (by decide)
  have he : b.pair[k].enters 2 ↔ s.pair[k].enters 2 := by
    rw [qb]
    unfold Pair.enters
    rw [show ((s.pair[k].staged 0).staged 1).ov = vset (vset s.pair[k].ov 0 (s.pair[k].stageAfter 0)) 1 ((s.pair[k].staged 0).stageAfter 1) from rfl,
      vset_ne _ _ _ _ (by decide), vset_ne _ _ _ _ (by decide)]
    rfl
  refine ⟨t, ?_, ?_, fun m hm => ?_, fun hn => ?_, fun hin m hm => ?_⟩
  · rw [← ht, ← hb, ← ha]
    rfl
  · rw [pt, qb, pb, vset_vset, pa, vset_vset]
  · rw [ot m hm, axb, axa]
  · obtain ⟨h1, h2⟩ := kt fun hn' => hn (he.1 hn'.2)
    exact ⟨h1.trans (axb.trans axa), h2.trans (lfb.trans lfa)⟩
  · rw [ft rfl (he.2 hin) m hm, axb, axa]

/-- Every stage is judged by the counts as they stood. -/
theorem Pair.staged_all (p : Pair) (i : Fin 3) : (((p.staged 0).staged 1).staged 2).ov[i] = p.stageAfter i := by
  have h1 : (p.staged 0).stageAfter 1 = p.stageAfter 1 := by
    unfold Pair.stageAfter
    rw [show (p.staged 0).ov[(1 : Fin 3)] = p.ov[(1 : Fin 3)] from vset_ne _ _ _ _ (by decide)]
    rfl
  have h2 : ((p.staged 0).staged 1).stageAfter 2 = p.stageAfter 2 := by
    unfold Pair.stageAfter
    rw [show ((p.staged 0).staged 1).ov[(2 : Fin 3)] = p.ov[(2 : Fin 3)] from
      (vset_ne _ _ _ _ (by decide)).trans (vset_ne _ _ _ _ (by decide))]
    rfl
  rw [show (((p.staged 0).staged 1).staged 2).ov =
    vset (vset (vset p.ov 0 (p.stageAfter 0)) 1 ((p.staged 0).stageAfter 1)) 2 (((p.staged 0).staged 1).stageAfter 2) from rfl, h1, h2]
  match i with
  | 0 => rw [vset_ne _ _ _ _ (by decide), vset_ne _ _ _ _ (by decide), vset_same]
  | 1 => rw [vset_ne _ _ _ _ (by decide), vset_same]
  | 2 => rw [vset_same]

/-! ## The chopper feedback (R123, R124, R127) -/

/-- A disagreement since a local time has lasted long enough for a fault. -/
def State.lastsLong (s : State) (t : Ns) : Prop := if s.auth = true then t + 5000 < s.clk.lclk else t + 1000000 ≤ s.clk.lclk

theorem State.lastsLong_now (s : State) : ¬ s.lastsLong s.clk.lclk := by
  unfold State.lastsLong
  split
  · exact Nat.not_lt.2 (Nat.le_add_right _ 5000)
  · exact Nat.not_le.2 (Nat.lt_add_of_pos_right (k := 1000000) (Nat.succ_pos _))

/-- The disagreement of a chopper has lasted long enough for a fault. -/
def State.chopLong (s : State) (k : PairNo) : Prop := ∃ t, s.pair[k].chBad = some t ∧ s.lastsLong t

theorem State.chopFault_waits {s : State} {k : PairNo} (h : ¬ (s.chopLong k ∧ s.chopBad k = true)) : s.chopFault k = s := by
  unfold State.chopFault
  simp only []
  refine if_neg fun hl => h ?_
  rw [Bool.and_eq_true] at hl
  refine ⟨?_, hl.2⟩
  have hl := hl.1
  split at hl
  · next t ht =>
    refine ⟨t, ht, ?_⟩
    unfold State.lastsLong
    split
    · next ha =>
      rw [if_pos ha] at hl
      exact of_decide_eq_true hl
    · next ha =>
      rw [if_neg ha] at hl
      exact of_decide_eq_true hl
  · exact absurd hl Bool.false_ne_true

theorem State.chopFault_acts {s : State} {k : PairNo} (hl : s.chopLong k) (hb : s.chopBad k = true) : s.chopFault k =
    State.raise { s with pair := vset s.pair k { s.pair[k] with chop := false, chopf := true, chBad := none } } 0x1010 .amber (some (loAx k))
      [BitVec.ofNat 32 k.val, bitAt s.pair[k].chfb 0] := by
  obtain ⟨t, ht, hl⟩ := hl
  unfold State.lastsLong at hl
  unfold State.chopFault
  refine if_pos ?_
  simp only [ht, hb, Bool.and_true]
  split
  · next ha =>
    rw [if_pos ha] at hl
    exact decide_eq_true hl
  · next ha =>
    rw [if_neg ha] at hl
    exact decide_eq_true hl

/-- When command and feedback of a chopper disagree in a way that counts. -/
theorem State.chopBad_iff (s : State) (k : PairNo) : s.chopBad k = true ↔ s.pairOn k = true ∧ s.pair[k].vunk = false ∧ s.pair[k].chopf = false ∧
    s.pair[k].chop ≠ s.pair[k].chfb ∧
      (s.auth = true ∨ s.pq P.chopVon + 1 / 2 ≤ s.pair[k].vlink ∨ s.pair[k].vlink ≤ s.pq P.chopVoff - 1 / 2) := by
  unfold State.chopBad
  simp only [Bool.and_eq_true, Bool.or_eq_true, Bool.not_eq_true', bne_iff_ne, decide_eq_true_eq, and_assoc]

/-- The disagreement of a chopper after a report of its feedback. -/
theorem State.chopCount_eq (s : State) (k : PairNo) : s.chopCount k =
    { s with pair := vset s.pair k { s.pair[k] with chBad := if s.chopBad k then some (s.pair[k].chBad.getD s.clk.lclk) else none } } := rfl

/-- The state once the feedback of a chopper has been told. -/
def State.chopTold (s : State) (k : PairNo) (fb : Bool) : State := { s with pair := vset s.pair k { s.pair[k] with chfb := fb } }

theorem State.chopTold_get (s : State) (k : PairNo) (fb : Bool) : (s.chopTold k fb).pair[k] = { s.pair[k] with chfb := fb } := vset_same _ _ _

theorem execChopperFault_eq (s : State) (k : PairNo) (fb : Bool) (now : Ns) : exec (.chopperFault k fb now) s =
    .next (((((s.at now).chopFault k).chopTold k fb).chopCount k).chopFault k) := rfl

/-- A told disagreement: the time since which it has stood without a break, or none where the levels agree. -/
theorem State.chopTold_counted (s : State) (k : PairNo) (fb : Bool) : (s.chopTold k fb).chopCount k =
    { s with pair := vset s.pair k { s.pair[k] with 
        chfb := fb, chBad := if (s.chopTold k fb).chopBad k then some (s.pair[k].chBad.getD s.clk.lclk) else none } } := by
  rw [State.chopCount_eq, State.chopTold_get]
  unfold State.chopTold
  rw [vset_vset]

/-- A disagreement too short for a fault: its begin, or its end, is noted. -/
theorem State.chopTold_short {s : State} {k : PairNo} (fb : Bool) (h : ¬ s.chopLong k) :
    ((s.chopTold k fb).chopCount k).chopFault k = (s.chopTold k fb).chopCount k := by
  rw [State.chopTold_counted]
  refine State.chopFault_waits fun hl => ?_
  obtain ⟨⟨t, ht, hl⟩, -⟩ := hl
  simp only [vset_same] at ht
  split at ht
  · cases hc : s.pair[k].chBad with
    | none =>
      rw [hc] at ht
      cases ht
      exact s.lastsLong_now hl
    | some x =>
      rw [hc] at ht
      cases ht
      exact h ⟨_, hc, hl⟩
  · cases ht

/-- Settles O40: the stages by the counts of the pair, the voltage by the time since its input last stood, and the chopper by the time of its
disagreement. -/
theorem linkWatchActs : Obligations.LinkWatchActs := by
  rintro s _ k now rfl
  refine ⟨fun h => ?_, fun h => ?_, fun h ht => ?_, fun ht => ?_, fun fb bad since p hp hs hshort hbad => ?_,
    fun fb since p hp hs hb hlong => ?_⟩
  · exact congrArg Host.Outcome.next (forFin_fixed fun i => if_pos h)
  · obtain ⟨t, hst, hpair, hother, hkept, hfault⟩ := State.stages_acts (s := s.at now) h
    have hget : t.pair[k] = ((s.pair[k].staged 0).staged 1).staged 2 := by
      rw [hpair, vset_same]
      rfl
    refine ⟨t, congrArg Host.Outcome.next hst, fun i => ?_, ?_, fun j hj => ?_, fun m hm ho ha => ?_, hother, fun hn => hkept ?_⟩
    · rw [hget]
      exact s.pair[k].staged_all i
    · rw [hget]
      rfl
    · rw [hpair, vset_ne _ _ _ _ hj]
      rfl
    · rw [hfault ⟨ho, ha⟩ m hm]
      exact ⟨rfl, rfl, rfl⟩
    · rintro ⟨ho, ha⟩
      exact hn.elim (fun h => Bool.false_ne_true (ho.symm.trans h)) (Nat.not_lt.2 ha)
  · exact congrArg Host.Outcome.next (if_pos (by rw [Bool.and_eq_true]; exact ⟨h, decide_eq_true ht⟩))
  · refine congrArg Host.Outcome.next (if_neg ?_)
    rw [Bool.and_eq_true]
    exact fun hn => Nat.not_le.2 ht (of_decide_eq_true hn.2)
  · subst hp hs
    have hl : ¬ (s.at now).chopLong k := by
      rintro ⟨t, ht, hl⟩
      have ht : s.pair[k].chBad = some t := ht
      have h := hshort (by rw [ht]; exact Option.some_ne_none t)
      rw [ht, Option.getD_some] at h
      change if s.auth = true then _ else _ at hl
      split at hl
      · next ha =>
        rw [if_pos ha] at h
        exact Nat.not_lt.2 h hl
      · next ha =>
        rw [if_neg ha] at h
        exact Nat.not_le.2 h hl
    have hb : ((s.at now).chopTold k fb).chopBad k = bad := by
      rw [hbad, Bool.eq_iff_iff, decide_eq_true_iff, State.chopBad_iff, State.chopTold_get]
      rfl
    rw [execChopperFault_eq, State.chopFault_waits fun h => hl h.1, State.chopTold_short fb hl, State.chopTold_counted, hb]
    rfl
  · subst hp
    obtain ⟨w, hw⟩ : ∃ w : State, w = { s.at now with pair := vset s.pair k { s.pair[k] with chop := false, chopf := true, chBad := none } } := ⟨_, rfl⟩
    obtain ⟨v, hv⟩ : ∃ v : State, v = w.raise 0x1010 .amber (some (loAx k)) [BitVec.ofNat 32 k.val, bitAt s.pair[k].chfb 0] := ⟨_, rfl⟩
    have hf : (s.at now).chopFault k = v := by
      rw [State.chopFault_acts (s := s.at now) ⟨since, hs, hlong⟩ hb, hv, hw]
      rfl
    have hp : v.pair[k] = { s.pair[k] with chop := false, chopf := true, chBad := none } := by
      rw [hv, State.raise_pair, hw, vset_same]
    have hn : (v.chopTold k fb).chopBad k ≠ true := fun h => by
      obtain ⟨-, -, h, -⟩ := ((v.chopTold k fb).chopBad_iff k).1 h
      rw [State.chopTold_get, hp] at h
      exact Bool.false_ne_true h.symm
    have hl : ¬ v.chopLong k := by
      rintro ⟨t, ht, -⟩
      rw [hp] at ht
      cases ht
    rw [execChopperFault_eq, hf, State.chopTold_short fb hl, State.chopTold_counted, if_neg hn, ← hw, ← hv]
    have hq : ({ v.pair[k] with chfb := fb, chBad := none } : Pair) = { v.pair[k] with chfb := fb } := by rw [hp]
    rw [hq]
    rfl

end Sys2Proof.Machine

namespace Sys2Proof.Machine

/-! ## The twelve pulses and the probe (R116 to R119) -/

/-- A scan for the greatest value finds one that is nowhere exceeded. -/
theorem foldl_greatest {α : Type} (f : α → Q) (ks : List α) (b : α) :
    f b ≤ f (ks.foldl (fun b k => if f b < f k then k else b) b) ∧ ∀ k ∈ ks, f k ≤ f (ks.foldl (fun b k => if f b < f k then k else b) b) := by
  induction ks generalizing b with
  | nil => exact ⟨le_rfl, fun k hk => absurd hk List.not_mem_nil⟩
  | cons x r ih =>
    rw [List.foldl_cons]
    obtain ⟨h1, h2⟩ := ih (if f b < f x then x else b)
    have hx : f b ≤ f (if f b < f x then x else b) ∧ f x ≤ f (if f b < f x then x else b) := by
      split
      · next h => exact ⟨h.le, le_rfl⟩
      · next h => exact ⟨le_rfl, not_lt.1 h⟩
    exact ⟨hx.1.trans h1, List.forall_mem_cons.2 ⟨hx.2.trans h1, h2⟩⟩

/-- A running least value that starts within a list is the least of the list. -/
theorem foldl_min_eq {xs : List Q} {b lo : Q} (hb : b ∈ xs) (hlo : lo ∈ xs) (hmin : ∀ x ∈ xs, lo ≤ x) : xs.foldl min b = lo := by
  have scan : ∀ (ys : List Q) (c : Q), ys.foldl min c ≤ c ∧ (∀ y ∈ ys, ys.foldl min c ≤ y) ∧ (ys.foldl min c = c ∨ ys.foldl min c ∈ ys) := by
    intro ys
    induction ys with
    | nil => exact fun c => ⟨le_rfl, fun y hy => absurd hy List.not_mem_nil, .inl rfl⟩
    | cons y r ih =>
      intro c
      rw [List.foldl_cons]
      obtain ⟨h1, h2, h3⟩ := ih (min c y)
      refine ⟨h1.trans (min_le_left c y), List.forall_mem_cons.2 ⟨h1.trans (min_le_right c y), h2⟩, ?_⟩
      obtain h | h := h3
      · rw [h]
        exact (min_choice c y).imp_right fun h => List.mem_cons.2 (.inl h)
      · exact .inr (List.mem_cons_of_mem y h)
  obtain ⟨-, h2, h3⟩ := scan xs b
  exact le_antisymm (h2 lo hlo) (hmin _ (h3.elim (fun h => by rw [h]; exact hb) id))

/-- Every direction has its end current, and every end current its direction (R116). -/
theorem mem_ends_iff (e : Vector Q 12) (x : Q) : x ∈ e.toList ↔ ∃ k ∈ List.range 12, endAt e k = x := by
  rw [Vector.mem_toList_iff, Vector.mem_iff_getElem]
  constructor
  · rintro ⟨i, hi, rfl⟩
    have hd : i / 2 < 6 := by omega
    obtain h | h := Nat.mod_two_eq_zero_or_one i
    · refine ⟨i / 2, List.mem_range.2 (by omega), (dif_pos (by omega)).trans ?_⟩
      congr 1
      omega
    · refine ⟨i / 2 + 6, List.mem_range.2 (by omega), (dif_neg (by omega)).trans ?_⟩
      congr 1
      omega
  · rintro ⟨k, -, rfl⟩
    unfold endAt
    simp only []
    split
    · exact ⟨2 * (k % 12), by omega, rfl⟩
    · exact ⟨2 * (k % 12 - 6) % 12 + 1, by omega, rfl⟩

/-- The end current in the direction found is the greatest (R117). -/
theorem endAt_largest {e : Vector Q 12} {hi : Q} (hm : hi ∈ e.toList) (hmax : ∀ x ∈ e.toList, x ≤ hi) : endAt e (largest e) = hi := by
  obtain ⟨k, hk, rfl⟩ := (mem_ends_iff e hi).1 hm
  obtain ⟨-, h⟩ := foldl_greatest (endAt e) (List.range 12) 0
  refine le_antisymm (hmax _ ?_) (h k hk)
  have hmod : ∀ j, endAt e (j % 12) = endAt e j := fun j => by
    unfold endAt
    simp only [Nat.mod_mod]
  exact (mem_ends_iff e _).2 ⟨_, List.mem_range.2 (Nat.mod_lt _ (by decide)), hmod _⟩

/-- Fewer than twelve pulses decide nothing. -/
theorem State.satDone_waits {s : State} {l : AxisNo} (h : s.ax[l].com.mode ≠ .satStart ∨ s.ax[l].com.ends.length < 12 ∨ s.ax[l].com.want ≠ none) :
    s.satDone l = s :=
  if_pos (h.imp_right (Or.imp_right Option.isSome_iff_ne_none.2))

/-- The twelve pulses decide by the contrast of their end currents (R117). -/
theorem State.satDone_judges {s : State} {l : AxisNo} {e : Vector Q 12} {hi lo : Q} (hmode : s.ax[l].com.mode = .satStart)
    (hlen : 12 ≤ s.ax[l].com.ends.length) (hwant : s.ax[l].com.want = none) (he : e = s.ax[l].com.endsOf) (hhi : hi ∈ e.toList)
    (hmax : ∀ x ∈ e.toList, x ≤ hi) (hlo : lo ∈ e.toList) (hmin : ∀ x ∈ e.toList, lo ≤ x) : s.satDone l =
      if hi - lo < s.pq P.comScont l * hi then
        if s.ax[l].com.satRuns = 0 then
          s.modAx l fun a => { a with com := { a.com with satRuns := 1, since := s.clk.lclk, ends := [], pulse0 := none } }
        else s.startFailed l 4
      else s.wantMode l (.found (foundAngle e) 0 (sgn s.ax[l].com.dir / 4) s.clk.lclk) := by
  have hgo : ¬ (s.ax[l].com.mode ≠ .satStart ∨ s.ax[l].com.ends.length < 12 ∨ s.ax[l].com.want.isSome = true) := by
    rw [hmode, hwant]
    exact fun h => h.elim (fun h => h rfl) fun h => h.elim (Nat.not_lt.2 hlen) fun h => absurd h Bool.false_ne_true
  subst he
  have hfound := endAt_largest hhi hmax
  have hleast := foldl_min_eq hhi hlo hmin
  refine (if_neg hgo).trans ?_
  simp only [hfound, hleast]

/-- Only an axis that probes, with both its pulses taken and no change of mode asked for, is judged. -/
theorem State.probeDone_waits {s : State} {l : AxisNo} (h : s.ax[l].com.mode ≠ .catching ∨ s.ax[l].com.want ≠ none ∨ s.ax[l].com.ends.length ≠ 2) :
    s.probeDone l = s := by
  unfold State.probeDone
  simp only []
  split
  · next hm hw he =>
    rw [hm, hw, he] at h
    exact h.elim (absurd rfl) fun h => h.elim (absurd rfl) (absurd rfl)
  · rfl

/-- The back-EMF of two zero-vector pulses decides between a start from rest, a catch, and braking (R118, R119). -/
theorem State.probeDone_judges {s : State} {l : AxisNo} {t1 t2 : Ns} {i1 i2 : Vec2} {g e w th : Q} (hmode : s.ax[l].com.mode = .catching)
    (hwant : s.ax[l].com.want = none) (hends : s.ax[l].com.ends = [(t2, i2), (t1, i1)])
    (hg : g = -(s.pq P.elecL l / 1000000) / (s.pq P.comTzv l / 1000000))
    (he : e = (sqrtQ ((g * i1.x) * (g * i1.x) + (g * i1.y) * (g * i1.y)) + sqrtQ ((g * i2.x) * (g * i2.x) + (g * i2.y) * (g * i2.y))) / 2)
    (hw : w = divF (wrapRev (atan2Rev (g * i2.y) (g * i2.x) - atan2Rev (g * i1.y) (g * i1.x)) * twoPi)
      ((((t2 : Int) - t1 : Int) : Q) / 1000000000))
    (hth : th = atan2Rev (g * i2.y) (g * i2.x) - sgn w / 4) : s.probeDone l =
      s.wantMode l (if e ≤ s.pq P.comEcatch l then .rest
        else if s.ax[l].com.dir = 0 ∨ s.ax[l].com.dir = sgnI w then .found th w 0 t2 else .braking th w t2) := by
  subst hth hw he hg
  unfold State.probeDone
  simp only [hmode, hwant, hends]
  rfl

/-! ## The starts and d-axis braking by their phases (R114, R115, R120) -/

/-- A start that fails faults the axis (R115, R117, R120). -/
theorem State.startFailed_acts {s : State} {l : AxisNo} (c : Word) (h : s.ax[l].fault = 0) : ∃ v : State,
    s.startFailed l c = v.raise 0x6004 .crimson (some l) [c] ∧ v.ax[l].fault = 0xA ∧ v.ax[l].en = false ∧
      ∀ m : AxisNo, m ≠ l → v.ax[m] = s.ax[m] := by
  obtain ⟨v, hv, hl, ho, -⟩ := State.faultWith_first 0xA 0x6004 [c] h
  refine ⟨v, hv, ?_⟩
  rw [hl]
  exact ⟨Axis.faulted_fault h, rfl, ho⟩

/-- Time has passed since a local time, counted in whole milliseconds. -/
theorem State.since_ms (s : State) (t : Ns) (d : Nat) : s.since t (ms d) = true ↔ t + 1000000 * d ≤ s.clk.lclk := by
  unfold State.since ms
  rw [decide_eq_true_iff, Nat.mul_comm]

/-- The axis as a phase of its I/f start begins. -/
def Axis.ifPhase (a : Axis) (p : IfPhase) (t : Ns) : Axis := { a with com := { a.com with phase := p, since := t, emfSum := 0, emfN := 0 } }

/-- The phases of the I/f start (R114). -/
theorem execIfStartPhaseEnd_starts {s : State} {l : AxisNo} (now : Ns) (h : s.ax[l].com.mode = .ifStart) : exec (.ifStartPhaseEnd l now) s =
    .next (match s.ax[l].com.phase with
      | .align => if (s.at now).since s.ax[l].com.since (ms (s.pn P.comTifa l)) then
          (s.at now).modAx l (Axis.ifPhase · .ramp (s.at now).clk.lclk) else s.at now
      | .ramp => if s.pq P.comWif l * twoPi ≤ |s.ax[l].com.olSpeed| then
          (s.at now).modAx l (Axis.ifPhase · .check (s.at now).clk.lclk) else s.at now
      | .check => if (s.at now).since s.ax[l].com.since (ms (s.pn P.comTifc l)) then (s.at now).ifCheck l else s.at now
      | .wait => s.at now) := by
  refine congrArg Host.Outcome.next ((if_neg (not_not.2 h)).trans ?_)
  rw [State.at_ax]
  cases s.ax[l].com.phase <;> rfl

/-- The end of the Check phase (R115). -/
theorem State.ifCheck_eq {s : State} {l : AxisNo} {want : Q} (hn : s.ax[l].com.emfN ≠ 0)
    (hw : want = |s.ax[l].com.olSpeed| * (s.pq P.elecPsi l / 1000)) : s.ifCheck l =
      if |s.ax[l].com.emfSum / s.ax[l].com.emfN - want| ≤ s.pq P.comEtol l * want then s.wantMode l .stepped
      else if s.pn P.comIfn l ≤ s.ax[l].com.attempt + 1 then s.startFailed l 3
      else (s.modAx l fun a => { a with com := { a.com with phase := .wait, since := s.clk.lclk, attempt := s.ax[l].com.attempt + 1 } }).raise
        0x6003 .grey (some l) [BitVec.ofNat 32 s.ax[l].com.attempt] := by
  subst hw
  unfold State.ifCheck
  simp only [if_neg hn]

end Sys2Proof.Machine

namespace Sys2Proof.Machine

/-! ## Changes of the commutation mode (R101, R104, R117 to R120) -/

/-- An axis with another commutation and other model-check counts, and with what it waited for. -/
def Axis.recommutated (a : Axis) (c : Com) (r : Cur) : Axis := { a with com := { c with want := a.com.want }, cur := r }

theorem State.setMode_eq (s : State) (l : AxisNo) (m : CMode) : ∃ (c : Com) (r : Cur),
    s.setMode l m = { s with ax := vset s.ax l (s.ax[l].recommutated c r) } ∧ c.mode = m ∧ c.provOk = s.ax[l].com.provOk := by
  unfold State.setMode
  split
  · next h => exact ⟨s.ax[l].com, s.ax[l].cur, by rw [show s.ax[l].recommutated s.ax[l].com s.ax[l].cur = s.ax[l] from rfl, vset_self], h, rfl⟩
  · next h =>
    refine ⟨{ s.ax[l].com with mode := m, est := m == CMode.stepped || m == CMode.ifStart, since := s.clk.lclk, pulse := none, pulse0 := none, ends := [] },
      s.ax[l].cur.resettle, ?_, rfl, rfl⟩
    unfold State.modAx vmod
    simp only [Axis.setMode, if_neg h]
    rfl

theorem State.setMode_mode (s : State) (l : AxisNo) (m : CMode) : (s.setMode l m).ax[l].com.mode = m := by
  obtain ⟨c, r, h, hm, -⟩ := s.setMode_eq l m
  rw [h, vset_same]
  exact hm

/-- What a change of mode keeps of its axis: its enable, its fault, and what it waits for. -/
def Axis.waiting (a : Axis) : Bool × BitVec 4 × Option ModeReq := (a.en, a.fault, a.com.want)

/-- Of the state only an axis has changed, and not in what a change of mode keeps. -/
def State.modeOnly (l : AxisNo) (s t : State) : Prop := ∃ x : Axis, t = { s with ax := vset s.ax l x } ∧ x.waiting = s.ax[l].waiting

theorem State.modeOnly_trans {l : AxisNo} {s t u : State} (h : State.modeOnly l s t) (h' : State.modeOnly l t u) : State.modeOnly l s u := by
  obtain ⟨x, rfl, hx⟩ := h
  obtain ⟨y, rfl, hy⟩ := h'
  refine ⟨y, ?_, ?_⟩
  · simp only [vset_vset]
  · rw [hy, vset_same, hx]

theorem State.modAx_modeOnly (s : State) (l : AxisNo) {f : Axis → Axis} (h : ∀ a, (f a).waiting = a.waiting) : State.modeOnly l s (s.modAx l f) :=
  ⟨f s.ax[l], rfl, h _⟩

theorem State.setMode_modeOnly (s : State) (l : AxisNo) (m : CMode) : State.modeOnly l s (s.setMode l m) := by
  obtain ⟨c, r, h, -⟩ := s.setMode_eq l m
  exact ⟨_, h, rfl⟩

theorem State.startRest_modeOnly (s : State) (l : AxisNo) : State.modeOnly l s (s.startRest l) :=
  State.modeOnly_trans (s.setMode_modeOnly l _) (State.modAx_modeOnly _ l fun _ => rfl)

theorem State.startCommutation_modeOnly (s : State) (l : AxisNo) : State.modeOnly l s (s.startCommutation l) := by
  unfold State.startCommutation
  split
  · exact s.setMode_modeOnly l _
  · exact State.modeOnly_trans (s.setMode_modeOnly l _) (State.modAx_modeOnly _ l fun _ => rfl)

theorem State.setProv_modeOnly (s : State) (l : AxisNo) (theta : Q) : State.modeOnly l s (s.setProv l theta) :=
  State.modAx_modeOnly _ l fun _ => rfl

theorem State.startDone_modeOnly (s : State) (l : AxisNo) (theta olTheta speed : Q) : State.modeOnly l s (s.startDone l theta olTheta speed) := by
  unfold State.startDone
  refine State.modeOnly_trans ?_ (State.modAx_modeOnly _ l fun _ => rfl)
  split
  · exact State.modeOnly_trans (s.setProv_modeOnly l _) (State.setMode_modeOnly _ l _)
  · exact State.modeOnly_trans (s.setMode_modeOnly l _) (State.modAx_modeOnly _ l fun _ => rfl)

/-- A start goes on with the sensor's angle where it is valid, and else with the probe (R101). -/
theorem State.startCommutation_mode (s : State) (l : AxisNo) : (s.startCommutation l).ax[l].com.mode =
    if s.angleValid l then .sensored else .catching := by
  by_cases h : s.angleValid l = true
  · rw [if_pos h, show s.startCommutation l = s.setMode l .sensored from if_pos h, State.setMode_mode]
  · rw [if_neg h, show s.startCommutation l = s.startProbe l from if_neg h, State.startProbe, State.modAx_ax, vmod_same]
    exact s.setMode_mode l _

/-- A start from rest begins anew (R113). -/
theorem State.startRest_acts (s : State) (l : AxisNo) {c : Com} (hc : c = (s.startRest l).ax[l].com) : c.attempt = 0 ∧ c.satRuns = 0 ∧
    c.since = s.clk.lclk ∧ c.mode = if s.src l = 1 ∨ s.pn P.comStart l = 1 then .satStart else .ifStart := by
  unfold State.startRest at hc
  simp only [State.modAx_ax, vmod_same] at hc
  obtain ⟨d, r, h, -⟩ := s.setMode_eq l (if s.src l = 1 ∨ s.pn P.comStart l = 1 then .satStart else .ifStart)
  rw [hc]
  refine ⟨rfl, rfl, ?_, s.setMode_mode l _⟩
  rw [h]

/-- A start ends with the encoder's provisional angle, or in stepped open-loop operation (R104, R112, R117, R119). -/
theorem State.startDone_acts (s : State) (l : AxisNo) (theta olTheta speed : Q) {c : Com} (hc : c = (s.startDone l theta olTheta speed).ax[l].com) :
    (s.src l = 1 → s.ax[l].fb.lost = false → c.mode = .sensored ∧ c.provOk = true) ∧
    ((s.src l ≠ 1 ∨ s.ax[l].fb.lost = true) → c.mode = .stepped ∧ c.est = true ∧ c.olSpeed = speed ∧ c.olI = s.pq P.comIol l) := by
  have hen : ∀ u : State, (u.enterLoops l).ax[l].com = u.ax[l].com := fun u => by
    unfold State.enterLoops
    rw [State.modAx_ax, vmod_same]
  unfold State.startDone at hc
  simp only [hen] at hc
  refine ⟨fun h1 h2 => ?_, fun h => ?_⟩
  · rw [if_pos ⟨h1, by rw [h2]; rfl⟩] at hc
    obtain ⟨d, r, h, hm, hp⟩ := (s.setProv l theta).setMode_eq l .sensored
    rw [h, vset_same] at hc
    rw [hc]
    refine ⟨hm, hp.trans ?_⟩
    unfold State.setProv
    rw [State.modAx_ax, vmod_same]
  · have hn : ¬ (s.src l = 1 ∧ (!s.ax[l].fb.lost) = true) := by
      rintro ⟨h1, h2⟩
      rw [Bool.not_eq_true'] at h2
      exact h.elim (fun h => h h1) fun h => Bool.false_ne_true (h2.symm.trans h)
    rw [if_neg hn] at hc
    unfold State.enterStepped at hc
    rw [State.modAx_ax, vmod_same] at hc
    rw [hc]
    exact ⟨s.setMode_mode l _, rfl, rfl, rfl⟩

/-- The axis as the start of a sample takes what it waited for. -/
def State.wantTaken (s : State) (l : AxisNo) : State := { s with ax := vset s.ax l { s.ax[l] with com := { s.ax[l].com with want := none } } }

theorem State.wantTaken_get (s : State) (l : AxisNo) : (s.wantTaken l).ax[l] = { s.ax[l] with com := { s.ax[l].com with want := none } } :=
  vset_same _ _ _

/-- The entry of d-axis braking (R119, R120). -/
def State.startBraking (s : State) (l : AxisNo) (th w : Q) : State :=
  (s.setMode l .braking).modAx l fun a =>
    { a with com := { a.com with bemfTheta := fracQ th, bemfSpeed := w, since := s.clk.lclk, brkAt := s.clk.lclk, brkWait := false } }

theorem State.startBraking_modeOnly (s : State) (l : AxisNo) (th w : Q) : State.modeOnly l s (s.startBraking l th w) :=
  State.modeOnly_trans (s.setMode_modeOnly l _) (State.modAx_modeOnly _ l fun _ => rfl)

theorem State.startBraking_acts (s : State) (l : AxisNo) (th w : Q) {c : Com} (hc : c = (s.startBraking l th w).ax[l].com) :
    c.mode = .braking ∧ c.bemfSpeed = w ∧ c.brkWait = false ∧ c.brkAt = s.clk.lclk ∧ c.bemfTheta = fracQ th := by
  unfold State.startBraking at hc
  rw [State.modAx_ax, vmod_same] at hc
  rw [hc]
  exact ⟨s.setMode_mode l _, rfl, rfl, rfl, rfl⟩

/-- What a request for a change of mode does at the start of a sample. -/
def State.carryOut (s : State) (l : AxisNo) (inst : Ns) (dt : Q) : Option ModeReq → State
  | none => s
  | some .start => s.startCommutation l
  | some .rest => s.startRest l
  | some .stepped => s.startDone l (s.ax[l].com.olTheta + toRev (s.ax[l].com.olSpeed * dt))
      (s.ax[l].com.olTheta + toRev (s.ax[l].com.olSpeed * dt)) s.ax[l].com.olSpeed
  | some (.found th w off t) => s.startDone l (th + toRev (w * secs inst t)) (th + toRev (w * secs inst t) + off) w
  | some (.braking th w t) => s.startBraking l (th + toRev (w * secs inst t)) w

theorem State.applyMode_eq (s : State) (l : AxisNo) (inst : Ns) (dt : Q) :
    s.applyMode l inst dt = (s.wantTaken l).carryOut l inst dt s.ax[l].com.want := by
  unfold State.applyMode
  simp only []
  cases s.ax[l].com.want with
  | none => rfl
  | some x =>
    cases x with
    | start | rest | found | braking => rfl
    | stepped =>
      unfold State.carryOut
      rw [State.wantTaken_get]
      rfl

/-- A change of mode touches no other axis, and of its own neither the enable nor the fault. -/
theorem State.carryOut_modeOnly (s : State) (l : AxisNo) (inst : Ns) (dt : Q) (x : Option ModeReq) : State.modeOnly l s (s.carryOut l inst dt x) := by
  match x with
  | none => exact ⟨s.ax[l], (by rw [vset_self]; rfl), rfl⟩
  | some .start => exact State.startCommutation_modeOnly _ l
  | some .rest => exact State.startRest_modeOnly _ l
  | some .stepped => exact State.startDone_modeOnly _ l _ _ _
  | some (.found ..) => exact State.startDone_modeOnly _ l _ _ _
  | some (.braking ..) => exact State.startBraking_modeOnly _ l _ _

/-- After a change of mode nothing waits, and of the lane nothing else has changed. -/
theorem State.applyMode_keeps (s : State) (l : AxisNo) (inst : Ns) (dt : Q) {v : State} (hv : v = s.applyMode l inst dt) :
    v.ax[l].com.want = none ∧ v.ax[l].en = s.ax[l].en ∧ v.ax[l].fault = s.ax[l].fault ∧ (∀ m : AxisNo, m ≠ l → v.ax[m] = s.ax[m]) ∧
      { v with ax := s.ax } = s := by
  obtain ⟨x, hx, hw⟩ := (s.wantTaken l).carryOut_modeOnly l inst dt s.ax[l].com.want
  rw [← State.applyMode_eq, ← hv] at hx
  rw [State.wantTaken_get, Axis.waiting, Axis.waiting] at hw
  obtain ⟨h1, h2, h3⟩ := Prod.mk.inj hw |>.imp_right Prod.mk.inj
  rw [hx, vset_same]
  refine ⟨h3, h1, h2, fun m hm => ?_, rfl⟩
  rw [vset_ne _ _ _ _ hm]
  exact vset_ne _ _ _ _ hm

theorem State.wantTaken_none {s : State} {l : AxisNo} (h : s.ax[l].com.want = none) : s.wantTaken l = s := by
  unfold State.wantTaken
  rw [← h]
  exact congrArg (fun v => ({ s with ax := v } : State)) (vset_self _ _)

end Sys2Proof.Machine

namespace Sys2Proof.Machine

/-! ## The alignment run (R106) -/

/-- What an event or an entry of a queue leaves of the change log. -/
def State.logKept (s t : State) : Prop := t.mb.logNext = s.mb.logNext

theorem State.pushEvent_logKept (s : State) (w : Slot) : s.logKept (s.pushEvent w) := by
  unfold State.pushEvent State.logKept
  simp only []
  split
  · rfl
  · split <;> rfl

theorem State.raise_logKept (s : State) (code : Nat) (sev : Sev) (ax : Option AxisNo) (args : List Word) : s.logKept (s.raise code sev ax args) := by
  unfold State.raise
  simp only []
  split
  · exact s.pushEvent_logKept _
  · rfl

theorem State.bump_logKept (s : State) (i : Nat) : s.logKept (s.bump i) := by
  unfold State.bump
  simp only []
  split
  · exact State.raise_logKept _ _ _ _ _
  · rfl

theorem State.push_logKept (s : State) (q : Fin 16) (e : QEntry) : s.logKept (s.push q e) := by
  unfold State.push
  simp only []
  split
  · rfl
  · split
    · exact s.bump_logKept _
    · exact (State.raise_logKept _ _ _ _ _).trans (s.bump_logKept (qCnt q))

/-- The change log is one entry longer (R417). -/
theorem State.logEntry_next (s : State) (src : Source) (tag : BitVec 16) (id kind : Nat) (old new : Word) :
    (s.logEntry src tag id kind old new).mb.logNext = min 0xFFFFFFFF (s.mb.logNext + 1) := by
  unfold State.logEntry
  exact State.push_logKept _ _ _

/-- A written parameter: its store and its log entry; no axis changes. -/
theorem State.applyWrite_logs (s : State) (src : Source) (tag : BitVec 16) (pid : Nat) (v : Word) :
    (s.applyWrite src tag pid v).ax = s.ax ∧ (s.applyWrite src tag pid v).mb.logNext = min 0xFFFFFFFF (s.mb.logNext + 1) := by
  unfold State.applyWrite
  simp only [State.logEntry_ax, State.logEntry_next]
  split
  · split
    · exact ⟨rfl, rfl⟩
    · split
      · exact ⟨rfl, rfl⟩
      · split
        · split <;> exact ⟨rfl, rfl⟩
        · exact ⟨rfl, rfl⟩
        · exact ⟨rfl, rfl⟩
  · exact ⟨rfl, rfl⟩

theorem State.canonical_stored {s : State} (h : s.canonical = true) : Cells.wf storeD s.par.stored = true := by
  simp only [State.canonical, Bool.and_eq_true] at h
  obtain ⟨⟨⟨⟨⟨⟨⟨hstored, -⟩, -⟩, -⟩, -⟩, -⟩, -⟩, -⟩ := h
  exact hstored

/-- A written com.off reads as it was written. -/
theorem State.stored_comOff {s t : State} {l : AxisNo} {v : Word} (hc : s.canonical = true)
    (ht : t.par.stored = Cells.write storeD s.par.stored (P.comOff.pid l.val 0) v) : t.stored (P.comOff.pid l.val 0) = v := by
  have hf : ∀ l : AxisNo, P.comStart.find (P.comOff.pid l.val 0) = none := by decide
  unfold State.stored State.parVal
  rw [ht, Cells.read_write_same _ _ _ _ (State.canonical_stored hc), hf l]
  exact if_neg fun h => Bool.false_ne_true h.2

/-- The end of the hold: com.off takes the negated angle of COMCNT, and the run is over. -/
theorem execAlignHoldEnd_ends {s : State} {l : AxisNo} (now : Ns) {o : AccOp} {off : Word} (ha : s.ax[l].com.align = some .hold)
    (ho : s.ax[l].com.alignOp = some o) (ht : (s.at now).since s.ax[l].com.since (ms (s.pn P.comTalign l)) = true)
    (hoff : off = toFix 32 (fracQ (-(s.pn P.elecPp l * (s.comAt l s.ax[l].fb.mov : Q) / (4 * s.pn P.fbLines l : Nat))))) :
    exec (.alignHoldEnd l now) s =
      .next (((((s.at now).applyWrite o.req.src o.req.tag (P.comOff.pid l.val 0) off).modAx l fun a =>
        { a with com := { a.com with align := none, alignOp := none } }).raise 0x6002 .grey (some l) [off]).complete o 0 [0]) := by
  subst hoff
  show execAlignHoldEnd l now s = _
  unfold execAlignHoldEnd
  simp only [State.at_ax, ha, ho]
  exact if_pos ht

/-- Without a hold that is over nothing happens. -/
theorem execAlignHoldEnd_waits {s : State} {l : AxisNo} (now : Ns) (h : s.ax[l].com.align ≠ some .hold ∨ s.ax[l].com.alignOp = none ∨
    ¬ (s.at now).since s.ax[l].com.since (ms (s.pn P.comTalign l)) = true) : exec (.alignHoldEnd l now) s = .next (s.at now) := by
  show execAlignHoldEnd l now s = _
  unfold execAlignHoldEnd
  simp only [State.at_ax]
  split
  · next ha ho =>
    refine if_neg fun ht => ?_
    obtain h | h | h := h
    · exact h ha
    · rw [h] at ho
      cases ho
    · exact h ht
  · rfl

/-- Settles O46: each event by the phase in which its axis stands and by the time that has passed. -/
theorem startsAdvance : Obligations.StartsAdvance := by
  rintro s _ l now a el rfl rfl hel
  have since : ∀ d, (s.at now).since s.ax[l].com.since (ms d) = true ↔ el d := fun d => (State.since_ms _ _ d).trans (hel d).symm
  refine ⟨fun h => congrArg Host.Outcome.next (State.satDone_waits h), fun e hi lo hm hlen hw he hhi hmax hlo hmin => ?_,
    fun h => congrArg Host.Outcome.next (State.probeDone_waits h),
    fun t1 t2 i1 i2 g e w th hm hw hends hg he hww hth =>
      congrArg Host.Outcome.next (State.probeDone_judges (s := s.at now) hm hw hends hg he hww hth),
    fun v inst dt hv => ?_, fun hm hp ht => ?_, fun hm hp hw => ?_, fun want hm hp ht hn hwant => ?_, fun h => ?_, fun hm hp ht => ?_,
    fun h => ?_, fun hm ht hf => ?_, fun h => ?_, fun hm hb ht => ?_, fun h => ?_, fun o off ha ho ht hc hoff => ?_, fun h => ?_⟩
  · have hj := State.satDone_judges (s := s.at now) hm hlen hw he hhi hmax hlo hmin
    refine ⟨fun hc hr => ?_, fun hc hr hf => ?_, fun hc => ?_⟩
    · exact congrArg Host.Outcome.next (hj.trans ((if_pos hc).trans (if_pos hr)))
    · obtain ⟨v, hv, h⟩ := State.startFailed_acts (s := s.at now) 4 hf
      exact ⟨v, congrArg Host.Outcome.next (hj.trans ((if_pos hc).trans ((if_neg hr).trans hv))), h⟩
    · exact congrArg Host.Outcome.next (hj.trans (if_neg (not_lt.2 hc)))
  · obtain ⟨h1, h2, h3, h4, h5⟩ := s.applyMode_keeps l inst dt hv
    have he := s.applyMode_eq l inst dt
    have hlost : (s.wantTaken l).ax[l].fb.lost = s.ax[l].fb.lost := by rw [State.wantTaken_get]
    have hspeed : (s.wantTaken l).ax[l].com.olSpeed = s.ax[l].com.olSpeed := by rw [State.wantTaken_get]
    refine ⟨h1, h2, h3, h4, h5, fun hw => ?_, fun hw => ?_, fun hw => ?_, fun th w off x hw => ?_, fun th w x hw => ?_⟩
    · rw [hv, he, hw]
      exact State.wantTaken_none hw
    · have hang : (s.wantTaken l).angleValid l = s.angleValid l := by
        unfold State.angleValid
        rw [State.wantTaken_get]
        rfl
      rw [hv, he, hw, ← hang]
      exact State.startCommutation_mode _ l
    · rw [hv, he, hw]
      exact State.startRest_acts (s.wantTaken l) l rfl
    · obtain ⟨th', ol, hd⟩ : ∃ th' ol, v = (s.wantTaken l).startDone l th' ol w := by
        obtain hw | ⟨hw, rfl⟩ := hw
        · exact ⟨_, _, by rw [hv, he, hw]; rfl⟩
        · exact ⟨_, _, by rw [hv, he, hw, ← hspeed]; rfl⟩
      obtain ⟨k1, k2⟩ := (s.wantTaken l).startDone_acts l th' ol w (congrArg (fun v : State => v.ax[l].com) hd)
      rw [hlost] at k1 k2
      exact ⟨k1, k2⟩
    · rw [hv, he, hw]
      exact State.startBraking_acts (s.wantTaken l) l _ w rfl
  · rw [execIfStartPhaseEnd_starts now hm, hp]
    exact congrArg Host.Outcome.next (if_pos ((since _).2 ht))
  · rw [execIfStartPhaseEnd_starts now hm, hp]
    exact congrArg Host.Outcome.next (if_pos hw)
  · have hex : exec (.ifStartPhaseEnd l now) s = .next ((s.at now).ifCheck l) := by
      rw [execIfStartPhaseEnd_starts now hm, hp]
      exact congrArg Host.Outcome.next (if_pos ((since _).2 ht))
    have hj := State.ifCheck_eq (s := s.at now) hn hwant
    rw [hj] at hex
    refine ⟨fun hc => ?_, fun hc hk => ?_, fun hc hk hf => ?_⟩
    · exact hex.trans (congrArg Host.Outcome.next (if_pos hc))
    · exact hex.trans (congrArg Host.Outcome.next ((if_neg (not_le.2 hc)).trans (if_neg (Nat.not_le.2 hk))))
    · obtain ⟨v, hv, h⟩ := State.startFailed_acts (s := s.at now) 3 hf
      exact ⟨v, hex.trans (congrArg Host.Outcome.next ((if_neg (not_le.2 hc)).trans ((if_pos hk).trans hv))), h⟩
  · by_cases hm : s.ax[l].com.mode = .ifStart
    · rw [execIfStartPhaseEnd_starts now hm, h.resolve_left (not_not.2 hm)]
    · exact congrArg Host.Outcome.next (if_pos hm)
  · exact congrArg Host.Outcome.next (if_pos ⟨hm, hp, (since 11).2 ht⟩)
  · refine congrArg Host.Outcome.next (if_neg ?_)
    rintro ⟨h1, h2, h3⟩
    exact h.elim (fun h => h h1) fun h => h.elim (fun h => h h2) fun h => h ((since 11).1 h3)
  · obtain ⟨v, hv, h⟩ := State.startFailed_acts (s := s.at now) 6 hf
    exact ⟨v, congrArg Host.Outcome.next ((if_pos ⟨hm, (State.since_ms _ _ _).2 ht⟩).trans hv), h⟩
  · refine congrArg Host.Outcome.next (if_neg ?_)
    rintro ⟨h1, h2⟩
    exact h.elim (fun h => h h1) fun h => Nat.not_le.2 h ((State.since_ms _ _ _).1 h2)
  · exact congrArg Host.Outcome.next (if_pos ⟨hm, hb, (since 11).2 ht⟩)
  · refine congrArg Host.Outcome.next (if_neg ?_)
    rintro ⟨h1, h2, h3⟩
    exact h.elim (fun h => h h1) fun h => h.elim (fun h => Bool.false_ne_true (h.symm.trans h2)) fun h => h ((since 11).1 h3)
  · obtain ⟨hax, hlog⟩ := (s.at now).applyWrite_logs o.req.src o.req.tag (P.comOff.pid l.val 0) off
    refine ⟨_, execAlignHoldEnd_ends now ha ho ((since _).2 ht) hoff, State.stored_comOff hc (State.applyWrite_stored ..), hlog, ?_, ?_,
      fun m hm => ?_⟩
    · rw [State.modAx_ax, vmod_same]
    · rw [State.modAx_ax, vmod_same]
    · rw [State.modAx_ax, vmod_ne _ _ _ _ hm, hax]
      rfl
  · exact execAlignHoldEnd_waits now (h.imp_right (Or.imp_right fun h h' => h ((since _).1 h')))

end Sys2Proof.Machine

namespace Sys2Proof.Machine

/-! ## The start of a domain test (R103, R462, R465) -/

/-- The axis once its clock has stopped: CVAL clears, and the carrier stands. -/
def Axis.clockOff (a : Axis) : Axis := { a with com := { a.com with cval := false }, pwm := { a.pwm with run := false } }

theorem Axis.clockOff_acts (a : Axis) : a.clockOff.en = a.en ∧ a.clockOff.pwm.gates = a.pwm.gates ∧ a.clockOff.com.cval = false ∧
    a.clockOff.pwm.run = false ∧ a.clockOff.fault = a.fault := ⟨rfl, rfl, rfl, rfl, rfl⟩

/-- The clock of one axis of a pair. -/
def State.pairClockStop (k : PairNo) (l : AxisNo) (s : State) : State := if pairOf l = k then s.axClockStops l else s

theorem State.pairClockStop_eq (s : State) (k : PairNo) (l : AxisNo) : ∃ (a : Vector Axis 8) (b : Brake),
    s.pairClockStop k l = { s with ax := a, brake := b } ∧ ∀ m : AxisNo, a[m] = if m = l ∧ pairOf m = k then s.ax[m].clockOff else s.ax[m] := by
  unfold State.pairClockStop
  split
  · next hl =>
    obtain ⟨b, h⟩ := s.axClockStops_eq l
    refine ⟨_, b, h, fun m => ?_⟩
    by_cases hm : m = l
    · subst hm
      rw [if_pos ⟨rfl, hl⟩]
      exact vmod_same _ _ _
    · rw [if_neg fun h => hm h.1]
      exact vmod_ne _ _ _ _ hm
  · next hl => exact ⟨s.ax, s.brake, rfl, fun m => (if_neg fun ⟨h, hk⟩ => hl (h ▸ hk)).symm⟩

/-- The stopped clocks of a pair leave all but its axes and the contact references of the brakes. -/
theorem State.pairClockStops_eq (s : State) (k : PairNo) : ∃ (a : Vector Axis 8) (b : Brake), s.pairClockStops k = { s with ax := a, brake := b } ∧
    ∀ m : AxisNo, a[m] = if pairOf m = k then s.ax[m].clockOff else s.ax[m] := by
  have hs : s.pairClockStops k = forFin 8 (fun l t => t.pairClockStop k l) s := rfl
  have get : ∀ (l m : AxisNo) (t : State), (t.pairClockStop k l).ax[m] = if m = l ∧ pairOf m = k then t.ax[m].clockOff else t.ax[m] := fun l m t => by
    obtain ⟨a, b, h, hm⟩ := t.pairClockStop_eq k l
    rw [h]
    exact hm m
  obtain ⟨a, b, h⟩ : ∃ (a : Vector Axis 8) (b : Brake), forFin 8 (fun l t => t.pairClockStop k l) s = { s with ax := a, brake := b } := by
    refine forFin_keeps (p := fun t : State => ∃ (a : Vector Axis 8) (b : Brake), t = { s with ax := a, brake := b }) ⟨s.ax, s.brake, rfl⟩ ?_
    rintro l t ⟨a, b, rfl⟩
    obtain ⟨a', b', h, -⟩ := State.pairClockStop_eq { s with ax := a, brake := b } k l
    exact ⟨a', b', h⟩
  refine ⟨a, b, hs.trans h, fun m => ?_⟩
  rw [show a[m] = (forFin 8 (fun l t => t.pairClockStop k l) s).ax[m] by rw [h]]
  split
  · next hm =>
    have same : (forFin 8 (fun l t => t.pairClockStop k l) s).ax[m].clockOff = s.ax[m].clockOff :=
      forFin_keeps (p := fun t : State => t.ax[m].clockOff = s.ax[m].clockOff) rfl fun l t ht => by
        rw [get]
        split <;> exact ht
    have off : (forFin 8 (fun l t => t.pairClockStop k l) s).ax[m].clockOff = (forFin 8 (fun l t => t.pairClockStop k l) s).ax[m] :=
      forFin_hits (p := fun t : State => t.ax[m].clockOff = t.ax[m]) m (fun t => by rw [get, if_pos ⟨rfl, hm⟩]; rfl)
        (fun l t ht => by
          rw [get]
          split
          · rfl
          · exact ht) s
    exact off.symm.trans same
  · next hm =>
    exact forFin_keeps (p := fun t : State => t.ax[m] = s.ax[m]) rfl fun l t ht => by rw [get, if_neg fun h => hm h.2, ht]

/-- The run once the test of a domain has begun. -/
def Run.begun (r : Run) (d : Fin 7) (tmp : BitVec 7) : Run :=
  { r with granted := none, started := r.started ||| (1 : BitVec 7) <<< d.val, under := r.under ||| (1 : BitVec 7) <<< d.val, tmp := tmp }

/-- The lane once a domain under test is isolated and powered. -/
def State.isolating (s : State) (r : Run) (d : Fin 7) (u : Su) : State :=
  { s with st := { s.st with run := some r }, su := u
           life := { s.life with domains := s.life.domains ||| (1 : BitVec 7) <<< d.val, isolated := s.life.isolated ||| (1 : BitVec 7) <<< d.val } }

theorem State.domainStart_waits {s : State} {d : Fin 7} (h : ∀ r, s.st.run = some r → r.granted ≠ some d ∨ r.stop.isSome = true) :
    s.domainStart d = s := by
  unfold State.domainStart
  cases hr : s.st.run with
  | none => rfl
  | some r => exact if_pos (h r hr)

/-- A granted test begins: its domain is isolated, and with it the torque of a pair goes off and its clocks stop. -/
theorem State.domainStart_eq {s : State} {d : Fin 7} {r : Run} (hr : s.st.run = some r) (hg : r.granted = some d) (hs : r.stop = none) :
    ∃ tmp u, s.domainStart d = if h : 1 ≤ d.val ∧ d.val ≤ 4 then
        ((s.isolating (r.begun d tmp) d u).torqueOff ⟨d.val - 1, by omega⟩).pairClockStops ⟨d.val - 1, by omega⟩
      else s.isolating (r.begun d tmp) d u := by
  have hn : ¬ (r.granted ≠ some d ∨ r.stop.isSome = true) := by
    rw [hs]
    exact fun h => h.elim (fun h => h hg) Bool.false_ne_true.elim
  unfold State.domainStart
  rw [hr]
  simp only [if_neg hn]
  refine ⟨if !s.life.domains.getLsbD d.val && !s.allDomains.getLsbD d.val then r.tmp ||| (1 : BitVec 7) <<< d.val else r.tmp,
    if (!s.life.domains.getLsbD d.val) = true ∧ d = 5 then { s.su with enabled := s.suWant, check := true } else s.su, ?_⟩
  by_cases ho : (!s.life.domains.getLsbD d.val) = true ∧ d = 5
  · simp only [if_pos ho]
    rfl
  · simp only [if_neg ho]
    rfl

/-- A pair that is isolated does not permit torque (R262). -/
theorem State.toPermit_isolated {s : State} {k : PairNo} (h : s.life.isolated.getLsbD (k.val + 1) = true) : s.toPermit k = false := by
  have hp : s.pairOn k = false := by
    unfold State.pairOn
    rw [h, Bool.not_true, Bool.and_false]
  unfold State.toPermit State.toDemanded
  rw [hp, Bool.not_false, Bool.or_true, Bool.not_true, Bool.false_and]

/-- Torque-off with stopped clocks: of the lane's record the state and DRDY only, and of the axes those of the pair. -/
theorem State.pairTestStarts (s : State) (k : PairNo) : ∃ t : State, (s.torqueOff k).pairClockStops k = t ∧ t.st = s.st ∧
    { t.life with st := s.life.st, drdy := s.life.drdy } = s.life ∧
      ∀ m : AxisNo, t.ax[m] = if pairOf m = k then s.ax[m].cut.clockOff else s.ax[m] := by
  obtain ⟨⟨a, f, r, ht⟩, hl, -⟩ := s.torqueOff_frame k
  obtain ⟨a', b, hc, hm⟩ := (s.torqueOff k).pairClockStops_eq k
  refine ⟨_, hc, ?_, ?_, fun m => ?_⟩
  · rw [ht]
  · exact hl
  · refine (hm m).trans ?_
    rw [State.torqueOff_get]
    split <;> rfl

/-- What the start of a granted test leaves. -/
theorem State.domainStart_acts {s : State} {d : Fin 7} {r : Run} {bit : BitVec 7} (hr : s.st.run = some r) (hg : r.granted = some d)
    (hs : r.stop = none) (hb : bit = (1 : BitVec 7) <<< d.val) : ∃ (t : State) (tmp : BitVec 7), s.domainStart d = t ∧
      t.st.run = some (r.begun d tmp) ∧ t.life.domains = s.life.domains ||| bit ∧ t.life.isolated = s.life.isolated ||| bit ∧
      ∀ m : AxisNo, t.ax[m] = if d.val = (pairOf m).val + 1 then s.ax[m].cut.clockOff else s.ax[m] := by
  subst hb
  obtain ⟨tmp, u, he⟩ := State.domainStart_eq hr hg hs
  split at he
  · next hd =>
    obtain ⟨t, ht, hst, hl, hm⟩ := (s.isolating (r.begun d tmp) d u).pairTestStarts ⟨d.val - 1, by omega⟩
    refine ⟨t, tmp, he.trans ht, congrArg SelfTest.run hst, (congrArg Life.domains hl :), (congrArg Life.isolated hl :), fun m => ?_⟩
    refine (hm m).trans (if_congr ?_ rfl rfl)
    rw [Fin.ext_iff]
    simp only []
    omega
  · next hd =>
    refine ⟨_, tmp, he, rfl, rfl, rfl, fun m => (if_neg fun h => hd ?_).symm⟩
    have := (pairOf m).isLt
    omega

/-! ## Checkpoints (R463) -/

theorem State.checkpoint_waits {s : State} {d : Fin 7}
    (h : ∀ r, s.st.run = some r → r.under.getLsbD d.val = false ∨ r.stop.isSome = true ∨ r.res[d].isSome = true) (ok : Bool) : s.checkpoint d ok = s := by
  unfold State.checkpoint
  cases hr : s.st.run with
  | none => rfl
  | some r => exact if_pos ((h r hr).imp_left fun h => by rw [h]; rfl)

/-- A checkpoint of a test counts a pattern, or fails the domain. -/
theorem State.checkpoint_eq {s : State} {d : Fin 7} {r : Run} (hr : s.st.run = some r) (hu : r.under.getLsbD d.val = true) (hs : r.stop = none)
    (hres : r.res[d] = none) (ok : Bool) : s.checkpoint d ok =
      { s with st := { s.st with
          run := some (if ok then { r with pats := vset r.pats d (min r.npat (r.pats[d] + 1)) } else r.setRes d .fail) } } := by
  have hn : ¬ ((!r.under.getLsbD d.val) = true ∨ r.stop.isSome = true ∨ r.res[d].isSome = true) := by
    rw [hu, hs, hres]
    decide
  unfold State.checkpoint
  rw [hr]
  exact if_neg hn

/-! ## The end of a domain test (R464, R465, R467) -/

/-- The run once the test of a domain has ended with a result. -/
def Run.endedBy (r : Run) (d : Fin 7) (x : DomRes) : Run :=
  { r with res := vset r.res d (some x), under := r.under &&& ~~~((1 : BitVec 7) <<< d.val), ended := r.ended ||| (1 : BitVec 7) <<< d.val }

/-- The lane once a domain is restored: its isolation is off, and a pair powered for the test goes off again. -/
def State.restored (s : State) (r : Run) (d : Fin 7) : State :=
  { s with st := { s.st with run := some r }
           life := { s.life with
             isolated := s.life.isolated &&& ~~~((1 : BitVec 7) <<< d.val)
             domains := if r.tmp.getLsbD d.val then s.life.domains &&& ~~~((1 : BitVec 7) <<< d.val) else s.life.domains } }

theorem State.domainEnd_waits {s : State} {d : Fin 7} (h : ∀ r, s.st.run = some r → r.under.getLsbD d.val = false ∨
    (r.stop = none ∧ r.res[d] = none ∧ r.pats[d] < r.npat)) (a b : Bool) : s.domainEnd d a b = s := by
  unfold State.domainEnd
  cases hr : s.st.run with
  | none => rfl
  | some r =>
    refine if_pos ((h r hr).imp (fun h => by rw [h]; rfl) fun ⟨h1, h2, h3⟩ => ?_)
    rw [h1, h2]
    exact ⟨rfl, rfl, h3⟩

/-- The end of a test whose domain is restored. -/
theorem State.domainEnd_eq {s : State} {d : Fin 7} {r : Run} (hr : s.st.run = some r) (hu : r.under.getLsbD d.val = true)
    (hgo : r.stop.isSome = true ∨ r.res[d].isSome = true ∨ r.npat ≤ r.pats[d]) (a : Bool) {v : State}
    (hv : v = s.restored (r.endedBy d (s.domainResult r d a true)) d) : s.domainEnd d a true =
      if d = 6 ∧ s.vtb.st ≠ .off then v.vtbTo .listen else v := by
  have hn : ¬ ((!r.under.getLsbD d.val) = true ∨ (r.stop.isNone = true ∧ r.res[d].isNone = true ∧ r.pats[d] < r.npat)) := by
    rw [hu]
    rintro (h | ⟨h1, h2, h3⟩)
    · exact Bool.false_ne_true h
    · rw [Option.isNone_iff_eq_none] at h1 h2
      rw [h1, h2] at hgo
      exact hgo.elim Bool.false_ne_true.elim fun h => h.elim Bool.false_ne_true.elim (Nat.not_le.2 h3)
  unfold State.domainEnd
  rw [hr, hv]
  exact if_neg hn

/-- The result of a restored domain. -/
theorem State.domainResult_restored (s : State) (r : Run) {d : Fin 7} (hd : d ≠ 6) (a : Bool) : s.domainResult r d a true =
    if r.res[d] = some .fail ∨ (r.mem = true ∧ a = false ∧ r.pats[d] = r.npat) then .fail
    else if r.pats[d] < r.npat then .aborted else if r.pats[d] < s.npatUnits then .incomplete else .pass := by
  unfold State.domainResult
  refine if_congr ?_ rfl rfl
  simp [hd]

/-- Where no pattern has failed and the March test has passed, the patterns alone give the result. -/
theorem State.domainResult_patterns {s : State} {r : Run} {d : Fin 7} (h : r.res[d] ≠ some .fail) : s.domainResult r d true true =
    if r.pats[d] < r.npat then .aborted else if r.pats[d] < s.npatUnits then .incomplete else .pass := by
  unfold State.domainResult
  refine if_neg ?_
  simp only [Bool.not_true, Bool.false_eq_true, false_and, and_false, or_false]
  exact h

end Sys2Proof.Machine

namespace Sys2Proof.Machine
/-- A part of a verdict record that reaches neither the verdict nor the mask of the failed domains. -/
def outsideVerdict (w : Word) : Prop := w >>> 28 = 0 ∧ w &&& 0x7F00 = 0

theorem bits_or_and {n : Nat} (v w m : BitVec n) : (v ||| w) &&& m = (v &&& m) ||| (w &&& m) :=
  BitVec.eq_of_getLsbD_eq fun i _ => by simp [Bool.and_or_distrib_right]

theorem outsideVerdict_or {v w : Word} (hv : outsideVerdict v) (hw : outsideVerdict w) : outsideVerdict (v ||| w) := by
  obtain ⟨hv, hv'⟩ := hv
  obtain ⟨hw, hw'⟩ := hw
  unfold outsideVerdict
  rw [BitVec.ushiftRight_or_distrib, hv, hw, bits_or_and, hv', hw']
  exact ⟨rfl, rfl⟩

theorem Run.mask_zero {r : Run} {x : DomRes} (h : ∀ d : Fin 7, r.res[d] ≠ some x) : r.mask x = 0 :=
  List.foldl_fixed' (fun d => if_neg (h d)) _

theorem Run.fails_zero {r : Run} (h : ∀ d : Fin 7, r.res[d] ≠ some .fail) : r.fails = 0 := by
  unfold Run.fails
  rw [List.length_eq_zero_iff, List.filter_eq_nil_iff]
  exact fun d _ hd => h d (of_decide_eq_true hd)

theorem verdict_shifted : ∀ n : Fin 5, (BitVec.ofNat 32 n <<< 28) >>> 28 = BitVec.ofNat 32 n ∧ (BitVec.ofNat 32 n <<< 28) &&& 0x7F00 = 0 := by decide

theorem origin_outsideVerdict (o : Origin) : outsideVerdict (o.code <<< 26) := by
  unfold outsideVerdict
  cases o <;> decide

theorem mem_outsideVerdict (b : Bool) : outsideVerdict (bitAt b 25) := by
  unfold outsideVerdict
  cases b <;> decide

theorem started_outsideVerdict (x : BitVec 7) : outsideVerdict (x.setWidth 32 <<< 16) := by
  unfold outsideVerdict
  revert x
  decide

theorem npat_outsideVerdict (n : Nat) : outsideVerdict (BitVec.ofNat 32 (n % 256)) := by
  have below : ∀ i, 8 ≤ i → (BitVec.ofNat 32 (n % 256)).getLsbD i = false := fun i hi => by
    have hlt : n % 256 < 2 ^ i := Nat.lt_of_lt_of_le (Nat.mod_lt n (by decide)) (Nat.pow_le_pow_right Nat.two_pos hi : 2 ^ 8 ≤ 2 ^ i)
    rw [BitVec.getLsbD_ofNat, Nat.testBit_lt_two_pow hlt, Bool.and_false]
  have mask : ∀ i, i < 8 → (0x7F00 : Word).getLsbD i = false := by decide
  refine ⟨BitVec.eq_of_getLsbD_eq fun i _ => ?_, BitVec.eq_of_getLsbD_eq fun i _ => ?_⟩
  · rw [BitVec.getLsbD_ushiftRight, below _ (by omega)]
    exact BitVec.getLsbD_zero.symm
  · rw [BitVec.getLsbD_and]
    by_cases hi : i < 8
    · rw [mask i hi, Bool.and_false]
      exact BitVec.getLsbD_zero.symm
    · rw [below i (by omega), Bool.false_and]
      exact BitVec.getLsbD_zero.symm

/-- The record of a run without a failed domain: the verdict in its upper four bits, and no domain in the mask of the failed. -/
theorem State.testrecOf_fields {s : State} {r : Run} (n : Fin 5) (hv : s.verdict r = n) (hf : r.mask .fail = 0) :
    s.testrecOf r >>> 28 = BitVec.ofNat 32 n ∧ s.testrecOf r &&& 0x7F00 = 0 := by
  have he : s.testrecOf r = BitVec.ofNat 32 n <<< 28 ||| (r.origin.code <<< 26 ||| bitAt r.mem 25 ||| r.started.setWidth 32 <<< 16 |||
      BitVec.ofNat 32 (r.npat % 256)) := by
    unfold State.testrecOf
    rw [hv, hf]
    rw [show ((0 : BitVec 7).setWidth 32 <<< 8 : Word) = 0#32 by decide, BitVec.or_zero]
    simp only [BitVec.or_assoc]
  obtain ⟨h, h'⟩ := outsideVerdict_or (outsideVerdict_or (outsideVerdict_or (origin_outsideVerdict r.origin) (mem_outsideVerdict r.mem)) (started_outsideVerdict r.started))
    (npat_outsideVerdict r.npat)
  obtain ⟨hn, hn'⟩ := verdict_shifted n
  rw [he, BitVec.ushiftRight_or_distrib, h, hn, bits_or_and, h', hn']
  exact ⟨BitVec.or_zero, BitVec.or_zero⟩

/-- What the record of a run without a failed domain leaves: the record, and events. -/
theorem State.writeRecord_eq (s : State) {r : Run} (h : ∀ d : Fin 7, r.res[d] ≠ some .fail) : ∃ m c i late, s.writeRecord r =
    { s with mb := m, cnt := c, regs := { s.regs with intstat := i }
             aon := { s.aon with testrec := s.testrecOf r, testage := 0, testerr := false, late := late } } := by
  obtain ⟨u, hu⟩ : ∃ u : State, u = { s with aon := { s.aon with testrec := s.testrecOf r, testage := 0, testerr := false } } := ⟨_, rfl⟩
  obtain ⟨v, hv⟩ : ∃ v : State, v = u.raise 0xE001 .grey none [s.testrecOf r] := ⟨_, rfl⟩
  have hw : s.writeRecord r = match r.stop with | some c => v.raise 0xE003 .amber none [stopCode c] | none => v := by
    unfold State.writeRecord
    simp only [Run.fails_zero h, Run.mask_zero h, if_true]
    rw [hv, hu]
    rfl
  have he : u.eventOnly (s.writeRecord r) := by
    have huv : u.eventOnly v := hv ▸ State.raise_eventOnly _ _ _ _ _
    rw [hw]
    cases r.stop with
    | none => exact huv
    | some c => exact State.eventOnly_trans huv (State.raise_eventOnly _ _ _ _ _)
  obtain ⟨m, c, i, late, he⟩ := he
  rw [he, hu]
  exact ⟨m, c, i, late, rfl⟩

end Sys2Proof.Machine

namespace Sys2Proof.Machine

/-! ## The requests held back (R475) -/

theorem State.serveHeld_running {s : State} (h : s.st.run.isSome = true) : s.serveHeld = s := if_pos h

theorem State.serveHeld_none {s : State} (h : s.st.run = none) (hh : s.st.held = []) :
    s.serveHeld = { s with st := { s.st with held := [], latched := false } } := by
  have hn : ¬ s.st.run.isSome = true := by
    rw [h]
    exact Bool.false_ne_true
  have he : s.serveHeld = s.st.held.foldl (fun s x => s.serveReq x.1 x.2) { s with st := { s.st with held := [], latched := false } } := if_neg hn
  rw [he, hh]
  rfl

/-- Without a run and without held requests there is nothing to serve. -/
theorem State.serveHeld_idle {s : State} (h : s.st.run = none) (hh : s.st.held = []) (hl : s.st.latched = false) : s.serveHeld = s := by
  have hst : { s.st with held := [], latched := false } = s.st := by
    rw [← hh, ← hl]
  rw [State.serveHeld_none h hh, hst]

/-! ## The end of a run (R468, R472, R473, R475) -/

theorem State.runOver_waits {s : State} (h : ∀ r, s.st.run = some r → r.under ≠ 0) (cold : Bool) : s.runOver cold = s := by
  unfold State.runOver
  cases hr : s.st.run with
  | none => rfl
  | some r => exact if_neg fun hz => h r hr hz.1

theorem State.runOver_ends {s : State} {r : Run} (hr : s.st.run = some r) (hu : r.under = 0)
    (he : r.stop.isSome = true ∨ r.doms &&& ~~~r.ended = 0) (cold : Bool) : s.runOver cold = s.endRun r cold := by
  unfold State.runOver
  rw [hr]
  exact if_pos ⟨hu, he⟩

/-- The lane enters CONFIGURED, with a VTB that listens where LINK is powered. -/
theorem State.enterConfigured_eq (s : State) : ∃ l m c r late q v, s.enterConfigured =
    { s with life := l, mb := m, cnt := c, regs := r, aon := { s.aon with late := late }, clk := q, vtb := v } ∧
      l.st = .configured ∧ l.step = 7 ∧ l.testFail = s.life.testFail := by
  obtain ⟨hst, l, r, he, hl⟩ := s.setSt_eq .configured
  obtain ⟨v, hv⟩ : ∃ v, (s.setSt .configured).modLife (fun f => { f with step := 7 }) = v := ⟨_, rfl⟩
  have ht : s.enterConfigured = if v.linkOn = true then v.vtbTo .listen else v := by
    rw [← hv]
    rfl
  have hf : l.testFail = s.life.testFail := (congrArg Life.testFail hl :)
  rw [he] at hst hv
  obtain ⟨m, c, i, late, q, x, hx, -⟩ := v.vtbTo_eq .listen
  rw [ht]
  split
  · rw [hx, ← hv]
    exact ⟨_, m, c, _, late, q, x, rfl, hst, rfl, hf⟩
  · rw [← hv]
    exact ⟨_, s.mb, s.cnt, _, s.aon.late, s.clk, s.vtb, rfl, hst, rfl, hf⟩

/-- After a full start's run without a failed domain no pair stays off. -/
theorem State.afterFull_pass {s : State} {r : Run} (h : r.mask .fail = 0) : s.afterFull r = { s with life := { s.life with testFail := false } } := by
  unfold State.afterFull
  simp only [h, BitVec.ofNat_eq_ofNat, BitVec.getLsbD_zero, Bool.false_eq_true, if_false]
  rw [forFin_fixed fun _ => rfl]
  rfl

/-- The end of a full start's run that has passed. -/
theorem State.endRun_pass {s : State} {r : Run} (ho : r.origin = .fullStart) (hr : ∀ d : Fin 7, r.res[d] = none ∨ r.res[d] = some .pass)
    (hs : r.stop = none) (hd : r.doms = s.allDomains) : ∃ t : State, s.endRun r false = t ∧ t.life.st = .configured ∧ t.life.step = 7 ∧
      t.life.testFail = false ∧ t.st = { s.st with run := none } ∧ t.aon.testage = 0 ∧ t.aon.testrec >>> 28 = 1 ∧
      t.aon.testrec &&& 0x7F00 = 0 ∧ t.ax = s.ax := by
  have hne : ∀ x, x ≠ DomRes.pass → ∀ d : Fin 7, r.res[d] ≠ some x := fun x hx d h =>
    (hr d).elim (fun hn => Option.some_ne_none x (h.symm.trans hn)) fun hp => hx (Option.some.inj (h.symm.trans hp))
  have hf := hne .fail (by decide)
  have hv : s.verdict r = 1 := by
    unfold State.verdict
    rw [Run.mask_zero hf, hs, Run.mask_zero (hne .incomplete (by decide)), hd]
    simp
  obtain ⟨m, c, i, late, hw⟩ := s.writeRecord_eq hf
  obtain ⟨w, hwd⟩ : ∃ w, (s.writeRecord r).modSt (fun t => { t with run := none }) = w := ⟨_, rfl⟩
  have he : s.endRun r false = (w.afterFull r).enterConfigured := by
    unfold State.endRun
    rw [hwd, ho]
    rfl
  rw [State.afterFull_pass (Run.mask_zero hf), ← hwd, hw] at he
  obtain ⟨l, m, c, g, late, q, v, ht, h1, h2, h3⟩ := State.enterConfigured_eq
    { s with mb := m, cnt := c, regs := { s.regs with intstat := i }, st := { s.st with run := none }, life := { s.life with testFail := false }
             aon := { s.aon with testrec := s.testrecOf r, testage := 0, testerr := false, late := late } }
  obtain ⟨hv1, hv2⟩ := State.testrecOf_fields 1 hv (Run.mask_zero hf)
  exact ⟨_, he.trans ht, h1, h2, h3, rfl, rfl, hv1, hv2, rfl⟩

/-- After an on-demand run that no claim of the twin has stopped, the lane returns to the state that it left. -/
theorem State.afterDemand_returns {s : State} {r : Run} (h : r.stop ≠ some .twinClaim) : ∃ t : State, s.afterDemand r = t ∧ t.life.st = r.from_ ∧
    t.life.isolated = s.life.isolated ∧ (r.again = true → t.twin.retry = true) ∧ t.ax = s.ax ∧ t.par = s.par ∧ t.st = s.st ∧
    t.aon.testrec = s.aon.testrec ∧ t.aon.testage = s.aon.testage := by
  obtain ⟨m, c, i, late, hc⟩ :=
    s.completeIf_eventOnly r.op 0 [if r.stop = some .opAbort then 0xFFFFFFFF else BitVec.ofNat 32 (s.verdict r)]
  obtain ⟨w, hw⟩ : ∃ w, (s.completeIf r.op 0 [if r.stop = some .opAbort then 0xFFFFFFFF else BitVec.ofNat 32 (s.verdict r)]).modLife
      (fun f => { f with cycStart := (s.completeIf r.op 0 [if r.stop = some .opAbort then 0xFFFFFFFF else BitVec.ofNat 32 (s.verdict r)]).clk.lclk,
                         cycEnd := (s.completeIf r.op 0 [if r.stop = some .opAbort then 0xFFFFFFFF else BitVec.ofNat 32 (s.verdict r)]).clk.lclk,
                         cycles := 0 }) = w := ⟨_, rfl⟩
  have he : s.afterDemand r = if r.again then (w.setSt r.from_).modTwin (fun n => { n with retry := true }) else w.setSt r.from_ := by
    rw [← hw]
    exact if_neg fun hn => h hn.1
  rw [hc] at hw
  obtain ⟨hst, l, g, hs, hl⟩ := w.setSt_eq r.from_
  have hiso : l.isolated = w.life.isolated := (congrArg Life.isolated hl :)
  have hi : l.isolated = s.life.isolated := by
    rw [hiso, ← hw]
    rfl
  rw [hs] at hst he
  refine ⟨_, he, ?_⟩
  split
  · rw [← hw]
    exact ⟨hst, hi, fun _ => rfl, rfl, rfl, rfl, rfl, rfl⟩
  · next hn =>
    rw [← hw]
    exact ⟨hst, hi, fun ha => absurd ha hn, rfl, rfl, rfl, rfl, rfl⟩

/-- The end of an on-demand run that has been stopped without a failed domain. -/
theorem State.endRun_stopped {s : State} {r : Run} {c : StopCause} (ho : r.origin = .demand) (hs : r.stop = some c) (hc : c ≠ .twinClaim)
    (hr : ∀ d : Fin 7, r.res[d] ≠ some .fail) : ∃ t : State, s.endRun r false = t ∧ t.life.st = r.from_ ∧ t.life.isolated = s.life.isolated ∧
      (r.again = true → t.twin.retry = true) ∧ t.st = { s.st with run := none } ∧ t.aon.testage = 0 ∧ t.aon.testrec >>> 28 = 4 ∧
      t.aon.testrec &&& 0x7F00 = 0 ∧ t.ax = s.ax ∧ t.par = s.par := by
  have hv : s.verdict r = 4 := by
    unfold State.verdict
    rw [Run.mask_zero hr, hs]
    rfl
  obtain ⟨m, cs, i, late, hw⟩ := s.writeRecord_eq hr
  obtain ⟨w, hwd⟩ : ∃ w, (s.writeRecord r).modSt (fun t => { t with run := none }) = w := ⟨_, rfl⟩
  have he : s.endRun r false = w.afterDemand r := by
    unfold State.endRun
    rw [hwd, ho]
    rfl
  have hn : r.stop ≠ some .twinClaim := fun h => hc (Option.some.inj (hs.symm.trans h))
  obtain ⟨t, ht, h1, h2, h3, h4, h5, h6, h7, h8⟩ := w.afterDemand_returns hn
  obtain ⟨hv1, hv2⟩ := State.testrecOf_fields 4 hv (Run.mask_zero hr)
  rw [← hwd, hw] at h2 h4 h5 h6 h7 h8
  change t.aon.testrec = s.testrecOf r at h7
  exact ⟨t, he.trans ht, h1, h2, h3, h6, h8, h7 ▸ hv1, h7 ▸ hv2, h4, h5⟩

end Sys2Proof.Machine

namespace Sys2Proof.Machine

/-! ## The stop of a run (R475) -/

theorem getLsbD_domainBit (d : Fin 7) (j : Nat) : ((1 : BitVec 7) <<< d.val).getLsbD j = decide (j = d.val) := by
  by_cases hj : j < 7
  · have all : ∀ d i : Fin 7, ((1 : BitVec 7) <<< d.val).getLsbD i.val = decide (i.val = d.val) := by decide
    exact all d ⟨j, hj⟩
  · rw [BitVec.getLsbD_of_ge _ _ (by omega), eq_comm, decide_eq_false_iff_not]
    omega

theorem domainBit_eq_self {u : BitVec 7} {d : Fin 7} (h : u &&& ~~~((1 : BitVec 7) <<< d.val) = 0) (hu : u.getLsbD d.val = true) :
    u = (1 : BitVec 7) <<< d.val := by
  refine BitVec.eq_of_getLsbD_eq fun j hj => ?_
  rw [getLsbD_domainBit]
  have hb := congrArg (fun x => x.getLsbD j) h
  simp only [BitVec.getLsbD_and, BitVec.getLsbD_not, getLsbD_domainBit] at hb
  by_cases hd : j = d.val
  · subst hd
    simpa using hu
  · simpa [hd, hj] using hb

/-- A domain that is not among the rest of `u` is counted as done at no change. -/
theorem domainBit_done {u done : BitVec 7} {d : Fin 7} (h : (u &&& ~~~done).getLsbD d.val = false) :
    u &&& ~~~(done ||| (1 : BitVec 7) <<< d.val) = u &&& ~~~done ∧ u &&& (done ||| (1 : BitVec 7) <<< d.val) = u &&& done := by
  simp only [BitVec.getLsbD_and, BitVec.getLsbD_not, d.isLt, decide_true, Bool.true_and] at h
  refine ⟨BitVec.eq_of_getLsbD_eq fun j hj => ?_, BitVec.eq_of_getLsbD_eq fun j hj => ?_⟩ <;>
  · simp only [BitVec.getLsbD_and, BitVec.getLsbD_not, BitVec.getLsbD_or, getLsbD_domainBit, hj, decide_true, Bool.true_and]
    by_cases hd : j = d.val
    · subst hd
      revert h
      cases u.getLsbD d.val <;> cases done.getLsbD d.val <;> simp
    · rw [decide_eq_false hd, Bool.or_false]

/-- The bit of a domain under test goes from the rest, and from the isolation. -/
theorem domainBit_ends {u done i : BitVec 7} {d : Fin 7} (h : u.getLsbD d.val = true) :
    u &&& ~~~done &&& ~~~((1 : BitVec 7) <<< d.val) = u &&& ~~~(done ||| (1 : BitVec 7) <<< d.val) ∧
      i &&& ~~~(u &&& done) &&& ~~~((1 : BitVec 7) <<< d.val) = i &&& ~~~(u &&& (done ||| (1 : BitVec 7) <<< d.val)) := by
  refine ⟨BitVec.eq_of_getLsbD_eq fun j hj => ?_, BitVec.eq_of_getLsbD_eq fun j hj => ?_⟩ <;>
  · simp only [BitVec.getLsbD_and, BitVec.getLsbD_not, BitVec.getLsbD_or, getLsbD_domainBit, hj, decide_true, Bool.true_and]
    by_cases hd : j = d.val
    · subst hd
      simp [h]
    · rw [decide_eq_false hd, Bool.or_false, Bool.not_false, Bool.and_true]

/-- The domains of a stopped run that are still under test once those of `done` have ended; their isolation; and no other change. -/
def State.stoppedTo (s : State) (r : Run) (done : BitVec 7) (t : State) : Prop := ∃ ended res domains,
  t = { s with st := { s.st with run := some { r with under := r.under &&& ~~~done, ended := ended, res := res } }
               life := { s.life with isolated := s.life.isolated &&& ~~~(r.under &&& done), domains := domains } } ∧
    ∀ e : Fin 7, res[e] ≠ some .fail

section
variable {s t : State} {r : Run} {done : BitVec 7} (d : Fin 7)

theorem State.stoppedTo_ended (h : s.stoppedTo r done t) (hd : (r.under &&& ~~~done).getLsbD d.val = false) :
    s.stoppedTo r (done ||| (1 : BitVec 7) <<< d.val) t := by
  obtain ⟨ended, res, domains, rfl, hr⟩ := h
  obtain ⟨h1, h2⟩ := domainBit_done hd
  rw [← h1, ← h2]
  exact ⟨ended, res, domains, rfl, hr⟩

theorem State.stoppedTo_ends (h : s.stoppedTo r done t) (hs : r.stop.isSome = true)
    (hu : ∀ e : Fin 7, r.under.getLsbD e.val = true → r.pats[e] < r.npat ∧ e ≠ 6) (hd : (r.under &&& ~~~done).getLsbD d.val = true) :
    s.stoppedTo r (done ||| (1 : BitVec 7) <<< d.val) (t.domainEnd d true true) := by
  obtain ⟨ended, res, domains, rfl, hr⟩ := h
  have hud : r.under.getLsbD d.val = true := by
    rw [BitVec.getLsbD_and, Bool.and_eq_true] at hd
    exact hd.1
  obtain ⟨hpats, h6⟩ := hu d hud
  obtain ⟨h1, h2⟩ := domainBit_ends (done := done) (i := s.life.isolated) hud
  have hend := State.domainEnd_eq (s := { s with
      st := { s.st with run := some { r with under := r.under &&& ~~~done, ended := ended, res := res } }
      life := { s.life with isolated := s.life.isolated &&& ~~~(r.under &&& done), domains := domains } }) rfl hd (.inl hs) true rfl
  rw [if_neg fun h => h6 h.1, State.domainResult_patterns (hr d), if_pos hpats] at hend
  refine ⟨ended ||| (1 : BitVec 7) <<< d.val, vset res d (some .aborted),
    if r.tmp.getLsbD d.val then domains &&& ~~~((1 : BitVec 7) <<< d.val) else domains, hend.trans ?_, fun e => ?_⟩
  · rw [← h1, ← h2]
    rfl
  · by_cases he : e = d
    · rw [he, vset_same]
      decide
    · rw [vset_ne _ _ _ _ he]
      exact hr e

theorem State.stoppedTo_domainEnd (h : s.stoppedTo r done t) (hs : r.stop.isSome = true)
    (hu : ∀ e : Fin 7, r.under.getLsbD e.val = true → r.pats[e] < r.npat ∧ e ≠ 6) :
    s.stoppedTo r (done ||| (1 : BitVec 7) <<< d.val) (t.domainEnd d true true) := by
  cases hd : (r.under &&& ~~~done).getLsbD d.val with
  | false =>
    have hw : t.domainEnd d true true = t := by
      obtain ⟨ended, res, domains, rfl, -⟩ := h
      refine State.domainEnd_waits (fun x hx => .inl ?_) true true
      rw [← Option.some.inj hx]
      exact hd
    rw [hw]
    exact State.stoppedTo_ended d h hd
  | true => exact State.stoppedTo_ends d h hs hu hd
end

/-- The controller ends every test under way. -/
theorem State.domainEnds_stopped {s : State} {r : Run} (hr : s.st.run = some r) (hs : r.stop.isSome = true) (hres : ∀ e : Fin 7, r.res[e] ≠ some .fail)
    (hu : ∀ e : Fin 7, r.under.getLsbD e.val = true → r.pats[e] < r.npat ∧ e ≠ 6) :
    s.stoppedTo r 0x7F (forFin 7 (fun d t => t.domainEnd d true true) s) := by
  have all : ∀ (is : List (Fin 7)) (done : BitVec 7) (t : State), s.stoppedTo r done t →
      s.stoppedTo r (is.foldl (fun m d => m ||| (1 : BitVec 7) <<< d.val) done) (is.foldl (fun t d => t.domainEnd d true true) t) := by
    intro is
    induction is with
    | nil => exact fun _ _ h => h
    | cons d is ih => exact fun _ _ h => ih _ _ (State.stoppedTo_domainEnd d h hs hu)
  refine all (fins 7) 0#7 s ⟨r.ended, r.res, s.life.domains, ?_, hres⟩
  rw [BitVec.and_zero, BitVec.not_zero, BitVec.and_allOnes, BitVec.and_allOnes]
  show s = { s with st := { s.st with run := some r } }
  rw [← hr]

end Sys2Proof.Machine

namespace Sys2Proof.Machine

/-- A stop of a full start's run, or without a run, changes nothing (R472). -/
theorem State.stopDone_waits {s : State} (h : ∀ r, s.st.run = some r → r.origin = .fullStart) (c : StopCause) : s.stopDone c = s := by
  refine if_pos ?_
  unfold State.runStops
  cases hr : s.st.run with
  | none => rfl
  | some r => simp [h r hr]

theorem State.stopRun_demand {s : State} {r : Run} (hr : s.st.run = some r) (ho : r.origin = .demand) (hs : r.stop = none) (c : StopCause) :
    s.stopRun c = { s with st := { s.st with run := some { r with stop := some c } } } := by
  have hn : ¬ r.origin = .fullStart := by
    rw [ho]
    decide
  unfold State.stopRun State.modSt
  simp only [hr, Option.map_some, if_neg hn, hs, Option.getD_none]

/-- The stop of an on-demand run: its tests end without a result of their own, and the lane returns to the state it left. -/
theorem State.stopDone_demand {s : State} {r : Run} {c : StopCause} (hr : s.st.run = some r) (ho : r.origin = .demand) (hs : r.stop = none)
    (hc : c ≠ .twinClaim) (hres : ∀ e : Fin 7, r.res[e] ≠ some .fail)
    (hu : ∀ e : Fin 7, r.under.getLsbD e.val = true → r.pats[e] < r.npat ∧ e ≠ 6) : ∃ t : State, s.stopDone c = t ∧ t.life.st = r.from_ ∧
      t.life.isolated = s.life.isolated &&& ~~~r.under ∧ (r.again = true → t.twin.retry = true) ∧ t.st = { s.st with run := none } ∧
      t.aon.testage = 0 ∧ t.aon.testrec >>> 28 = 4 ∧ t.aon.testrec &&& 0x7F00 = 0 ∧ t.ax = s.ax ∧ t.par = s.par := by
  obtain ⟨v, hv⟩ : ∃ v : State, v = { s with st := { s.st with run := some { r with stop := some c } } } := ⟨_, rfl⟩
  have hstop : s.stopRun c = v := (State.stopRun_demand hr ho hs c).trans hv.symm
  have hruns : s.runStops = true := by
    unfold State.runStops
    rw [hr]
    simp [ho]
  have he : s.stopDone c = (forFin 7 (fun d t => t.domainEnd d true true) v).runOver false := by
    rw [← hstop]
    exact if_neg (by rw [hruns]; decide)
  obtain ⟨ended, res, domains, hw, hne⟩ := State.domainEnds_stopped (s := v) (r := { r with stop := some c }) (by rw [hv]) rfl hres hu
  rw [hw] at he
  have hall : ~~~(0x7F : BitVec 7) = 0#7 := by decide
  have hmask : r.under &&& 0x7F = r.under := BitVec.and_allOnes
  rw [State.runOver_ends rfl (by rw [hall, BitVec.and_zero]; rfl) (.inl rfl)] at he
  obtain ⟨t, ht, h1, h2, h3, h4, h5⟩ := State.endRun_stopped (r := { r with stop := some c, under := r.under &&& ~~~0x7F, ended := ended, res := res })
    (s := { v with st := { v.st with run := some { r with stop := some c, under := r.under &&& ~~~0x7F, ended := ended, res := res } }
                   life := { v.life with isolated := v.life.isolated &&& ~~~(r.under &&& 0x7F), domains := domains } }) ho rfl hc hne
  rw [hmask, hv] at h2
  rw [hv] at h4 h5
  exact ⟨t, he.trans ht, h1, h2, h3, h4, h5⟩

/-! ## Domain tests that end -/

/-- The restored domain: what the VTB's return to LISTEN leaves. -/
theorem State.domainEnd_acts {s : State} {d : Fin 7} {r : Run} (hr : s.st.run = some r) (hu : r.under.getLsbD d.val = true)
    (hgo : r.stop.isSome = true ∨ r.res[d].isSome = true ∨ r.npat ≤ r.pats[d]) (a : Bool) : ∃ m c i late q v, s.domainEnd d a true =
      { s.restored (r.endedBy d (s.domainResult r d a true)) d with
          mb := m, cnt := c, regs := { s.regs with intstat := i }, aon := { s.aon with late := late }, clk := q, vtb := v } := by
  rw [State.domainEnd_eq hr hu hgo a rfl]
  split
  · obtain ⟨m, c, i, late, q, v, h, -⟩ := (s.restored (r.endedBy d (s.domainResult r d a true)) d).vtbTo_eq .listen
    exact ⟨m, c, i, late, q, v, h⟩
  · exact ⟨s.mb, s.cnt, s.regs.intstat, s.aon.late, s.clk, s.vtb, rfl⟩

theorem State.domainDone_waits {s : State} {d : Fin 7} (h : ∀ r, s.st.run = some r → r.under ≠ 0 ∧
    (r.under.getLsbD d.val = false ∨ (r.stop = none ∧ r.res[d] = none ∧ r.pats[d] < r.npat))) (a b : Bool) : s.domainDone d a b = s := by
  unfold State.domainDone
  rw [State.domainEnd_waits fun r hr => (h r hr).2]
  exact State.runOver_waits (fun r hr => (h r hr).1) _

/-- A domain that ends while others are under test. -/
theorem State.domainDone_other {s : State} {d : Fin 7} {r : Run} (hr : s.st.run = some r) (hu : r.under.getLsbD d.val = true)
    (hgo : r.stop.isSome = true ∨ r.res[d].isSome = true ∨ r.npat ≤ r.pats[d]) (ho : r.under ≠ (1 : BitVec 7) <<< d.val) (hd : d ≠ 6) (a : Bool) :
    s.domainDone d a true = s.restored (r.endedBy d (s.domainResult r d a true)) d := by
  have he : s.domainEnd d a true = s.restored (r.endedBy d (s.domainResult r d a true)) d :=
    (State.domainEnd_eq hr hu hgo a rfl).trans (if_neg fun h => hd h.1)
  unfold State.domainDone
  rw [he]
  refine State.runOver_waits (fun x hx hz => ho (domainBit_eq_self ?_ hu)) _
  rw [← Option.some.inj hx] at hz
  exact hz

/-- The last domain of a full start's run ends, and the run has passed. -/
theorem State.domainDone_pass {s : State} {d : Fin 7} {r : Run} {bit : BitVec 7} (hr : s.st.run = some r) (hb : bit = (1 : BitVec 7) <<< d.val)
    (ho : r.origin = .fullStart) (hu : r.under = bit) (hend : r.doms &&& ~~~(r.ended ||| bit) = 0) (hs : r.stop = none)
    (hp : r.npat ≤ r.pats[d]) (hres : r.res[d] = none) (hn : r.npat = s.npatUnits) (hd : r.doms = s.allDomains)
    (hother : ∀ e : Fin 7, e ≠ d → r.res[e] = none ∨ r.res[e] = some .pass) : ∃ t : State, s.domainDone d true true = t ∧
      t.life.st = .configured ∧ t.life.step = 7 ∧ t.life.testFail = false ∧ t.st = { s.st with run := none } ∧ t.aon.testage = 0 ∧
      t.aon.testrec >>> 28 = 1 ∧ t.aon.testrec &&& 0x7F00 = 0 ∧ t.ax = s.ax := by
  subst hb
  have hbit : r.under.getLsbD d.val = true := by
    rw [hu, getLsbD_domainBit, decide_eq_true rfl]
  have hpass : s.domainResult r d true true = .pass := by
    rw [State.domainResult_patterns (by rw [hres]; exact (Option.some_ne_none _).symm), if_neg (Nat.not_lt.2 hp), if_neg (Nat.not_lt.2 (hn ▸ hp))]
  obtain ⟨m, c, i, late, q, v, he⟩ := State.domainEnd_acts hr hbit (.inr (.inr hp)) true
  rw [hpass] at he
  have hover : s.domainDone d true true = (s.domainEnd d true true).runOver false := by
    unfold State.domainDone
    simp only [Bool.not_true, Bool.and_false, Bool.false_and]
  have hzero : r.under &&& ~~~((1 : BitVec 7) <<< d.val) = 0 := by
    rw [hu]
    exact BitVec.and_not_self _
  rw [he, State.runOver_ends (r := r.endedBy d .pass) rfl hzero (.inr hend)] at hover
  obtain ⟨t, ht, h⟩ := State.endRun_pass (r := r.endedBy d .pass) (s := { s.restored (r.endedBy d .pass) d with
      mb := m, cnt := c, regs := { s.regs with intstat := i }, aon := { s.aon with late := late }, clk := q, vtb := v }) ho (fun e => by
    by_cases hde : e = d
    · rw [hde]
      exact .inr (vset_same _ _ _)
    · have hv : (r.endedBy d .pass).res[e] = r.res[e] := vset_ne _ _ _ _ hde
      rw [hv]
      exact hother e hde) hs hd
  exact ⟨t, hover.trans ht, h⟩

end Sys2Proof.Machine

namespace Sys2Proof.Machine

/-- Without a run the events of a run change nothing. -/
theorem selftest_idle {s u : State} {now : Ns} (d : Fin 7) (hsu : u = s.at now) (h : s.st.run = none) :
    exec (.selftestDomainStart d now) s = .next u ∧ (∀ ok, exec (.selftestCheckpoint d ok now) s = .next u) ∧
      (s.st.held = [] → s.st.latched = false → (∀ a b, exec (.selftestDomainDone d a b now) s = .next u) ∧
        ∀ c, exec (.selftestStop c now) s = .next u) := by
  have absent {p : Run → Prop} (r : Run) (hr : u.st.run = some r) : p r := by
    rw [hsu, State.at_st, h] at hr
    exact absurd hr.symm (Option.some_ne_none r)
  have hrun : u.st.run = none := by rw [hsu]; exact h
  refine ⟨?_, fun ok => ?_, fun hh hl => ?_⟩
  · exact hsu ▸ congrArg Host.Outcome.next (State.domainStart_waits (s := s.at now) (hsu ▸ absent))
  · exact hsu ▸ congrArg Host.Outcome.next (State.checkpoint_waits (s := s.at now) (hsu ▸ absent) ok)
  · have idle : u.serveHeld = u := State.serveHeld_idle hrun (by rw [hsu]; exact hh) (by rw [hsu]; exact hl)
    refine ⟨fun a b => ?_, fun c => ?_⟩
    · have hd : u.domainDone d a b = u := State.domainDone_waits absent a b
      have he : exec (.selftestDomainDone d a b now) s = .next (u.domainDone d a b).serveHeld := by
        rw [hsu]
        rfl
      rw [he, hd, idle]
    · have hd : u.stopDone c = u := State.stopDone_waits absent c
      have he : exec (.selftestStop c now) s = .next (u.stopDone c).serveHeld := by
        rw [hsu]
        rfl
      rw [he, hd, idle]

section
variable {s u : State} {now : Ns} {d : Fin 7} {r : Run} {bit : BitVec 7}

theorem selftestDomainStart_granted (hsu : u = s.at now) (hr : u.st.run = some r) (hb : bit = (1 : BitVec 7) <<< d.val)
    (hg : r.granted = some d) (hs : r.stop = none) : ∃ t : State, exec (.selftestDomainStart d now) s = .next t ∧
      t.life.domains = u.life.domains ||| bit ∧ t.life.isolated = u.life.isolated ||| bit ∧
      (∃ x : Run, t.st.run = some x ∧ x.granted = none ∧ x.started = r.started ||| bit ∧ x.under = r.under ||| bit ∧
        x.ended = r.ended ∧ x.res = r.res ∧ x.pats = r.pats) ∧
      (∀ k : PairNo, d.val = k.val + 1 → t.toPermit k = false ∧ ∀ l : AxisNo, pairOf l = k →
        t.ax[l].en = false ∧ t.ax[l].pwm.gates = false ∧ t.ax[l].com.cval = false ∧ t.ax[l].pwm.run = false ∧ t.ax[l].fault = u.ax[l].fault) ∧
      (∀ l : AxisNo, d.val ≠ (pairOf l).val + 1 → t.ax[l] = u.ax[l]) := by
  obtain ⟨t, tmp, ht, hrun, hdom, hiso, hax⟩ := State.domainStart_acts hr hg hs hb
  have he : exec (.selftestDomainStart d now) s = .next t := by
    rw [← ht, hsu]
    rfl
  refine ⟨t, he, hdom, hiso, ⟨r.begun d tmp, hrun, rfl, by rw [hb]; rfl, by rw [hb]; rfl, rfl, rfl, rfl⟩, fun k hk => ⟨?_, fun l hl => ?_⟩,
    fun l hl => (hax l).trans (if_neg hl)⟩
  · refine State.toPermit_isolated ?_
    rw [hiso, hb, ← hk, BitVec.getLsbD_or, getLsbD_domainBit, decide_eq_true rfl, Bool.or_true]
  · rw [(hax l).trans (if_pos (by rw [hl]; exact hk))]
    obtain ⟨hen, hgates, hcval, hcarrier, hfault⟩ := u.ax[l].cut.clockOff_acts
    rw [hen, hgates, hfault]
    exact ⟨u.ax[l].cut_en, u.ax[l].cut_gates, hcval, hcarrier, u.ax[l].cut_fault⟩

theorem selftestCheckpoint_counts (hsu : u = s.at now) (hr : u.st.run = some r) (hu : r.under.getLsbD d.val = true) (hs : r.stop = none)
    (hres : r.res[d] = none) :
    (∃ (t : State) (x : Run), exec (.selftestCheckpoint d true now) s = .next t ∧ t.st.run = some x ∧
      x.pats[d] = min r.npat (r.pats[d] + 1) ∧ x.res = r.res ∧ (∀ e : Fin 7, e ≠ d → x.pats[e] = r.pats[e]) ∧ { t with st := u.st } = u) ∧
    (∃ (t : State) (x : Run), exec (.selftestCheckpoint d false now) s = .next t ∧ t.st.run = some x ∧
      x.res[d] = some .fail ∧ x.pats = r.pats ∧ (∀ e : Fin 7, e ≠ d → x.res[e] = r.res[e]) ∧ { t with st := u.st } = u) := by
  have he (ok : Bool) := State.checkpoint_eq hr hu hs hres ok
  have hx (ok : Bool) : exec (.selftestCheckpoint d ok now) s = .next (u.checkpoint d ok) := by
    rw [hsu]
    rfl
  exact ⟨⟨_, _, (hx true).trans (congrArg _ (he true)), rfl, vset_same _ _ _, rfl, fun e he => vset_ne _ _ _ _ he, rfl⟩,
    ⟨_, _, (hx false).trans (congrArg _ (he false)), rfl, vset_same _ _ _, rfl, fun e he => vset_ne _ _ _ _ he, rfl⟩⟩

theorem selftestDomainDone_other (hsu : u = s.at now) (hr : u.st.run = some r) (hb : bit = (1 : BitVec 7) <<< d.val)
    (hu : r.under.getLsbD d.val = true) (hgo : r.stop.isSome = true ∨ r.res[d].isSome = true ∨ r.npat ≤ r.pats[d]) (ho : r.under ≠ bit)
    (hd : d ≠ 6) (a : Bool) : ∃ (t : State) (x : Run), exec (.selftestDomainDone d a true now) s = .next t ∧ t.st.run = some x ∧
      x.under = r.under &&& ~~~bit ∧ x.ended = r.ended ||| bit ∧ t.life.isolated = u.life.isolated &&& ~~~bit ∧
      x.res[d] = some (if r.res[d] = some .fail ∨ (r.mem = true ∧ a = false ∧ r.pats[d] = r.npat) then .fail
        else if r.pats[d] < r.npat then .aborted else if r.pats[d] < u.npatUnits then .incomplete else .pass) ∧
      (∀ e : Fin 7, e ≠ d → x.res[e] = r.res[e]) ∧ t.ax = u.ax ∧ t.aon = u.aon := by
  subst hb
  have he : exec (.selftestDomainDone d a true now) s = .next (u.domainDone d a true).serveHeld := by
    rw [hsu]
    rfl
  rw [State.domainDone_other hr hu hgo ho hd a, State.domainResult_restored u r hd a, State.serveHeld_running rfl] at he
  exact ⟨_, _, he, rfl, rfl, rfl, rfl, vset_same _ _ _, fun e he => vset_ne _ _ _ _ he, rfl, rfl⟩

theorem selftestDomainDone_pass (hsu : u = s.at now) (hr : u.st.run = some r) (hb : bit = (1 : BitVec 7) <<< d.val) (hh : u.st.held = [])
    (ho : r.origin = .fullStart) (hu : r.under = bit) (hend : r.doms &&& ~~~(r.ended ||| bit) = 0) (hs : r.stop = none)
    (hp : r.npat ≤ r.pats[d]) (hres : r.res[d] = none) (hn : r.npat = u.npatUnits) (hd : r.doms = u.allDomains)
    (hother : ∀ e : Fin 7, e ≠ d → r.res[e] = none ∨ r.res[e] = some .pass) : ∃ t : State,
      exec (.selftestDomainDone d true true now) s = .next t ∧ t.life.st = .configured ∧ t.life.step = 7 ∧ t.life.testFail = false ∧
      t.st.run = none ∧ t.aon.testage = 0 ∧ t.aon.testrec >>> 28 = 1 ∧ t.aon.testrec &&& 0x7F00 = 0 ∧ t.ax = u.ax := by
  obtain ⟨t, ht, h1, h2, h3, hst, h4⟩ := State.domainDone_pass hr hb ho hu hend hs hp hres hn hd hother
  have he : exec (.selftestDomainDone d true true now) s = .next (u.domainDone d true true).serveHeld := by
    rw [hsu]
    rfl
  have hrun : t.st.run = none := congrArg SelfTest.run hst
  rw [ht, State.serveHeld_none hrun ((congrArg SelfTest.held hst).trans hh)] at he
  exact ⟨_, he, h1, h2, h3, hrun, h4⟩

theorem selftestStop_demand (hsu : u = s.at now) (hr : u.st.run = some r) (hh : u.st.held = []) {c : StopCause} (ho : r.origin = .demand)
    (hs : r.stop = none) (hc : c ≠ .twinClaim) (hres : ∀ e : Fin 7, r.res[e] ≠ some .fail)
    (hp : ∀ e : Fin 7, r.under.getLsbD e.val = true → r.npat ≤ 64 ∧ r.pats[e] < r.npat) (hlink : r.under &&& 0x41 = 0) : ∃ t : State,
      exec (.selftestStop c now) s = .next t ∧ t.st.run = none ∧ t.life.st = r.from_ ∧ t.aon.testage = 0 ∧
      t.aon.testrec >>> 28 = 4 ∧ t.aon.testrec &&& 0x7F00 = 0 ∧ t.life.isolated = u.life.isolated &&& ~~~r.under ∧
      (r.again = true → t.twin.retry = true) ∧ t.ax = u.ax ∧ t.par = u.par := by
  have h6 (e : Fin 7) (he : r.under.getLsbD e.val = true) : e ≠ 6 := by
    rintro rfl
    have hb := congrArg (fun m => m.getLsbD 6) hlink
    have hm : (0x41 : BitVec 7).getLsbD 6 = true := by decide
    change r.under.getLsbD 6 = true at he
    simp only [BitVec.getLsbD_and, he, hm] at hb
    exact absurd hb (by decide)
  obtain ⟨t, ht, h1, h2, h3, hst, h4, h5, h6, h7, h8⟩ := State.stopDone_demand hr ho hs hc hres fun e he => ⟨(hp e he).2, h6 e he⟩
  have he : exec (.selftestStop c now) s = .next (u.stopDone c).serveHeld := by
    rw [hsu]
    rfl
  have hrun : t.st.run = none := congrArg SelfTest.run hst
  rw [ht, State.serveHeld_none hrun ((congrArg SelfTest.held hst).trans hh)] at he
  exact ⟨_, he, hrun, h1, h4, h5, h6, h2, h3, h7, h8⟩
end

/-- Settles O60: a domain's test starts, is checked and ends by the record of the run, whose end takes the lane on by the run's origin. -/
theorem selfTestRunsItsDomains : Obligations.SelfTestRunsItsDomains := by
  unfold Obligations.SelfTestRunsItsDomains
  rintro s _ now d rfl
  refine ⟨selftest_idle d rfl, fun r bit hr hb => ?_⟩
  have only {p : Run → Prop} (h : p r) (x : Run) (hx : (s.at now).st.run = some x) : p x := Option.some.inj (hr.symm.trans hx) ▸ h
  have hd (a b : Bool) : exec (.selftestDomainDone d a b now) s = .next ((s.at now).domainDone d a b).serveHeld := rfl
  have hstop (c : StopCause) : exec (.selftestStop c now) s = .next ((s.at now).stopDone c).serveHeld := rfl
  have running : (s.at now).serveHeld = s.at now := State.serveHeld_running (congrArg Option.isSome hr)
  refine ⟨fun h => ?_, fun hg hs => ?_, fun h ok => ?_, fun hu hs hres => ?_, fun a b _ hne h => ?_, fun a hu hgo ho h6 => ?_,
    fun hh ho hu hend hs hp hres hn hdoms hother => ?_, fun c ho _ => ?_, fun c ho hh hs hc hres hp hlink => ?_⟩
  · exact congrArg Host.Outcome.next (State.domainStart_waits (only h))
  · exact selftestDomainStart_granted (u := s.at now) rfl hr hb hg hs
  · exact congrArg Host.Outcome.next (State.checkpoint_waits (only h) ok)
  · exact selftestCheckpoint_counts (u := s.at now) rfl hr hu hs hres
  · rw [hd, State.domainDone_waits (only ⟨hne, h⟩), running]
  · exact selftestDomainDone_other (u := s.at now) rfl hr hb hu hgo ho h6 a
  · exact selftestDomainDone_pass (u := s.at now) rfl hr hb hh ho hu hend hs hp hres hn hdoms hother
  · rw [hstop, State.stopDone_waits (only ho), running]
  · exact selftestStop_demand (u := s.at now) rfl hr hh ho hs hc hres hp hlink

end Sys2Proof.Machine
